-- ==== Sys2Proof/Word.lean ====
section
/-! DEFINITION. The word, the index ranges and the identifiers of the shelf controller module (R8, R13). -/

namespace Sys2Proof

/-- A register word (R13): 32 bits, little-endian in its four bytes. -/
abbrev Word := BitVec 32
/-- A microcode register or data memory word (R363). -/
abbrev Word64 := BitVec 64
/-- One byte. -/
abbrev Byte := BitVec 8
/-- A control store word: 128 data bits (R364). -/
abbrev Micro := BitVec 128

/-- Slot s, S00 to S31 (R8). -/
abbrev Slot := Fin 32
/-- Actuator within slot, A0 and A1 (R8). -/
abbrev Act := Fin 2
/-- Head within actuator (R8). -/
abbrev Head := Fin 10
/-- Member m = 2·s + a, M00 to M63 (R8): also the actuator it names. -/
abbrev Member := Fin 64
/-- Global head g = 20·s + 10·a + h, G000 to G639 (R8). -/
abbrev GHead := Fin 640
/-- Recording zone z of R127. -/
abbrev RZone := Fin 32
/-- Engine n of R389: HE0 to HE15 are 0 to 15, FE0 to FE3 are 16 to 19. -/
abbrev EngineIx := Fin 20
/-- Hob engine HEn (R8). -/
abbrev Hob := Fin 16
/-- Flue engine FEn (R8). -/
abbrev Flue := Fin 4
/-- Mains feed: 0 feed A, 1 feed B (R8). -/
abbrev Feed := Fin 2
/-- Host port HP0, HP1 (R8). -/
abbrev Port := Fin 2
/-- Decoder turbo core TC0 to TC95 (R8). -/
abbrev Core := Fin 96
/-- Damper lane DL0 to DL15 (R8). -/
abbrev Lane := Fin 16
/-- DRAM package D0 to D15 (R8). -/
abbrev Pkg := Fin 16
/-- Declustering group 0 to 3 (R253). -/
abbrev GroupIx := Fin 4
/-- Damper loop L of R120. -/
abbrev LoopIx := Fin 800
/-- Volume V0 to V1023 (R8). -/
abbrev Vol := Fin 1024
/-- Clock island of R488. -/
abbrev Island := Fin 75

/-- The slot of a member (R8). -/
def memberSlot (m : Nat) : Nat := m / 2
/-- The actuator of a member within its slot (R8). -/
def memberAct (m : Nat) : Nat := m % 2
/-- m = 2·s + a (R8). -/
def memberOf (s a : Nat) : Nat := 2 * s + a
/-- g = 20·s + 10·a + h (R8). -/
def gheadOf (s a h : Nat) : Nat := 20 * s + 10 * a + h
/-- The slot of a global head (R8). -/
def gheadSlot (g : Nat) : Nat := g / 20
/-- The member of a global head (R8). -/
def gheadMember (g : Nat) : Nat := g / 10
/-- The head within its actuator (R8). -/
def gheadHead (g : Nat) : Nat := g % 10

end Sys2Proof
end

