-- ==== Sys2Proof/Syntax.lean ====
section
/-! DEFINITION. The commands of the module: one constructor for each row of the table of operations and events, with
what the row names (an address, a value, an identity) and what the module learns from outside in the same step (what a
sensor, a rotor, a preamp, a link or a medium shows). -/

namespace Sys2Proof

/-- A 4,096-byte block: user byte i is bits [8i+7:8i]. -/
abbrev Block := BitVec 32768

/-- A T10 protection tuple (R260, R310). -/
structure Pi where
  guard : Nat
  app : Nat
  ref : Nat
  deriving DecidableEq, Repr

/-- A sealed block: the user bytes and the 16 seal bytes of R260. -/
structure Sealed where
  data : Block
  pi : Pi
  row : Nat
  gen : Nat
  q : Nat
  parity : Bool
  lost : Bool
  deriving DecidableEq, Repr

/-- A command in flight by session, queue and tag (R303). -/
structure CmdRef where
  session : Nat
  queue : Nat
  tag : Nat
  deriving DecidableEq, Repr

/-! ## What an HDA is, as its ID memory and the bring-up measurements show it (ch02) -/

/-- A retirement entry of the module area (R52): kind 1 head, 2 actuator, 3 HDA. -/
structure IdRet where
  kind : Nat
  index : Nat
  reason : Nat
  opSec : Nat
  pcycle : Nat
  deriving DecidableEq, Repr

/-- Bytes of a trim record by offset (R420); an unlisted byte is 0. -/
abbrev Trim := List (Nat × Nat)

/-- One copy of the module area (R52) as read. `valid` tells that magic, version and CRC are right. -/
structure ModCopy where
  valid : Bool
  seq : Nat
  writer : List Nat
  opSec : Nat
  /-- Head trim records of heads 0 to 19. -/
  heads : List (Nat × Trim)
  /-- Actuator trim records. -/
  acts : List (Nat × Trim)
  /-- Spindle trim record. -/
  spin : Trim
  rets : List IdRet
  deriving DecidableEq, Repr

/-- The assist characteristic of a head in the factory area (R51): laser threshold current, forward voltage, slope
resistance, maximum current; STO nominal bias, voltage, maximum current and 0. -/
structure AssistChar where
  a : Nat
  b : Nat
  c : Nat
  d : Nat
  deriving DecidableEq, Repr

/-- The factory area of R51 as read. `sound` tells that magic, version and CRC are right. -/
structure Factory where
  sound : Bool
  /-- 1 laser, 2 STO, other values invalid. -/
  assistKind : Nat
  polePairs : Nat
  /-- Servo wedges per revolution. -/
  wedges : Nat
  /-- Maximum service speed, rpm. -/
  maxSpeed : Nat
  /-- Data cylinders per surface. -/
  cyl : Nat
  serial : List Nat
  /-- Date of manufacture, days since 1 January 2000. -/
  made : Nat
  /-- Expected preamp IDENT of A0 and A1. -/
  ident : List Nat
  phaseRes : Nat
  vcmRes : List Nat
  vcmInd : List Nat
  /-- Micro-positioner gain, 0.01 nm/V. -/
  upGain : Nat
  /-- Preamp loopback delay, ps. -/
  loopPs : Nat
  upCap : List Nat
  rdrRes : List Nat
  assist : List AssistChar
  deriving DecidableEq, Repr

/-- An HDA: whether its ID memory answers, and the bytes that memory holds (R50): of the factory area at 0x0000, of copy A at
0x4000 and of copy B at 0xA000, each from its first byte on; a byte not listed is erased, 0xFF. -/
structure Hda where
  answers : Bool
  fac : List Nat
  areaA : List Nat
  areaB : List Nat
  deriving DecidableEq, Repr

/-- What the assist sweep of R58 step 5 finds on a head. -/
structure AssistSweep where
  /-- Forward knee of the I-V curve, mV, with nearly no current below it (R60). -/
  knee : Option Nat
  /-- Largest departure from an ohmic characteristic, % (R60). -/
  ohmic : Nat
  /-- Laser threshold current or STO bias, 0.01 mA. -/
  primary : Nat
  /-- Laser forward voltage at threshold or STO voltage at bias, mV. -/
  secondary : Nat
  deriving DecidableEq, Repr

/-- What the measurements of R56 and R58 find on the HDA in a slot. -/
structure Meas where
  /-- PHU, PHV, PHW to centre tap, 5 mΩ. -/
  phase : List Nat
  vcmRes : List Nat
  vcmInd : List Nat
  upCap : List Nat
  rdrRes : List Nat
  assist : List AssistSweep
  /-- TDR round trip of each read pair, ps. -/
  tdr : List Nat
  /-- Largest TDR reflection, %. -/
  refl : List Nat
  /-- Loopback delay of each head, ps. -/
  loop : List Nat
  /-- IDENT that the preamps of A0 and A1 return. -/
  ident : List Nat
  /-- HDA temperature at the measurement, 0.1 °C (T_meas of R113). -/
  temp : Int
  deriving DecidableEq, Repr

/-! ## Paths (R480) -/

/-- The path a register access takes (R480). -/
inductive Path where
  | host (session : Nat)
  | mp (session : Nat)
  | uart
  | tap
  | engine (n : EngineIx)
  deriving DecidableEq, Repr

/-! ## What a servo wedge shows (ch04) -/

/-- One head's wedge as it passes the head (R93): its 488 servo bits, servo bit k at bit k, with the amplitudes of the two
bursts, 1/16 LSB, and the distance of the SAM from its expected time, servo bits. -/
structure WedgeObs where
  bits : BitVec 488
  a : Int
  b : Int
  samErr : Nat
  deriving DecidableEq, Repr

/-- What the VCM loop and the arbitration of R113 take in beside the loop's own signals. -/
structure VcmIn where
  /-- Position of the seek's reference trajectory, 1/1,024 ST (R108). -/
  traj : Int
  /-- Half of a short seek's trajectory has passed (R109). -/
  half : Bool
  /-- Slot 12 V rail, mV. -/
  v12 : Int
  /-- Estimated head velocity, mm/s, signed. -/
  vel : Int
  /-- HDA temperature, 0.1 °C. -/
  tHda : Int
  deriving DecidableEq, Repr

/-- A lane taking part in an evaluation, and how far its result of v departs from the arithmetic of R121 (0: sound). -/
structure LaneRun where
  lane : Lane
  dev : Int
  deriving DecidableEq, Repr

/-- The lanes of an evaluation and the time from its trigger to its output, ns (R122). -/
structure LaneRuns where
  runs : List LaneRun
  ns : Nat
  deriving DecidableEq, Repr

/-- What the peak-current comparator of a slot sees: the current through the low-side return, mA, and the time since switch-on, ns
(R65, R71). -/
structure TripObs where
  slot : Slot
  ma : Nat
  ns : Nat
  deriving DecidableEq, Repr

/-- A sample of the floating phase against PHC at the end of a PWM frame's sampling window (R66): when, ns; how long the window was, ns;
whether freewheel current clamped the phase or had not yet decayed; and the voltage, mV. -/
structure PhaseSample where
  ns : Nat
  window : Nat
  freewheel : Bool
  mv : Int
  deriving DecidableEq, Repr

/-- What the phases show in a sense (R72, R73): when it began, ns; the crossings found in it, with their times, ns, and phases (U 0, V 1,
W 2), oldest first; and the peak back-EMF, phase to PHC, mV. -/
structure SenseObs where
  start : Nat
  crossings : List (Nat × Fin 3)
  peak : Nat
  deriving DecidableEq, Repr

/-- How a preamp transaction runs on the link (R46, R49). -/
structure LinkRun where
  /-- Reads that failed their CRC before one passed, 4 when all four failed. -/
  badReads : Nat
  /-- The write frame reached the preamp with a bad CRC. -/
  badWrite : Bool
  /-- What the preamp has measured where MEAS_DATA or TEMP is read; the causes that have arisen where STATUS is. -/
  data : Nat
  deriving DecidableEq, Repr

/-- Values of the adaptive loops beside the VGA code (R139). -/
structure LoopVals where
  /-- Offset after the ADC, 1/8 LSB. -/
  baseline : Int := 0
  /-- Quadratic correction. -/
  asym : Int := 0
  /-- Sample phase and frequency offset, 1/64 bit period. -/
  phase : Int := 0
  freq : Int := 0
  /-- The 10 FIR tap weights, 1/64. -/
  taps : List Int := []
  deriving DecidableEq, Repr

/-- What a channel's stages give over a sector read (R135 to R146). The lists hold one entry for each channel bit from 256 bit
periods before the servo-timed start to the end of the pad, resume fields included and wedges left out (R138). -/
structure ReadObs where
  /-- ADC samples, codes 0 to 63. -/
  samples : List Nat
  /-- FIR output. -/
  fir : List Int
  /-- The tracked amplitude, in the units of the FIR output. -/
  amp : Nat
  /-- The baseline estimate, 1/8 LSB. -/
  baseline : List Int
  /-- Hard decisions. -/
  hard : List Bool
  /-- LLRs of the soft front detector, 0.5 nat. -/
  soft : List Int
  /-- VGA code and the other loops as they have adapted by the sector's end. -/
  vga : Nat
  loops : LoopVals
  deriving DecidableEq, Repr

/-- Where a block lies: stripe row, column and block index within the chunk (R223). -/
structure Place where
  row : Nat
  col : Nat
  block : Nat
  deriving DecidableEq, Repr

/-- The seal values the hob engine expects of a block (R164, R262). -/
structure Expect where
  q : Nat
  gen : Nat
  parity : Bool
  deriving DecidableEq, Repr

/-- A read as the hob engine gives it to the pool (R166, R172, R173, R178): head, recording zone, the volume a foreground read is
for (none for background work), the budget a recovery read names, and the retained handles it sums. -/
structure PoolReq where
  head : GHead
  zone : RZone
  vol : Option Vol
  budget : Option Nat
  handles : List Nat
  place : Place
  expect : Expect
  deriving DecidableEq, Repr

/-- What the stoker knows of a source of a reconstruction (R195), µs: its member, the queue of its actuator ahead of a foreground
read, the seek, and the rotation until its sector begins in the transfer window. -/
structure Ready where
  member : Member
  queue : Nat
  seek : Nat
  rotation : Nat
  deriving DecidableEq, Repr

/-- How a global iteration ends (R163, R185): the hard decisions it leaves, codeword bit i at bit i, and whether the context
memory reports an uncorrectable error. -/
structure IterEnd where
  hard : BitVec 37120
  eccBad : Bool
  deriving DecidableEq, Repr

/-! ## LQP (ch10) -/

/-- A 64-byte command capsule (R302) by its bytes, big-endian fields. -/
abbrev Capsule := List Nat

/-- What identifies a path (R290): port (2 is MP), link, module address, host address and host UDP source port. -/
structure PathAddr where
  port : Nat
  link : Nat
  local_ : Nat
  host : Nat
  udp : Nat
  deriving DecidableEq, Repr

/-- A CTRL body (R292). -/
structure Ctrl where
  op : Nat
  reason : Nat
  hostId : Nat
  queues : Nat
  path : Nat
  depth : Nat
  window : Nat
  through : Nat
  deriving DecidableEq, Repr

/-- What a frame carries (R289, R306): capsules, blocks with their tuples, admin bytes, a CTRL body, or nothing. -/
inductive Body where
  | cmd (caps : List Capsule)
  | blocks (offset : Nat) (l : List (Block × Pi))
  | bytes (offset : Nat) (l : List Nat)
  | ctrl (c : Ctrl)
  | none
  deriving DecidableEq, Repr

/-- A received frame that passed the checks of R290 before its trailer (R288). -/
structure Frame where
  addr : PathAddr
  session : Nat
  queue : Nat
  last : Bool
  solicit : Bool
  seq : Nat
  ack : Nat
  tag : Nat
  window : Nat
  sack : Nat
  /-- The trailer CRC is right. -/
  crcOk : Bool
  body : Body
  deriving DecidableEq, Repr

/-- A completion entry (R305). -/
structure Cpl where
  tag : Nat
  queue : Nat
  cflags : Nat
  status : Nat
  result0 : Nat
  result1 : Nat
  done : Nat
  arrival : Nat
  deriving DecidableEq, Repr

/-- Where a request comes from: a command in flight, a register write on a path, or the UART. -/
inductive Req where
  | cmd (r : CmdRef)
  | reg (p : Path) (w : Word)
  deriving DecidableEq, Repr

/-- What a background operation does as it starts (R240, R241). -/
inductive BgWork where
  /-- Media work whose result another command brings. -/
  | media
  /-- The copy of an extent of R228, to the band or to zones; for a reshape when the extent is at its cursor (R281). -/
  | copy (v ext : Nat) (band : Bool)
  /-- Patrol scrub of a row (R280): blocks whose seal fails, whether the parity is wrong, and whether the pass of its group
  is complete, or late. -/
  | scrub (row : Nat) (bad : List (Nat × Nat)) (parity done late : Bool)
  /-- A band row that a full resync has still to reach is resynced (R273). -/
  | resync (row : Nat)
  /-- A unit of the rebuild of a member index of a group starts, or goes on up to a chunk below which its chunks are on the
  substitute (R276): a band row, or the first row of a zone set. -/
  | rebuild (g q unit upto : Nat)
  /-- The hearthstone area of the member is rewritten over its heads in service (R248). -/
  | hearthstone
  deriving DecidableEq, Repr


/-! ## Engines (ch13) -/

/-- What an engine senses at a word (R374): transfers that have arrived for its receive queues, groups 8 to 13 as the
blocks outside show them (8 to 11 by owned slot, then 12 and 13), HALT_REQ, a full transmit buffer, an outstanding
acknowledge, and the periods the word stalled; whether its fetch or its load met a corrected error (R378, R369); and
the slot front-end that PADDR of a SEND names, if it names one. -/
structure WordObs where
  rx : List (Nat × BitVec 64)
  groups : List Nat
  haltReq : Bool
  txFull : Bool
  ackPend : Bool
  stall : Nat
  csCe : Bool
  dmCe : Bool
  slotEnd : Option Slot
  deriving DecidableEq, Repr

/-! ## Temperature (ch14) -/

/-- What a sensor gives in a period of 100 ms: a reading in 0.5 °C, or none. -/
abbrev Reading := Option Int

/-! ## The kindling card and starts (ch16) -/

/-- A GROUP record of an image (R430). -/
structure KGroup where
  group : Nat
  k : Nat
  p : Nat
  seed : Nat
  mask : Nat
  deriving DecidableEq, Repr

/-- A kindling card (R427): density, fastest declared read mode (0 1-1-1, 1 1-1-2, 2 1-1-4), addressing, whether its SFDP
signature is valid, and its bytes: those that are not 0xFF, by card address. -/
structure Card where
  mib : Nat
  mode : Nat
  addr4 : Bool
  sfdp : Bool
  bytes : List (Nat × Nat)
  deriving DecidableEq, Repr

/-- How a self-test at start ends on a block that does not pass: kind of R446 or 6 for a DRAM package, index, whether its
pattern counter reached its count. -/
structure BistBad where
  kind : Fin 7
  index : Nat
  reached : Bool
  deriving DecidableEq, Repr

/-- What a start (R435) finds: the feeds present, the card if it was changed since the last read, MOD_RESET_N at step 2,
the measured hold-up capacitance in 10 µF, whether a shared memory or island fails its test, the blocks that do not pass,
the HDAs present with their measurements, the banked blocks with no good unit and whether the units after the blocks are bad (R404), whether the vault's ledger copy is
unreadable (R455), the map segments not rebuilt when host service could begin, the blocks (row, column, index) an interrupted band row write left
on the medium at its new generation (R274), and the
time from the trigger to host service, ms. -/
structure StartObs where
  feeds : List Nat
  card : Option (Option Card)
  pinLow : Bool
  cap : Nat
  sharedBad : Bool
  bist : List BistBad
  slots : List (Slot × Hda × Meas)
  bankBad : List Nat
  tailBad : Bool
  ledgerBad : Bool
  segments : List Nat
  torn : List (Nat × Nat × Nat)
  /-- Block indices whose spare parity equation failed in the resync (R274). -/
  mismatch : Nat := 0
  ms : Nat
  deriving DecidableEq, Repr

/-- A set with an uncorrectable tag error, and the ways whose frame header fails its CRC (R349). -/
structure TagErr where
  set : Nat
  bad : List Nat := []
  deriving DecidableEq, Repr

/-- The commands: one constructor for each row of spec/opcode_table.json. -/
inductive Instr where
  /-- FEED_ABSENT (R391). A mains feed is judged absent after two low half-cycles or 25 ms without a zero crossing, and the other PFC stage takes the whole load. -/
  | feedAbsent (f : Feed)
  /-- FEED_PRESENT (R391). A feed is present again after one full cycle at or above 80 V RMS. -/
  | feedPresent (f : Feed)
  /-- FEED_OUT_OF_RANGE (R391). A present feed that has been outside its voltage or frequency range for 1 s is recorded, and the module goes on using it. -/
  | feedOutOfRange (f : Feed)
  /-- FEED_RESTORED (R392). A feed present continuously for 10 s records FEED_RESTORED. -/
  | feedRestored (f : Feed)
  /-- PFC_FAULT (R392). A PFC stage reporting an internal fault is retired with its feed, which is treated as absent until the next cold start. -/
  | pfcFault (f : Feed)
  /-- DCDC_FAULT (R390). A converter half reporting an internal fault is switched out, DCDC_DEGRADED is set and service continues. -/
  | dcdcFault (half : Nat)
  /-- POWER_CAP_CHECK (R394). Each 1 s that the averaged mains input is at or above the cap, the next capping action is taken. -/
  | powerCapCheck (watts : Nat) (busy : List Nat)
  /-- POWER_CAP_UNDO (R394). Each 10 s that the input is below the cap minus 20 W, the last capping action is undone. -/
  | powerCapUndo (watts : Nat)
  /-- SUPPLY_WARNING (R396). The bulk bus falls below 340 V with both feeds absent: the ride timer starts and no new media write sector starts. -/
  | supplyWarning
  /-- SUPPLY_QUALIFIES (R395). The supply qualifies in WARNING or CUT, the ride timer holds and the qualify timer starts. -/
  | supplyQualifies
  /-- SUPPLY_STOPS_QUALIFYING (R395). The supply stops qualifying in RIDE_QUALIFY or CUT_QUALIFY, and the state returns to WARNING or CUT. -/
  | supplyStopsQualifying
  /-- SUPPLY_CUT (R397). The ride timer reaches 40 ms: write gates close, spindles are cut, heads unload, slot rails drop and banking starts. -/
  | supplyCut
  /-- POWER_DOWN_BLOCKS (R397). When every actuator has parked, or 100 ms after the cut, the front-ends, pool, damper and host islands are powered down. -/
  | powerDownBlocks
  /-- BANK_COMPLETE (R398). The commit record is on the flash, the bank becomes COMPLETE and the supply state becomes BANKED. -/
  | bankComplete (ms : Nat)
  /-- SUPPLY_QUALIFIED_50MS (R395). The qualify timer reaches 50 ms, leading to NORMAL, to an aborted bank with recovery under R400, or to a brown-out restart from BANKED. -/
  | supplyQualified50ms (obs : StartObs)
  /-- BULK_BUS_BELOW_230V (R401). The always-on island holds the module in reset and the outputs fall to their R62 states. -/
  | bulkBusBelow230v
  /-- THERMAL_SENSOR_READ (R407). Every 100 ms the sensors are read, zone temperatures, warning, throttle, service levels and fan duty are updated. -/
  | thermalSensorRead (l : List Reading)
  /-- THERMAL_RESTART (R410). After 60 s with every die, DRAM and PSU zone below Warning − H, the module restarts by a module reset. -/
  | thermalRestart (obs : StartObs)
  /-- SLOT_INSERTION (R55). PRES_N stays low for 100 ms, and bring-up of the slot starts. -/
  | slotInsertion (s : Slot) (hda : Hda) (meas : Meas)
  /-- SLOT_REMOVED (R55). PRES_N high for 1 ms: write gates close, outputs go to high impedance, slot rails drop and the members are lost. -/
  | slotRemoved (s : Slot)
  /-- SLOT_CTRL_REBRING (R56). A write of 1 restarts bring-up of a refused or cable-retired slot at step 2. -/
  | slotCtrlRebring (p : Path) (s : Slot) (w : Word)
  /-- SLOT_CTRL_POWER_OFF (R57). A write of 1 fences the members, unloads the heads and brakes the spindle to take the slot out of service. -/
  | slotCtrlPowerOff (p : Path) (s : Slot) (w : Word)
  /-- POWER_OFF_SPINDLE_STOPPED (R57). Once back-EMF shows rotation below 60 rpm, the preamps sleep and SLOT_EN12 goes low. -/
  | powerOffSpindleStopped (s : Slot)
  /-- POWER_OFF_EN5_TIMER (R57). 100 ms later SLOT_EN5 goes low, STATE becomes off and the attention LED goes on, or bring-up restarts if POWER_OFF is 0. -/
  | powerOffEn5Timer (s : Slot)
  /-- PSER_CMD_GO (R49). A preamp serial transaction is queued on the actuator's link queue, with CRC, retries and read-back. -/
  | pserCmdGo (p : Path) (m : Member) (w : Word) (run : LinkRun)
  /-- PSER_HELD_WRITE_APPLY (R49). A held preamp write is applied once its head has left the concurrent set or the chunk has ended. -/
  | pserHeldWriteApply (m : Member) (run : LinkRun)
  /-- PSFLT_N_ASSERTED (R48). A preamp fault closes the actuator's write gates, and STATUS is read, recorded and cleared. -/
  | psfltNAsserted (m : Member) (status : Nat)
  /-- MODULE_AREA_WRITE (R53). Trims or retirements are written to the older module-area copy of an HDA's ID memory, within the rate limits. -/
  | moduleAreaWrite (s : Slot) (bad : Nat)
  /-- SPIN_SENSE_END (R73). A 150 ms or 300 ms sense ends, and the spindle is caught, braked or aligned according to what it found. -/
  | spinSenseEnd (s : Slot) (o : SenseObs)
  /-- BRAKE_SENSE (R72). After 500 ms of braking a sense is made, testing for rest or for slow backward rotation. -/
  | brakeSense (s : Slot) (o : SenseObs)
  /-- ALIGN_ELAPSED (R74). After the align time, the blind ramp starts. -/
  | alignElapsed (s : Slot)
  /-- BLIND_HANDOVER (R74). Six consecutive measured crossings hand the start over to closed-loop commutation in RAMP. -/
  | blindHandover (s : Slot)
  /-- BLIND_HANDOVER_FAIL (R75). The blind reference reaches 720 rpm without a handover, which is a start failure. -/
  | blindHandoverFail (s : Slot)
  /-- ZERO_CROSSING (R67). A back-EMF crossing is classed, commutation follows, speed is measured and the speed loop is evaluated. -/
  | zeroCrossing (s : Slot) (samples : List PhaseSample) (eval : LaneRuns)
  /-- TRANSFER_WINDOW_RESUME (R78). After two consecutive revolutions inside the window, transfer resumes. -/
  | transferWindowResume (s : Slot)
  /-- ILIM_TRIP (R65). The peak-current comparator ends the PWM on-time, or opens the braking switches, for the rest of the frame. -/
  | ilimTrip (trip : TripObs)
  /-- SPIN_OBSERVER_LOST (R82). A third consecutive missing crossing closes the gates, unloads the heads, fences the members and enters RECATCH. -/
  | spinObserverLost (s : Slot)
  /-- SPIN_RECATCH (R82). Six measured crossings during RECATCH set duty and reference, and the state returns to RAMP. -/
  | spinRecatch (s : Slot) (us emf : Nat)
  /-- SPIN_RECATCH_FAIL (R84). With no catch 50 ms after the trigger, the spindle is braked and restarted. -/
  | spinRecatchFail (s : Slot)
  /-- SPIN_BRAKE_TIMEOUT (R86). BRAKE_REVERSE or BRAKE_REST lasting 20 s is a start failure. -/
  | spinBrakeTimeout (s : Slot)
  /-- SPIN_RAMP_TIMEOUT (R86). A ramp from a start or catch not at SPEED within 30 s is a start failure. -/
  | spinRampTimeout (s : Slot)
  /-- SPIN_START_RETRY (R87). 2 s after FAILED the start is retried from the sense, unless a third consecutive failure has retired the HDA. -/
  | spinStartRetry (s : Slot)
  /-- SPIN_SUPPLY_LIMITED (R81). Full duty below the Noon window for 1 s sets SUPPLY_LIMITED. -/
  | spinSupplyLimited (s : Slot)
  /-- SPIN_SUPPLY_LIMIT_DUSK (R81). Full duty below the Noon window for 10 s writes the set-point to Dusk. -/
  | spinSupplyLimitDusk (s : Slot)
  /-- SPIN_CTRL_SETPOINT (R79). A write of SETPOINT starts, slews, re-targets or stops the spindle as the change table states. -/
  | spinCtrlSetpoint (p : Path) (s : Slot) (w : Word)
  /-- SPIN_CTRL_RESTART (R87). A write of 1 clears the consecutive start-failure count and retries the start. -/
  | spinCtrlRestart (p : Path) (s : Slot) (w : Word)
  /-- SPIN_ADV_WRITE (R68). A write to the phase-advance table is refused whole if its speeds are not strictly increasing. -/
  | spinAdvWrite (p : Path) (s : Slot) (i : Fin 4) (w : Word)
  /-- SPINUP_GROUP_START (R89). The next spin-up group starts after the group gap, once the spindle allowance fits the budget. -/
  | spinupGroupStart (j : Fin 8)
  /-- SERVO_WEDGE (R94). A servo wedge is demodulated for every loaded head: PES, validity, write-unsafe and set membership are decided. -/
  | servoWedge (m : Member) (obs : List WedgeObs)
  /-- SHOCK_SHELF_HOLD_END (R106). The 10 ms shelf-shock hold ends and write gates may reopen. -/
  | shockShelfHoldEnd
  /-- HEAD_JOIN (R99). An acquiring head that has met the settle limit for the required wedges joins the set at its next sector boundary. -/
  | headJoin (g : GHead)
  /-- HEAD_ACQUIRE_TIMEOUT (R99). A head that is acquiring and has not joined within 5 ms returns to not following. -/
  | headAcquireTimeout (g : GHead)
  /-- HEAD_UP_SATURATED (R100). A micro-positioner at its clamp for 2 ms makes its head leave the set. -/
  | headUpSaturated (g : GHead)
  /-- PES_INVALID_DEPARTURE (R100). A head with an invalid PES on two consecutive wedges leaves the set. -/
  | pesInvalidDeparture (g : GHead)
  /-- SET_EMPTY_TIMEOUT (R103). With no head rejoining an emptied set within 50 ms, the transfer ends and its sectors are reported to the stoker. -/
  | setEmptyTimeout (m : Member)
  /-- DAMPER_EVALUATION (R122). A loop is evaluated on two lanes and its output is applied when the results agree. -/
  | damperEvaluation (l : LoopIx) (runs : List LaneRun) (vcm : VcmIn) (ff : Int) (ns : Nat)
  /-- DAMP_COMMIT_GO (R125). The loop's shadow coefficients are copied to the active copy at its next evaluation. -/
  | dampCommitGo (p : Path) (w : Word)
  /-- DAMP_STATE_SEL (R126). Writing the loop number takes a snapshot of that loop's state into DAMP_STATE_DATA. -/
  | dampStateSel (p : Path) (w : Word)
  /-- DAMP_CTRL_LANE_EN (R124). Clearing a lane enable takes the lane out of service without retiring it, and the set limit follows. -/
  | dampCtrlLaneEn (p : Path) (w : Word)
  /-- SEEK_REQUEST (R108). A hob engine requests a seek, which runs as a step, short or long seek. -/
  | seekRequest (m : Member) (target : Nat) (write : Bool)
  /-- SEEK_LOOPS_RESUME (R110). The trajectory ends or the long-seek profile comes within 256 ST, the micro-positioner loops resume and the set re-forms. -/
  | seekLoopsResume (m : Member)
  /-- LOAD_REQUEST (R112). Heads are loaded from the ramp when R77 and the reserve voltage permit it. -/
  | loadRequest (m : Member) (reserveMv : Nat)
  /-- LOAD_SERVO_ACQUIRED (R112). The reference head is valid for 8 wedges, the position loop closes and the actuator seeks to its target. -/
  | loadServoAcquired (m : Member)
  /-- LOAD_FAIL (R112). With no valid servo by 150 ms, the actuator unloads and a load failure is counted. -/
  | loadFail (m : Member)
  /-- LOAD_RETRY (R112). A failed load is retried 1 s later. -/
  | loadRetry (m : Member) (reserveMv : Nat)
  /-- ACT_CTRL_UNLOAD (R119). Setting UNLOAD unloads the actuator and keeps it unloaded. -/
  | actCtrlUnload (p : Path) (m : Member) (w : Word)
  /-- HEADS_PARKED (R119). An unload completes with the heads parked and latched, and the actuator becomes UNLOADED. -/
  | headsParked (m : Member)
  /-- VCM_SATURATED (R116). VCM saturation for 8 ms outside acceleration unloads the actuator and sets REID_PENDING for recalibration. -/
  | vcmSaturated (m : Member)
  /-- SERVO_LOST (R117). No valid PES on any following head for 8 wedges unloads the actuator. -/
  | servoLost (m : Member)
  /-- SERVO_RELOAD (R117). An actuator that lost servo is reloaded 1 s later. -/
  | servoReload (m : Member) (reserveMv : Nat)
  /-- VCM_COIL_HOT (R113). The coil estimate at or above 135 °C is recorded, and again each minute while it lasts. -/
  | vcmCoilHot (m : Member)
  /-- HEAD_OFFSET_WRITE (R107). A write of a head's target offset takes effect at the next wedge and closes that head's write gates while non-zero. -/
  | headOffsetWrite (p : Path) (g : GHead) (w : Word)
  /-- SECTOR_READ (R145). A granted sector passes the head: it is framed on SM1 or SM2, defects are erased and its LLRs go to the pool. -/
  | sectorRead (g : GHead) (n : Nat) (obs : ReadObs)
  /-- SECTOR_WRITE (R149). A sector is scrambled, encoded, precompensated and launched when its write gate may open. -/
  | sectorWrite (g : GHead) (n : Nat) (block : Sealed) (duty : Nat)
  /-- WRITE_FIFO_EMPTY (R41). A front-end write FIFO runs empty, and the chunk stops at the sector end and resumes on the next revolution. -/
  | writeFifoEmpty (g : GHead)
  /-- ASSIST_SETPOINT_REWRITE (R153). The assist set-point is rewritten at a change of recording zone, or when the preamp temperature has moved by 1 °C. -/
  | assistSetpointRewrite (g : GHead) (temp : Int)
  /-- ASSIST_DUTY_WINDOW (R156). A 10 ms duty window ends, DUTY is updated and heads held at the cap may start sectors again. -/
  | assistDutyWindow (m : Member) (duty : List Nat)
  /-- HEAD_REJOIN_BOUND (R216). A departed head that has not rejoined within 55 ms plus one revolution has its remaining blocks moved to other heads. -/
  | headRejoinBound (m : Member) (h : Head) (row col : Nat)
  /-- DEPARTED_HEAD_READ_AROUND (R199). An unread sector of a departed head is read around when its deadline guard comes first. -/
  | departedHeadReadAround (g : GHead) (cmd : CmdRef) (block : Nat)
  /-- DEC_GRANT (R174). At a sector's servo-timed start the pool grants, or refuses, a soft-buffer entry to the head. -/
  | decGrant (r : PoolReq)
  /-- CONTEXT_ASSIGN (R168). A free context is given to the waiting sector at the head of the assignment order. -/
  | contextAssign (c : Core)
  /-- GLOBAL_ITERATION_END (R175). A global iteration ends, and the sector converges, ends with a status, is deferred or continues. -/
  | globalIterationEnd (c : Core) (r : IterEnd)
  /-- DEFERRED_HOLD_EXPIRY (R175). A deferred sector whose HOLD expires ends HOLD at once, and its LLRs move to the retention store. -/
  | deferredHoldExpiry (id : Nat)
  /-- DEC_CANCEL (R176). A cancel from the hob engine ends a sector ABORTED, at once or at its iteration end, or returns LATE. -/
  | decCancel (id : Nat)
  /-- RECOVERY_READ_SUBMIT (R178). A recovery read names a budget and retained handles, and the pool sums the LLRs for a new decode. -/
  | recoveryReadSubmit (r : PoolReq) (newRead : Bool)
  /-- RETENTION_TIMEOUT (R177). A retained handle unused for 2 s is released. -/
  | retentionTimeout (handle : Nat)
  /-- RETAIN_RELEASE (R177). The hob engine releases a retained handle. -/
  | retainRelease (handle : Nat)
  /-- KAT_TIMER (R184). Every KAT_INTERVAL a core runs its known-answer test, and a second consecutive failure fences it. -/
  | katTimer (c : Core) (first second : Bool)
  /-- DEC_CORE_EN_WRITE (R188). Clearing a core enable takes the core out of service and restarts its sectors. -/
  | decCoreEnWrite (p : Path) (i : Fin 3) (w : Word)
  /-- DEC_STAT_SEL (R188). Writing the select takes a snapshot of one head and recording zone, and clears the bank if CLEAR is set. -/
  | decStatSel (p : Path) (w : Word)
  /-- READ_FAILURE (R189). A failed sector read enters recovery at the step its cause gives, and the ladder or read-around decision is made. -/
  | readFailure (id : Nat) (r : CmdRef) (lba pass : Nat) (ready : List Ready)
  /-- LADDER_READ_END (R190). A ladder read ends, and the ladder stops, climbs, or decides again under R196. -/
  | ladderReadEnd (id pass : Nat) (ready : List Ready)
  /-- RECONSTRUCTION_RESULT (R197). A reconstruction posts its result, and the first good result goes to the host. -/
  | reconstructionResult (pl : Place) (ok : Bool)
  /-- WEAK_RELOCATION (R205). A weak-list block is rewritten in place or moved to a new placement as draft work. -/
  | weakRelocation (pl : Place) (readBack : Bool)
  /-- EXTENT_WRITEBACK (R224). The cache writes back an extent's dirty data, and the stoker chooses the band or a zone set for it. -/
  | extentWriteback (v : Vol) (ext : Nat)
  /-- JOURNAL_APPEND_DURABLE (R242). A batch of map-delta records becomes durable in the vault, releasing the completions and reuses that depend on it. -/
  | journalAppendDurable (upto : Nat)
  /-- ZONE_ROW_FILL_WAIT (R226). The fill wait expires and the zone-set row is written with its empty columns as zero chunks. -/
  | zoneRowFillWait (g k p : Nat)
  /-- EXTENT_COPY (R228). A background copy of an extent ends, and its new entry replaces the old unless a host write was granted meanwhile. -/
  | extentCopy (v : Vol) (ext : Nat)
  /-- HEAT_EPOCH_ADVANCE (R229). The heat epoch advances when HEAT_HALF operating seconds have passed since the last advance. -/
  | heatEpochAdvance
  /-- HEAT_SWEEP (R229). Every 64 epochs the map hardware decays every extent entry's heat. -/
  | heatSweep
  /-- STK_HEAT_HALF_WRITE (R229). A write of HEAT_HALF applies at once to the period in progress, and may advance the epoch at once. -/
  | stkHeatHalfWrite (p : Path) (w : Word)
  /-- BACKGROUND_OP_START (R240). A background operation starts on an actuator in draft order when the draft credit allows. -/
  | backgroundOpStart (m : Member) (order fgUs : Nat) (queued : Bool) (work : BgWork)
  /-- BACKGROUND_OP_END (R240). A background operation ends and its media time is charged to the draft credit. -/
  | backgroundOpEnd (m : Member) (us : Nat)
  /-- MAP_CHECKPOINT (R244). A changed segment is checkpointed to its home on an HDA within CKPT_PERIOD. -/
  | mapCheckpoint (seg : Fin 4096)
  /-- STOKER_SETPOINT (R234). The stoker writes an HDA's set-point from busy share, idle time and demand. -/
  | stokerSetpoint (s : Slot) (busy : Nat) (quiet idle needed : Bool)
  /-- SLOT_REASSIGN (R237). The stoker moves adopted slots, or the slots of a failed pair, to suitable hob engines. -/
  | slotReassign (load : List Nat)
  /-- SLOT_OWNER_MOVE (R33). A slot move takes effect at its next chunk boundary in one fabric handshake. -/
  | slotOwnerMove (s : Slot)
  /-- ZONE_EVACUATED (R251). A re-planned zone reaches zero live chunks and is lowered one tier or retired. -/
  | zoneEvacuated (z : Nat)
  /-- ZONE_ROW_COMMIT (R265). All chunks are on the medium: the map changes are journalled, the record closes and DURABLE completions follow. -/
  | zoneRowCommit (row : Nat) (written : List Nat)
  /-- BAND_ROW_LOCK_GRANT (R266). A band row write gets its row lock, is journalled OPEN and reads its old blocks. -/
  | bandRowLockGrant (row : Nat)
  /-- BAND_ROW_WRITE_DONE (R266). The data and parity blocks are on the medium: G is journalled, the record closes and the row lock is released. -/
  | bandRowWriteDone (row : Nat)
  /-- INTENT_BIT_DURABLE (R271). A waiting band write may start once its region's intent bit is on both copy members. -/
  | intentBitDurable (region : Nat)
  /-- JOURNAL_BATCH (R268). Every 2 ms a batch of stripe-journal records is formed and written to both copy members. -/
  | journalBatch (idle : List Nat)
  /-- COPY_MEMBER_LOST (R272). A copy member stops serving, and another is chosen and given every OPEN record within 1 s. -/
  | copyMemberLost (m : Member)
  /-- MEMBER_RETURN (R267). A member returns to service: its stale rows are caught up and waiting rebuild units are tried again. -/
  | memberReturn (m : Member)
  /-- REBUILD_START (R275). A member's rebuild starts at retirement, when REBUILD_DELAY expires, or at a stale overflow. -/
  | rebuildStart (m : Member)
  /-- REBUILD_UNIT_COMPLETE (R276). A rebuilt unit's column is moved in the map to its substitute. -/
  | rebuildUnitComplete (m : Member) (band : Bool) (ix : Nat) (lost : List (Nat × Nat))
  /-- LEDGER_COPY (R279). Every 60 s the lost-block ledger is copied to every member in service. -/
  | ledgerCopy
  /-- LINK_UP (R283). A host link comes up and the port is up. -/
  | linkUp (p : Port) (l : Fin 2)
  /-- LINK_DOWN (R296). A host link goes down and its paths are down. -/
  | linkDown (p : Port) (l : Fin 2)
  /-- HOST_PORT_FAULT (R283). An uncorrectable MAC or PCS fault retires the host port. -/
  | hostPortFault (p : Port)
  /-- OSFP_MODULE_INSERTED (R38). An OSFP module above 12 W is held in low power with its port down; otherwise power is granted. -/
  | osfpModuleInserted (p : Port) (watts : Nat)
  /-- DAD_RESULT (R284). Duplicate address detection ends and the address is used or marked DAD_FAILED. -/
  | dadResult (port : Fin 3) (l : Fin 2) (k : Fin 6) (dup : Bool)
  /-- ROUTER_ADVERTISEMENT (R284). While SLAAC_EN is 1, free address slots are filled from a received router advertisement. -/
  | routerAdvertisement (port : Fin 3) (l : Fin 2) (addr len : Nat)
  /-- NEIGHBOUR_DISCOVERY (R284). The module answers an IPv6 neighbour discovery message. -/
  | neighbourDiscovery (port : Fin 3) (l : Fin 2) (addr : Nat)
  /-- ARP_REQUEST (R284). The module answers an ARP request. -/
  | arpRequest (port : Fin 3) (l : Fin 2) (addr : Nat)
  /-- ECHO_REQUEST (R284). The module answers an ICMP or ICMPv6 echo request. -/
  | echoRequest (port : Fin 3) (l : Fin 2) (addr : Nat) (v4 : Bool)
  /-- LLDP_TIMER (R286). An LLDP frame is sent on every link every 30 s. -/
  | lldpTimer
  /-- LLDP_RECEIVE (R286). A received LLDP frame is kept for log page 0x05, and a partner change is recorded. -/
  | lldpReceive (port : Fin 3) (l : Fin 2) (ident : Nat) (bytes : List Nat)
  /-- CMD_FRAME (R303). A CMD frame is checked and its capsules are numbered and admitted in order. -/
  | cmdFrame (f : Frame)
  /-- DATA_FRAME (R306). A DATA frame's blocks go to uncommitted staging, with PI checks, for the command its tag names. -/
  | dataFrame (f : Frame)
  /-- ACK_FRAME (R299). An ACK advances the acknowledgement point, window and SACK state of a path. -/
  | ackFrame (f : Frame)
  /-- NAK_FRAME (R299). A NAK makes the module retransmit at once every frame from ACK onward not shown held. -/
  | nakFrame (f : Frame)
  /-- OPEN (R293). A CTRL OPEN opens a session, answered with ACCEPT or REFUSE. -/
  | open_ (f : Frame)
  /-- ADD_PATH (R293). A CTRL ADD-PATH adds a second path on the other host port, or is refused. -/
  | addPath (f : Frame)
  /-- CLOSE (R295). A CTRL CLOSE stops new capsules; commands run to completion, then CLOSED is answered and the session freed. -/
  | close (f : Frame)
  /-- CLOSED (R295). The host's CLOSED frees a session the module closed. -/
  | closed (f : Frame)
  /-- KEEPALIVE (R296). A received KEEPALIVE keeps the path alive. -/
  | keepalive (f : Frame)
  /-- FAILOVER (R297). The peer's FAILOVER makes the module resend frames above THROUGH on the surviving path and rebind commands. -/
  | failover (f : Frame)
  /-- ACK_DELAY_TIMER (R299). ACK_DELAY expires with frames to acknowledge and no other frame sent, so an ACK frame is sent. -/
  | ackDelayTimer (n p : Nat)
  /-- RETRANSMISSION_TIMEOUT (R300). The RTO expires: the oldest unacknowledged frame is resent and the RTO doubles. -/
  | retransmissionTimeout (n p : Nat)
  /-- KEEPALIVE_TIMER (R296). A path silent from the module's side for KEEPALIVE gets a KEEPALIVE. -/
  | keepaliveTimer (n p : Nat)
  /-- PATH_SILENCE_TIMEOUT (R296). Nothing received on a path for 3 × KEEPALIVE, so the path is down. -/
  | pathSilenceTimeout (n p : Nat)
  /-- SESSION_HOLD_EXPIRY (R298). A session with no path closes when SESSION_HOLD expires and its completions are discarded. -/
  | sessionHoldExpiry (n : Nat)
  /-- DATA_TIMEOUT (R306). A WRITE whose data is not all delivered within DATA_TIMEOUT completes DATA-TIMEOUT. -/
  | dataTimeout (r : CmdRef)
  /-- READ (R308). A READ takes a shared range lock, reads its blocks from cache or medium, and sends DATA and CPL frames. -/
  | read (r : CmdRef) (hostBad : Option Nat)
  /-- WRITE (R308). A WRITE takes an exclusive range lock and receives its data for staging commit. -/
  | write (r : CmdRef)
  /-- WRITE_ZEROES (R308). WRITE-ZEROES unmaps or zero-writes its range under R210. -/
  | writeZeroes (r : CmdRef)
  /-- DEALLOCATE (R308). DEALLOCATE unmaps or zero-writes its range under R210. -/
  | deallocate (r : CmdRef)
  /-- FLUSH (R333). A FLUSH completes once every covered earlier write is durable, has failed or has been aborted. -/
  | flush (r : CmdRef)
  /-- VERIFY (R308). VERIFY reads the range from the medium, or from newer cached copies, and checks seals. -/
  | verify (r : CmdRef) (hostBad : Option Nat)
  /-- ABORT (R340). ABORT aborts an OPEN target, returns TOO-LATE for a committed one or NOT-FOUND. -/
  | abort (r : CmdRef)
  /-- RESUME_CONTINUE (R338). RESUME with CONTINUE, by capsule or QUE_RESUME, releases a frozen queue's held commands in arrival order. -/
  | resumeContinue (q : Req)
  /-- RESUME_DISCARD (R338). RESUME with DISCARD, by capsule or QUE_RESUME, completes every held command DISCARDED and runs the queue. -/
  | resumeDiscard (q : Req)
  /-- IDENTIFY (R313). IDENTIFY returns module, volume or session data. -/
  | identify (r : CmdRef)
  /-- GET_LOG (R313). GET-LOG returns a log page. -/
  | getLog (r : CmdRef)
  /-- REG_READ (R309). REG-READ reads 1 to 2,048 registers in ascending address order. -/
  | regRead (r : CmdRef)
  /-- REG_WRITE (R309). REG-WRITE writes 1 to 2,048 registers, reporting refused words. -/
  | regWrite (r : CmdRef)
  /-- VOLUME_CREATE (R311). VOLUME-CREATE creates a volume with its attribute block. -/
  | volumeCreate (r : CmdRef)
  /-- VOLUME_DELETE (R211). VOLUME-DELETE unmaps every extent and removes the volume's table entry. -/
  | volumeDelete (r : CmdRef)
  /-- VOLUME_SET (R311). VOLUME-SET changes the attributes named in its change mask. -/
  | volumeSet (r : CmdRef)
  /-- SET_KEY_UNLOCK (R316). UNLOCK, by SET-KEY or VOL_KEY_SEL GO, loads the key if its check value matches the stored one. -/
  | setKeyUnlock (q : Req)
  /-- SET_KEY_ESTABLISH (R316). ESTABLISH, by SET-KEY or VOL_KEY_SEL GO, loads a key and stores its check value. -/
  | setKeyEstablish (q : Req)
  /-- SET_KEY_CLEAR (R316). CLEAR, by SET-KEY or VOL_KEY_SEL GO, zeroizes the key and locks the volume. -/
  | setKeyClear (q : Req)
  /-- LAYOUT_RESHAPE (R281). LAYOUT-RESHAPE starts moving a volume to a target layout through a shadow directory. -/
  | layoutReshape (r : CmdRef)
  /-- LAYOUT_RESHAPE_CANCEL (R281). LAYOUT-RESHAPE with CANCEL set before the flip frees the shadow directory and its rows. -/
  | layoutReshapeCancel (r : CmdRef)
  /-- SELF_TEST (R446). SELF-TEST or ST_REQ.GO tests one block on demand, unless refused. -/
  | selfTest (q : Req)
  /-- INVALIDATE_ALL (R354). INVALIDATE-ALL, by CACHE-MAINT or CACHE_CTRL.INV_ALL, clears every tag entry while the cache is Off. -/
  | invalidateAll (q : Req)
  /-- CACHE_ENABLE (R354). Enable, by CACHE-MAINT or CACHE_CTRL.EN, turns the cache On, or is refused without INV_DONE. -/
  | cacheEnable (q : Req)
  /-- CACHE_DISABLE (R354). Disable, by CACHE-MAINT or CACHE_CTRL.EN, puts the cache into Draining. -/
  | cacheDisable (q : Req)
  /-- WRITEBACK (R357). CACHE-MAINT WRITEBACK writes back every dirty block of the range. -/
  | writeback (r : CmdRef)
  /-- PURGE (R357). CACHE-MAINT PURGE writes back the range and then invalidates blocks not rewritten meanwhile. -/
  | purge (r : CmdRef)
  /-- DROP_CLEAN (R357). CACHE-MAINT DROP-CLEAN invalidates valid clean blocks of the range set by set. -/
  | dropClean (r : CmdRef)
  /-- EVENT_READ (R475). EVENT-READ flushes the buffers and returns bytes of one recorder region. -/
  | eventRead (r : CmdRef)
  /-- EVENT_CLEAR (R476). EVENT-CLEAR removes records up to a sequence number and may record EVENTS_DROPPED. -/
  | eventClear (r : CmdRef)
  /-- KINDLING_WRITE (R433). KINDLING-WRITE gathers image bytes into the gathering buffer. -/
  | kindlingWrite (r : CmdRef)
  /-- KINDLING_WRITE_FINAL (R433). KINDLING-WRITE with FINAL checks the gathered image and programs it into the unused card slot. -/
  | kindlingWriteFinal (r : CmdRef) (programmed : Bool)
  /-- REKINDLE (R438). REKINDLE closes sessions, drains the cache, resets the islands and reloads the image from the card. -/
  | rekindle (r : CmdRef) (obs : StartObs)
  /-- KND_REKINDLE (R438). A write of the confirmation value to KND_REKINDLE starts a rekindle. -/
  | kndRekindle (p : Path) (w : Word) (obs : StartObs)
  /-- STAGING_COMMIT (R327). A WRITE whose lock, data, PI checks and dirty reservation are all in place begins staging commit and commits. -/
  | stagingCommit (r : CmdRef)
  /-- STAGING_COMMIT_COMPLETE (R351). Every block of the write is held twinned, and the BUFFERED point is reached. -/
  | stagingCommitComplete (r : CmdRef)
  /-- CACHE_FILL_COMPLETE (R355). A fill lands in its line without overwriting blocks committed meanwhile. -/
  | cacheFillComplete (v : Vol) (line : Nat)
  /-- CACHE_WRITEBACK_DONE (R353). A line's write-back reaches the DURABLE point, and its dirty bits not rewritten are cleared. -/
  | cacheWritebackDone (v : Vol) (line : Nat) (ok : Bool)
  /-- CACHE_TAG_ERROR (R349). An uncorrectable tag error rebuilds the set's entries from the frame headers. -/
  | cacheTagError (e : TagErr)
  /-- INVALIDATE_ALL_DONE (R354). All tag entries are cleared, INV_DONE is set and the cache is Off. -/
  | invalidateAllDone
  /-- CACHE_PROBE_GO (R362). Takes a snapshot of the primary tag entry of the selected line. -/
  | cacheProbeGo (p : Path) (w : Word)
  /-- DRAM_UNCORRECTABLE (R359). An uncorrectable burst fences and retires the package, re-twins its data and reloads its map segments. -/
  | dramUncorrectable (d : Pkg) (addr : Nat)
  /-- DRAM_CE_LIMIT (R346). Corrected bursts reaching CE_LIMIT in 24 h retire the package. -/
  | dramCeLimit (d : Pkg) (n addr : Nat)
  /-- DRAM_SCRUB_PASS (R345). Each package is read in full every SCRUB_HOURS. -/
  | dramScrubPass (d : Pkg) (n addr : Nat)
  /-- MAP_SEGMENT_RELOAD (R360). A map segment of a retired package is reloaded into a reserve allocation. -/
  | mapSegmentReload (seg : Nat) (ok : Bool)
  /-- HOB_ENGINE_FAIL (R31). A missed heartbeat or uncorrectable ECC error makes the partner adopt the engine's slots. -/
  | hobEngineFail (n : Hob) (cause : Nat)
  /-- FLUE_ENGINE_FAIL (R36). A failed flue engine's role passes to a surviving flue engine within 20 ms. -/
  | flueEngineFail (n : Flue) (cause : Nat)
  /-- ENGINE_FAULT (R378). An engine stops at once on an ECC, illegal-word, fetch, stack or data-access fault. -/
  | engineFault (n : EngineIx) (cause : Nat)
  /-- MICROWORD (R367). An engine executes one microword: operands, ALU, memory, port, flags and next-address sequencing. -/
  | microword (n : EngineIx) (obs : WordObs)
  /-- ENGINE_TIMER_EXPIRY (R371). An engine timer reaches 0 and sets its condition bit. -/
  | engineTimerExpiry (n : EngineIx) (t : Fin 2)
  /-- DOORBELL_SET (R371). A block sets a doorbell bit of an engine through the fabric. -/
  | doorbellSet (n : EngineIx) (bit : Fin 8)
  /-- ENGINE_FENCE (R385). Writing FENCE 1 moves the engine's slots or roles away, unless refused. -/
  | engineFence (p : Path) (n : EngineIx) (w : Word)
  /-- ENGINE_FENCE_COMPLETE (R385). No work remains on a fencing engine and STATE shows FENCED. -/
  | engineFenceComplete (n : EngineIx)
  /-- ENGINE_UNFENCE (R385). Writing FENCE 0 returns the work at chunk boundaries and restarts heartbeat supervision. -/
  | engineUnfence (p : Path) (n : EngineIx) (w : Word)
  /-- ENGINE_HALT (R386). HALT 1 on a fenced engine completes the word in progress and halts. -/
  | engineHalt (p : Path) (n : EngineIx) (w : Word)
  /-- ENGINE_RUN (R386). HALT 0 resumes a halted engine at PC. -/
  | engineRun (p : Path) (n : EngineIx) (w : Word)
  /-- ENGINE_STEP (R386). STEP 1 executes one word of a halted engine. -/
  | engineStep (p : Path) (n : EngineIx) (w : Word)
  /-- ENGINE_RESET (R386). RESET 1 clears the engine's state, keeps patch RAM and runs the ROM start code. -/
  | engineReset (p : Path) (n : EngineIx) (w : Word)
  /-- ENG_DBG_WRITE (R386). Writes a register, flag, stack entry or data memory word of a halted engine. -/
  | engDbgWrite (p : Path) (n : EngineIx) (w : Word)
  /-- ENG_CS_READ (R389). CS_SEL.GO reads a control store word into CS_DATA. -/
  | engCsRead (p : Path) (n : EngineIx) (w : Word)
  /-- ENG_CS_WRITE (R383). CS_SEL.WR writes a patch RAM word of a halted engine and marks the patch modified. -/
  | engCsWrite (p : Path) (n : EngineIx) (w : Word)
  /-- ENG_MATCH_WRITE (R383). MATCH_SEL.WR writes a match register of a halted engine and marks the patch modified. -/
  | engMatchWrite (p : Path) (n : EngineIx) (w : Word)
  /-- ENG_SLOT_OWNER_WRITE (R387). A write of a slot owner moves the slot at its next chunk boundary, unless refused. -/
  | engSlotOwnerWrite (p : Path) (i : Fin 4) (w : Word)
  /-- ISLAND_LOSS_OF_LOCK (R25). A synthesiser loses lock: decoder and damper switch to the standby, other islands are held in reset. -/
  | islandLossOfLock (i : Island)
  /-- BRIDGE_STALL (R25). A handshake incomplete for 2 µs moves traffic to the spare bridge or holds the island in reset. -/
  | bridgeStall (i : Island)
  /-- MGMT_ISLAND_FAULT (R27). A management island fault takes MP, UART, TAP and card access out of service. -/
  | mgmtIslandFault
  /-- VAULT_FAULT (R28). A vault fault moves BUFFERED volumes to DURABLE and the journals to member hearthstone areas. -/
  | vaultFault
  /-- COLD_START (R435). A feed becomes present after the always-on supply was lost, and the full start sequence runs to host service. -/
  | coldStart (obs : StartObs)
  /-- START_LATE (R435). The map is not rebuilt by 110 s, so START_LATE is recorded and host service waits. -/
  | startLate
  /-- BROWN_OUT_RESTART (R436). A supply returns while the always-on island holds its supply, and the start runs from step 3. -/
  | brownOutRestart (obs : StartObs)
  /-- MOD_RESET_N_LOW (R498). MOD_RESET_N low for 1 ms starts a module reset with banking. -/
  | modResetNLow
  /-- RST_MODULE (R437). A write of the confirmation value closes sessions and performs a module reset. -/
  | rstModule (p : Path) (w : Word)
  /-- MODULE_RESET_RESTART (R437). With MOD_RESET_N high and 10 ms passed, the module restarts from step 3 without reading the card. -/
  | moduleResetRestart (obs : StartObs)
  /-- RST_PORT (R439). A write holds the named port's host island in reset for 100 ms and fails its paths over. -/
  | rstPort (p : Path) (w : Word)
  /-- PORT_RESET_END (R439). After 100 ms the port is released and its links retrain. -/
  | portResetEnd (port : Port)
  /-- UNLIT_POLL (R434). Every 10 s while Unlit, the slot records are read again and a passing image starts a rekindle. -/
  | unlitPoll (obs : StartObs)
  /-- SELF_TEST_END (R444). A self-test ends PASS, FAIL or INCOMPLETE, and the block is returned, retired or kept fenced. -/
  | selfTestEnd (kind : Fin 6) (index : Nat) (reached match_ : Bool) (ms : Nat) (meas : Option Meas)
  /-- SELF_TEST_RETEST (R444). A fenced block with an INCOMPLETE test is tested again every RETEST. -/
  | selfTestRetest (kind : Fin 6) (index : Nat)
  /-- ST_SEL (R450). Takes a snapshot of one block's self-test result. -/
  | stSel (p : Path) (w : Word)
  /-- TAP_EXTEST (R448). Loads EXTEST, entering scan state first. -/
  | tapExtest
  /-- TAP_IDCODE (R448). Loads IDCODE, selecting the identification register. -/
  | tapIdcode
  /-- TAP_SAMPLE_PRELOAD (R448). Loads SAMPLE/PRELOAD on the boundary-scan register. -/
  | tapSamplePreload
  /-- TAP_CLAMP (R448). Loads CLAMP, entering scan state first. -/
  | tapClamp
  /-- TAP_HIGHZ (R448). Loads HIGHZ, entering scan state first. -/
  | tapHighz
  /-- TAP_REG_ACCESS (R448). Loads REG_ACCESS, selecting the 65-bit register-access data register. -/
  | tapRegAccess
  /-- TAP_SCAN_EN (R448). Loads SCAN_EN, entering scan state first. -/
  | tapScanEn
  /-- TAP_BYPASS (R448). Loads BYPASS, or any unlisted code. -/
  | tapBypass
  /-- REG_ACCESS_UPDATE_DR (R486). At Update-DR the TAP starts a register read or write. -/
  | regAccessUpdateDr (write : Bool) (addr data : Word)
  /-- UART_READ (R485). The UART R line reads one register. -/
  | uartRead (addr : Word)
  /-- UART_WRITE (R485). The UART W line writes one register. -/
  | uartWrite (addr data : Word)
  /-- UART_DATA (R485). The UART D line appends bytes to the data of the next admin command. -/
  | uartData (bytes : List Byte)
  /-- UART_CAPSULE (R485). The UART C line runs a capsule as an admin command of queue 0. -/
  | uartCapsule (bytes : List Byte)
  /-- CALIBRATION_DUE (R417). A calibration falls due by its interval or a temperature move. -/
  | calibrationDue (kind : Fin 7) (elem : Nat) (rz : RZone) (moved : Nat)
  /-- CALIBRATION_START (R417). FE3 starts a due calibration in priority order within the fence and power limits. -/
  | calibrationStart (kind : Fin 7) (elem : Nat) (rz : RZone)
  /-- CALIBRATION_RUN_END (R414). A calibration run ends and runs are compared: applied, a third run, or suspect. -/
  | calibrationRunEnd (kind : Fin 7) (elem : Nat) (rz : RZone) (values : List Int) (pick : List Nat) (discarded : Bool)
  /-- CAL_SUSPECT_RETRY (R414). A suspect element is calibrated again after SUSPECT_RETRY. -/
  | calSuspectRetry (kind : Fin 7) (elem : Nat)
  /-- CAL_REQ_GO (R426). A write of GO makes the named calibration due now. -/
  | calReqGo (p : Path) (w : Word)
  /-- CAL_ELEM_SEL (R426). Takes a snapshot of one element's calibration history. -/
  | calElemSel (p : Path) (w : Word)
  /-- MARGIN_MEASUREMENT (R423). Every MARGIN_PERIOD, a head and recording zone's headroom and SNR are measured from bank 0. -/
  | marginMeasurement (g : GHead) (rz : RZone)
  /-- AGE_SEL (R426). Takes a snapshot of a head and recording zone's ageing state. -/
  | ageSel (p : Path) (w : Word)
  /-- CHANNEL_BUCKET_LEAK (R451). At each leak interval a channel's bucket falls by one. -/
  | channelBucketLeak (kind : Fin 6) (i : Nat)
  /-- RECOVERY_COMPLETE (R459). A domain's recovery and every recovery it opened are complete. -/
  | recoveryComplete (row : Fin 10) (i : Nat)
  /-- RETIREMENT_LEDGER_COPY (R455). The retirement ledger is copied to every member in service every 60 s. -/
  | retirementLedgerCopy
  /-- EVENT_FLUSH (R472). The recorder buffers are flushed to the vault regions on a serious record, half-full buffer or FLUSH_S timer. -/
  | eventFlush
  /-- EVT_FLUSH_GO (R472). A write of GO flushes the recorder buffers. -/
  | evtFlushGo (p : Path) (w : Word)
  /-- EVENT_TOKEN_ADD (R471). A token is added to an event code's bucket each rate period while it is below BURST. -/
  | eventTokenAdd (code : Nat)
  /-- EVT_TIME_MARK_HI (R470). Writing the high word records a TIME_MARK with the 64-bit host time. -/
  | evtTimeMarkHi (p : Path) (w : Word)
  /-- OPERATING_SECONDS_SAVE (R470). Operating seconds are saved to the vault every 60 s. -/
  | operatingSecondsSave
  /-- RET_CTRL_ATTN_ACK (R454). A write of 1 releases ATTN_MOD_N. -/
  | retCtrlAttnAck (p : Path) (w : Word)
  /-- FLT_SEL (R453). Takes a snapshot of one error channel's counts. -/
  | fltSel (p : Path) (w : Word)
  /-- RMGR_SEL (R477). Takes a snapshot of one recovery domain. -/
  | rmgrSel (p : Path) (w : Word)
  /-- ISL_SEL (R488). Takes a snapshot of one clock island. -/
  | islSel (p : Path) (w : Word)
  /-- QUE_SEL (R341). Takes a snapshot of one queue. -/
  | queSel (p : Path) (w : Word)
  /-- STK_VOL_SEL (R252). Takes a snapshot of one volume. -/
  | stkVolSel (p : Path) (w : Word)
  /-- STK_LOOKUP_GO (R252). Copies the selected extent entry into STK_LOOKUP_DATA. -/
  | stkLookupGo (p : Path) (w : Word)
  /-- REC_HEAD_SEL (R207). Takes a snapshot of one head and recording zone's recovery counts. -/
  | recHeadSel (p : Path) (w : Word)
  /-- THM_ZONE_SEL (R412). Takes a snapshot of one thermal zone. -/
  | thmZoneSel (p : Path) (w : Word)
  /-- THM_SENSOR_SEL (R412). Takes a snapshot of one sensor. -/
  | thmSensorSel (p : Path) (w : Word)
  /-- LQP_SESS_SEL (R320). Takes a snapshot of one session. -/
  | lqpSessSel (p : Path) (w : Word)
  /-- PORT_ADDR_SNAPSHOT (R320). PORT_ADDR_SEL with WR 0 takes a snapshot of an address slot. -/
  | portAddrSnapshot (p : Path) (w : Word)
  /-- PORT_ADDR_WRITE (R320). PORT_ADDR_SEL with WR 1 writes an address slot, used after duplicate address detection. -/
  | portAddrWrite (p : Path) (w : Word)
  /-- PORT_CFG_DISABLE (R320). Setting DISABLE holds the port's links down and fails its paths over. -/
  | portCfgDisable (p : Path) (port : Port) (w : Word)
  /-- READ_LO_LATCH (R483). A read of an _LO register latches its _HI partner for the reading path. -/
  | readLoLatch (p : Path) (addr : Word)
  /-- REGISTER_WRITE (R484). A write to a register with no row of its own sets its fields or is refused field by field. -/
  | registerWrite (p : Path) (addr data : Word)
  /-- RECEIVED_PACKET_DROPPED (R285). A received packet that is an IP fragment, has extension headers or options, a bad or zero UDP checksum, a foreign UDP port, or a datagram too short or with a bad header CRC, magic, version or type, is dropped and counted in OTHER_DROPS or HCRC_DROPS. -/
  | receivedPacketDropped (p : Port) (hcrc : Bool)
  /-- PFC_FRAME_RECEIVED (R283). While PFC_EN is 1, a received IEEE 802.1Qbb priority flow control frame pauses or resumes the module's transmission on PFC_PRIO, and a received IEEE 802.3 PAUSE frame is ignored. -/
  | pfcFrameReceived (p : Port) (prio : Fin 8) (us : Nat)
  /-- UART_MALFORMED_LINE (R485). A UART line that is none of the R, W, D or C commands replies ERR. -/
  | uartMalformedLine
  /-- WEAK_LIST_FULL (R204). While the weak list stays full, the event WEAK_LIST_FULL is recorded once per minute. -/
  | weakListFull
  /-- HANDLE_LATCH_RELEASE (R496). Once the bulk bus is no longer above 60 V, at most 30 s after the last feed is unplugged, the solenoid releases the front handle latch. -/
  | handleLatchRelease
  /-- MOD_RESET_N_HIGH_AT_START (R498). A cold start or brown-out restart held at step 2 of R435 by MOD_RESET_N low continues from step 3, reading the card, when the pin goes high. -/
  | modResetNHighAtStart (obs : StartObs)
  deriving DecidableEq, Repr

end Sys2Proof
end

