-- ==== Sys2Proof/Decode.lean ====
section
/-! DEFINITION. The command that a word spells. -/

namespace Sys2Proof

/-- The table of operations and events gives its rows no bits: no word spells a command. -/
def decodeTableWord (_nbits _w : Nat) : Option Instr := none

end Sys2Proof
end

