-- ==== Sys2Proof/Machine/EventCodes.lean ====
section
/-! DEFINITION. The event codes of R462 and R463: class in [15:12], block in [11:6], event in [5:0]. -/

namespace Sys2Proof.Machine

/-- R462: an event code from its class, block and event number. -/
abbrev evCode (cls block n : Nat) : Nat := cls * 4096 + block * 64 + n

/-- Event code of RECOVERY_COMPLETE (R463). -/
abbrev Ev.RECOVERY_COMPLETE : Nat := evCode 1 0x00 5
/-- Event code of REG_REFUSED (R463). -/
abbrev Ev.REG_REFUSED : Nat := evCode 2 0x00 0
/-- Event code of RECOVERY_REPLANNED (R463). -/
abbrev Ev.RECOVERY_REPLANNED : Nat := evCode 2 0x00 4
/-- Event code of MGMT_ISLAND_FAULT (R463). -/
abbrev Ev.MGMT_ISLAND_FAULT : Nat := evCode 3 0x00 1
/-- Event code of VAULT_FAULT (R463). -/
abbrev Ev.VAULT_FAULT : Nat := evCode 3 0x00 2
/-- Event code of CHANNEL_PERMANENT (R463). -/
abbrev Ev.CHANNEL_PERMANENT : Nat := evCode 3 0x00 6
/-- Event code of ELEMENT_RETIRED (R463). -/
abbrev Ev.ELEMENT_RETIRED : Nat := evCode 4 0x00 3
/-- Event code of FEED_RESTORED (R463). -/
abbrev Ev.FEED_RESTORED : Nat := evCode 1 0x01 1
/-- Event code of SUPPLY_RECOVERED (R463). -/
abbrev Ev.SUPPLY_RECOVERED : Nat := evCode 1 0x01 6
/-- Event code of BANK_COMPLETE (R463). -/
abbrev Ev.BANK_COMPLETE : Nat := evCode 1 0x01 8
/-- Event code of BANK_ABORTED (R463). -/
abbrev Ev.BANK_ABORTED : Nat := evCode 1 0x01 9
/-- Event code of RELIT (R463). -/
abbrev Ev.RELIT : Nat := evCode 1 0x01 11
/-- Event code of FEED_OUT_OF_RANGE (R463). -/
abbrev Ev.FEED_OUT_OF_RANGE : Nat := evCode 2 0x01 2
/-- Event code of POWER_CAPPED (R463). -/
abbrev Ev.POWER_CAPPED : Nat := evCode 2 0x01 4
/-- Event code of SUPPLY_WARNING (R463). -/
abbrev Ev.SUPPLY_WARNING : Nat := evCode 2 0x01 5
/-- Event code of HOLDUP_LOW (R463). -/
abbrev Ev.HOLDUP_LOW : Nat := evCode 2 0x01 12
/-- Event code of FEED_LOST (R463). -/
abbrev Ev.FEED_LOST : Nat := evCode 3 0x01 0
/-- Event code of DCDC_FAULT (R463). -/
abbrev Ev.DCDC_FAULT : Nat := evCode 3 0x01 3
/-- Event code of SUPPLY_CUT (R463). -/
abbrev Ev.SUPPLY_CUT : Nat := evCode 3 0x01 7
/-- Event code of BANK_INCOMPLETE (R463). -/
abbrev Ev.BANK_INCOMPLETE : Nat := evCode 5 0x01 10
/-- Event code of THERMAL_WARNING (R463). -/
abbrev Ev.THERMAL_WARNING : Nat := evCode 2 0x02 0
/-- Event code of THERMAL_THROTTLE (R463). -/
abbrev Ev.THERMAL_THROTTLE : Nat := evCode 2 0x02 1
/-- Event code of THERMAL_SENSOR_BROKEN (R463). -/
abbrev Ev.THERMAL_SENSOR_BROKEN : Nat := evCode 3 0x02 2
/-- Event code of HDA_THERMAL_SHUTDOWN (R463). -/
abbrev Ev.HDA_THERMAL_SHUTDOWN : Nat := evCode 3 0x02 3
/-- Event code of THERMAL_SHUTDOWN (R463). -/
abbrev Ev.THERMAL_SHUTDOWN : Nat := evCode 3 0x02 4
/-- Event code of START_COMPLETE (R463). -/
abbrev Ev.START_COMPLETE : Nat := evCode 1 0x03 1
/-- Event code of RESET_TAKEN (R463). -/
abbrev Ev.RESET_TAKEN : Nat := evCode 1 0x03 3
/-- Event code of START_LATE (R463). -/
abbrev Ev.START_LATE : Nat := evCode 2 0x03 2
/-- Event code of ISLAND_RESET (R463). -/
abbrev Ev.ISLAND_RESET : Nat := evCode 3 0x03 0
/-- Event code of ISLAND_SPARE_USED (R463). -/
abbrev Ev.ISLAND_SPARE_USED : Nat := evCode 3 0x03 4
/-- Event code of KINDLING_LOADED (R463). -/
abbrev Ev.KINDLING_LOADED : Nat := evCode 1 0x04 0
/-- Event code of KINDLING_FALLBACK (R463). -/
abbrev Ev.KINDLING_FALLBACK : Nat := evCode 2 0x04 1
/-- Event code of KINDLING_RECORD_REFUSED (R463). -/
abbrev Ev.KINDLING_RECORD_REFUSED : Nat := evCode 2 0x04 2
/-- Event code of KINDLING_GROUP_IGNORED (R463). -/
abbrev Ev.KINDLING_GROUP_IGNORED : Nat := evCode 2 0x04 3
/-- Event code of UNLIT (R463). -/
abbrev Ev.UNLIT : Nat := evCode 2 0x04 5
/-- Event code of KINDLING_PROGRAM_FAIL (R463). -/
abbrev Ev.KINDLING_PROGRAM_FAIL : Nat := evCode 3 0x04 4
/-- Event code of SLOT_OWNER_MOVED (R463). -/
abbrev Ev.SLOT_OWNER_MOVED : Nat := evCode 1 0x05 3
/-- Event code of PATCH_REJECTED (R463). -/
abbrev Ev.PATCH_REJECTED : Nat := evCode 2 0x05 1
/-- Event code of PATCH_MODIFIED (R463). -/
abbrev Ev.PATCH_MODIFIED : Nat := evCode 2 0x05 2
/-- Event code of ENGINE_FAULT (R463). -/
abbrev Ev.ENGINE_FAULT : Nat := evCode 3 0x05 0
/-- Event code of LINK_PARTNER_CHANGED (R463). -/
abbrev Ev.LINK_PARTNER_CHANGED : Nat := evCode 1 0x06 1
/-- Event code of PATH_FAILOVER (R463). -/
abbrev Ev.PATH_FAILOVER : Nat := evCode 1 0x06 3
/-- Event code of HOST_ADDR_DUPLICATE (R463). -/
abbrev Ev.HOST_ADDR_DUPLICATE : Nat := evCode 2 0x06 0
/-- Event code of PATH_DOWN (R463). -/
abbrev Ev.PATH_DOWN : Nat := evCode 2 0x06 2
/-- Event code of KEY_MISMATCH (R463). -/
abbrev Ev.KEY_MISMATCH : Nat := evCode 2 0x06 5
/-- Event code of OSFP_POWER_REFUSED (R463). -/
abbrev Ev.OSFP_POWER_REFUSED : Nat := evCode 2 0x06 6
/-- Event code of SESSION_DROPPED (R463). -/
abbrev Ev.SESSION_DROPPED : Nat := evCode 5 0x06 4
/-- Event code of KEYS_LOST (R463). -/
abbrev Ev.KEYS_LOST : Nat := evCode 5 0x06 7
/-- Event code of LOCK_TABLE_FULL (R463). -/
abbrev Ev.LOCK_TABLE_FULL : Nat := evCode 2 0x07 0
/-- Event code of QUEUE_FROZEN (R463). -/
abbrev Ev.QUEUE_FROZEN : Nat := evCode 2 0x07 1
/-- Event code of CACHE_STATE (R463). -/
abbrev Ev.CACHE_STATE : Nat := evCode 1 0x08 0
/-- Event code of CACHE_RETWIN_DONE (R463). -/
abbrev Ev.CACHE_RETWIN_DONE : Nat := evCode 1 0x08 3
/-- Event code of CACHE_ENABLE_REFUSED (R463). -/
abbrev Ev.CACHE_ENABLE_REFUSED : Nat := evCode 2 0x08 1
/-- Event code of CACHE_TAG_REBUILT (R463). -/
abbrev Ev.CACHE_TAG_REBUILT : Nat := evCode 3 0x08 2
/-- Event code of CACHE_DATA_LOST (R463). -/
abbrev Ev.CACHE_DATA_LOST : Nat := evCode 5 0x08 4
/-- Event code of MAP_RELOAD_DONE (R463). -/
abbrev Ev.MAP_RELOAD_DONE : Nat := evCode 1 0x09 2
/-- Event code of DRAM_UNCORRECTABLE (R463). -/
abbrev Ev.DRAM_UNCORRECTABLE : Nat := evCode 3 0x09 0
/-- Event code of DRAM_PACKAGE_RETIRED (R463). -/
abbrev Ev.DRAM_PACKAGE_RETIRED : Nat := evCode 4 0x09 1
/-- Event code of DRAM_CAPACITY_LOST (R463). -/
abbrev Ev.DRAM_CAPACITY_LOST : Nat := evCode 5 0x09 3
/-- Event code of ZONE_REPLANNED (R463). -/
abbrev Ev.ZONE_REPLANNED : Nat := evCode 1 0x0A 2
/-- Event code of READ_AROUND (R463). -/
abbrev Ev.READ_AROUND : Nat := evCode 1 0x0A 6
/-- Event code of READ_RECOVERED (R463). -/
abbrev Ev.READ_RECOVERED : Nat := evCode 1 0x0A 7
/-- Event code of MAP_JOURNAL_STALL (R463). -/
abbrev Ev.MAP_JOURNAL_STALL : Nat := evCode 2 0x0A 0
/-- Event code of ZONE_RETIRED (R463). -/
abbrev Ev.ZONE_RETIRED : Nat := evCode 2 0x0A 3
/-- Event code of CAP_WARN (R463). -/
abbrev Ev.CAP_WARN : Nat := evCode 2 0x0A 4
/-- Event code of CAP_FULL (R463). -/
abbrev Ev.CAP_FULL : Nat := evCode 2 0x0A 5
/-- Event code of WEAK_LIST_FULL (R463). -/
abbrev Ev.WEAK_LIST_FULL : Nat := evCode 2 0x0A 10
/-- Event code of HEAD_EFFORT_HIGH (R463). -/
abbrev Ev.HEAD_EFFORT_HIGH : Nat := evCode 2 0x0A 11
/-- Event code of READ_RECOVERY_MISMATCH (R463). -/
abbrev Ev.READ_RECOVERY_MISMATCH : Nat := evCode 3 0x0A 9
/-- Event code of MAP_SEGMENT_LOST (R463). -/
abbrev Ev.MAP_SEGMENT_LOST : Nat := evCode 5 0x0A 1
/-- Event code of READ_UNRECOVERED (R463). -/
abbrev Ev.READ_UNRECOVERED : Nat := evCode 5 0x0A 8
/-- Event code of JOURNAL_COPY_RESTORED (R463). -/
abbrev Ev.JOURNAL_COPY_RESTORED : Nat := evCode 1 0x0B 5
/-- Event code of SCRUB_COMPLETE (R463). -/
abbrev Ev.SCRUB_COMPLETE : Nat := evCode 1 0x0B 11
/-- Event code of RESHAPE_DONE (R463). -/
abbrev Ev.RESHAPE_DONE : Nat := evCode 1 0x0B 13
/-- Event code of REBUILD_COMPLETE (R463). -/
abbrev Ev.REBUILD_COMPLETE : Nat := evCode 1 0x0B 14
/-- Event code of HDA_UNASSIGNED (R463). -/
abbrev Ev.HDA_UNASSIGNED : Nat := evCode 2 0x0B 0
/-- Event code of STALE_OVERFLOW (R463). -/
abbrev Ev.STALE_OVERFLOW : Nat := evCode 2 0x0B 3
/-- Event code of FULL_RESYNC (R463). -/
abbrev Ev.FULL_RESYNC : Nat := evCode 2 0x0B 6
/-- Event code of REBUILD_REPLANNED (R463). -/
abbrev Ev.REBUILD_REPLANNED : Nat := evCode 2 0x0B 7
/-- Event code of SCRUB_LATE (R463). -/
abbrev Ev.SCRUB_LATE : Nat := evCode 2 0x0B 12
/-- Event code of SEAL_REPAIRED (R463). -/
abbrev Ev.SEAL_REPAIRED : Nat := evCode 3 0x0B 1
/-- Event code of SEAL_HOST_MISMATCH (R463). -/
abbrev Ev.SEAL_HOST_MISMATCH : Nat := evCode 3 0x0B 2
/-- Event code of JOURNAL_COPY_LOST (R463). -/
abbrev Ev.JOURNAL_COPY_LOST : Nat := evCode 3 0x0B 4
/-- Event code of SCRUB_PARITY_MISMATCH (R463). -/
abbrev Ev.SCRUB_PARITY_MISMATCH : Nat := evCode 3 0x0B 10
/-- Event code of BLOCKS_LOST (R463). -/
abbrev Ev.BLOCKS_LOST : Nat := evCode 5 0x0B 8
/-- Event code of LEDGER_FULL (R463). -/
abbrev Ev.LEDGER_FULL : Nat := evCode 5 0x0B 9
/-- Event code of DEC_BACKPRESSURE (R463). -/
abbrev Ev.DEC_BACKPRESSURE : Nat := evCode 2 0x0C 0
/-- Event code of DEC_RETAIN_EVICT (R463). -/
abbrev Ev.DEC_RETAIN_EVICT : Nat := evCode 2 0x0C 2
/-- Event code of DEC_SPILL_LOST (R463). -/
abbrev Ev.DEC_SPILL_LOST : Nat := evCode 3 0x0C 1
/-- Event code of DEC_SEAL_MISMATCH (R463). -/
abbrev Ev.DEC_SEAL_MISMATCH : Nat := evCode 3 0x0C 3
/-- Event code of DEC_CORE_RETIRED (R463). -/
abbrev Ev.DEC_CORE_RETIRED : Nat := evCode 4 0x0C 4
/-- Event code of DEC_POOL_FAILED (R463). -/
abbrev Ev.DEC_POOL_FAILED : Nat := evCode 5 0x0C 5
/-- Event code of DAMP_SET_LIMITED (R463). -/
abbrev Ev.DAMP_SET_LIMITED : Nat := evCode 2 0x0D 2
/-- Event code of DAMP_LANE_MISMATCH (R463). -/
abbrev Ev.DAMP_LANE_MISMATCH : Nat := evCode 3 0x0D 0
/-- Event code of DAMP_LANE_RETIRED (R463). -/
abbrev Ev.DAMP_LANE_RETIRED : Nat := evCode 4 0x0D 1
/-- Event code of EVENTS_DROPPED (R463). -/
abbrev Ev.EVENTS_DROPPED : Nat := evCode 2 0x0E 0
/-- Event code of EVENT_REGION_FULL (R463). -/
abbrev Ev.EVENT_REGION_FULL : Nat := evCode 2 0x0E 1
/-- Event code of SELFTEST_INCOMPLETE (R463). -/
abbrev Ev.SELFTEST_INCOMPLETE : Nat := evCode 2 0x0F 1
/-- Event code of SCAN_ZEROIZED (R463). -/
abbrev Ev.SCAN_ZEROIZED : Nat := evCode 2 0x0F 2
/-- Event code of SELFTEST_FAIL (R463). -/
abbrev Ev.SELFTEST_FAIL : Nat := evCode 4 0x0F 0
/-- Event code of SLOT_INSERTED (R463). -/
abbrev Ev.SLOT_INSERTED : Nat := evCode 1 0x10 0
/-- Event code of HDA_FOREIGN (R463). -/
abbrev Ev.HDA_FOREIGN : Nat := evCode 1 0x10 10
/-- Event code of SLOT_REMOVED (R463). -/
abbrev Ev.SLOT_REMOVED : Nat := evCode 2 0x10 1
/-- Event code of SLOT_ID_INVALID (R463). -/
abbrev Ev.SLOT_ID_INVALID : Nat := evCode 2 0x10 2
/-- Event code of ASSIST_KIND_MISMATCH (R463). -/
abbrev Ev.ASSIST_KIND_MISMATCH : Nat := evCode 2 0x10 5
/-- Event code of ID_MODULE_AREA_LOST (R463). -/
abbrev Ev.ID_MODULE_AREA_LOST : Nat := evCode 2 0x10 9
/-- Event code of ID_MEMORY_FAILED (R463). -/
abbrev Ev.ID_MEMORY_FAILED : Nat := evCode 2 0x10 11
/-- Event code of WRITE_FIFO_UNDERRUN (R463). -/
abbrev Ev.WRITE_FIFO_UNDERRUN : Nat := evCode 2 0x10 12
/-- Event code of SLOT_MEAS_OUT_OF_WINDOW (R463). -/
abbrev Ev.SLOT_MEAS_OUT_OF_WINDOW : Nat := evCode 3 0x10 3
/-- Event code of PREAMP_ID_MISMATCH (R463). -/
abbrev Ev.PREAMP_ID_MISMATCH : Nat := evCode 3 0x10 4
/-- Event code of PREAMP_LINK_ERROR (R463). -/
abbrev Ev.PREAMP_LINK_ERROR : Nat := evCode 3 0x10 7
/-- Event code of PREAMP_FAULT (R463). -/
abbrev Ev.PREAMP_FAULT : Nat := evCode 3 0x10 8
/-- Event code of CABLE_PATH_FAIL (R463). -/
abbrev Ev.CABLE_PATH_FAIL : Nat := evCode 4 0x10 6
/-- Event code of SPIN_CAUGHT (R463). -/
abbrev Ev.SPIN_CAUGHT : Nat := evCode 1 0x11 0
/-- Event code of SPIN_AT_SPEED (R463). -/
abbrev Ev.SPIN_AT_SPEED : Nat := evCode 1 0x11 1
/-- Event code of SPIN_RECATCHED (R463). -/
abbrev Ev.SPIN_RECATCHED : Nat := evCode 1 0x11 5
/-- Event code of SPIN_START_REFUSED_REVERSE (R463). -/
abbrev Ev.SPIN_START_REFUSED_REVERSE : Nat := evCode 2 0x11 2
/-- Event code of SPIN_SUPPLY_LIMITED (R463). -/
abbrev Ev.SPIN_SUPPLY_LIMITED : Nat := evCode 2 0x11 7
/-- Event code of SPIN_ADV_TABLE_INVALID (R463). -/
abbrev Ev.SPIN_ADV_TABLE_INVALID : Nat := evCode 2 0x11 8
/-- Event code of SPIN_START_FAIL (R463). -/
abbrev Ev.SPIN_START_FAIL : Nat := evCode 3 0x11 3
/-- Event code of SPIN_OBSERVER_LOST (R463). -/
abbrev Ev.SPIN_OBSERVER_LOST : Nat := evCode 3 0x11 4
/-- Event code of SPIN_RECATCH_FAIL (R463). -/
abbrev Ev.SPIN_RECATCH_FAIL : Nat := evCode 3 0x11 6
/-- Event code of SHOCK_ACTUATOR (R463). -/
abbrev Ev.SHOCK_ACTUATOR : Nat := evCode 2 0x12 4
/-- Event code of SHOCK_SHELF (R463). -/
abbrev Ev.SHOCK_SHELF : Nat := evCode 2 0x12 5
/-- Event code of VCM_COIL_HOT (R463). -/
abbrev Ev.VCM_COIL_HOT : Nat := evCode 2 0x12 6
/-- Event code of HEAD_UP_SATURATED (R463). -/
abbrev Ev.HEAD_UP_SATURATED : Nat := evCode 3 0x12 0
/-- Event code of VCM_SATURATED (R463). -/
abbrev Ev.VCM_SATURATED : Nat := evCode 3 0x12 1
/-- Event code of SERVO_LOST (R463). -/
abbrev Ev.SERVO_LOST : Nat := evCode 3 0x12 2
/-- Event code of LOAD_FAIL (R463). -/
abbrev Ev.LOAD_FAIL : Nat := evCode 3 0x12 3
/-- Event code of ASSIST_AT_MAX (R463). -/
abbrev Ev.ASSIST_AT_MAX : Nat := evCode 2 0x13 2
/-- Event code of ASSIST_DUTY_LIMITED (R463). -/
abbrev Ev.ASSIST_DUTY_LIMITED : Nat := evCode 2 0x13 3
/-- Event code of SECTOR_TORN (R463). -/
abbrev Ev.SECTOR_TORN : Nat := evCode 3 0x13 1
/-- Event code of ADC_NO_SELECTION (R463). -/
abbrev Ev.ADC_NO_SELECTION : Nat := evCode 4 0x13 0
/-- Event code of MARGIN_REPLAN (R463). -/
abbrev Ev.MARGIN_REPLAN : Nat := evCode 1 0x14 5
/-- Event code of CAL_SUSPECT (R463). -/
abbrev Ev.CAL_SUSPECT : Nat := evCode 2 0x14 0
/-- Event code of HEAD_AGEING (R463). -/
abbrev Ev.HEAD_AGEING : Nat := evCode 2 0x14 2
/-- Event code of HEAD_MARGIN_LOW (R463). -/
abbrev Ev.HEAD_MARGIN_LOW : Nat := evCode 2 0x14 4
/-- Event code of CAL_RETIRED (R463). -/
abbrev Ev.CAL_RETIRED : Nat := evCode 4 0x14 1
/-- Event code of HEAD_AGEING_RETIRED (R463). -/
abbrev Ev.HEAD_AGEING_RETIRED : Nat := evCode 4 0x14 3
/-- Event code of ADMIN_ACTION (R463). -/
abbrev Ev.ADMIN_ACTION : Nat := evCode 6 0x0E 2
/-- Event code of FAULT_SNAPSHOT (R463). -/
abbrev Ev.FAULT_SNAPSHOT : Nat := evCode 7 0x0E 3
/-- Event code of TIME_MARK (R463). -/
abbrev Ev.TIME_MARK : Nat := evCode 6 0x0E 4

end Sys2Proof.Machine
end

