-- ==== Sys2Proof/Machine/Codec.lean ====
section
/-! DEFINITION. The arithmetic of the formats: checksums, the guard, the scrambler, the LDPC parity, the zone table and
sector layout, the stripe-row parity field, and the smaller roundings the chapters share. -/

namespace Sys2Proof.Machine

/-- One step of a reflected CRC-32 with polynomial 0x82F63B78 (CRC32C). -/
def crc32cBit (c : Nat) : Nat := if c % 2 = 1 then Nat.xor (c / 2) 0x82F63B78 else c / 2
/-- CRC32C register after one more byte. -/
def crc32cByte (c b : Nat) : Nat :=
  (List.range 8).foldl (fun x _ => crc32cBit x) (Nat.xor c (b % 256))
/-- CRC32C of a byte list. -/
def crc32c (bs : List Nat) : Nat := Nat.xor (bs.foldl crc32cByte 0xFFFFFFFF) 0xFFFFFFFF

/-- One step of CRC-16 with polynomial 0x8BB7, not reflected (R260). -/
def crc16Bit (c : Nat) : Nat :=
  if c / 0x8000 % 2 = 1 then Nat.xor (c * 2 % 0x10000) 0x8BB7 else c * 2 % 0x10000
/-- CRC-16 register after one more byte (R260). -/
def crc16Byte (c b : Nat) : Nat :=
  (List.range 8).foldl (fun x _ => crc16Bit x) (Nat.xor c (b % 256 * 256))
/-- The guard of R260: initial value 0, no final exclusive-or. -/
def crc16 (bs : List Nat) : Nat := bs.foldl crc16Byte 0

/-- One step of CRC-8 with polynomial 0x07 (R46). -/
def crc8Bit (c : Nat) : Nat := if c / 128 % 2 = 1 then Nat.xor (c * 2 % 256) 0x07 else c * 2 % 256
/-- CRC-8 of a byte list, initial value 0 (R46). -/
def crc8 (bs : List Nat) : Nat :=
  bs.foldl (fun c b => (List.range 8).foldl (fun x _ => crc8Bit x) (Nat.xor c (b % 256))) 0

/-- The 32 bits of a preamp write frame (R46). -/
def preampWriteFrame (addr data : Nat) : Nat :=
  let b := [addr % 128, data / 256 % 256, data % 256]
  addr % 128 * 2 ^ 24 + data % 65536 * 256 + crc8 b

/-- Little-endian bytes of a number. -/
def leBytes : Nat → Nat → List Nat
  | 0, _ => []
  | n + 1, v => v % 256 :: leBytes n (v / 256)

/-- The number little-endian bytes spell. -/
def leVal : List Nat → Nat
  | [] => 0
  | b :: bs => b % 256 + 256 * leVal bs

/-- Big-endian bytes of a number. -/
def beBytes (n v : Nat) : List Nat := (leBytes n v).reverse

/-- The user bytes of a block, in order. -/
def blockBytes (b : Block) : List Nat := (List.range 4096).map fun i => (b.toNat >>> (8 * i)) % 256

/-- The guard over a block's user bytes (R260). -/
def blockGuard (b : Block) : Nat := crc16 (blockBytes b)

/-- The 16 seal bytes of a block (R260). -/
def sealBytes (x : Sealed) : List Nat :=
  beBytes 2 x.pi.guard ++ beBytes 2 x.pi.app ++ beBytes 4 x.pi.ref ++ leBytes 4 x.row ++ leBytes 3 x.gen ++
    [x.q % 64 + (if x.parity then 64 else 0) + (if x.lost then 128 else 0)]

/-- R261: generation a is newer than generation b. -/
def genNewer (a b : Nat) : Bool :=
  let d := (a + 2 ^ 24 - b % 2 ^ 24) % 2 ^ 24
  1 ≤ d && d ≤ 2 ^ 23 - 1

/-! ## The codeword (R132, R158 to R160) -/

/-- A byte with its bits in the other order. -/
def byteRev (b : Nat) : Nat := (List.range 8).foldl (fun a i => if b.testBit (7 - i) then a + 2 ^ i else a) 0

/-- A block from its user bytes. -/
def blockOf (bs : List Nat) : Block := BitVec.ofNat 32768 (leVal bs)

/-- The information bits of a sealed block: user bytes then seal bytes, each most significant bit first, bit i of the
codeword at bit i (R132). -/
def infoBits (x : Sealed) : BitVec 32896 := BitVec.ofNat 32896 (leVal ((blockBytes x.data ++ sealBytes x).map byteRev))

/-- The 16 seal bytes read back (R260). -/
def readSeal (data : Block) (b : List Nat) : Sealed :=
  let f := b.getD 15 0
  { data := data
    pi := ⟨leVal (b.take 2).reverse, leVal ((b.drop 2).take 2).reverse, leVal ((b.drop 4).take 4).reverse⟩
    row := leVal ((b.drop 8).take 4), gen := leVal ((b.drop 12).take 3), q := f % 64
    parity := f.testBit 6, lost := f.testBit 7 }

/-- The sealed block of information bits (R132, R260). -/
def readInfo (i : BitVec 32896) : Sealed :=
  let bytes := (leBytes 4112 i.toNat).map byteRev
  readSeal (blockOf (bytes.take 4096)) (bytes.drop 4096)

/-- The scrambler's seed from target and sector number (R132). -/
def scrambleSeed (target n : Nat) : Nat := (target / 1024 * 1031 + n) % 32767 + 1

/-- One step of the scrambler: its output bit and its next state (R132). -/
def scrambleNext (st : Nat) : Bool × Nat :=
  let p := (st.testBit 14) != (st.testBit 13)
  (p, ((st * 2) + p.toNat) % 0x8000)

/-- The scrambler's output bits for a track and sector, bit i at bit i (R132): it does not depend on the data. -/
def scrambleBits (target n : Nat) : BitVec 32896 :=
  BitVec.ofNat 32896 ((List.range 32896).foldl (fun (acc : Nat × Nat) i =>
    let (p, st) := scrambleNext acc.2
    (if p then acc.1 + 2 ^ i else acc.1, st)) (0, scrambleSeed target n)).1

/-- The scrambled information bits (R132). -/
def scrambled (x : Sealed) (target n : Nat) : BitVec 32896 := infoBits x ^^^ scrambleBits target n

/-- R159: block row of circulant k of information block column j. -/
def ldpcRow (j k : Nat) : Nat := (j + k * (1 + j % 8)) % 33
/-- R159: shift of circulant k of information block column j. -/
def ldpcShift (j k : Nat) : Nat := (37 * (k + 1) * j + 53 * k) % 128

/-- Block column j of the information bits (R158). -/
def ldpcColumn (info : Nat) (j : Nat) : BitVec 128 := BitVec.ofNat 128 (info >>> (128 * j))

/-- The accumulated checks of block row r over the information bits (R160). -/
def ldpcAcc (info : Nat) (r : Nat) : BitVec 128 :=
  (List.range 257).foldl (fun a j =>
    (List.range 4).foldl (fun b k =>
      if ldpcRow j k = r then b ^^^ (ldpcColumn info j).rotateRight (ldpcShift j k) else b) a) 0

/-- The parity bits of R160, block row r at bits 128·r. -/
def ldpcParity (info : Nat) : Nat :=
  ((List.range 33).foldl (fun (acc : Nat × BitVec 128) r =>
    let p := ldpcAcc info r ^^^ acc.2
    (acc.1 + p.toNat * 2 ^ (128 * r), p)) (0, 0)).1

/-- The 37,120 codeword bits of a sealed block on a track, the parity bits above the information bits (R132, R158, R160). -/
def codeword (x : Sealed) (target n : Nat) : BitVec 37120 :=
  let i := scrambled x target n
  (BitVec.ofNat 4224 (ldpcParity i.toNat) ++ i : BitVec (4224 + 32896))

/-- The scrambled information bits of a codeword. -/
def codeInfo (c : BitVec 37120) : BitVec 32896 := c.extractLsb' 0 32896

/-- Whether a word satisfies all 4,224 checks (R158 to R160): its parity bits are those of its information bits, since block
row r of the parity columns holds only bits r and r − 1. -/
def ldpcHolds (c : BitVec 37120) : Bool := c.extractLsb' 32896 4224 = BitVec.ofNat 4224 (ldpcParity (codeInfo c).toNat)

/-- The sealed block of hard decisions that satisfy every check, descrambled for their track and sector (R132, R164); none
where a check fails. -/
def decoded (c : BitVec 37120) (target n : Nat) : Option Sealed :=
  if ldpcHolds c then some (readInfo (codeInfo c ^^^ scrambleBits target n)) else none

/-! ## Recording zones and the sector layout (R127 to R134) -/

/-- Rounded quotient of naturals. -/
def roundDiv (a b : Nat) : Nat := (2 * a + b) / (2 * b)
/-- Rounded-up quotient of naturals. -/
def ceilDiv (a b : Nat) : Nat := (a + b - 1) / b

/-- B_z: channel bits in each wedge period (R128). -/
def zoneBits (z : Nat) : Nat := 65104 - roundDiv (33203 * z) 31
/-- O_z: first bit of a data fragment (R133). -/
def fragFirst (z : Nat) : Nat := ceilDiv (zoneBits z * 496) 8192
/-- Last bit of a data fragment, B_z − E_z − 1 (R133). -/
def fragLast (z : Nat) : Nat := zoneBits z - ceilDiv (zoneBits z * 8) 8192 - 1

/-- R127: recording zone of a servo track, of N. -/
def recZone (st N : Nat) : Nat :=
  (((List.range 32).filter fun z => z * N / 32 ≤ st).length - 1)

/-- Where a sector's D2 and pad end, from wedge w and bit p (R133); none when the track ends first. -/
def placeRest (last first : Nat) : Nat → Nat → Nat → Nat → Option (Nat × Nat)
  | 0, _, _, _ => none
  | fuel + 1, w, p, rest =>
    if rest = 0 then some (w, p)
    else
      let room := last - p + 1
      if rest ≤ room then some (w, p + rest)
      else if rest - room ≤ 48 then some (w, last + 1)
      else if w + 1 = 640 then none
      else placeRest last first fuel (w + 1) (first + 64) (rest - room)

/-- The starts of the sectors of a track of recording zone z, in track order (R133). -/
def sectorStartsFrom (z : Nat) : Nat → Nat → Nat → List (Nat × Nat)
  | 0, _, _ => []
  | fuel + 1, w, p =>
    let last := fragLast z
    let first := fragFirst z
    let wp := if last - p + 1 < 1296 then (w + 1, first) else (w, p)
    if wp.1 = 640 then []
    else match placeRest last first 4 wp.1 (wp.2 + 1232) 36144 with
      | some (w', p') => wp :: sectorStartsFrom z fuel w' p'
      | none => []

/-- The starts of the sectors of a track of recording zone z (R133). -/
def sectorStarts (z : Nat) : List (Nat × Nat) := sectorStartsFrom z 1100 0 (fragFirst z)

/-- S_z: the number of sectors of a track of recording zone z (R134). -/
def sectorsPerTrack (z : Nat) : Nat := (sectorStarts z).length

/-- The wedge, first bit and length of the data fragments a sector's bits lie in, from wedge w and bit p; pad that would
spill is shortened (R133). -/
def fragsFrom (last first : Nat) : Nat → Nat → Nat → Nat → List (Nat × Nat × Nat)
  | 0, _, _, _ => []
  | fuel + 1, w, p, rest =>
    let room := last - p + 1
    if rest ≤ room then [(w, p, rest)]
    else if rest - room ≤ 48 then [(w, p, room)]
    else (w, p, room) :: fragsFrom last first fuel (w + 1) (first + 64) (rest - room)

/-- The data fragments of sector n of a track of recording zone z (R133). -/
def sectorFrags (z n : Nat) : List (Nat × Nat × Nat) :=
  match (sectorStarts z)[n]? with
  | some (w, p) => fragsFrom (fragLast z) (fragFirst z) 4 w p 37376
  | none => []

/-! ## The sector on the medium (R131, R150) -/

/-- Sync marks of R131. -/
def sm1Mark : Nat := 0x5F1DA4C3
def sm2Mark : Nat := 0x9B0E47B5

/-- The low bits of a number in the order they are written, most significant first: bit 0 of the result comes first. -/
def msbFirst (w v : Nat) : Nat := (List.range w).foldl (fun a i => if v.testBit (w - 1 - i) then a + 2 ^ i else a) 0

/-- 0b1100 repeated n times, first bit at bit 0 (R131). -/
def preambleBits (n : Nat) : Nat := (List.range n).foldl (fun a i => a + 3 * 2 ^ (4 * i)) 0

/-- The 37,376 channel bits of a sector, bit i at position i of R131. -/
def sectorBits (code : BitVec 37120) : BitVec 37376 :=
  BitVec.ofNat 37376 (preambleBits 36 + msbFirst 32 sm1Mark * 2 ^ 144 + code.toNat % 2 ^ 1024 * 2 ^ 176 +
    msbFirst 32 sm2Mark * 2 ^ 1200 + code.toNat / 2 ^ 1024 * 2 ^ 1232 + preambleBits 12 * 2 ^ 37328)

/-- Pitch of a density tier in 1/1,024 ST; 5 is the conventional band (R130). -/
def tierPitch (t : Nat) : Nat := [1024, 1089, 1164, 1249, 1347, 1280].getD t 1024

/-! ## The field of the stripe parity (R259): bytes modulo x⁸ + x⁴ + x³ + x² + 1 -/

/-- Multiplication by x in the field. -/
def gfX (a : Nat) : Nat := if a < 128 then 2 * a else Nat.xor (2 * a % 256) 0x1D
/-- Product in the field. -/
def gfMul (a b : Nat) : Nat :=
  ((List.range 8).foldl (fun (acc : Nat × Nat) i =>
    (if b.testBit i then Nat.xor acc.1 acc.2 else acc.1, gfX acc.2)) (0, a % 256)).1
/-- Power in the field. -/
def gfPow (a : Nat) : Nat → Nat
  | 0 => 1
  | n + 1 => gfMul a (gfPow a n)
/-- Inverse in the field; 0 for 0. -/
def gfInv (a : Nat) : Nat := gfPow a 254

/-! ## Integers -/

/-- Clamp of an integer. -/
def clampI (lo hi v : Int) : Int := max lo (min hi v)
/-- Two's complement image of an integer in w bits. -/
def toBits (w : Nat) (v : Int) : Nat := (v % (2 ^ w : Int)).toNat
/-- The integer a two's complement image of w bits stands for. -/
def ofBits (w n : Nat) : Int :=
  if n % 2 ^ w < 2 ^ (w - 1) then ((n % 2 ^ w : Nat) : Int) else ((n % 2 ^ w : Nat) : Int) - 2 ^ w
/-- Quotient rounded half away from zero, for a positive divisor (R94). -/
def roundAway (a : Int) (b : Nat) : Int :=
  if 0 ≤ a then (2 * a + b) / (2 * b) else -((2 * (-a) + b) / (2 * b))
/-- R150: whole bits of advance, whether the falling bit clock launches the edge, and the delay needed, in 1/640 ps times
the channel rate in units of 1/600 Hz. `ps` is LAUNCH_PS, `rate` the channel rate times 600 and `e` the precompensation in
1/64 bit. -/
def edgeDelay (ps : Int) (rate e : Nat) : Nat × Bool × Int :=
  let bit : Int := 64 * 10 ^ 12 * 600
  let le := ps * rate * 64 + e * (10 ^ 12 * 600)
  let a := le / bit + 1
  let d := a * bit - le
  if bit < 2 * d then (a.toNat, true, 10 * (d - bit / 2)) else (a.toNat, false, 10 * d)

/-- The usable tap whose delay, in 1/560 ps, is nearest the delay needed (R150). -/
def nearestTap (usable : Nat → Bool) (delay : Nat → Int) (rate : Nat) (need : Int) : Nat :=
  (((List.range 160).filter usable).foldl (fun (b : Option (Nat × Nat)) k =>
    let d := (delay k * 64 * rate - 56 * need).natAbs
    match b with
    | some (j, e) => if d < e then some (k, d) else some (j, e)
    | none => some (k, d)) none).elim 0 (·.1)

/-- The median of a list of integers, doubled so that it is whole: middle value twice, or the two middle values' sum. -/
def median2 (l : List Int) : Int :=
  let s := l.mergeSort (fun a b => a ≤ b)
  let n := s.length
  if n % 2 = 1 then 2 * s.getD (n / 2) 0 else s.getD (n / 2 - 1) 0 + s.getD (n / 2) 0

end Sys2Proof.Machine
end

