-- ==== Sys2Proof/Machine/IdMem.lean ====
section
/-! DEFINITION. What the bytes of an HDA's ID memory say (R50 to R53): the factory area, and the two copies of the module area
with their byte image. -/

namespace Sys2Proof.Machine

/-- Bytes padded with zeros to a length. -/
def padTo (n : Nat) (l : List Nat) : List Nat := l ++ List.replicate (n - l.length) 0

/-- n bytes of an area from an offset; a byte beyond those listed is erased, 0xFF. -/
def areaBytes (bs : List Nat) (off n : Nat) : List Nat :=
  let x := (bs.drop off).take n
  x ++ List.replicate (n - x.length) 0xFF

/-- A little-endian field (R50). -/
def idField (bs : List Nat) (off n : Nat) : Nat := leVal (areaBytes bs off n)

/-- An area is sound: its magic, its format version 1, and CRC32C over what precedes its last four bytes (R51, R52). -/
def areaSound (magic : List Nat) (size : Nat) (bs : List Nat) : Bool :=
  areaBytes bs 0 4 = magic && idField bs 4 2 = 1 && idField bs (size - 4) 4 = crc32c (areaBytes bs 0 (size - 4))

/-- "HDID" and "MOAR". -/
def magicFactory : List Nat := [0x48, 0x44, 0x49, 0x44]
def magicModule : List Nat := [0x4D, 0x4F, 0x41, 0x52]

/-- n two-byte fields from an offset. -/
def idList (bs : List Nat) (off n : Nat) : List Nat := (List.range n).map fun i => idField bs (off + 2 * i) 2

/-- The factory area (R51). -/
def readFactory (bs : List Nat) : Factory :=
  { sound := areaSound magicFactory 0x4000 bs
    assistKind := idField bs 6 1
    polePairs := idField bs 7 1
    wedges := idField bs 8 2
    maxSpeed := idField bs 0xA 2
    cyl := idField bs 0xC 4
    serial := areaBytes bs 0x10 24
    made := idField bs 0x28 4
    ident := [idField bs 0x2C 2, idField bs 0x2E 2]
    phaseRes := idField bs 0x30 2
    vcmRes := [idField bs 0x32 2, idField bs 0x36 2]
    vcmInd := [idField bs 0x34 2, idField bs 0x38 2]
    upGain := idField bs 0x3A 2
    loopPs := idField bs 0x3C 2
    upCap := idList bs 0x40 20
    rdrRes := idList bs 0x68 20
    assist := (List.range 20).map fun h => ⟨idField bs (0x90 + 8 * h) 2, idField bs (0x92 + 8 * h) 2, idField bs (0x94 + 8 * h) 2,
      idField bs (0x96 + 8 * h) 2⟩ }

/-- A trim record of n bytes at an offset, by the bytes that are not 0. -/
def readTrim (bs : List Nat) (off n : Nat) : Trim :=
  (areaBytes bs off n).zipIdx.filterMap fun e => if e.1 = 0 then none else some (e.2, e.1)

/-- A copy of the module area (R52). -/
def readCopy (bs : List Nat) : ModCopy :=
  { valid := areaSound magicModule 0x6000 bs
    seq := idField bs 8 4
    writer := areaBytes bs 0xC 24
    opSec := idField bs 0x24 8
    heads := (List.range 20).map fun h => (h, readTrim bs (0x40 + 512 * h) 512)
    acts := (List.range 2).map fun a => (a, readTrim bs (0x2840 + 256 * a) 256)
    spin := readTrim bs 0x2A40 128
    rets := (List.range 64).filterMap fun i =>
      let o := 0x2AC0 + 32 * i
      if idField bs o 1 = 0 then none
      else some ⟨idField bs o 1, idField bs (o + 1) 1, idField bs (o + 2) 2, idField bs (o + 4) 8, idField bs (o + 12) 4⟩ }

/-- The bytes of a trim record. -/
def trimBytes (t : Trim) (n : Nat) : List Nat := (List.range n).map fun i => ((t.find? fun e => e.1 = i).elim 0 (·.2)) % 256

/-- The bytes of a retirement entry (R52). -/
def retBytes (r : IdRet) : List Nat :=
  [r.kind % 256, r.index % 256] ++ leBytes 2 r.reason ++ leBytes 8 r.opSec ++ leBytes 4 r.pcycle ++ List.replicate 16 0

/-- The byte image of a copy of the module area before its CRC32C; reserved bytes hold 0, the reserved area 0xFF (R52). -/
def copyBody (c : ModCopy) : List Nat :=
  let trim (l : List (Nat × Trim)) (k n : Nat) : List Nat := trimBytes ((l.find? fun e => e.1 = k).elim [] (·.2)) n
  let rets := (c.rets.take 64).flatMap retBytes
  magicModule ++ [1, 0, 0, 0] ++ leBytes 4 c.seq ++ (c.writer ++ List.replicate 24 0).take 24 ++ leBytes 8 c.opSec ++
    List.replicate 20 0 ++ (List.range 20).flatMap (fun h => trim c.heads h 512) ++
    (List.range 2).flatMap (fun a => trim c.acts a 256) ++ trimBytes c.spin 128 ++
    (rets ++ List.replicate (2048 - rets.length) 0) ++ List.replicate 11580 0xFF

/-- A copy of the module area with its CRC32C. -/
def copyBytes (c : ModCopy) : List Nat := copyBody c ++ leBytes 4 (crc32c (copyBody c))

/-- The bytes of a factory area before its CRC32C (R51). -/
def factoryBody (f : Factory) : List Nat :=
  let two (l : List Nat) : List Nat := l.flatMap (leBytes 2)
  let h := magicFactory ++ [1, 0, f.assistKind % 256, f.polePairs % 256] ++ leBytes 2 f.wedges ++ leBytes 2 f.maxSpeed ++ leBytes 4 f.cyl ++
    f.serial ++ leBytes 4 f.made ++ two [f.ident.getD 0 0, f.ident.getD 1 0, f.phaseRes, f.vcmRes.getD 0 0, f.vcmInd.getD 0 0,
      f.vcmRes.getD 1 0, f.vcmInd.getD 1 0, f.upGain, f.loopPs, 0xFFFF] ++ two f.upCap ++ two f.rdrRes ++
    f.assist.flatMap fun x => two [x.a, x.b, x.c, x.d]
  h ++ List.replicate (0x3FFC - h.length) 0xFF

/-- The bytes of a factory area with its CRC32C. -/
def factoryBytes (f : Factory) : List Nat := factoryBody f ++ leBytes 4 (crc32c (factoryBody f))

end Sys2Proof.Machine

namespace Sys2Proof

/-- What an HDA's ID memory says (R51, R52). -/
def Hda.factory (h : Hda) : Factory := Machine.readFactory h.fac
def Hda.copyA (h : Hda) : ModCopy := Machine.readCopy h.areaA
def Hda.copyB (h : Hda) : ModCopy := Machine.readCopy h.areaB

end Sys2Proof
end

