-- ==== Sys2Proof/Config.lean ====
section
/-! DEFINITION. What one module fixes, and the values the spec leaves open. -/

namespace Sys2Proof

/-- The free values: nothing constrains them. A step that meets a value the spec leaves open takes the next of them
(log entry 1). -/
opaque Config.free : Nat → Nat

/-- Bytes of the head trim record as the ROM class defaults give them, by offset (R139, R157, R420), and under 512 on the
comparator assignment that goes with them: the spec gives no default its value (log entry 76). -/
opaque Config.classTrim : Nat → Nat

/-- Records the map-delta journal of the vault holds beside its first (R244): the spec gives no number (log entry 22). -/
opaque Config.journalMore : Nat

/-- Records the map-delta journal of the vault holds (R244): at least one (log entry 22). -/
def Config.journalCap : Nat := Config.journalMore + 1

/-- Content bytes of a map-delta record by its sequence number and offset, of the kinds whose layout no rule gives (R242, log entry
93). -/
opaque Config.mapByte : Nat → Nat → Nat

/-- The window a session is given while R42 paces its intake, by its number, the SEQ of the frame that carries it and the module time;
and the DSCP of what MP sends, which R285 does not give (log entry 1). -/
opaque Config.paced : Nat → Nat → Nat → Nat
opaque Config.mpDscp : Nat

/-- Mask ROM words by class (0 hob, 1 flue) and address: R388 says the manual does not give them (log entry 25). -/
opaque Config.rom : Nat → Nat → BitVec 128

/-- The nine ECC bits stored beside a control store word: R364 calls the code internal (log entry 25). -/
opaque Config.ecc : BitVec 128 → BitVec 9

/-- Whether a signature is the ECDSA P-384 signature of bytes under the public key of an index (R379, R429): the keys are in a
mask ROM the spec does not give (log entry 25). -/
opaque Config.sigOk : Nat → List Nat → List Nat → Bool

end Sys2Proof
end

