-- ==== Sys2Proof/Machine/RegMap.lean ====
section
/-! DEFINITION. The register map: every register of the module (R478), each field with its place, access type (R15),
reset value, survival class (R17) and legal values. Rows are written from the register tables of the chapters. -/

namespace Sys2Proof.Machine

/-- A field of a register: the register's byte address, the field's lowest bit, its width and its reset value. -/
structure Fld where
  addr : Nat
  lo : Nat
  w : Nat
  rst : Nat
  deriving DecidableEq, Repr

/-- The place of a field in the register file: no two fields share it. -/
def Fld.key (f : Fld) : Nat := 32 * f.addr + f.lo

/-- Access types of R15. -/
inductive Acc where
  | ro | rw | w1c | wo | rc
  deriving DecidableEq, Repr

/-- Survival classes of R17; `none` where the Keeps column holds a dash. -/
inductive Keeps where
  | k | v | s | p | none
  deriving DecidableEq, Repr

/-- A field with its access type, its survival class and the ranges of its legal values (none listed: every value). -/
structure FSpec where
  fld : Fld
  acc : Acc
  keeps : Keeps
  legal : List (Nat × Nat)
  deriving DecidableEq, Repr

/-- One row of the register map: a register or an array of them. `dims` gives count and stride of each index, outermost
first; `fields` the fields at given indices; `snap` tells a DATA register of a snapshot (R483). -/
structure RegRow where
  base : Nat
  dims : List (Nat × Nat)
  snap : Bool
  fields : List Nat → List FSpec

/-- The indices of a register address from its offset, or none where no register lies there. -/
def indices : List (Nat × Nat) → Nat → Option (List Nat)
  | [], off => if off = 0 then some [] else none
  | (count, stride) :: rest, off =>
    if off / stride < count then (indices rest (off % stride)).map (fun is => off / stride :: is) else none

/-- THM_LIMIT[c].WARN at reset: the WARN column of R406. -/
def thmWarn (c : Nat) : Nat := [100, 85, 55, 95, 70].getD c 0
/-- THM_LIMIT[c].THROTTLE at reset (R406). -/
def thmThrottle (c : Nat) : Nat := [108, 90, 60, 105, 80].getD c 0
/-- THM_LIMIT[c].SHUTDOWN at reset (R406). -/
def thmShutdown (c : Nat) : Nat := [118, 100, 70, 115, 90].getD c 0
/-- THM_LIMIT[c].HYST at reset (R406). -/
def thmHyst (c : Nat) : Nat := [6, 4, 3, 5, 5].getD c 0
/-- DEC_CLASS[c].MAX_ITER at reset (R172, R188). -/
def decMaxIter (c : Nat) : Nat := [12, 20, 40, 24].getD c 0
/-- DEC_CLASS[c].FLOOR_ITER at reset (R172, R188). -/
def decFloorIter (c : Nat) : Nat := [4, 6, 8, 3].getD c 0
/-- DEC_CLASS[c].HOLD at reset, in units of 10 µs (R172, R188). -/
def decHold (c : Nat) : Nat := [20, 100, 500, 2000].getD c 0
/-- DAMP_CFG1[L].CLAMP at reset by loop class (R120, R126); thermal loops have no value in the spec (log entry 5). -/
def dampClamp (L : Nat) : Nat :=
  if L < 640 then 32000 else if L < 704 then 2500 else if L < 768 then 0 else 10000
/-- Low half of SPIN_ADV word i at reset (R68). -/
def spinAdvLo (i : Nat) : Nat := [0x003C, 0x192C, 0x35E0, 0x5A76].getD i 0
/-- High half of SPIN_ADV word i at reset (R68). -/
def spinAdvHi (i : Nat) : Nat := [0x0CB4, 0x29A4, 0x421C, 0x72D0].getD i 0
/-- CAL_INTERVAL[k].HOURS at reset (R413). -/
def calHours (k : Nat) : Nat := [168, 168, 168, 72, 720, 24, 720].getD k 0
/-- CAL_INTERVAL[k].TEMP at reset (R413). -/
def calTemp (k : Nat) : Nat := [10, 0, 0, 15, 0, 0, 0].getD k 0

-- 18_register_map.md
/-- Address of ID_IDCODE (R487). -/
@[simp] abbrev A.ID_IDCODE : Nat := 0x0
/-- ID_IDCODE.ONE [0:0], RO, reset 1, keeps - (R487). -/
abbrev R.ID_IDCODE_ONE : Fld := ⟨A.ID_IDCODE, 0, 1, 1⟩
/-- ID_IDCODE.MFR [11:1], RO, reset 0x325, keeps - (R487). -/
abbrev R.ID_IDCODE_MFR : Fld := ⟨A.ID_IDCODE, 1, 11, 0x325⟩
/-- ID_IDCODE.PART [27:12], RO, reset 0x8032, keeps - (R487). -/
abbrev R.ID_IDCODE_PART : Fld := ⟨A.ID_IDCODE, 12, 16, 0x8032⟩
/-- ID_IDCODE.VERSION [31:28], RO, reset 1, keeps - (R487). -/
abbrev R.ID_IDCODE_VERSION : Fld := ⟨A.ID_IDCODE, 28, 4, 1⟩
/-- Address of ID_REVISION (R487). -/
@[simp] abbrev A.ID_REVISION : Nat := 0x4
/-- ID_REVISION.LETTER [7:0], RO, reset 0x41, keeps - (R487). -/
abbrev R.ID_REVISION_LETTER : Fld := ⟨A.ID_REVISION, 0, 8, 0x41⟩
/-- ID_REVISION.DIGIT [15:8], RO, reset 0x31, keeps - (R487). -/
abbrev R.ID_REVISION_DIGIT : Fld := ⟨A.ID_REVISION, 8, 8, 0x31⟩
/-- ID_REVISION.STEPPING [23:16], RO, reset 1, keeps - (R487). -/
abbrev R.ID_REVISION_STEPPING : Fld := ⟨A.ID_REVISION, 16, 8, 1⟩
/-- ID_REVISION.BOARD [31:24], RO, reset 1, keeps - (R487). -/
abbrev R.ID_REVISION_BOARD : Fld := ⟨A.ID_REVISION, 24, 8, 1⟩
/-- Address of ID_SERIAL (R487). -/
@[simp] abbrev A.ID_SERIAL (k : Nat) : Nat := 0x10 + k * 0x4
/-- ID_SERIAL.TEXT [31:0], RO, reset 0x20202020, keeps - (R487). -/
abbrev R.ID_SERIAL_TEXT (k : Nat) : Fld := ⟨A.ID_SERIAL k, 0, 32, 0x20202020⟩
/-- Address of ID_MAC_LO (R487). -/
@[simp] abbrev A.ID_MAC_LO : Nat := 0x28
/-- ID_MAC_LO.MAC [31:0], RO, reset 0, keeps - (R487). -/
abbrev R.ID_MAC_LO_MAC : Fld := ⟨A.ID_MAC_LO, 0, 32, 0⟩
/-- Address of ID_MAC_HI (R487). -/
@[simp] abbrev A.ID_MAC_HI : Nat := 0x2C
/-- ID_MAC_HI.MAC [15:0], RO, reset 0, keeps - (R487). -/
abbrev R.ID_MAC_HI_MAC : Fld := ⟨A.ID_MAC_HI, 0, 16, 0⟩
/-- Address of GLB_STATUS (R487). -/
@[simp] abbrev A.GLB_STATUS : Nat := 0x100
/-- GLB_STATUS.STATE [1:0], RO, reset 1, keeps V (R487). -/
abbrev R.GLB_STATUS_STATE : Fld := ⟨A.GLB_STATUS, 0, 2, 1⟩
/-- GLB_STATUS.SERVICE [2:2], RO, reset 0, keeps V (R487). -/
abbrev R.GLB_STATUS_SERVICE : Fld := ⟨A.GLB_STATUS, 2, 1, 0⟩
/-- GLB_STATUS.SCAN [3:3], RO, reset 0, keeps V (R487). -/
abbrev R.GLB_STATUS_SCAN : Fld := ⟨A.GLB_STATUS, 3, 1, 0⟩
/-- Address of GLB_SCRATCH (R487). -/
@[simp] abbrev A.GLB_SCRATCH : Nat := 0x104
/-- GLB_SCRATCH.VALUE [31:0], RW, reset 0, keeps S (R487). -/
abbrev R.GLB_SCRATCH_VALUE : Fld := ⟨A.GLB_SCRATCH, 0, 32, 0⟩
/-- Address of GLB_REFUSED (R487). -/
@[simp] abbrev A.GLB_REFUSED : Nat := 0x108
/-- GLB_REFUSED.ADDR [31:0], RO, reset 0, keeps V (R487). -/
abbrev R.GLB_REFUSED_ADDR : Fld := ⟨A.GLB_REFUSED, 0, 32, 0⟩
/-- Address of GLB_ACCESS (R487). -/
@[simp] abbrev A.GLB_ACCESS (i : Nat) : Nat := 0x110 + i * 0x4
/-- GLB_ACCESS.WRITES [31:0], RC, reset 0, keeps V (R487). -/
abbrev R.GLB_ACCESS_WRITES (i : Nat) : Fld := ⟨A.GLB_ACCESS i, 0, 32, 0⟩

-- 14_power_supply_events_and_thermal.md
/-- Address of PWR_STATUS (R412). -/
@[simp] abbrev A.PWR_STATUS : Nat := 0x10000
/-- PWR_STATUS.SUPPLY [2:0], RO, reset 0, keeps V (R412). -/
abbrev R.PWR_STATUS_SUPPLY : Fld := ⟨A.PWR_STATUS, 0, 3, 0⟩
/-- PWR_STATUS.FEED_A [3:3], RO, reset 0, keeps V (R412). -/
abbrev R.PWR_STATUS_FEED_A : Fld := ⟨A.PWR_STATUS, 3, 1, 0⟩
/-- PWR_STATUS.FEED_B [4:4], RO, reset 0, keeps V (R412). -/
abbrev R.PWR_STATUS_FEED_B : Fld := ⟨A.PWR_STATUS, 4, 1, 0⟩
/-- PWR_STATUS.FEED_A_LOST [5:5], W1C, reset 0, keeps V (R412). -/
abbrev R.PWR_STATUS_FEED_A_LOST : Fld := ⟨A.PWR_STATUS, 5, 1, 0⟩
/-- PWR_STATUS.FEED_B_LOST [6:6], W1C, reset 0, keeps V (R412). -/
abbrev R.PWR_STATUS_FEED_B_LOST : Fld := ⟨A.PWR_STATUS, 6, 1, 0⟩
/-- PWR_STATUS.DCDC_DEGRADED [7:7], RO, reset 0, keeps V (R412). -/
abbrev R.PWR_STATUS_DCDC_DEGRADED : Fld := ⟨A.PWR_STATUS, 7, 1, 0⟩
/-- PWR_STATUS.HOLDUP_LOW [8:8], RO, reset 0, keeps V (R412). -/
abbrev R.PWR_STATUS_HOLDUP_LOW : Fld := ⟨A.PWR_STATUS, 8, 1, 0⟩
/-- PWR_STATUS.RIDE_MS [15:9], RO, reset 0, keeps V (R412). -/
abbrev R.PWR_STATUS_RIDE_MS : Fld := ⟨A.PWR_STATUS, 9, 7, 0⟩
/-- Address of PWR_FEED (R412). -/
@[simp] abbrev A.PWR_FEED (f : Nat) : Nat := 0x10004 + f * 0x4
/-- PWR_FEED.VRMS [9:0], RO, reset 0, keeps V (R412). -/
abbrev R.PWR_FEED_VRMS (f : Nat) : Fld := ⟨A.PWR_FEED f, 0, 10, 0⟩
/-- PWR_FEED.FREQ [19:10], RO, reset 0, keeps V (R412). -/
abbrev R.PWR_FEED_FREQ (f : Nat) : Fld := ⟨A.PWR_FEED f, 10, 10, 0⟩
/-- PWR_FEED.POWER [29:20], RO, reset 0, keeps V (R412). -/
abbrev R.PWR_FEED_POWER (f : Nat) : Fld := ⟨A.PWR_FEED f, 20, 10, 0⟩
/-- Address of PWR_BUS (R412). -/
@[simp] abbrev A.PWR_BUS : Nat := 0x1000C
/-- PWR_BUS.BULK_V [9:0], RO, reset 0, keeps V (R412). -/
abbrev R.PWR_BUS_BULK_V : Fld := ⟨A.PWR_BUS, 0, 10, 0⟩
/-- PWR_BUS.INT_V [19:10], RO, reset 0, keeps V (R412). -/
abbrev R.PWR_BUS_INT_V : Fld := ⟨A.PWR_BUS, 10, 10, 0⟩
/-- PWR_BUS.INPUT_W [29:20], RO, reset 0, keeps V (R412). -/
abbrev R.PWR_BUS_INPUT_W : Fld := ⟨A.PWR_BUS, 20, 10, 0⟩
/-- Address of PWR_HOLDUP (R412). -/
@[simp] abbrev A.PWR_HOLDUP : Nat := 0x10010
/-- PWR_HOLDUP.CAP [11:0], RO, reset 0, keeps V (R412). -/
abbrev R.PWR_HOLDUP_CAP : Fld := ⟨A.PWR_HOLDUP, 0, 12, 0⟩
/-- PWR_HOLDUP.HOLD_LIMIT [19:12], RO, reset 0, keeps V (R412). -/
abbrev R.PWR_HOLDUP_HOLD_LIMIT : Fld := ⟨A.PWR_HOLDUP, 12, 8, 0⟩
/-- Address of PWR_CTRL (R412). -/
@[simp] abbrev A.PWR_CTRL : Nat := 0x10014
/-- PWR_CTRL.CAP_LIMIT [9:0], RW, reset 640, keeps K (R412). -/
abbrev R.PWR_CTRL_CAP_LIMIT : Fld := ⟨A.PWR_CTRL, 0, 10, 640⟩
/-- Address of PWR_CAP (R412). -/
@[simp] abbrev A.PWR_CAP : Nat := 0x10018
/-- PWR_CAP.CAP_W [9:0], RO, reset 640, keeps V (R412). -/
abbrev R.PWR_CAP_CAP_W : Fld := ⟨A.PWR_CAP, 0, 10, 640⟩
/-- PWR_CAP.ACTIONS [12:10], RO, reset 0, keeps V (R412). -/
abbrev R.PWR_CAP_ACTIONS : Fld := ⟨A.PWR_CAP, 10, 3, 0⟩
/-- PWR_CAP.CAPPED [13:13], RO, reset 0, keeps V (R412). -/
abbrev R.PWR_CAP_CAPPED : Fld := ⟨A.PWR_CAP, 13, 1, 0⟩
/-- Address of PWR_BANK (R412). -/
@[simp] abbrev A.PWR_BANK : Nat := 0x10020
/-- PWR_BANK.STATE [2:0], RO, reset 0, keeps P (R412). -/
abbrev R.PWR_BANK_STATE : Fld := ⟨A.PWR_BANK, 0, 3, 0⟩
/-- PWR_BANK.INCOMPLETE [3:3], RO, reset 0, keeps P (R412). -/
abbrev R.PWR_BANK_INCOMPLETE : Fld := ⟨A.PWR_BANK, 3, 1, 0⟩
/-- PWR_BANK.MIB [31:8], RO, reset 0, keeps P (R412). -/
abbrev R.PWR_BANK_MIB : Fld := ⟨A.PWR_BANK, 8, 24, 0⟩
/-- Address of PWR_BANK_TIME (R412). -/
@[simp] abbrev A.PWR_BANK_TIME : Nat := 0x10024
/-- PWR_BANK_TIME.BANK_MS [15:0], RO, reset 0, keeps P (R412). -/
abbrev R.PWR_BANK_TIME_BANK_MS : Fld := ⟨A.PWR_BANK_TIME, 0, 16, 0⟩
/-- PWR_BANK_TIME.RELIGHT_MS [31:16], RO, reset 0, keeps P (R412). -/
abbrev R.PWR_BANK_TIME_RELIGHT_MS : Fld := ⟨A.PWR_BANK_TIME, 16, 16, 0⟩
/-- Address of PWR_COUNT (R412). -/
@[simp] abbrev A.PWR_COUNT : Nat := 0x10028
/-- PWR_COUNT.WARNINGS [7:0], RC, reset 0, keeps P (R412). -/
abbrev R.PWR_COUNT_WARNINGS : Fld := ⟨A.PWR_COUNT, 0, 8, 0⟩
/-- PWR_COUNT.RIDE_RECOVERED [15:8], RC, reset 0, keeps P (R412). -/
abbrev R.PWR_COUNT_RIDE_RECOVERED : Fld := ⟨A.PWR_COUNT, 8, 8, 0⟩
/-- PWR_COUNT.CUTS [23:16], RC, reset 0, keeps P (R412). -/
abbrev R.PWR_COUNT_CUTS : Fld := ⟨A.PWR_COUNT, 16, 8, 0⟩
/-- PWR_COUNT.CUT_RECOVERED [31:24], RC, reset 0, keeps P (R412). -/
abbrev R.PWR_COUNT_CUT_RECOVERED : Fld := ⟨A.PWR_COUNT, 24, 8, 0⟩
/-- Address of PWR_RSV (R412). -/
@[simp] abbrev A.PWR_RSV (i : Nat) : Nat := 0x10040 + i * 0x4
/-- PWR_RSV.V0 [7:0], RO, reset 0, keeps V (R412). -/
abbrev R.PWR_RSV_V0 (i : Nat) : Fld := ⟨A.PWR_RSV i, 0, 8, 0⟩
/-- PWR_RSV.V1 [15:8], RO, reset 0, keeps V (R412). -/
abbrev R.PWR_RSV_V1 (i : Nat) : Fld := ⟨A.PWR_RSV i, 8, 8, 0⟩
/-- PWR_RSV.V2 [23:16], RO, reset 0, keeps V (R412). -/
abbrev R.PWR_RSV_V2 (i : Nat) : Fld := ⟨A.PWR_RSV i, 16, 8, 0⟩
/-- PWR_RSV.V3 [31:24], RO, reset 0, keeps V (R412). -/
abbrev R.PWR_RSV_V3 (i : Nat) : Fld := ⟨A.PWR_RSV i, 24, 8, 0⟩

-- 03_spindle_motors.md
/-- Address of SPINUP_CTRL (R91). -/
@[simp] abbrev A.SPINUP_CTRL : Nat := 0x10200
/-- SPINUP_CTRL.BUDGET [7:0], RW, reset 200, keeps K (R91). -/
abbrev R.SPINUP_CTRL_BUDGET : Fld := ⟨A.SPINUP_CTRL, 0, 8, 200⟩
/-- SPINUP_CTRL.GROUP_GAP [15:8], RW, reset 40, keeps K (R91). -/
abbrev R.SPINUP_CTRL_GROUP_GAP : Fld := ⟨A.SPINUP_CTRL, 8, 8, 40⟩
/-- SPINUP_CTRL.GROUP [18:16], RO, reset 0, keeps V (R91). -/
abbrev R.SPINUP_CTRL_GROUP : Fld := ⟨A.SPINUP_CTRL, 16, 3, 0⟩
/-- SPINUP_CTRL.ACTIVE [19:19], RO, reset 0, keeps V (R91). -/
abbrev R.SPINUP_CTRL_ACTIVE : Fld := ⟨A.SPINUP_CTRL, 19, 1, 0⟩

-- 14_power_supply_events_and_thermal.md
/-- Address of THM_CTRL (R412). -/
@[simp] abbrev A.THM_CTRL : Nat := 0x20000
/-- THM_CTRL.FAN_MIN [6:0], RW, reset 30, keeps K (R412). -/
abbrev R.THM_CTRL_FAN_MIN : Fld := ⟨A.THM_CTRL, 0, 7, 30⟩
/-- THM_CTRL.FAN_FULL [7:7], RW, reset 0, keeps V (R412). -/
abbrev R.THM_CTRL_FAN_FULL : Fld := ⟨A.THM_CTRL, 7, 1, 0⟩
/-- Address of THM_STATUS (R412). -/
@[simp] abbrev A.THM_STATUS : Nat := 0x20004
/-- THM_STATUS.FAN_DUTY [6:0], RO, reset 100, keeps V (R412). -/
abbrev R.THM_STATUS_FAN_DUTY : Fld := ⟨A.THM_STATUS, 0, 7, 100⟩
/-- THM_STATUS.ANY_WARNING [7:7], RO, reset 0, keeps V (R412). -/
abbrev R.THM_STATUS_ANY_WARNING : Fld := ⟨A.THM_STATUS, 7, 1, 0⟩
/-- THM_STATUS.ANY_THROTTLE [8:8], RO, reset 0, keeps V (R412). -/
abbrev R.THM_STATUS_ANY_THROTTLE : Fld := ⟨A.THM_STATUS, 8, 1, 0⟩
/-- THM_STATUS.ANY_BROKEN [9:9], RO, reset 0, keeps V (R412). -/
abbrev R.THM_STATUS_ANY_BROKEN : Fld := ⟨A.THM_STATUS, 9, 1, 0⟩
/-- THM_STATUS.SHUTDOWN [10:10], RO, reset 0, keeps V (R412). -/
abbrev R.THM_STATUS_SHUTDOWN : Fld := ⟨A.THM_STATUS, 10, 1, 0⟩
/-- Address of THM_LIMIT (R412). -/
@[simp] abbrev A.THM_LIMIT (c : Nat) : Nat := 0x20010 + c * 0x4
/-- THM_LIMIT.WARN [7:0], RW, reset thmWarn, keeps K (R412). -/
abbrev R.THM_LIMIT_WARN (c : Nat) : Fld := ⟨A.THM_LIMIT c, 0, 8, thmWarn c⟩
/-- THM_LIMIT.THROTTLE [15:8], RW, reset thmThrottle, keeps K (R412). -/
abbrev R.THM_LIMIT_THROTTLE (c : Nat) : Fld := ⟨A.THM_LIMIT c, 8, 8, thmThrottle c⟩
/-- THM_LIMIT.SHUTDOWN [23:16], RW, reset thmShutdown, keeps K (R412). -/
abbrev R.THM_LIMIT_SHUTDOWN (c : Nat) : Fld := ⟨A.THM_LIMIT c, 16, 8, thmShutdown c⟩
/-- THM_LIMIT.HYST [27:24], RW, reset thmHyst, keeps K (R412). -/
abbrev R.THM_LIMIT_HYST (c : Nat) : Fld := ⟨A.THM_LIMIT c, 24, 4, thmHyst c⟩
/-- Address of THM_ZONE_SEL (R412). -/
@[simp] abbrev A.THM_ZONE_SEL : Nat := 0x20040
/-- THM_ZONE_SEL.ZONE [5:0], RW, reset 0, keeps V (R412). -/
abbrev R.THM_ZONE_SEL_ZONE : Fld := ⟨A.THM_ZONE_SEL, 0, 6, 0⟩
/-- Address of THM_ZONE_DATA (R412). -/
@[simp] abbrev A.THM_ZONE_DATA : Nat := 0x20044
/-- THM_ZONE_DATA.TEMP [9:0], RO, reset 0, keeps V (R412). -/
abbrev R.THM_ZONE_DATA_TEMP : Fld := ⟨A.THM_ZONE_DATA, 0, 10, 0⟩
/-- THM_ZONE_DATA.LEVEL [16:10], RO, reset 100, keeps V (R412). -/
abbrev R.THM_ZONE_DATA_LEVEL : Fld := ⟨A.THM_ZONE_DATA, 10, 7, 100⟩
/-- THM_ZONE_DATA.WARN [17:17], RO, reset 0, keeps V (R412). -/
abbrev R.THM_ZONE_DATA_WARN : Fld := ⟨A.THM_ZONE_DATA, 17, 1, 0⟩
/-- THM_ZONE_DATA.THROTTLE [18:18], RO, reset 0, keeps V (R412). -/
abbrev R.THM_ZONE_DATA_THROTTLE : Fld := ⟨A.THM_ZONE_DATA, 18, 1, 0⟩
/-- THM_ZONE_DATA.SHUTDOWN [19:19], RO, reset 0, keeps V (R412). -/
abbrev R.THM_ZONE_DATA_SHUTDOWN : Fld := ⟨A.THM_ZONE_DATA, 19, 1, 0⟩
/-- THM_ZONE_DATA.BROKEN [21:20], RO, reset 0, keeps V (R412). -/
abbrev R.THM_ZONE_DATA_BROKEN : Fld := ⟨A.THM_ZONE_DATA, 20, 2, 0⟩
/-- THM_ZONE_DATA.SHUTDOWNS [23:22], RO, reset 0, keeps V (R412). -/
abbrev R.THM_ZONE_DATA_SHUTDOWNS : Fld := ⟨A.THM_ZONE_DATA, 22, 2, 0⟩
/-- Address of THM_SENSOR_SEL (R412). -/
@[simp] abbrev A.THM_SENSOR_SEL : Nat := 0x20048
/-- THM_SENSOR_SEL.SENSOR [6:0], RW, reset 0, keeps V (R412). -/
abbrev R.THM_SENSOR_SEL_SENSOR : Fld := ⟨A.THM_SENSOR_SEL, 0, 7, 0⟩
/-- Address of THM_SENSOR_DATA (R412). -/
@[simp] abbrev A.THM_SENSOR_DATA : Nat := 0x2004C
/-- THM_SENSOR_DATA.TEMP [9:0], RO, reset 0, keeps V (R412). -/
abbrev R.THM_SENSOR_DATA_TEMP : Fld := ⟨A.THM_SENSOR_DATA, 0, 10, 0⟩
/-- THM_SENSOR_DATA.BROKEN [10:10], RO, reset 0, keeps V (R412). -/
abbrev R.THM_SENSOR_DATA_BROKEN : Fld := ⟨A.THM_SENSOR_DATA, 10, 1, 0⟩
/-- THM_SENSOR_DATA.CAUSE [12:11], RO, reset 0, keeps V (R412). -/
abbrev R.THM_SENSOR_DATA_CAUSE : Fld := ⟨A.THM_SENSOR_DATA, 11, 2, 0⟩

-- 18_register_map.md
/-- Address of ISL_SUMMARY (R488). -/
@[simp] abbrev A.ISL_SUMMARY : Nat := 0x30000
/-- ISL_SUMMARY.RUNNING [6:0], RO, reset 0, keeps V (R488). -/
abbrev R.ISL_SUMMARY_RUNNING : Fld := ⟨A.ISL_SUMMARY, 0, 7, 0⟩
/-- ISL_SUMMARY.RETIRED [13:7], RO, reset 0, keeps V (R488). -/
abbrev R.ISL_SUMMARY_RETIRED : Fld := ⟨A.ISL_SUMMARY, 7, 7, 0⟩
/-- Address of ISL_SEL (R488). -/
@[simp] abbrev A.ISL_SEL : Nat := 0x30010
/-- ISL_SEL.ISLAND [6:0], RW, reset 0, keeps V (R488). -/
abbrev R.ISL_SEL_ISLAND : Fld := ⟨A.ISL_SEL, 0, 7, 0⟩
/-- Address of ISL_DATA (R488). -/
@[simp] abbrev A.ISL_DATA : Nat := 0x30014
/-- ISL_DATA.STATE [1:0], RO, reset 0, keeps V (R488). -/
abbrev R.ISL_DATA_STATE : Fld := ⟨A.ISL_DATA, 0, 2, 0⟩
/-- ISL_DATA.LOCKED [2:2], RO, reset 0, keeps V (R488). -/
abbrev R.ISL_DATA_LOCKED : Fld := ⟨A.ISL_DATA, 2, 1, 0⟩
/-- ISL_DATA.MHZ [13:3], RO, reset 0, keeps V (R488). -/
abbrev R.ISL_DATA_MHZ : Fld := ⟨A.ISL_DATA, 3, 11, 0⟩
/-- ISL_DATA.STALLS [21:14], RO, reset 0, keeps V (R488). -/
abbrev R.ISL_DATA_STALLS : Fld := ⟨A.ISL_DATA, 14, 8, 0⟩
/-- ISL_DATA.CAUSE [22:22], RO, reset 0, keeps P (R488). -/
abbrev R.ISL_DATA_CAUSE : Fld := ⟨A.ISL_DATA, 22, 1, 0⟩
/-- ISL_DATA.SPARE [23:23], RO, reset 0, keeps V (R488). -/
abbrev R.ISL_DATA_SPARE : Fld := ⟨A.ISL_DATA, 23, 1, 0⟩
/-- Address of RST_MODULE (R488). -/
@[simp] abbrev A.RST_MODULE : Nat := 0x30100
/-- RST_MODULE.CONFIRM [31:0], WO, reset 0, keeps V (R488). -/
abbrev R.RST_MODULE_CONFIRM : Fld := ⟨A.RST_MODULE, 0, 32, 0⟩
/-- Address of RST_PORT (R488). -/
@[simp] abbrev A.RST_PORT : Nat := 0x30104
/-- RST_PORT.HP0 [0:0], WO, reset 0, keeps V (R488). -/
abbrev R.RST_PORT_HP0 : Fld := ⟨A.RST_PORT, 0, 1, 0⟩
/-- RST_PORT.HP1 [1:1], WO, reset 0, keeps V (R488). -/
abbrev R.RST_PORT_HP1 : Fld := ⟨A.RST_PORT, 1, 1, 0⟩
/-- Address of RST_CAUSE (R488). -/
@[simp] abbrev A.RST_CAUSE : Nat := 0x30108
/-- RST_CAUSE.MODULE [2:0], RO, reset 0, keeps S (R488). -/
abbrev R.RST_CAUSE_MODULE : Fld := ⟨A.RST_CAUSE, 0, 3, 0⟩

-- 16_kindling_startup_reset_and_selftest.md
/-- Address of KND_STATUS (R450). -/
@[simp] abbrev A.KND_STATUS : Nat := 0x40000
/-- KND_STATUS.STATE [1:0], RO, reset 0, keeps V (R450). -/
abbrev R.KND_STATUS_STATE : Fld := ⟨A.KND_STATUS, 0, 2, 0⟩
/-- KND_STATUS.CARD_PRESENT [2:2], RO, reset 0, keeps V (R450). -/
abbrev R.KND_STATUS_CARD_PRESENT : Fld := ⟨A.KND_STATUS, 2, 1, 0⟩
/-- KND_STATUS.ACTIVE_SLOT [3:3], RO, reset 0, keeps V (R450). -/
abbrev R.KND_STATUS_ACTIVE_SLOT : Fld := ⟨A.KND_STATUS, 3, 1, 0⟩
/-- KND_STATUS.FALLBACK [4:4], RO, reset 0, keeps V (R450). -/
abbrev R.KND_STATUS_FALLBACK : Fld := ⟨A.KND_STATUS, 4, 1, 0⟩
/-- KND_STATUS.LAST_FAIL [8:5], RO, reset 0, keeps V (R450). -/
abbrev R.KND_STATUS_LAST_FAIL : Fld := ⟨A.KND_STATUS, 5, 4, 0⟩
/-- Address of KND_IMAGE (R450). -/
@[simp] abbrev A.KND_IMAGE : Nat := 0x40004
/-- KND_IMAGE.VERSION [31:0], RO, reset 0, keeps V (R450). -/
abbrev R.KND_IMAGE_VERSION : Fld := ⟨A.KND_IMAGE, 0, 32, 0⟩
/-- Address of KND_SEQ (R450). -/
@[simp] abbrev A.KND_SEQ : Nat := 0x40008
/-- KND_SEQ.SEQ [31:0], RO, reset 0, keeps V (R450). -/
abbrev R.KND_SEQ_SEQ : Fld := ⟨A.KND_SEQ, 0, 32, 0⟩
/-- Address of KND_CARD (R450). -/
@[simp] abbrev A.KND_CARD : Nat := 0x4000C
/-- KND_CARD.SIZE_MIB [15:0], RO, reset 0, keeps V (R450). -/
abbrev R.KND_CARD_SIZE_MIB : Fld := ⟨A.KND_CARD, 0, 16, 0⟩
/-- KND_CARD.MODE [17:16], RO, reset 0, keeps V (R450). -/
abbrev R.KND_CARD_MODE : Fld := ⟨A.KND_CARD, 16, 2, 0⟩
/-- KND_CARD.ADDR4 [18:18], RO, reset 0, keeps V (R450). -/
abbrev R.KND_CARD_ADDR4 : Fld := ⟨A.KND_CARD, 18, 1, 0⟩
/-- Address of KND_RECORDS (R450). -/
@[simp] abbrev A.KND_RECORDS : Nat := 0x40010
/-- KND_RECORDS.APPLIED [15:0], RO, reset 0, keeps V (R450). -/
abbrev R.KND_RECORDS_APPLIED : Fld := ⟨A.KND_RECORDS, 0, 16, 0⟩
/-- KND_RECORDS.REFUSED [31:16], RO, reset 0, keeps V (R450). -/
abbrev R.KND_RECORDS_REFUSED : Fld := ⟨A.KND_RECORDS, 16, 16, 0⟩
/-- Address of KND_WRITE (R450). -/
@[simp] abbrev A.KND_WRITE : Nat := 0x40014
/-- KND_WRITE.BYTES [22:0], RO, reset 0, keeps V (R450). -/
abbrev R.KND_WRITE_BYTES : Fld := ⟨A.KND_WRITE, 0, 23, 0⟩
/-- KND_WRITE.STATE [25:23], RO, reset 0, keeps V (R450). -/
abbrev R.KND_WRITE_STATE : Fld := ⟨A.KND_WRITE, 23, 3, 0⟩
/-- KND_WRITE.FAIL_CHECK [30:26], RO, reset 0, keeps V (R450). -/
abbrev R.KND_WRITE_FAIL_CHECK : Fld := ⟨A.KND_WRITE, 26, 5, 0⟩
/-- Address of KND_REKINDLE (R450). -/
@[simp] abbrev A.KND_REKINDLE : Nat := 0x4001C
/-- KND_REKINDLE.CONFIRM [31:0], WO, reset 0, keeps V (R450). -/
abbrev R.KND_REKINDLE_CONFIRM : Fld := ⟨A.KND_REKINDLE, 0, 32, 0⟩

-- 13_hob_and_flue_engines.md
/-- Address of ENG_VER_HOB (R389). -/
@[simp] abbrev A.ENG_VER_HOB : Nat := 0x50000
/-- ENG_VER_HOB.ROM_VER [15:0], RO, reset 0, keeps - (R389). -/
abbrev R.ENG_VER_HOB_ROM_VER : Fld := ⟨A.ENG_VER_HOB, 0, 16, 0⟩
/-- ENG_VER_HOB.PATCH_VER [31:16], RO, reset 0, keeps K (R389). -/
abbrev R.ENG_VER_HOB_PATCH_VER : Fld := ⟨A.ENG_VER_HOB, 16, 16, 0⟩
/-- Address of ENG_VER_FLUE (R389). -/
@[simp] abbrev A.ENG_VER_FLUE : Nat := 0x50004
/-- ENG_VER_FLUE.ROM_VER [15:0], RO, reset 0, keeps - (R389). -/
abbrev R.ENG_VER_FLUE_ROM_VER : Fld := ⟨A.ENG_VER_FLUE, 0, 16, 0⟩
/-- ENG_VER_FLUE.PATCH_VER [31:16], RO, reset 0, keeps K (R389). -/
abbrev R.ENG_VER_FLUE_PATCH_VER : Fld := ⟨A.ENG_VER_FLUE, 16, 16, 0⟩
/-- Address of ENG_FLUE_ROLES (R389). -/
@[simp] abbrev A.ENG_FLUE_ROLES : Nat := 0x50008
/-- ENG_FLUE_ROLES.ROLE0 [1:0], RO, reset 0, keeps V (R389). -/
abbrev R.ENG_FLUE_ROLES_ROLE0 : Fld := ⟨A.ENG_FLUE_ROLES, 0, 2, 0⟩
/-- ENG_FLUE_ROLES.ROLE1 [3:2], RO, reset 1, keeps V (R389). -/
abbrev R.ENG_FLUE_ROLES_ROLE1 : Fld := ⟨A.ENG_FLUE_ROLES, 2, 2, 1⟩
/-- ENG_FLUE_ROLES.ROLE2 [5:4], RO, reset 2, keeps V (R389). -/
abbrev R.ENG_FLUE_ROLES_ROLE2 : Fld := ⟨A.ENG_FLUE_ROLES, 4, 2, 2⟩
/-- ENG_FLUE_ROLES.ROLE3 [7:6], RO, reset 3, keeps V (R389). -/
abbrev R.ENG_FLUE_ROLES_ROLE3 : Fld := ⟨A.ENG_FLUE_ROLES, 6, 2, 3⟩
/-- Address of ENG_SLOT_ADOPTED (R389). -/
@[simp] abbrev A.ENG_SLOT_ADOPTED : Nat := 0x5000C
/-- ENG_SLOT_ADOPTED.SLOT [31:0], RO, reset 0, keeps V (R389). -/
abbrev R.ENG_SLOT_ADOPTED_SLOT : Fld := ⟨A.ENG_SLOT_ADOPTED, 0, 32, 0⟩
/-- Address of ENG_SLOT_OWNER (R389). -/
@[simp] abbrev A.ENG_SLOT_OWNER (i : Nat) : Nat := 0x50010 + i * 0x4
/-- ENG_SLOT_OWNER field of slot s (R389): reset owner by R9. -/
abbrev R.ENG_SLOT_OWNER (s : Nat) : Fld := ⟨0x50010 + (s / 8) * 4, 4 * (s % 8), 4, s / 2⟩
/-- Address of ENG_CTRL (R389). -/
@[simp] abbrev A.ENG_CTRL (n : Nat) : Nat := 0x50100 + n * 0x40
/-- ENG_CTRL.FENCE [0:0], RW, reset 0, keeps V (R389). -/
abbrev R.ENG_CTRL_FENCE (n : Nat) : Fld := ⟨A.ENG_CTRL n, 0, 1, 0⟩
/-- ENG_CTRL.HALT [1:1], RW, reset 0, keeps V (R389). -/
abbrev R.ENG_CTRL_HALT (n : Nat) : Fld := ⟨A.ENG_CTRL n, 1, 1, 0⟩
/-- ENG_CTRL.STEP [2:2], WO, reset 0, keeps V (R389). -/
abbrev R.ENG_CTRL_STEP (n : Nat) : Fld := ⟨A.ENG_CTRL n, 2, 1, 0⟩
/-- ENG_CTRL.RESET [3:3], WO, reset 0, keeps V (R389). -/
abbrev R.ENG_CTRL_RESET (n : Nat) : Fld := ⟨A.ENG_CTRL n, 3, 1, 0⟩
/-- Address of ENG_STATUS (R389). -/
@[simp] abbrev A.ENG_STATUS (n : Nat) : Nat := 0x50104 + n * 0x40
/-- ENG_STATUS.STATE [2:0], RO, reset 0, keeps V (R389). -/
abbrev R.ENG_STATUS_STATE (n : Nat) : Fld := ⟨A.ENG_STATUS n, 0, 3, 0⟩
/-- ENG_STATUS.PATCH_VERIFIED [3:3], RO, reset 0, keeps V (R389). -/
abbrev R.ENG_STATUS_PATCH_VERIFIED (n : Nat) : Fld := ⟨A.ENG_STATUS n, 3, 1, 0⟩
/-- ENG_STATUS.PATCH_MODIFIED [4:4], RO, reset 0, keeps V (R389). -/
abbrev R.ENG_STATUS_PATCH_MODIFIED (n : Nat) : Fld := ⟨A.ENG_STATUS n, 4, 1, 0⟩
/-- ENG_STATUS.CAUSE [7:5], RO, reset 0, keeps P (R389). -/
abbrev R.ENG_STATUS_CAUSE (n : Nat) : Fld := ⟨A.ENG_STATUS n, 5, 3, 0⟩
/-- ENG_STATUS.DEPTH [12:8], RO, reset 0, keeps V (R389). -/
abbrev R.ENG_STATUS_DEPTH (n : Nat) : Fld := ⟨A.ENG_STATUS n, 8, 5, 0⟩
/-- ENG_STATUS.REFUSED [13:13], W1C, reset 0, keeps V (R389). -/
abbrev R.ENG_STATUS_REFUSED (n : Nat) : Fld := ⟨A.ENG_STATUS n, 13, 1, 0⟩
/-- Address of ENG_PC (R389). -/
@[simp] abbrev A.ENG_PC (n : Nat) : Nat := 0x50108 + n * 0x40
/-- ENG_PC.PC [15:0], RO, reset 0, keeps V (R389). -/
abbrev R.ENG_PC_PC (n : Nat) : Fld := ⟨A.ENG_PC n, 0, 16, 0⟩
/-- ENG_PC.FAULT_PC [31:16], RO, reset 0, keeps P (R389). -/
abbrev R.ENG_PC_FAULT_PC (n : Nat) : Fld := ⟨A.ENG_PC n, 16, 16, 0⟩
/-- Address of ENG_COUNT (R389). -/
@[simp] abbrev A.ENG_COUNT (n : Nat) : Nat := 0x5010C + n * 0x40
/-- ENG_COUNT.CS_CE [7:0], RC, reset 0, keeps V (R389). -/
abbrev R.ENG_COUNT_CS_CE (n : Nat) : Fld := ⟨A.ENG_COUNT n, 0, 8, 0⟩
/-- ENG_COUNT.DM_CE [15:8], RC, reset 0, keeps V (R389). -/
abbrev R.ENG_COUNT_DM_CE (n : Nat) : Fld := ⟨A.ENG_COUNT n, 8, 8, 0⟩
/-- ENG_COUNT.FOREIGN [23:16], RC, reset 0, keeps V (R389). -/
abbrev R.ENG_COUNT_FOREIGN (n : Nat) : Fld := ⟨A.ENG_COUNT n, 16, 8, 0⟩
/-- ENG_COUNT.STRETCHED [31:24], RC, reset 0, keeps V (R389). -/
abbrev R.ENG_COUNT_STRETCHED (n : Nat) : Fld := ⟨A.ENG_COUNT n, 24, 8, 0⟩
/-- Address of ENG_HB (R389). -/
@[simp] abbrev A.ENG_HB (n : Nat) : Nat := 0x50110 + n * 0x40
/-- ENG_HB.LAST [31:0], RO, reset 0, keeps V (R389). -/
abbrev R.ENG_HB_LAST (n : Nat) : Fld := ⟨A.ENG_HB n, 0, 32, 0⟩
/-- Address of ENG_DBG_SEL (R389). -/
@[simp] abbrev A.ENG_DBG_SEL (n : Nat) : Nat := 0x50114 + n * 0x40
/-- ENG_DBG_SEL.ITEM [19:0], RW, reset 0, keeps V (R389). -/
abbrev R.ENG_DBG_SEL_ITEM (n : Nat) : Fld := ⟨A.ENG_DBG_SEL n, 0, 20, 0⟩
/-- ENG_DBG_SEL.WR [31:31], WO, reset 0, keeps V (R389). -/
abbrev R.ENG_DBG_SEL_WR (n : Nat) : Fld := ⟨A.ENG_DBG_SEL n, 31, 1, 0⟩
/-- Address of ENG_DBG_DATA_LO (R389). -/
@[simp] abbrev A.ENG_DBG_DATA_LO (n : Nat) : Nat := 0x50118 + n * 0x40
/-- ENG_DBG_DATA_LO.VALUE [31:0], RW, reset 0, keeps V (R389). -/
abbrev R.ENG_DBG_DATA_LO_VALUE (n : Nat) : Fld := ⟨A.ENG_DBG_DATA_LO n, 0, 32, 0⟩
/-- Address of ENG_DBG_DATA_HI (R389). -/
@[simp] abbrev A.ENG_DBG_DATA_HI (n : Nat) : Nat := 0x5011C + n * 0x40
/-- ENG_DBG_DATA_HI.VALUE [31:0], RW, reset 0, keeps V (R389). -/
abbrev R.ENG_DBG_DATA_HI_VALUE (n : Nat) : Fld := ⟨A.ENG_DBG_DATA_HI n, 0, 32, 0⟩
/-- Address of ENG_CS_SEL (R389). -/
@[simp] abbrev A.ENG_CS_SEL (n : Nat) : Nat := 0x50120 + n * 0x40
/-- ENG_CS_SEL.ADDR [15:0], RW, reset 0, keeps V (R389). -/
abbrev R.ENG_CS_SEL_ADDR (n : Nat) : Fld := ⟨A.ENG_CS_SEL n, 0, 16, 0⟩
/-- ENG_CS_SEL.GO [16:16], WO, reset 0, keeps V (R389). -/
abbrev R.ENG_CS_SEL_GO (n : Nat) : Fld := ⟨A.ENG_CS_SEL n, 16, 1, 0⟩
/-- ENG_CS_SEL.WR [17:17], WO, reset 0, keeps V (R389). -/
abbrev R.ENG_CS_SEL_WR (n : Nat) : Fld := ⟨A.ENG_CS_SEL n, 17, 1, 0⟩
/-- Address of ENG_CS_DATA (R389). -/
@[simp] abbrev A.ENG_CS_DATA (n : Nat) (k : Nat) : Nat := 0x50124 + n * 0x40 + k * 0x4
/-- ENG_CS_DATA.WORD [31:0], RW, reset 0, keeps V (R389). -/
abbrev R.ENG_CS_DATA_WORD (n : Nat) (k : Nat) : Fld := ⟨A.ENG_CS_DATA n k, 0, 32, 0⟩
/-- Address of ENG_CS_ECC (R389). -/
@[simp] abbrev A.ENG_CS_ECC (n : Nat) : Nat := 0x50134 + n * 0x40
/-- ENG_CS_ECC.ECC [8:0], RO, reset 0, keeps V (R389). -/
abbrev R.ENG_CS_ECC_ECC (n : Nat) : Fld := ⟨A.ENG_CS_ECC n, 0, 9, 0⟩
/-- Address of ENG_MATCH_SEL (R389). -/
@[simp] abbrev A.ENG_MATCH_SEL (n : Nat) : Nat := 0x50138 + n * 0x40
/-- ENG_MATCH_SEL.INDEX [5:0], RW, reset 0, keeps V (R389). -/
abbrev R.ENG_MATCH_SEL_INDEX (n : Nat) : Fld := ⟨A.ENG_MATCH_SEL n, 0, 6, 0⟩
/-- ENG_MATCH_SEL.WR [6:6], WO, reset 0, keeps V (R389). -/
abbrev R.ENG_MATCH_SEL_WR (n : Nat) : Fld := ⟨A.ENG_MATCH_SEL n, 6, 1, 0⟩
/-- Address of ENG_MATCH_DATA (R389). -/
@[simp] abbrev A.ENG_MATCH_DATA (n : Nat) : Nat := 0x5013C + n * 0x40
/-- ENG_MATCH_DATA.MATCH [31:0], RW, reset 0, keeps V (R389). -/
abbrev R.ENG_MATCH_DATA_MATCH (n : Nat) : Fld := ⟨A.ENG_MATCH_DATA n, 0, 32, 0⟩

-- 10_letor_queue_protocol.md
/-- Address of LQP_CTRL (R320). -/
@[simp] abbrev A.LQP_CTRL : Nat := 0x60000
/-- LQP_CTRL.UDP_PORT [15:0], RW, reset 20486, keeps K (R320). -/
abbrev R.LQP_CTRL_UDP_PORT : Fld := ⟨A.LQP_CTRL, 0, 16, 20486⟩
/-- LQP_CTRL.KEEPALIVE [23:16], RW, reset 10, keeps K (R320). -/
abbrev R.LQP_CTRL_KEEPALIVE : Fld := ⟨A.LQP_CTRL, 16, 8, 10⟩
/-- LQP_CTRL.SESSION_HOLD [31:24], RW, reset 30, keeps K (R320). -/
abbrev R.LQP_CTRL_SESSION_HOLD : Fld := ⟨A.LQP_CTRL, 24, 8, 30⟩
/-- Address of LQP_TIMING (R320). -/
@[simp] abbrev A.LQP_TIMING : Nat := 0x60004
/-- LQP_TIMING.RTO_MIN [7:0], RW, reset 20, keeps K (R320). -/
abbrev R.LQP_TIMING_RTO_MIN : Fld := ⟨A.LQP_TIMING, 0, 8, 20⟩
/-- LQP_TIMING.ACK_DELAY [13:8], RW, reset 10, keeps K (R320). -/
abbrev R.LQP_TIMING_ACK_DELAY : Fld := ⟨A.LQP_TIMING, 8, 6, 10⟩
/-- LQP_TIMING.PATH_RETRIES [17:14], RW, reset 4, keeps K (R320). -/
abbrev R.LQP_TIMING_PATH_RETRIES : Fld := ⟨A.LQP_TIMING, 14, 4, 4⟩
/-- LQP_TIMING.RX_WINDOW [28:18], RW, reset 256, keeps K (R320). -/
abbrev R.LQP_TIMING_RX_WINDOW : Fld := ⟨A.LQP_TIMING, 18, 11, 256⟩
/-- Address of LQP_STATUS (R320). -/
@[simp] abbrev A.LQP_STATUS : Nat := 0x60008
/-- LQP_STATUS.SESSIONS [7:0], RO, reset 0, keeps V (R320). -/
abbrev R.LQP_STATUS_SESSIONS : Fld := ⟨A.LQP_STATUS, 0, 8, 0⟩
/-- LQP_STATUS.IN_FLIGHT [24:8], RO, reset 0, keeps V (R320). -/
abbrev R.LQP_STATUS_IN_FLIGHT : Fld := ⟨A.LQP_STATUS, 8, 17, 0⟩
/-- Address of LQP_DATA_TIMEOUT (R320). -/
@[simp] abbrev A.LQP_DATA_TIMEOUT : Nat := 0x6000C
/-- LQP_DATA_TIMEOUT.DATA_TIMEOUT [15:0], RW, reset 1000, keeps K (R320). -/
abbrev R.LQP_DATA_TIMEOUT_DATA_TIMEOUT : Fld := ⟨A.LQP_DATA_TIMEOUT, 0, 16, 1000⟩
/-- Address of PORT_CFG (R320). -/
@[simp] abbrev A.PORT_CFG (p : Nat) : Nat := 0x60100 + p * 0x100
/-- PORT_CFG.MODE [1:0], RW, reset 0, keeps K (R320). -/
abbrev R.PORT_CFG_MODE (p : Nat) : Fld := ⟨A.PORT_CFG p, 0, 2, 0⟩
/-- PORT_CFG.PFC_EN [2:2], RW, reset 0, keeps K (R320). -/
abbrev R.PORT_CFG_PFC_EN (p : Nat) : Fld := ⟨A.PORT_CFG p, 2, 1, 0⟩
/-- PORT_CFG.PFC_PRIO [5:3], RW, reset 3, keeps K (R320). -/
abbrev R.PORT_CFG_PFC_PRIO (p : Nat) : Fld := ⟨A.PORT_CFG p, 3, 3, 3⟩
/-- PORT_CFG.DSCP [11:6], RW, reset 26, keeps K (R320). -/
abbrev R.PORT_CFG_DSCP (p : Nat) : Fld := ⟨A.PORT_CFG p, 6, 6, 26⟩
/-- PORT_CFG.IPV4_EN [12:12], RW, reset 1, keeps K (R320). -/
abbrev R.PORT_CFG_IPV4_EN (p : Nat) : Fld := ⟨A.PORT_CFG p, 12, 1, 1⟩
/-- PORT_CFG.SLAAC_EN [13:13], RW, reset 0, keeps K (R320). -/
abbrev R.PORT_CFG_SLAAC_EN (p : Nat) : Fld := ⟨A.PORT_CFG p, 13, 1, 0⟩
/-- PORT_CFG.DISABLE [14:14], RW, reset 0, keeps V (R320). -/
abbrev R.PORT_CFG_DISABLE (p : Nat) : Fld := ⟨A.PORT_CFG p, 14, 1, 0⟩
/-- Address of PORT_STATUS (R320). -/
@[simp] abbrev A.PORT_STATUS (p : Nat) : Nat := 0x60104 + p * 0x100
/-- PORT_STATUS.LINK0 [0:0], RO, reset 0, keeps V (R320). -/
abbrev R.PORT_STATUS_LINK0 (p : Nat) : Fld := ⟨A.PORT_STATUS p, 0, 1, 0⟩
/-- PORT_STATUS.LINK1 [1:1], RO, reset 0, keeps V (R320). -/
abbrev R.PORT_STATUS_LINK1 (p : Nat) : Fld := ⟨A.PORT_STATUS p, 1, 1, 0⟩
/-- PORT_STATUS.RETIRED [2:2], RO, reset 0, keeps P (R320). -/
abbrev R.PORT_STATUS_RETIRED (p : Nat) : Fld := ⟨A.PORT_STATUS p, 2, 1, 0⟩
/-- PORT_STATUS.OSFP_W [7:3], RO, reset 0, keeps V (R320). -/
abbrev R.PORT_STATUS_OSFP_W (p : Nat) : Fld := ⟨A.PORT_STATUS p, 3, 5, 0⟩
/-- PORT_STATUS.LOW_POWER [8:8], RO, reset 0, keeps V (R320). -/
abbrev R.PORT_STATUS_LOW_POWER (p : Nat) : Fld := ⟨A.PORT_STATUS p, 8, 1, 0⟩
/-- PORT_STATUS.PATHS [15:9], RO, reset 0, keeps V (R320). -/
abbrev R.PORT_STATUS_PATHS (p : Nat) : Fld := ⟨A.PORT_STATUS p, 9, 7, 0⟩
/-- Address of PORT_VLAN (R320). -/
@[simp] abbrev A.PORT_VLAN (p : Nat) : Nat := 0x60108 + p * 0x100
/-- PORT_VLAN.VLAN_ID0 [11:0], RW, reset 0, keeps K (R320). -/
abbrev R.PORT_VLAN_VLAN_ID0 (p : Nat) : Fld := ⟨A.PORT_VLAN p, 0, 12, 0⟩
/-- PORT_VLAN.VLAN_ID1 [27:16], RW, reset 0, keeps K (R320). -/
abbrev R.PORT_VLAN_VLAN_ID1 (p : Nat) : Fld := ⟨A.PORT_VLAN p, 16, 12, 0⟩
/-- Address of PORT_COUNT (R320). -/
@[simp] abbrev A.PORT_COUNT (p : Nat) (i : Nat) : Nat := 0x60120 + p * 0x100 + i * 0x4
/-- PORT_COUNT.COUNT [31:0], RC, reset 0, keeps V (R320). -/
abbrev R.PORT_COUNT_COUNT (p : Nat) (i : Nat) : Fld := ⟨A.PORT_COUNT p i, 0, 32, 0⟩
/-- Address of PORT_ADDR_SEL (R320). -/
@[simp] abbrev A.PORT_ADDR_SEL : Nat := 0x60400
/-- PORT_ADDR_SEL.PORT [1:0], RW, reset 0, keeps V (R320). -/
abbrev R.PORT_ADDR_SEL_PORT : Fld := ⟨A.PORT_ADDR_SEL, 0, 2, 0⟩
/-- PORT_ADDR_SEL.LINK [2:2], RW, reset 0, keeps V (R320). -/
abbrev R.PORT_ADDR_SEL_LINK : Fld := ⟨A.PORT_ADDR_SEL, 2, 1, 0⟩
/-- PORT_ADDR_SEL.SLOT [5:3], RW, reset 0, keeps V (R320). -/
abbrev R.PORT_ADDR_SEL_SLOT : Fld := ⟨A.PORT_ADDR_SEL, 3, 3, 0⟩
/-- PORT_ADDR_SEL.WR [6:6], WO, reset 0, keeps V (R320). -/
abbrev R.PORT_ADDR_SEL_WR : Fld := ⟨A.PORT_ADDR_SEL, 6, 1, 0⟩
/-- Address of PORT_ADDR_DATA (R320). -/
@[simp] abbrev A.PORT_ADDR_DATA (k : Nat) : Nat := 0x60404 + k * 0x4
/-- PORT_ADDR_DATA.ADDR [31:0], RW, reset 0, keeps K (R320). -/
abbrev R.PORT_ADDR_DATA_ADDR (k : Nat) : Fld := ⟨A.PORT_ADDR_DATA k, 0, 32, 0⟩
/-- Address of PORT_ADDR_DATA4 (R320). -/
@[simp] abbrev A.PORT_ADDR_DATA4 : Nat := 0x60414
/-- PORT_ADDR_DATA4.PREFIX [7:0], RW, reset 0, keeps K (R320). -/
abbrev R.PORT_ADDR_DATA4_PREFIX : Fld := ⟨A.PORT_ADDR_DATA4, 0, 8, 0⟩
/-- PORT_ADDR_DATA4.VALID [8:8], RO, reset 0, keeps V (R320). -/
abbrev R.PORT_ADDR_DATA4_VALID : Fld := ⟨A.PORT_ADDR_DATA4, 8, 1, 0⟩
/-- PORT_ADDR_DATA4.DAD_FAILED [9:9], RO, reset 0, keeps V (R320). -/
abbrev R.PORT_ADDR_DATA4_DAD_FAILED : Fld := ⟨A.PORT_ADDR_DATA4, 9, 1, 0⟩
/-- Address of LQP_SESS_SEL (R320). -/
@[simp] abbrev A.LQP_SESS_SEL : Nat := 0x60800
/-- LQP_SESS_SEL.SESSION [15:0], RW, reset 0, keeps V (R320). -/
abbrev R.LQP_SESS_SEL_SESSION : Fld := ⟨A.LQP_SESS_SEL, 0, 16, 0⟩
/-- Address of LQP_SESS_DATA (R320). -/
@[simp] abbrev A.LQP_SESS_DATA (k : Nat) : Nat := 0x60804 + k * 0x4
/-- LQP_SESS_DATA.DATA [31:0], RO, reset 0, keeps V (R320). -/
abbrev R.LQP_SESS_DATA_DATA (k : Nat) : Fld := ⟨A.LQP_SESS_DATA k, 0, 32, 0⟩
/-- Address of VOL_KEY_SEL (R320). -/
@[simp] abbrev A.VOL_KEY_SEL : Nat := 0x60C00
/-- VOL_KEY_SEL.VOLUME [9:0], RW, reset 0, keeps V (R320). -/
abbrev R.VOL_KEY_SEL_VOLUME : Fld := ⟨A.VOL_KEY_SEL, 0, 10, 0⟩
/-- VOL_KEY_SEL.OP [11:10], WO, reset 0, keeps V (R320). -/
abbrev R.VOL_KEY_SEL_OP : Fld := ⟨A.VOL_KEY_SEL, 10, 2, 0⟩
/-- VOL_KEY_SEL.GO [12:12], WO, reset 0, keeps V (R320). -/
abbrev R.VOL_KEY_SEL_GO : Fld := ⟨A.VOL_KEY_SEL, 12, 1, 0⟩
/-- Address of VOL_KEY_DATA (R320). -/
@[simp] abbrev A.VOL_KEY_DATA (k : Nat) : Nat := 0x60C04 + k * 0x4
/-- VOL_KEY_DATA.KEY [31:0], WO, reset 0, keeps V (R320). -/
abbrev R.VOL_KEY_DATA_KEY (k : Nat) : Fld := ⟨A.VOL_KEY_DATA k, 0, 32, 0⟩
/-- Address of VOL_KEY_STATUS (R320). -/
@[simp] abbrev A.VOL_KEY_STATUS : Nat := 0x60C44
/-- VOL_KEY_STATUS.RESULT [1:0], RO, reset 0, keeps V (R320). -/
abbrev R.VOL_KEY_STATUS_RESULT : Fld := ⟨A.VOL_KEY_STATUS, 0, 2, 0⟩
/-- VOL_KEY_STATUS.LOCKED [2:2], RO, reset 0, keeps V (R320). -/
abbrev R.VOL_KEY_STATUS_LOCKED : Fld := ⟨A.VOL_KEY_STATUS, 2, 1, 0⟩
/-- VOL_KEY_STATUS.KCV_SET [3:3], RO, reset 0, keeps P (R320). -/
abbrev R.VOL_KEY_STATUS_KCV_SET : Fld := ⟨A.VOL_KEY_STATUS, 3, 1, 0⟩

-- 11_ordering_completion_and_errors.md
/-- Address of QUE_LOCK_STATUS (R341). -/
@[simp] abbrev A.QUE_LOCK_STATUS : Nat := 0x70000
/-- QUE_LOCK_STATUS.IN_USE [14:0], RO, reset 0, keeps V (R341). -/
abbrev R.QUE_LOCK_STATUS_IN_USE : Fld := ⟨A.QUE_LOCK_STATUS, 0, 15, 0⟩
/-- QUE_LOCK_STATUS.WAITING_ENTRY [31:15], RO, reset 0, keeps V (R341). -/
abbrev R.QUE_LOCK_STATUS_WAITING_ENTRY : Fld := ⟨A.QUE_LOCK_STATUS, 15, 17, 0⟩
/-- Address of QUE_LOCK_COUNT (R341). -/
@[simp] abbrev A.QUE_LOCK_COUNT : Nat := 0x70004
/-- QUE_LOCK_COUNT.FULL_EPISODES [15:0], RC, reset 0, keeps V (R341). -/
abbrev R.QUE_LOCK_COUNT_FULL_EPISODES : Fld := ⟨A.QUE_LOCK_COUNT, 0, 16, 0⟩
/-- QUE_LOCK_COUNT.PEAK [31:16], RC, reset 0, keeps V (R341). -/
abbrev R.QUE_LOCK_COUNT_PEAK : Fld := ⟨A.QUE_LOCK_COUNT, 16, 16, 0⟩
/-- Address of QUE_ARRIVAL_LO (R341). -/
@[simp] abbrev A.QUE_ARRIVAL_LO : Nat := 0x70008
/-- QUE_ARRIVAL_LO.NEXT_LO [31:0], RO, reset 0, keeps V (R341). -/
abbrev R.QUE_ARRIVAL_LO_NEXT_LO : Fld := ⟨A.QUE_ARRIVAL_LO, 0, 32, 0⟩
/-- Address of QUE_ARRIVAL_HI (R341). -/
@[simp] abbrev A.QUE_ARRIVAL_HI : Nat := 0x7000C
/-- QUE_ARRIVAL_HI.NEXT_HI [31:0], RO, reset 0, keeps V (R341). -/
abbrev R.QUE_ARRIVAL_HI_NEXT_HI : Fld := ⟨A.QUE_ARRIVAL_HI, 0, 32, 0⟩
/-- Address of QUE_FLUSH (R341). -/
@[simp] abbrev A.QUE_FLUSH : Nat := 0x70010
/-- QUE_FLUSH.PENDING [16:0], RO, reset 0, keeps V (R341). -/
abbrev R.QUE_FLUSH_PENDING : Fld := ⟨A.QUE_FLUSH, 0, 17, 0⟩
/-- Address of QUE_SEL (R341). -/
@[simp] abbrev A.QUE_SEL : Nat := 0x70100
/-- QUE_SEL.SESSION [15:0], RW, reset 0, keeps V (R341). -/
abbrev R.QUE_SEL_SESSION : Fld := ⟨A.QUE_SEL, 0, 16, 0⟩
/-- QUE_SEL.QUEUE [21:16], RW, reset 0, keeps V (R341). -/
abbrev R.QUE_SEL_QUEUE : Fld := ⟨A.QUE_SEL, 16, 6, 0⟩
/-- Address of QUE_DATA (R341). -/
@[simp] abbrev A.QUE_DATA (k : Nat) : Nat := 0x70104 + k * 0x4
/-- QUE_DATA.DATA [31:0], RO, reset 0, keeps V (R341). -/
abbrev R.QUE_DATA_DATA (k : Nat) : Fld := ⟨A.QUE_DATA k, 0, 32, 0⟩
/-- Address of QUE_RESUME (R341). -/
@[simp] abbrev A.QUE_RESUME : Nat := 0x70110
/-- QUE_RESUME.GO [0:0], WO, reset 0, keeps V (R341). -/
abbrev R.QUE_RESUME_GO : Fld := ⟨A.QUE_RESUME, 0, 1, 0⟩
/-- QUE_RESUME.ACTION [1:1], WO, reset 0, keeps V (R341). -/
abbrev R.QUE_RESUME_ACTION : Fld := ⟨A.QUE_RESUME, 1, 1, 0⟩
/-- QUE_RESUME.RESULT [3:2], RO, reset 0, keeps V (R341). -/
abbrev R.QUE_RESUME_RESULT : Fld := ⟨A.QUE_RESUME, 2, 2, 0⟩

-- 12_buffer_memory_and_cache.md
/-- Address of CACHE_CTRL (R362). -/
@[simp] abbrev A.CACHE_CTRL : Nat := 0x80000
/-- CACHE_CTRL.EN [0:0], RW, reset 0, keeps K (R362). -/
abbrev R.CACHE_CTRL_EN : Fld := ⟨A.CACHE_CTRL, 0, 1, 0⟩
/-- CACHE_CTRL.INV_ALL [1:1], WO, reset 0, keeps V (R362). -/
abbrev R.CACHE_CTRL_INV_ALL : Fld := ⟨A.CACHE_CTRL, 1, 1, 0⟩
/-- CACHE_CTRL.DIRTY_LIMIT [15:8], RW, reset 128, keeps K (R362). -/
abbrev R.CACHE_CTRL_DIRTY_LIMIT : Fld := ⟨A.CACHE_CTRL, 8, 8, 128⟩
/-- CACHE_CTRL.SET_DIRTY_MAX [18:16], RW, reset 6, keeps K (R362). -/
abbrev R.CACHE_CTRL_SET_DIRTY_MAX : Fld := ⟨A.CACHE_CTRL, 16, 3, 6⟩
/-- Address of CACHE_STATUS (R362). -/
@[simp] abbrev A.CACHE_STATUS : Nat := 0x80004
/-- CACHE_STATUS.STATE [1:0], RO, reset 0, keeps V (R362). -/
abbrev R.CACHE_STATUS_STATE : Fld := ⟨A.CACHE_STATUS, 0, 2, 0⟩
/-- CACHE_STATUS.INV_DONE [2:2], RO, reset 0, keeps V (R362). -/
abbrev R.CACHE_STATUS_INV_DONE : Fld := ⟨A.CACHE_STATUS, 2, 1, 0⟩
/-- CACHE_STATUS.ENABLE_REFUSED [3:3], W1C, reset 0, keeps V (R362). -/
abbrev R.CACHE_STATUS_ENABLE_REFUSED : Fld := ⟨A.CACHE_STATUS, 3, 1, 0⟩
/-- CACHE_STATUS.AT_LIMIT [4:4], RO, reset 0, keeps V (R362). -/
abbrev R.CACHE_STATUS_AT_LIMIT : Fld := ⟨A.CACHE_STATUS, 4, 1, 0⟩
/-- CACHE_STATUS.WAYS [20:5], RO, reset 0, keeps V (R362). -/
abbrev R.CACHE_STATUS_WAYS : Fld := ⟨A.CACHE_STATUS, 5, 16, 0⟩
/-- Address of CACHE_FILL (R362). -/
@[simp] abbrev A.CACHE_FILL : Nat := 0x80008
/-- CACHE_FILL.DIRTY_LINES [17:0], RO, reset 0, keeps V (R362). -/
abbrev R.CACHE_FILL_DIRTY_LINES : Fld := ⟨A.CACHE_FILL, 0, 18, 0⟩
/-- CACHE_FILL.STAGED_MIB [31:18], RO, reset 0, keeps V (R362). -/
abbrev R.CACHE_FILL_STAGED_MIB : Fld := ⟨A.CACHE_FILL, 18, 14, 0⟩
/-- Address of CACHE_COUNT (R362). -/
@[simp] abbrev A.CACHE_COUNT (i : Nat) : Nat := 0x80010 + i * 0x4
/-- CACHE_COUNT.COUNT [31:0], RC, reset 0, keeps V (R362). -/
abbrev R.CACHE_COUNT_COUNT (i : Nat) : Fld := ⟨A.CACHE_COUNT i, 0, 32, 0⟩
/-- Address of CACHE_MAINT (R362). -/
@[simp] abbrev A.CACHE_MAINT : Nat := 0x80040
/-- CACHE_MAINT.BUSY [0:0], RO, reset 0, keeps V (R362). -/
abbrev R.CACHE_MAINT_BUSY : Fld := ⟨A.CACHE_MAINT, 0, 1, 0⟩
/-- CACHE_MAINT.OP [8:1], RO, reset 0, keeps V (R362). -/
abbrev R.CACHE_MAINT_OP : Fld := ⟨A.CACHE_MAINT, 1, 8, 0⟩
/-- CACHE_MAINT.SET [24:9], RO, reset 0, keeps V (R362). -/
abbrev R.CACHE_MAINT_SET : Fld := ⟨A.CACHE_MAINT, 9, 16, 0⟩
/-- Address of CACHE_PROBE_SEL (R362). -/
@[simp] abbrev A.CACHE_PROBE_SEL : Nat := 0x80080
/-- CACHE_PROBE_SEL.VOLUME [9:0], RW, reset 0, keeps V (R362). -/
abbrev R.CACHE_PROBE_SEL_VOLUME : Fld := ⟨A.CACHE_PROBE_SEL, 0, 10, 0⟩
/-- CACHE_PROBE_SEL.GO [10:10], WO, reset 0, keeps V (R362). -/
abbrev R.CACHE_PROBE_SEL_GO : Fld := ⟨A.CACHE_PROBE_SEL, 10, 1, 0⟩
/-- Address of CACHE_PROBE_LBA (R362). -/
@[simp] abbrev A.CACHE_PROBE_LBA (k : Nat) : Nat := 0x80084 + k * 0x4
/-- CACHE_PROBE_LBA.LBA [31:0], RW, reset 0, keeps V (R362). -/
abbrev R.CACHE_PROBE_LBA_LBA (k : Nat) : Fld := ⟨A.CACHE_PROBE_LBA k, 0, 32, 0⟩
/-- Address of CACHE_PROBE_DATA (R362). -/
@[simp] abbrev A.CACHE_PROBE_DATA (k : Nat) : Nat := 0x8008C + k * 0x4
/-- CACHE_PROBE_DATA.DATA [31:0], RO, reset 0, keeps V (R362). -/
abbrev R.CACHE_PROBE_DATA_DATA (k : Nat) : Fld := ⟨A.CACHE_PROBE_DATA k, 0, 32, 0⟩
/-- Address of DRAM_CTRL (R362). -/
@[simp] abbrev A.DRAM_CTRL : Nat := 0x90000
/-- DRAM_CTRL.SCRUB_EN [0:0], RW, reset 1, keeps K (R362). -/
abbrev R.DRAM_CTRL_SCRUB_EN : Fld := ⟨A.DRAM_CTRL, 0, 1, 1⟩
/-- DRAM_CTRL.SCRUB_HOURS [15:8], RW, reset 6, keeps K (R362). -/
abbrev R.DRAM_CTRL_SCRUB_HOURS : Fld := ⟨A.DRAM_CTRL, 8, 8, 6⟩
/-- DRAM_CTRL.CE_LIMIT [23:16], RW, reset 64, keeps K (R362). -/
abbrev R.DRAM_CTRL_CE_LIMIT : Fld := ⟨A.DRAM_CTRL, 16, 8, 64⟩
/-- Address of DRAM_STATUS (R362). -/
@[simp] abbrev A.DRAM_STATUS : Nat := 0x90004
/-- DRAM_STATUS.IN_SERVICE [15:0], RO, reset 0, keeps V (R362). -/
abbrev R.DRAM_STATUS_IN_SERVICE : Fld := ⟨A.DRAM_STATUS, 0, 16, 0⟩
/-- DRAM_STATUS.RETIRED [31:16], RO, reset 0, keeps P (R362). -/
abbrev R.DRAM_STATUS_RETIRED : Fld := ⟨A.DRAM_STATUS, 16, 16, 0⟩
/-- Address of DRAM_RELOAD (R362). -/
@[simp] abbrev A.DRAM_RELOAD : Nat := 0x90008
/-- DRAM_RELOAD.ACTIVE [0:0], RO, reset 0, keeps V (R362). -/
abbrev R.DRAM_RELOAD_ACTIVE : Fld := ⟨A.DRAM_RELOAD, 0, 1, 0⟩
/-- DRAM_RELOAD.LEFT [9:1], RO, reset 0, keeps V (R362). -/
abbrev R.DRAM_RELOAD_LEFT : Fld := ⟨A.DRAM_RELOAD, 1, 9, 0⟩
/-- Address of DRAM_PKG0 (R362). -/
@[simp] abbrev A.DRAM_PKG0 (d : Nat) : Nat := 0x90100 + d * 0x10
/-- DRAM_PKG0.CE_WINDOW [7:0], RO, reset 0, keeps V (R362). -/
abbrev R.DRAM_PKG0_CE_WINDOW (d : Nat) : Fld := ⟨A.DRAM_PKG0 d, 0, 8, 0⟩
/-- DRAM_PKG0.UE [15:8], RO, reset 0, keeps V (R362). -/
abbrev R.DRAM_PKG0_UE (d : Nat) : Fld := ⟨A.DRAM_PKG0 d, 8, 8, 0⟩
/-- DRAM_PKG0.SCRUB_PCT [23:16], RO, reset 0, keeps V (R362). -/
abbrev R.DRAM_PKG0_SCRUB_PCT (d : Nat) : Fld := ⟨A.DRAM_PKG0 d, 16, 8, 0⟩
/-- Address of DRAM_PKG1 (R362). -/
@[simp] abbrev A.DRAM_PKG1 (d : Nat) : Nat := 0x90104 + d * 0x10
/-- DRAM_PKG1.CE_TOTAL [31:0], RC, reset 0, keeps V (R362). -/
abbrev R.DRAM_PKG1_CE_TOTAL (d : Nat) : Fld := ⟨A.DRAM_PKG1 d, 0, 32, 0⟩
/-- Address of DRAM_PKG2 (R362). -/
@[simp] abbrev A.DRAM_PKG2 (d : Nat) : Nat := 0x90108 + d * 0x10
/-- DRAM_PKG2.LAST_ADDR [27:0], RO, reset 0, keeps V (R362). -/
abbrev R.DRAM_PKG2_LAST_ADDR (d : Nat) : Fld := ⟨A.DRAM_PKG2 d, 0, 28, 0⟩

-- 08_stoker_placement_and_map.md
/-- Address of STK_CTRL (R252). -/
@[simp] abbrev A.STK_CTRL : Nat := 0xA0000
/-- STK_CTRL.MIGRATE_EN [0:0], RW, reset 1, keeps K (R252). -/
abbrev R.STK_CTRL_MIGRATE_EN : Fld := ⟨A.STK_CTRL, 0, 1, 1⟩
/-- STK_CTRL.BALANCE_EN [1:1], RW, reset 1, keeps K (R252). -/
abbrev R.STK_CTRL_BALANCE_EN : Fld := ⟨A.STK_CTRL, 1, 1, 1⟩
/-- STK_CTRL.SPEED_EN [2:2], RW, reset 1, keeps K (R252). -/
abbrev R.STK_CTRL_SPEED_EN : Fld := ⟨A.STK_CTRL, 2, 1, 1⟩
/-- STK_CTRL.HEAT_HALF [15:8], RW, reset 6, keeps K (R252). -/
abbrev R.STK_CTRL_HEAT_HALF : Fld := ⟨A.STK_CTRL, 8, 8, 6⟩
/-- STK_CTRL.EPOCH [23:16], RO, reset 0, keeps P (R252). -/
abbrev R.STK_CTRL_EPOCH : Fld := ⟨A.STK_CTRL, 16, 8, 0⟩
/-- Address of STK_DRAFT (R252). -/
@[simp] abbrev A.STK_DRAFT : Nat := 0xA0004
/-- STK_DRAFT.DRAFT [6:0], RW, reset 25, keeps K (R252). -/
abbrev R.STK_DRAFT_DRAFT : Fld := ⟨A.STK_DRAFT, 0, 7, 25⟩
/-- STK_DRAFT.DRAFT_REBUILD [13:7], RW, reset 40, keeps K (R252). -/
abbrev R.STK_DRAFT_DRAFT_REBUILD : Fld := ⟨A.STK_DRAFT, 7, 7, 40⟩
/-- STK_DRAFT.USED [20:14], RO, reset 0, keeps V (R252). -/
abbrev R.STK_DRAFT_USED : Fld := ⟨A.STK_DRAFT, 14, 7, 0⟩
/-- STK_DRAFT.REBUILD [21:21], RO, reset 0, keeps V (R252). -/
abbrev R.STK_DRAFT_REBUILD : Fld := ⟨A.STK_DRAFT, 21, 1, 0⟩
/-- Address of STK_HEAT (R252). -/
@[simp] abbrev A.STK_HEAT : Nat := 0xA0008
/-- STK_HEAT.PROMOTE [11:0], RW, reset 512, keeps K (R252). -/
abbrev R.STK_HEAT_PROMOTE : Fld := ⟨A.STK_HEAT, 0, 12, 512⟩
/-- STK_HEAT.DEMOTE [23:12], RW, reset 64, keeps K (R252). -/
abbrev R.STK_HEAT_DEMOTE : Fld := ⟨A.STK_HEAT, 12, 12, 64⟩
/-- Address of STK_BAND (R252). -/
@[simp] abbrev A.STK_BAND : Nat := 0xA000C
/-- STK_BAND.SHARE [6:0], RW, reset 6, keeps K (R252). -/
abbrev R.STK_BAND_SHARE : Fld := ⟨A.STK_BAND, 0, 7, 6⟩
/-- STK_BAND.HIGH [13:7], RW, reset 95, keeps K (R252). -/
abbrev R.STK_BAND_HIGH : Fld := ⟨A.STK_BAND, 7, 7, 95⟩
/-- STK_BAND.TARGET [20:14], RW, reset 80, keeps K (R252). -/
abbrev R.STK_BAND_TARGET : Fld := ⟨A.STK_BAND, 14, 7, 80⟩
/-- STK_BAND.OCCUPANCY [27:21], RO, reset 0, keeps V (R252). -/
abbrev R.STK_BAND_OCCUPANCY : Fld := ⟨A.STK_BAND, 21, 7, 0⟩
/-- Address of STK_SPEED (R252). -/
@[simp] abbrev A.STK_SPEED : Nat := 0xA0010
/-- STK_SPEED.DUSK_BELOW [6:0], RW, reset 30, keeps K (R252). -/
abbrev R.STK_SPEED_DUSK_BELOW : Fld := ⟨A.STK_SPEED, 0, 7, 30⟩
/-- STK_SPEED.NOON_ABOVE [13:7], RW, reset 60, keeps K (R252). -/
abbrev R.STK_SPEED_NOON_ABOVE : Fld := ⟨A.STK_SPEED, 7, 7, 60⟩
/-- STK_SPEED.IDLE_MIN [21:14], RW, reset 15, keeps K (R252). -/
abbrev R.STK_SPEED_IDLE_MIN : Fld := ⟨A.STK_SPEED, 14, 8, 15⟩
/-- STK_SPEED.MID_MAX [23:22], RW, reset 2, keeps K (R252). -/
abbrev R.STK_SPEED_MID_MAX : Fld := ⟨A.STK_SPEED, 22, 2, 2⟩
/-- Address of STK_ZONE (R252). -/
@[simp] abbrev A.STK_ZONE : Nat := 0xA0014
/-- STK_ZONE.FILL_WAIT_D [7:0], RW, reset 10, keeps K (R252). -/
abbrev R.STK_ZONE_FILL_WAIT_D : Fld := ⟨A.STK_ZONE, 0, 8, 10⟩
/-- STK_ZONE.FILL_WAIT_B [15:8], RW, reset 50, keeps K (R252). -/
abbrev R.STK_ZONE_FILL_WAIT_B : Fld := ⟨A.STK_ZONE, 8, 8, 50⟩
/-- STK_ZONE.RECLAIM_AT [22:16], RW, reset 50, keeps K (R252). -/
abbrev R.STK_ZONE_RECLAIM_AT : Fld := ⟨A.STK_ZONE, 16, 7, 50⟩
/-- Address of STK_MAP (R252). -/
@[simp] abbrev A.STK_MAP : Nat := 0xA0018
/-- STK_MAP.CKPT_PERIOD [7:0], RW, reset 60, keeps K (R252). -/
abbrev R.STK_MAP_CKPT_PERIOD : Fld := ⟨A.STK_MAP, 0, 8, 60⟩
/-- STK_MAP.JOURNAL_FILL [14:8], RO, reset 0, keeps V (R252). -/
abbrev R.STK_MAP_JOURNAL_FILL : Fld := ⟨A.STK_MAP, 8, 7, 0⟩
/-- STK_MAP.STALLED [15:15], RO, reset 0, keeps V (R252). -/
abbrev R.STK_MAP_STALLED : Fld := ⟨A.STK_MAP, 15, 1, 0⟩
/-- Address of STK_CAP_CTRL (R252). -/
@[simp] abbrev A.STK_CAP_CTRL : Nat := 0xA001C
/-- STK_CAP_CTRL.SPARE [1:0], RW, reset 1, keeps K (R252). -/
abbrev R.STK_CAP_CTRL_SPARE : Fld := ⟨A.STK_CAP_CTRL, 0, 2, 1⟩
/-- STK_CAP_CTRL.WARN [8:2], RW, reset 85, keeps K (R252). -/
abbrev R.STK_CAP_CTRL_WARN : Fld := ⟨A.STK_CAP_CTRL, 2, 7, 85⟩
/-- Address of STK_VOL_SEL (R252). -/
@[simp] abbrev A.STK_VOL_SEL : Nat := 0xA0100
/-- STK_VOL_SEL.VOL [9:0], RW, reset 0, keeps V (R252). -/
abbrev R.STK_VOL_SEL_VOL : Fld := ⟨A.STK_VOL_SEL, 0, 10, 0⟩
/-- Address of STK_VOL_DATA (R252). -/
@[simp] abbrev A.STK_VOL_DATA (k : Nat) : Nat := 0xA0104 + k * 0x4
/-- STK_VOL_DATA.DATA [31:0], RO, reset 0, keeps P (R252). -/
abbrev R.STK_VOL_DATA_DATA (k : Nat) : Fld := ⟨A.STK_VOL_DATA k, 0, 32, 0⟩
/-- Address of STK_MEMBER_SEL (R252). -/
@[simp] abbrev A.STK_MEMBER_SEL : Nat := 0xA0140
/-- STK_MEMBER_SEL.M [5:0], RW, reset 0, keeps V (R252). -/
abbrev R.STK_MEMBER_SEL_M : Fld := ⟨A.STK_MEMBER_SEL, 0, 6, 0⟩
/-- Address of STK_MEMBER_DATA (R252). -/
@[simp] abbrev A.STK_MEMBER_DATA (k : Nat) : Nat := 0xA0144 + k * 0x4
/-- STK_MEMBER_DATA.DATA [31:0], RO, reset 0, keeps V (R252). -/
abbrev R.STK_MEMBER_DATA_DATA (k : Nat) : Fld := ⟨A.STK_MEMBER_DATA k, 0, 32, 0⟩
/-- Address of STK_CAP_SEL (R252). -/
@[simp] abbrev A.STK_CAP_SEL : Nat := 0xA0180
/-- STK_CAP_SEL.GROUP [1:0], RW, reset 0, keeps V (R252). -/
abbrev R.STK_CAP_SEL_GROUP : Fld := ⟨A.STK_CAP_SEL, 0, 2, 0⟩
/-- Address of STK_CAP_DATA (R252). -/
@[simp] abbrev A.STK_CAP_DATA (k : Nat) : Nat := 0xA0184 + k * 0x4
/-- STK_CAP_DATA.DATA [31:0], RO, reset 0, keeps V (R252). -/
abbrev R.STK_CAP_DATA_DATA (k : Nat) : Fld := ⟨A.STK_CAP_DATA k, 0, 32, 0⟩
/-- Address of STK_LOOKUP_SEL (R252). -/
@[simp] abbrev A.STK_LOOKUP_SEL : Nat := 0xA01C0
/-- STK_LOOKUP_SEL.VOL [9:0], RW, reset 0, keeps V (R252). -/
abbrev R.STK_LOOKUP_SEL_VOL : Fld := ⟨A.STK_LOOKUP_SEL, 0, 10, 0⟩
/-- STK_LOOKUP_SEL.EXT_HI [10:10], RW, reset 0, keeps V (R252). -/
abbrev R.STK_LOOKUP_SEL_EXT_HI : Fld := ⟨A.STK_LOOKUP_SEL, 10, 1, 0⟩
/-- STK_LOOKUP_SEL.GO [11:11], WO, reset 0, keeps V (R252). -/
abbrev R.STK_LOOKUP_SEL_GO : Fld := ⟨A.STK_LOOKUP_SEL, 11, 1, 0⟩
/-- Address of STK_LOOKUP_EXT (R252). -/
@[simp] abbrev A.STK_LOOKUP_EXT : Nat := 0xA01C4
/-- STK_LOOKUP_EXT.EXT [31:0], RW, reset 0, keeps V (R252). -/
abbrev R.STK_LOOKUP_EXT_EXT : Fld := ⟨A.STK_LOOKUP_EXT, 0, 32, 0⟩
/-- Address of STK_LOOKUP_DATA (R252). -/
@[simp] abbrev A.STK_LOOKUP_DATA (k : Nat) : Nat := 0xA01C8 + k * 0x4
/-- STK_LOOKUP_DATA.ENTRY [31:0], RO, reset 0, keeps V (R252). -/
abbrev R.STK_LOOKUP_DATA_ENTRY (k : Nat) : Fld := ⟨A.STK_LOOKUP_DATA k, 0, 32, 0⟩
/-- Address of STK_BG_TIME (R252). -/
@[simp] abbrev A.STK_BG_TIME (i : Nat) : Nat := 0xA0200 + i * 0x4
/-- STK_BG_TIME.MS [31:0], RC, reset 0, keeps V (R252). -/
abbrev R.STK_BG_TIME_MS (i : Nat) : Fld := ⟨A.STK_BG_TIME i, 0, 32, 0⟩
/-- Address of STK_COUNT (R252). -/
@[simp] abbrev A.STK_COUNT : Nat := 0xA0240
/-- STK_COUNT.MIGRATIONS [15:0], RC, reset 0, keeps V (R252). -/
abbrev R.STK_COUNT_MIGRATIONS : Fld := ⟨A.STK_COUNT, 0, 16, 0⟩
/-- STK_COUNT.ABANDONED [23:16], RC, reset 0, keeps V (R252). -/
abbrev R.STK_COUNT_ABANDONED : Fld := ⟨A.STK_COUNT, 16, 8, 0⟩
/-- STK_COUNT.RECLAIMED [31:24], RC, reset 0, keeps V (R252). -/
abbrev R.STK_COUNT_RECLAIMED : Fld := ⟨A.STK_COUNT, 24, 8, 0⟩

-- 07_read_recovery.md
/-- Address of REC_CTRL (R207). -/
@[simp] abbrev A.REC_CTRL : Nat := 0xAF000
/-- REC_CTRL.STEP_EN [7:0], RW, reset 0xFF, keeps K (R207). -/
abbrev R.REC_CTRL_STEP_EN : Fld := ⟨A.REC_CTRL, 0, 8, 0xFF⟩
/-- REC_CTRL.BG_EN [8:8], RW, reset 1, keeps K (R207). -/
abbrev R.REC_CTRL_BG_EN : Fld := ⟨A.REC_CTRL, 8, 1, 1⟩
/-- REC_CTRL.GUARD [12:9], RW, reset 2, keeps K (R207). -/
abbrev R.REC_CTRL_GUARD : Fld := ⟨A.REC_CTRL, 9, 4, 2⟩
/-- REC_CTRL.RA_MAX [25:16], RW, reset 512, keeps K (R207). -/
abbrev R.REC_CTRL_RA_MAX : Fld := ⟨A.REC_CTRL, 16, 10, 512⟩
/-- REC_CTRL.BG_PER_ACT [29:26], RW, reset 2, keeps K (R207). -/
abbrev R.REC_CTRL_BG_PER_ACT : Fld := ⟨A.REC_CTRL, 26, 4, 2⟩
/-- Address of REC_STATUS (R207). -/
@[simp] abbrev A.REC_STATUS : Nat := 0xAF004
/-- REC_STATUS.FG_IN_FLIGHT [11:0], RO, reset 0, keeps V (R207). -/
abbrev R.REC_STATUS_FG_IN_FLIGHT : Fld := ⟨A.REC_STATUS, 0, 12, 0⟩
/-- REC_STATUS.RA_IN_FLIGHT [21:12], RO, reset 0, keeps V (R207). -/
abbrev R.REC_STATUS_RA_IN_FLIGHT : Fld := ⟨A.REC_STATUS, 12, 10, 0⟩
/-- REC_STATUS.BG_IN_FLIGHT [31:22], RO, reset 0, keeps V (R207). -/
abbrev R.REC_STATUS_BG_IN_FLIGHT : Fld := ⟨A.REC_STATUS, 22, 10, 0⟩
/-- Address of REC_OUTCOME (R207). -/
@[simp] abbrev A.REC_OUTCOME (i : Nat) : Nat := 0xAF010 + i * 0x4
/-- REC_OUTCOME.COUNT [31:0], RC, reset 0, keeps V (R207). -/
abbrev R.REC_OUTCOME_COUNT (i : Nat) : Fld := ⟨A.REC_OUTCOME i, 0, 32, 0⟩
/-- Address of REC_EVENTS (R207). -/
@[simp] abbrev A.REC_EVENTS : Nat := 0xAF040
/-- REC_EVENTS.HANDLE_LOST [15:0], RC, reset 0, keeps V (R207). -/
abbrev R.REC_EVENTS_HANDLE_LOST : Fld := ⟨A.REC_EVENTS, 0, 16, 0⟩
/-- REC_EVENTS.BG_SKIPPED [31:16], RC, reset 0, keeps V (R207). -/
abbrev R.REC_EVENTS_BG_SKIPPED : Fld := ⟨A.REC_EVENTS, 16, 16, 0⟩
/-- Address of REC_BG (R207). -/
@[simp] abbrev A.REC_BG : Nat := 0xAF044
/-- REC_BG.BG_ABANDONED [15:0], RC, reset 0, keeps V (R207). -/
abbrev R.REC_BG_BG_ABANDONED : Fld := ⟨A.REC_BG, 0, 16, 0⟩
/-- REC_BG.RA_MISMATCH [31:16], RC, reset 0, keeps V (R207). -/
abbrev R.REC_BG_RA_MISMATCH : Fld := ⟨A.REC_BG, 16, 16, 0⟩
/-- Address of REC_WEAK (R207). -/
@[simp] abbrev A.REC_WEAK : Nat := 0xAF048
/-- REC_WEAK.ENTRIES [12:0], RO, reset 0, keeps V (R207). -/
abbrev R.REC_WEAK_ENTRIES : Fld := ⟨A.REC_WEAK, 0, 13, 0⟩
/-- REC_WEAK.DROPPED [31:16], RC, reset 0, keeps V (R207). -/
abbrev R.REC_WEAK_DROPPED : Fld := ⟨A.REC_WEAK, 16, 16, 0⟩
/-- Address of REC_RELOC (R207). -/
@[simp] abbrev A.REC_RELOC : Nat := 0xAF04C
/-- REC_RELOC.RELOCATED [31:0], RC, reset 0, keeps V (R207). -/
abbrev R.REC_RELOC_RELOCATED : Fld := ⟨A.REC_RELOC, 0, 32, 0⟩
/-- Address of REC_HEAD_SEL (R207). -/
@[simp] abbrev A.REC_HEAD_SEL : Nat := 0xAF080
/-- REC_HEAD_SEL.G [9:0], RW, reset 0, keeps V (R207). -/
abbrev R.REC_HEAD_SEL_G : Fld := ⟨A.REC_HEAD_SEL, 0, 10, 0⟩
/-- REC_HEAD_SEL.RZONE [14:10], RW, reset 0, keeps V (R207). -/
abbrev R.REC_HEAD_SEL_RZONE : Fld := ⟨A.REC_HEAD_SEL, 10, 5, 0⟩
/-- Address of REC_HEAD_DATA (R207). -/
@[simp] abbrev A.REC_HEAD_DATA (k : Nat) : Nat := 0xAF084 + k * 0x4
/-- REC_HEAD_DATA.DATA [31:0], RO, reset 0, keeps V (R207). -/
abbrev R.REC_HEAD_DATA_DATA (k : Nat) : Fld := ⟨A.REC_HEAD_DATA k, 0, 32, 0⟩

-- 09_declustered_redundancy.md
/-- Address of RED_CTRL (R282). -/
@[simp] abbrev A.RED_CTRL : Nat := 0xB0000
/-- RED_CTRL.SCRUB_EN [0:0], RW, reset 1, keeps K (R282). -/
abbrev R.RED_CTRL_SCRUB_EN : Fld := ⟨A.RED_CTRL, 0, 1, 1⟩
/-- RED_CTRL.REBUILD_EN [1:1], RW, reset 1, keeps K (R282). -/
abbrev R.RED_CTRL_REBUILD_EN : Fld := ⟨A.RED_CTRL, 1, 1, 1⟩
/-- RED_CTRL.SCRUB_DAYS [9:2], RW, reset 30, keeps K (R282). -/
abbrev R.RED_CTRL_SCRUB_DAYS : Fld := ⟨A.RED_CTRL, 2, 8, 30⟩
/-- RED_CTRL.REBUILD_DELAY [17:10], RW, reset 120, keeps K (R282). -/
abbrev R.RED_CTRL_REBUILD_DELAY : Fld := ⟨A.RED_CTRL, 10, 8, 120⟩
/-- Address of RED_STATUS (R282). -/
@[simp] abbrev A.RED_STATUS : Nat := 0xB0004
/-- RED_STATUS.RESYNC [0:0], RO, reset 0, keeps V (R282). -/
abbrev R.RED_STATUS_RESYNC : Fld := ⟨A.RED_STATUS, 0, 1, 0⟩
/-- RED_STATUS.FULL_RESYNC [1:1], RO, reset 0, keeps V (R282). -/
abbrev R.RED_STATUS_FULL_RESYNC : Fld := ⟨A.RED_STATUS, 1, 1, 0⟩
/-- RED_STATUS.REBUILD [2:2], RO, reset 0, keeps V (R282). -/
abbrev R.RED_STATUS_REBUILD : Fld := ⟨A.RED_STATUS, 2, 1, 0⟩
/-- RED_STATUS.RESHAPE [3:3], RO, reset 0, keeps V (R282). -/
abbrev R.RED_STATUS_RESHAPE : Fld := ⟨A.RED_STATUS, 3, 1, 0⟩
/-- RED_STATUS.COPIES [5:4], RO, reset 0, keeps V (R282). -/
abbrev R.RED_STATUS_COPIES : Fld := ⟨A.RED_STATUS, 4, 2, 0⟩
/-- RED_STATUS.LEDGER_FULL [6:6], RO, reset 0, keeps V (R282). -/
abbrev R.RED_STATUS_LEDGER_FULL : Fld := ⟨A.RED_STATUS, 6, 1, 0⟩
/-- RED_STATUS.RESYNC_PCT [13:7], RO, reset 0, keeps V (R282). -/
abbrev R.RED_STATUS_RESYNC_PCT : Fld := ⟨A.RED_STATUS, 7, 7, 0⟩
/-- Address of RED_JOURNAL (R282). -/
@[simp] abbrev A.RED_JOURNAL : Nat := 0xB0008
/-- RED_JOURNAL.OPEN [14:0], RO, reset 0, keeps V (R282). -/
abbrev R.RED_JOURNAL_OPEN : Fld := ⟨A.RED_JOURNAL, 0, 15, 0⟩
/-- RED_JOURNAL.COPY0 [21:16], RO, reset 0, keeps V (R282). -/
abbrev R.RED_JOURNAL_COPY0 : Fld := ⟨A.RED_JOURNAL, 16, 6, 0⟩
/-- RED_JOURNAL.COPY1 [27:22], RO, reset 0, keeps V (R282). -/
abbrev R.RED_JOURNAL_COPY1 : Fld := ⟨A.RED_JOURNAL, 22, 6, 0⟩
/-- Address of RED_GROUP_SEL (R282). -/
@[simp] abbrev A.RED_GROUP_SEL : Nat := 0xB0010
/-- RED_GROUP_SEL.GROUP [1:0], RW, reset 0, keeps V (R282). -/
abbrev R.RED_GROUP_SEL_GROUP : Fld := ⟨A.RED_GROUP_SEL, 0, 2, 0⟩
/-- Address of RED_GROUP_DATA (R282). -/
@[simp] abbrev A.RED_GROUP_DATA (k : Nat) : Nat := 0xB0014 + k * 0x4
/-- RED_GROUP_DATA.DATA [31:0], RO, reset 0, keeps P (R282). -/
abbrev R.RED_GROUP_DATA_DATA (k : Nat) : Fld := ⟨A.RED_GROUP_DATA k, 0, 32, 0⟩
/-- Address of RED_REBUILD_SEL (R282). -/
@[simp] abbrev A.RED_REBUILD_SEL : Nat := 0xB0020
/-- RED_REBUILD_SEL.M [5:0], RW, reset 0, keeps V (R282). -/
abbrev R.RED_REBUILD_SEL_M : Fld := ⟨A.RED_REBUILD_SEL, 0, 6, 0⟩
/-- Address of RED_REBUILD_DATA (R282). -/
@[simp] abbrev A.RED_REBUILD_DATA (k : Nat) : Nat := 0xB0024 + k * 0x4
/-- RED_REBUILD_DATA.DATA [31:0], RO, reset 0, keeps V (R282). -/
abbrev R.RED_REBUILD_DATA_DATA (k : Nat) : Fld := ⟨A.RED_REBUILD_DATA k, 0, 32, 0⟩
/-- Address of RED_SCRUB (R282). -/
@[simp] abbrev A.RED_SCRUB : Nat := 0xB0050
/-- RED_SCRUB.PROGRESS [6:0], RO, reset 0, keeps V (R282). -/
abbrev R.RED_SCRUB_PROGRESS : Fld := ⟨A.RED_SCRUB, 0, 7, 0⟩
/-- RED_SCRUB.LATE [7:7], RO, reset 0, keeps V (R282). -/
abbrev R.RED_SCRUB_LATE : Fld := ⟨A.RED_SCRUB, 7, 1, 0⟩
/-- RED_SCRUB.DAYS_SINCE [31:16], RO, reset 0, keeps P (R282). -/
abbrev R.RED_SCRUB_DAYS_SINCE : Fld := ⟨A.RED_SCRUB, 16, 16, 0⟩
/-- Address of RED_SCRUB_COUNT (R282). -/
@[simp] abbrev A.RED_SCRUB_COUNT : Nat := 0xB0054
/-- RED_SCRUB_COUNT.PARITY_MISMATCH [15:0], RC, reset 0, keeps V (R282). -/
abbrev R.RED_SCRUB_COUNT_PARITY_MISMATCH : Fld := ⟨A.RED_SCRUB_COUNT, 0, 16, 0⟩
/-- RED_SCRUB_COUNT.REPAIRED [31:16], RC, reset 0, keeps V (R282). -/
abbrev R.RED_SCRUB_COUNT_REPAIRED : Fld := ⟨A.RED_SCRUB_COUNT, 16, 16, 0⟩
/-- Address of RED_LEDGER (R282). -/
@[simp] abbrev A.RED_LEDGER : Nat := 0xB0060
/-- RED_LEDGER.ENTRIES [21:0], RO, reset 0, keeps P (R282). -/
abbrev R.RED_LEDGER_ENTRIES : Fld := ⟨A.RED_LEDGER, 0, 22, 0⟩
/-- RED_LEDGER.DROPPED [31:22], RC, reset 0, keeps V (R282). -/
abbrev R.RED_LEDGER_DROPPED : Fld := ⟨A.RED_LEDGER, 22, 10, 0⟩
/-- Address of RED_RESHAPE_SEL (R282). -/
@[simp] abbrev A.RED_RESHAPE_SEL : Nat := 0xB0070
/-- RED_RESHAPE_SEL.VOL [9:0], RW, reset 0, keeps V (R282). -/
abbrev R.RED_RESHAPE_SEL_VOL : Fld := ⟨A.RED_RESHAPE_SEL, 0, 10, 0⟩
/-- Address of RED_RESHAPE_DATA (R282). -/
@[simp] abbrev A.RED_RESHAPE_DATA (k : Nat) : Nat := 0xB0074 + k * 0x4
/-- RED_RESHAPE_DATA.DATA [31:0], RO, reset 0, keeps P (R282). -/
abbrev R.RED_RESHAPE_DATA_DATA (k : Nat) : Fld := ⟨A.RED_RESHAPE_DATA k, 0, 32, 0⟩
/-- Address of RED_COUNT (R282). -/
@[simp] abbrev A.RED_COUNT : Nat := 0xB0080
/-- RED_COUNT.RESYNC_MISMATCH [7:0], RC, reset 0, keeps V (R282). -/
abbrev R.RED_COUNT_RESYNC_MISMATCH : Fld := ⟨A.RED_COUNT, 0, 8, 0⟩
/-- RED_COUNT.SEAL_REPAIRED [15:8], RC, reset 0, keeps V (R282). -/
abbrev R.RED_COUNT_SEAL_REPAIRED : Fld := ⟨A.RED_COUNT, 8, 8, 0⟩
/-- RED_COUNT.RECON_FAILED [23:16], RC, reset 0, keeps V (R282). -/
abbrev R.RED_COUNT_RECON_FAILED : Fld := ⟨A.RED_COUNT, 16, 8, 0⟩
/-- RED_COUNT.HOST_SEAL [31:24], RC, reset 0, keeps V (R282). -/
abbrev R.RED_COUNT_HOST_SEAL : Fld := ⟨A.RED_COUNT, 24, 8, 0⟩
/-- Address of RED_RESYNCED (R282). -/
@[simp] abbrev A.RED_RESYNCED : Nat := 0xB0084
/-- RED_RESYNCED.ROWS [31:0], RC, reset 0, keeps V (R282). -/
abbrev R.RED_RESYNCED_ROWS : Fld := ⟨A.RED_RESYNCED, 0, 32, 0⟩

-- 06_decoder_pool.md
/-- Address of DEC_CTRL (R188). -/
@[simp] abbrev A.DEC_CTRL : Nat := 0xC0000
/-- DEC_CTRL.DEFER_EN [0:0], RW, reset 1, keeps K (R188). -/
abbrev R.DEC_CTRL_DEFER_EN : Fld := ⟨A.DEC_CTRL, 0, 1, 1⟩
/-- DEC_CTRL.DEFER_AT [13:8], RW, reset 6, keeps K (R188). -/
abbrev R.DEC_CTRL_DEFER_AT : Fld := ⟨A.DEC_CTRL, 8, 6, 6⟩
/-- DEC_CTRL.KAT_INTERVAL [23:16], RW, reset 10, keeps K (R188). -/
abbrev R.DEC_CTRL_KAT_INTERVAL : Fld := ⟨A.DEC_CTRL, 16, 8, 10⟩
/-- Address of DEC_STATUS (R188). -/
@[simp] abbrev A.DEC_STATUS : Nat := 0xC0004
/-- DEC_STATUS.CORES [6:0], RO, reset 0, keeps V (R188). -/
abbrev R.DEC_STATUS_CORES : Fld := ⟨A.DEC_STATUS, 0, 7, 0⟩
/-- DEC_STATUS.OCCUPANCY [16:7], RO, reset 0, keeps V (R188). -/
abbrev R.DEC_STATUS_OCCUPANCY : Fld := ⟨A.DEC_STATUS, 7, 10, 0⟩
/-- DEC_STATUS.PRESSURE [19:17], RO, reset 0, keeps V (R188). -/
abbrev R.DEC_STATUS_PRESSURE : Fld := ⟨A.DEC_STATUS, 17, 3, 0⟩
/-- DEC_STATUS.FAILED [20:20], RO, reset 0, keeps V (R188). -/
abbrev R.DEC_STATUS_FAILED : Fld := ⟨A.DEC_STATUS, 20, 1, 0⟩
/-- DEC_STATUS.FENCED [21:21], RO, reset 0, keeps V (R188). -/
abbrev R.DEC_STATUS_FENCED : Fld := ⟨A.DEC_STATUS, 21, 1, 0⟩
/-- Address of DEC_CORE_EN (R188). -/
@[simp] abbrev A.DEC_CORE_EN (i : Nat) : Nat := 0xC0010 + i * 0x4
/-- DEC_CORE_EN.EN [31:0], RW, reset 0xFFFFFFFF, keeps K (R188). -/
abbrev R.DEC_CORE_EN_EN (i : Nat) : Fld := ⟨A.DEC_CORE_EN i, 0, 32, 0xFFFFFFFF⟩
/-- Address of DEC_IN_SERVICE (R188). -/
@[simp] abbrev A.DEC_IN_SERVICE (i : Nat) : Nat := 0xC001C + i * 0x4
/-- DEC_IN_SERVICE.LIVE [31:0], RO, reset 0, keeps V (R188). -/
abbrev R.DEC_IN_SERVICE_LIVE (i : Nat) : Fld := ⟨A.DEC_IN_SERVICE i, 0, 32, 0⟩
/-- Address of DEC_RETIRED (R188). -/
@[simp] abbrev A.DEC_RETIRED (i : Nat) : Nat := 0xC0028 + i * 0x4
/-- DEC_RETIRED.RETIRED [31:0], RO, reset 0, keeps P (R188). -/
abbrev R.DEC_RETIRED_RETIRED (i : Nat) : Fld := ⟨A.DEC_RETIRED i, 0, 32, 0⟩
/-- Address of DEC_WATER (R188). -/
@[simp] abbrev A.DEC_WATER : Nat := 0xC0034
/-- DEC_WATER.LOW [9:0], RW, reset 448, keeps K (R188). -/
abbrev R.DEC_WATER_LOW : Fld := ⟨A.DEC_WATER, 0, 10, 448⟩
/-- DEC_WATER.DEFER [19:10], RW, reset 672, keeps K (R188). -/
abbrev R.DEC_WATER_DEFER : Fld := ⟨A.DEC_WATER, 10, 10, 672⟩
/-- DEC_WATER.FLOOR [29:20], RW, reset 784, keeps K (R188). -/
abbrev R.DEC_WATER_FLOOR : Fld := ⟨A.DEC_WATER, 20, 10, 784⟩
/-- Address of DEC_CLASS (R188). -/
@[simp] abbrev A.DEC_CLASS (c : Nat) : Nat := 0xC0040 + c * 0x4
/-- DEC_CLASS.MAX_ITER [5:0], RW, reset decMaxIter, keeps K (R188). -/
abbrev R.DEC_CLASS_MAX_ITER (c : Nat) : Fld := ⟨A.DEC_CLASS c, 0, 6, decMaxIter c⟩
/-- DEC_CLASS.FLOOR_ITER [13:8], RW, reset decFloorIter, keeps K (R188). -/
abbrev R.DEC_CLASS_FLOOR_ITER (c : Nat) : Fld := ⟨A.DEC_CLASS c, 8, 6, decFloorIter c⟩
/-- DEC_CLASS.HOLD [26:16], RW, reset decHold, keeps K (R188). -/
abbrev R.DEC_CLASS_HOLD (c : Nat) : Fld := ⟨A.DEC_CLASS c, 16, 11, decHold c⟩
/-- Address of DEC_SPILL (R188). -/
@[simp] abbrev A.DEC_SPILL : Nat := 0xC0050
/-- DEC_SPILL.DEFERRED [11:0], RO, reset 0, keeps V (R188). -/
abbrev R.DEC_SPILL_DEFERRED : Fld := ⟨A.DEC_SPILL, 0, 12, 0⟩
/-- DEC_SPILL.RETAINED [22:12], RO, reset 0, keeps V (R188). -/
abbrev R.DEC_SPILL_RETAINED : Fld := ⟨A.DEC_SPILL, 12, 11, 0⟩
/-- DEC_SPILL.RETAIN_EVICT [31:23], RC, reset 0, keeps V (R188). -/
abbrev R.DEC_SPILL_RETAIN_EVICT : Fld := ⟨A.DEC_SPILL, 23, 9, 0⟩
/-- Address of DEC_CONVERGED (R188). -/
@[simp] abbrev A.DEC_CONVERGED : Nat := 0xC0060
/-- DEC_CONVERGED.SECTORS [31:0], RC, reset 0, keeps V (R188). -/
abbrev R.DEC_CONVERGED_SECTORS : Fld := ⟨A.DEC_CONVERGED, 0, 32, 0⟩
/-- Address of DEC_ENDS (R188). -/
@[simp] abbrev A.DEC_ENDS : Nat := 0xC0064
/-- DEC_ENDS.BUDGET [7:0], RC, reset 0, keeps V (R188). -/
abbrev R.DEC_ENDS_BUDGET : Fld := ⟨A.DEC_ENDS, 0, 8, 0⟩
/-- DEC_ENDS.HOLD [15:8], RC, reset 0, keeps V (R188). -/
abbrev R.DEC_ENDS_HOLD : Fld := ⟨A.DEC_ENDS, 8, 8, 0⟩
/-- DEC_ENDS.SEAL [23:16], RC, reset 0, keeps V (R188). -/
abbrev R.DEC_ENDS_SEAL : Fld := ⟨A.DEC_ENDS, 16, 8, 0⟩
/-- DEC_ENDS.ERASURE [31:24], RC, reset 0, keeps V (R188). -/
abbrev R.DEC_ENDS_ERASURE : Fld := ⟨A.DEC_ENDS, 24, 8, 0⟩
/-- Address of DEC_COUNT (R188). -/
@[simp] abbrev A.DEC_COUNT : Nat := 0xC0068
/-- DEC_COUNT.DEFERRALS [15:0], RC, reset 0, keeps V (R188). -/
abbrev R.DEC_COUNT_DEFERRALS : Fld := ⟨A.DEC_COUNT, 0, 16, 0⟩
/-- DEC_COUNT.BACKPRESSURE [31:16], RC, reset 0, keeps V (R188). -/
abbrev R.DEC_COUNT_BACKPRESSURE : Fld := ⟨A.DEC_COUNT, 16, 16, 0⟩
/-- Address of DEC_ITERATIONS (R188). -/
@[simp] abbrev A.DEC_ITERATIONS : Nat := 0xC006C
/-- DEC_ITERATIONS.TOTAL [31:0], RC, reset 0, keeps V (R188). -/
abbrev R.DEC_ITERATIONS_TOTAL : Fld := ⟨A.DEC_ITERATIONS, 0, 32, 0⟩
/-- Address of DEC_CORE_SEL (R188). -/
@[simp] abbrev A.DEC_CORE_SEL : Nat := 0xC0080
/-- DEC_CORE_SEL.CORE [6:0], RW, reset 0, keeps V (R188). -/
abbrev R.DEC_CORE_SEL_CORE : Fld := ⟨A.DEC_CORE_SEL, 0, 7, 0⟩
/-- Address of DEC_CORE_INFO (R188). -/
@[simp] abbrev A.DEC_CORE_INFO : Nat := 0xC0084
/-- DEC_CORE_INFO.SEAL_SUSPECT [7:0], RO, reset 0, keeps V (R188). -/
abbrev R.DEC_CORE_INFO_SEAL_SUSPECT : Fld := ⟨A.DEC_CORE_INFO, 0, 8, 0⟩
/-- DEC_CORE_INFO.KAT_FAILS [15:8], RO, reset 0, keeps V (R188). -/
abbrev R.DEC_CORE_INFO_KAT_FAILS : Fld := ⟨A.DEC_CORE_INFO, 8, 8, 0⟩
/-- DEC_CORE_INFO.CONTEXTS [23:16], RO, reset 0, keeps V (R188). -/
abbrev R.DEC_CORE_INFO_CONTEXTS : Fld := ⟨A.DEC_CORE_INFO, 16, 8, 0⟩
/-- DEC_CORE_INFO.FENCED [24:24], RO, reset 0, keeps V (R188). -/
abbrev R.DEC_CORE_INFO_FENCED : Fld := ⟨A.DEC_CORE_INFO, 24, 1, 0⟩
/-- Address of DEC_STAT_SEL (R188). -/
@[simp] abbrev A.DEC_STAT_SEL : Nat := 0xC0100
/-- DEC_STAT_SEL.G [9:0], RW, reset 0, keeps V (R188). -/
abbrev R.DEC_STAT_SEL_G : Fld := ⟨A.DEC_STAT_SEL, 0, 10, 0⟩
/-- DEC_STAT_SEL.RZONE [14:10], RW, reset 0, keeps V (R188). -/
abbrev R.DEC_STAT_SEL_RZONE : Fld := ⟨A.DEC_STAT_SEL, 10, 5, 0⟩
/-- DEC_STAT_SEL.BANK [15:15], RW, reset 0, keeps V (R188). -/
abbrev R.DEC_STAT_SEL_BANK : Fld := ⟨A.DEC_STAT_SEL, 15, 1, 0⟩
/-- DEC_STAT_SEL.CLEAR [16:16], WO, reset 0, keeps V (R188). -/
abbrev R.DEC_STAT_SEL_CLEAR : Fld := ⟨A.DEC_STAT_SEL, 16, 1, 0⟩
/-- Address of DEC_STAT_DATA (R188). -/
@[simp] abbrev A.DEC_STAT_DATA (k : Nat) : Nat := 0xC0104 + k * 0x4
/-- DEC_STAT_DATA.DATA [31:0], RO, reset 0, keeps V (R188). -/
abbrev R.DEC_STAT_DATA_DATA (k : Nat) : Fld := ⟨A.DEC_STAT_DATA k, 0, 32, 0⟩
/-- Address of DEC_STAT_BUDGET (R188). -/
@[simp] abbrev A.DEC_STAT_BUDGET : Nat := 0xC0130
/-- DEC_STAT_BUDGET.BUDGET_BIN [15:0], RO, reset 0, keeps V (R188). -/
abbrev R.DEC_STAT_BUDGET_BUDGET_BIN : Fld := ⟨A.DEC_STAT_BUDGET, 0, 16, 0⟩
/-- DEC_STAT_BUDGET.EDGE_1_BIN [31:16], RO, reset 0, keeps V (R188). -/
abbrev R.DEC_STAT_BUDGET_EDGE_1_BIN : Fld := ⟨A.DEC_STAT_BUDGET, 16, 16, 0⟩

-- 04_positioning_and_damper_array.md
/-- Address of DAMP_CTRL (R126). -/
@[simp] abbrev A.DAMP_CTRL : Nat := 0xD0000
/-- DAMP_CTRL.LANE_EN [15:0], RW, reset 0xFFFF, keeps K (R126). -/
abbrev R.DAMP_CTRL_LANE_EN : Fld := ⟨A.DAMP_CTRL, 0, 16, 0xFFFF⟩
/-- Address of DAMP_LANES (R126). -/
@[simp] abbrev A.DAMP_LANES : Nat := 0xD0004
/-- DAMP_LANES.IN_SERVICE [15:0], RO, reset 0, keeps V (R126). -/
abbrev R.DAMP_LANES_IN_SERVICE : Fld := ⟨A.DAMP_LANES, 0, 16, 0⟩
/-- DAMP_LANES.RETIRED [31:16], RO, reset 0, keeps P (R126). -/
abbrev R.DAMP_LANES_RETIRED : Fld := ⟨A.DAMP_LANES, 16, 16, 0⟩
/-- Address of DAMP_STATUS (R126). -/
@[simp] abbrev A.DAMP_STATUS : Nat := 0xD0008
/-- DAMP_STATUS.LANES [4:0], RO, reset 0, keeps V (R126). -/
abbrev R.DAMP_STATUS_LANES : Fld := ⟨A.DAMP_STATUS, 0, 5, 0⟩
/-- DAMP_STATUS.LANE_LIMIT [11:8], RO, reset 0, keeps V (R126). -/
abbrev R.DAMP_STATUS_LANE_LIMIT : Fld := ⟨A.DAMP_STATUS, 8, 4, 0⟩
/-- DAMP_STATUS.FAILED [12:12], RO, reset 0, keeps V (R126). -/
abbrev R.DAMP_STATUS_FAILED : Fld := ⟨A.DAMP_STATUS, 12, 1, 0⟩
/-- Address of DAMP_DELAY (R126). -/
@[simp] abbrev A.DAMP_DELAY : Nat := 0xD000C
/-- DAMP_DELAY.WORST [15:0], RC, reset 0, keeps V (R126). -/
abbrev R.DAMP_DELAY_WORST : Fld := ⟨A.DAMP_DELAY, 0, 16, 0⟩
/-- DAMP_DELAY.BOUND_MISS [31:16], RC, reset 0, keeps V (R126). -/
abbrev R.DAMP_DELAY_BOUND_MISS : Fld := ⟨A.DAMP_DELAY, 16, 16, 0⟩
/-- Address of DAMP_OUTVOTED (R126). -/
@[simp] abbrev A.DAMP_OUTVOTED (i : Nat) : Nat := 0xD0010 + i * 0x4
/-- DAMP_OUTVOTED field of lane n (R126). -/
abbrev R.DAMP_OUTVOTED (n : Nat) : Fld := ⟨0xD0010 + (n / 4) * 4, 8 * (n % 4), 8, 0⟩
/-- Address of DAMP_COMMIT (R126). -/
@[simp] abbrev A.DAMP_COMMIT : Nat := 0xD0020
/-- DAMP_COMMIT.LOOP [9:0], RW, reset 0, keeps V (R126). -/
abbrev R.DAMP_COMMIT_LOOP : Fld := ⟨A.DAMP_COMMIT, 0, 10, 0⟩
/-- DAMP_COMMIT.GO [16:16], WO, reset 0, keeps V (R126). -/
abbrev R.DAMP_COMMIT_GO : Fld := ⟨A.DAMP_COMMIT, 16, 1, 0⟩
/-- DAMP_COMMIT.PENDING [17:17], RO, reset 0, keeps V (R126). -/
abbrev R.DAMP_COMMIT_PENDING : Fld := ⟨A.DAMP_COMMIT, 17, 1, 0⟩
/-- Address of DAMP_STATE_SEL (R126). -/
@[simp] abbrev A.DAMP_STATE_SEL : Nat := 0xD0024
/-- DAMP_STATE_SEL.LOOP [9:0], RW, reset 0, keeps V (R126). -/
abbrev R.DAMP_STATE_SEL_LOOP : Fld := ⟨A.DAMP_STATE_SEL, 0, 10, 0⟩
/-- Address of DAMP_STATE_DATA (R126). -/
@[simp] abbrev A.DAMP_STATE_DATA (k : Nat) : Nat := 0xD0028 + k * 0x4
/-- DAMP_STATE_DATA.VALUE [31:0], RO, reset 0, keeps V (R126). -/
abbrev R.DAMP_STATE_DATA_VALUE (k : Nat) : Fld := ⟨A.DAMP_STATE_DATA k, 0, 32, 0⟩
/-- Address of POS_LIMITS_W (R126). -/
@[simp] abbrev A.POS_LIMITS_W : Nat := 0xD0040
/-- POS_LIMITS_W.WU_LIMIT [9:0], RW, reset 123, keeps K (R126). -/
abbrev R.POS_LIMITS_W_WU_LIMIT : Fld := ⟨A.POS_LIMITS_W, 0, 10, 123⟩
/-- POS_LIMITS_W.WU_REEN [19:10], RW, reset 82, keeps K (R126). -/
abbrev R.POS_LIMITS_W_WU_REEN : Fld := ⟨A.POS_LIMITS_W, 10, 10, 82⟩
/-- POS_LIMITS_W.W_SETTLE [29:20], RW, reset 61, keeps K (R126). -/
abbrev R.POS_LIMITS_W_W_SETTLE : Fld := ⟨A.POS_LIMITS_W, 20, 10, 61⟩
/-- Address of POS_LIMITS_R (R126). -/
@[simp] abbrev A.POS_LIMITS_R : Nat := 0xD0044
/-- POS_LIMITS_R.R_SETTLE [9:0], RW, reset 102, keeps K (R126). -/
abbrev R.POS_LIMITS_R_R_SETTLE : Fld := ⟨A.POS_LIMITS_R, 0, 10, 102⟩
/-- POS_LIMITS_R.OFFTRACK [19:10], RW, reset 256, keeps K (R126). -/
abbrev R.POS_LIMITS_R_OFFTRACK : Fld := ⟨A.POS_LIMITS_R, 10, 10, 256⟩
/-- Address of DAMP_COEF (R126). -/
@[simp] abbrev A.DAMP_COEF (L : Nat) (set : Nat) (i : Nat) : Nat := 0xD1000 + L * 0x40 + set * 0x20 + i * 0x4
/-- DAMP_COEF.VALUE [31:0], RW, reset 0, keeps K (R126). -/
abbrev R.DAMP_COEF_VALUE (L : Nat) (set : Nat) (i : Nat) : Fld := ⟨A.DAMP_COEF L set i, 0, 32, 0⟩
/-- Address of DAMP_CFG0 (R126). -/
@[simp] abbrev A.DAMP_CFG0 (L : Nat) : Nat := 0xDE000 + L * 0x8
/-- DAMP_CFG0.EN [0:0], RW, reset 1, keeps K (R126). -/
abbrev R.DAMP_CFG0_EN (L : Nat) : Fld := ⟨A.DAMP_CFG0 L, 0, 1, 1⟩
/-- DAMP_CFG0.FORM [1:1], RW, reset 0, keeps K (R126). -/
abbrev R.DAMP_CFG0_FORM (L : Nat) : Fld := ⟨A.DAMP_CFG0 L, 1, 1, 0⟩
/-- DAMP_CFG0.IN_SHIFT [5:2], RW, reset 0, keeps K (R126). -/
abbrev R.DAMP_CFG0_IN_SHIFT (L : Nat) : Fld := ⟨A.DAMP_CFG0 L, 2, 4, 0⟩
/-- DAMP_CFG0.ACTIVE_SET [6:6], RO, reset 0, keeps V (R126). -/
abbrev R.DAMP_CFG0_ACTIVE_SET (L : Nat) : Fld := ⟨A.DAMP_CFG0 L, 6, 1, 0⟩
/-- Address of DAMP_CFG1 (R126). -/
@[simp] abbrev A.DAMP_CFG1 (L : Nat) : Nat := 0xDE004 + L * 0x8
/-- DAMP_CFG1.CLAMP [23:0], RW, reset dampClamp, keeps K (R126). -/
abbrev R.DAMP_CFG1_CLAMP (L : Nat) : Fld := ⟨A.DAMP_CFG1 L, 0, 24, dampClamp L⟩

-- 17_faults_retirement_and_event_recorder.md
/-- Address of EVT_CTRL (R477). -/
@[simp] abbrev A.EVT_CTRL : Nat := 0xE0000
/-- EVT_CTRL.RATE [7:0], RW, reset 12, keeps K (R477). -/
abbrev R.EVT_CTRL_RATE : Fld := ⟨A.EVT_CTRL, 0, 8, 12⟩
/-- EVT_CTRL.BURST [15:8], RW, reset 24, keeps K (R477). -/
abbrev R.EVT_CTRL_BURST : Fld := ⟨A.EVT_CTRL, 8, 8, 24⟩
/-- EVT_CTRL.EXEMPT [23:16], RW, reset 0x30, keeps K (R477). -/
abbrev R.EVT_CTRL_EXEMPT : Fld := ⟨A.EVT_CTRL, 16, 8, 0x30⟩
/-- EVT_CTRL.FLUSH_S [31:24], RW, reset 10, keeps K (R477). -/
abbrev R.EVT_CTRL_FLUSH_S : Fld := ⟨A.EVT_CTRL, 24, 8, 10⟩
/-- Address of EVT_STATUS (R477). -/
@[simp] abbrev A.EVT_STATUS : Nat := 0xE0004
/-- EVT_STATUS.FIXED_FULL [0:0], RO, reset 0, keeps P (R477). -/
abbrev R.EVT_STATUS_FIXED_FULL : Fld := ⟨A.EVT_STATUS, 0, 1, 0⟩
/-- EVT_STATUS.VAR_FULL [1:1], RO, reset 0, keeps P (R477). -/
abbrev R.EVT_STATUS_VAR_FULL : Fld := ⟨A.EVT_STATUS, 1, 1, 0⟩
/-- EVT_STATUS.FLUSHING [2:2], RO, reset 0, keeps V (R477). -/
abbrev R.EVT_STATUS_FLUSHING : Fld := ⟨A.EVT_STATUS, 2, 1, 0⟩
/-- EVT_STATUS.BUFFERED [17:3], RO, reset 0, keeps V (R477). -/
abbrev R.EVT_STATUS_BUFFERED : Fld := ⟨A.EVT_STATUS, 3, 15, 0⟩
/-- Address of EVT_FIXED (R477). -/
@[simp] abbrev A.EVT_FIXED : Nat := 0xE0008
/-- EVT_FIXED.RECORDS [18:0], RO, reset 0, keeps P (R477). -/
abbrev R.EVT_FIXED_RECORDS : Fld := ⟨A.EVT_FIXED, 0, 19, 0⟩
/-- Address of EVT_VAR (R477). -/
@[simp] abbrev A.EVT_VAR : Nat := 0xE000C
/-- EVT_VAR.KIB [14:0], RO, reset 0, keeps P (R477). -/
abbrev R.EVT_VAR_KIB : Fld := ⟨A.EVT_VAR, 0, 15, 0⟩
/-- Address of EVT_DROPPED_FIXED (R477). -/
@[simp] abbrev A.EVT_DROPPED_FIXED : Nat := 0xE0010
/-- EVT_DROPPED_FIXED.COUNT [31:0], RO, reset 0, keeps P (R477). -/
abbrev R.EVT_DROPPED_FIXED_COUNT : Fld := ⟨A.EVT_DROPPED_FIXED, 0, 32, 0⟩
/-- Address of EVT_DROPPED_VAR (R477). -/
@[simp] abbrev A.EVT_DROPPED_VAR : Nat := 0xE0014
/-- EVT_DROPPED_VAR.COUNT [31:0], RO, reset 0, keeps P (R477). -/
abbrev R.EVT_DROPPED_VAR_COUNT : Fld := ⟨A.EVT_DROPPED_VAR, 0, 32, 0⟩
/-- Address of EVT_SEQ (R477). -/
@[simp] abbrev A.EVT_SEQ : Nat := 0xE0018
/-- EVT_SEQ.NEXT [31:0], RO, reset 0, keeps P (R477). -/
abbrev R.EVT_SEQ_NEXT : Fld := ⟨A.EVT_SEQ, 0, 32, 0⟩
/-- Address of EVT_OPSEC (R477). -/
@[simp] abbrev A.EVT_OPSEC : Nat := 0xE001C
/-- EVT_OPSEC.SECONDS [31:0], RO, reset 0, keeps P (R477). -/
abbrev R.EVT_OPSEC_SECONDS : Fld := ⟨A.EVT_OPSEC, 0, 32, 0⟩
/-- Address of EVT_PCYCLE (R477). -/
@[simp] abbrev A.EVT_PCYCLE : Nat := 0xE0020
/-- EVT_PCYCLE.COUNT [31:0], RO, reset 0, keeps P (R477). -/
abbrev R.EVT_PCYCLE_COUNT : Fld := ⟨A.EVT_PCYCLE, 0, 32, 0⟩
/-- Address of EVT_FLUSH (R477). -/
@[simp] abbrev A.EVT_FLUSH : Nat := 0xE0024
/-- EVT_FLUSH.GO [0:0], WO, reset 0, keeps V (R477). -/
abbrev R.EVT_FLUSH_GO : Fld := ⟨A.EVT_FLUSH, 0, 1, 0⟩
/-- Address of EVT_TIME_MARK_LO (R477). -/
@[simp] abbrev A.EVT_TIME_MARK_LO : Nat := 0xE0028
/-- EVT_TIME_MARK_LO.LO [31:0], WO, reset 0, keeps V (R477). -/
abbrev R.EVT_TIME_MARK_LO_LO : Fld := ⟨A.EVT_TIME_MARK_LO, 0, 32, 0⟩
/-- Address of EVT_TIME_MARK_HI (R477). -/
@[simp] abbrev A.EVT_TIME_MARK_HI : Nat := 0xE002C
/-- EVT_TIME_MARK_HI.HI [31:0], WO, reset 0, keeps V (R477). -/
abbrev R.EVT_TIME_MARK_HI_HI : Fld := ⟨A.EVT_TIME_MARK_HI, 0, 32, 0⟩
/-- Address of FLT_SEL (R477). -/
@[simp] abbrev A.FLT_SEL : Nat := 0xE0100
/-- FLT_SEL.KIND [2:0], RW, reset 0, keeps V (R477). -/
abbrev R.FLT_SEL_KIND : Fld := ⟨A.FLT_SEL, 0, 3, 0⟩
/-- FLT_SEL.INDEX [15:3], RW, reset 0, keeps V (R477). -/
abbrev R.FLT_SEL_INDEX : Fld := ⟨A.FLT_SEL, 3, 13, 0⟩
/-- Address of FLT_DATA (R477). -/
@[simp] abbrev A.FLT_DATA : Nat := 0xE0104
/-- FLT_DATA.C [7:0], RO, reset 0, keeps V (R477). -/
abbrev R.FLT_DATA_C : Fld := ⟨A.FLT_DATA, 0, 8, 0⟩
/-- FLT_DATA.B [15:8], RO, reset 0, keeps V (R477). -/
abbrev R.FLT_DATA_B : Fld := ⟨A.FLT_DATA, 8, 8, 0⟩
/-- FLT_DATA.PERMANENT [16:16], RO, reset 0, keeps V (R477). -/
abbrev R.FLT_DATA_PERMANENT : Fld := ⟨A.FLT_DATA, 16, 1, 0⟩
/-- Address of RET_STATUS (R477). -/
@[simp] abbrev A.RET_STATUS : Nat := 0xE0200
/-- RET_STATUS.ENTRIES [14:0], RO, reset 0, keeps P (R477). -/
abbrev R.RET_STATUS_ENTRIES : Fld := ⟨A.RET_STATUS, 0, 15, 0⟩
/-- RET_STATUS.ACTIVE [29:15], RO, reset 0, keeps V (R477). -/
abbrev R.RET_STATUS_ACTIVE : Fld := ⟨A.RET_STATUS, 15, 15, 0⟩
/-- RET_STATUS.FULL [30:30], RO, reset 0, keeps P (R477). -/
abbrev R.RET_STATUS_FULL : Fld := ⟨A.RET_STATUS, 30, 1, 0⟩
/-- Address of RET_CTRL (R477). -/
@[simp] abbrev A.RET_CTRL : Nat := 0xE0204
/-- RET_CTRL.ATTN_ACK [0:0], WO, reset 0, keeps V (R477). -/
abbrev R.RET_CTRL_ATTN_ACK : Fld := ⟨A.RET_CTRL, 0, 1, 0⟩
/-- Address of RMGR_SEL (R477). -/
@[simp] abbrev A.RMGR_SEL : Nat := 0xE0300
/-- RMGR_SEL.DOMAIN [3:0], RW, reset 0, keeps V (R477). -/
abbrev R.RMGR_SEL_DOMAIN : Fld := ⟨A.RMGR_SEL, 0, 4, 0⟩
/-- RMGR_SEL.INDEX [9:4], RW, reset 0, keeps V (R477). -/
abbrev R.RMGR_SEL_INDEX : Fld := ⟨A.RMGR_SEL, 4, 6, 0⟩
/-- Address of RMGR_DATA (R477). -/
@[simp] abbrev A.RMGR_DATA : Nat := 0xE0304
/-- RMGR_DATA.ACTIVE [0:0], RO, reset 0, keeps V (R477). -/
abbrev R.RMGR_DATA_ACTIVE : Fld := ⟨A.RMGR_DATA, 0, 1, 0⟩
/-- RMGR_DATA.QUEUED [7:1], RO, reset 0, keeps V (R477). -/
abbrev R.RMGR_DATA_QUEUED : Fld := ⟨A.RMGR_DATA, 1, 7, 0⟩
/-- RMGR_DATA.REPLANS [15:8], RO, reset 0, keeps V (R477). -/
abbrev R.RMGR_DATA_REPLANS : Fld := ⟨A.RMGR_DATA, 8, 8, 0⟩
/-- RMGR_DATA.TRIGGER [31:16], RO, reset 0, keeps V (R477). -/
abbrev R.RMGR_DATA_TRIGGER : Fld := ⟨A.RMGR_DATA, 16, 16, 0⟩

-- 16_kindling_startup_reset_and_selftest.md
/-- Address of ST_CTRL (R450). -/
@[simp] abbrev A.ST_CTRL : Nat := 0xF0000
/-- ST_CTRL.BUDGET [6:0], RW, reset 60, keeps K (R450). -/
abbrev R.ST_CTRL_BUDGET : Fld := ⟨A.ST_CTRL, 0, 7, 60⟩
/-- ST_CTRL.RETEST [14:7], RW, reset 10, keeps K (R450). -/
abbrev R.ST_CTRL_RETEST : Fld := ⟨A.ST_CTRL, 7, 8, 10⟩
/-- Address of ST_STATUS (R450). -/
@[simp] abbrev A.ST_STATUS : Nat := 0xF0004
/-- ST_STATUS.PHASE [2:0], RO, reset 0, keeps V (R450). -/
abbrev R.ST_STATUS_PHASE : Fld := ⟨A.ST_STATUS, 0, 3, 0⟩
/-- ST_STATUS.POWER_W [9:3], RO, reset 0, keeps V (R450). -/
abbrev R.ST_STATUS_POWER_W : Fld := ⟨A.ST_STATUS, 3, 7, 0⟩
/-- ST_STATUS.RUNNING [16:10], RO, reset 0, keeps V (R450). -/
abbrev R.ST_STATUS_RUNNING : Fld := ⟨A.ST_STATUS, 10, 7, 0⟩
/-- ST_STATUS.FAILS [24:17], RO, reset 0, keeps V (R450). -/
abbrev R.ST_STATUS_FAILS : Fld := ⟨A.ST_STATUS, 17, 8, 0⟩
/-- Address of ST_REQ (R450). -/
@[simp] abbrev A.ST_REQ : Nat := 0xF0008
/-- ST_REQ.KIND [2:0], RW, reset 0, keeps V (R450). -/
abbrev R.ST_REQ_KIND : Fld := ⟨A.ST_REQ, 0, 3, 0⟩
/-- ST_REQ.INDEX [12:3], RW, reset 0, keeps V (R450). -/
abbrev R.ST_REQ_INDEX : Fld := ⟨A.ST_REQ, 3, 10, 0⟩
/-- ST_REQ.GO [13:13], WO, reset 0, keeps V (R450). -/
abbrev R.ST_REQ_GO : Fld := ⟨A.ST_REQ, 13, 1, 0⟩
/-- ST_REQ.RESULT [15:14], RO, reset 0, keeps V (R450). -/
abbrev R.ST_REQ_RESULT : Fld := ⟨A.ST_REQ, 14, 2, 0⟩
/-- Address of ST_SEL (R450). -/
@[simp] abbrev A.ST_SEL : Nat := 0xF0010
/-- ST_SEL.KIND [2:0], RW, reset 0, keeps V (R450). -/
abbrev R.ST_SEL_KIND : Fld := ⟨A.ST_SEL, 0, 3, 0⟩
/-- ST_SEL.INDEX [12:3], RW, reset 0, keeps V (R450). -/
abbrev R.ST_SEL_INDEX : Fld := ⟨A.ST_SEL, 3, 10, 0⟩
/-- Address of ST_DATA (R450). -/
@[simp] abbrev A.ST_DATA (k : Nat) : Nat := 0xF0014 + k * 0x4
/-- ST_DATA.DATA [31:0], RO, reset 0, keeps V (R450). -/
abbrev R.ST_DATA_DATA (k : Nat) : Fld := ⟨A.ST_DATA k, 0, 32, 0⟩
/-- Address of ST_START (R450). -/
@[simp] abbrev A.ST_START : Nat := 0xF0020
/-- ST_START.HOST_MS [19:0], RO, reset 0, keeps V (R450). -/
abbrev R.ST_START_HOST_MS : Fld := ⟨A.ST_START, 0, 20, 0⟩
/-- ST_START.KIND [22:20], RO, reset 0, keeps V (R450). -/
abbrev R.ST_START_KIND : Fld := ⟨A.ST_START, 20, 3, 0⟩
/-- Address of DBG_TAP (R450). -/
@[simp] abbrev A.DBG_TAP : Nat := 0xF0040
/-- DBG_TAP.ZEROIZE_COUNT [15:0], RO, reset 0, keeps P (R450). -/
abbrev R.DBG_TAP_ZEROIZE_COUNT : Fld := ⟨A.DBG_TAP, 0, 16, 0⟩
/-- DBG_TAP.TAP_USED [16:16], RO, reset 0, keeps V (R450). -/
abbrev R.DBG_TAP_TAP_USED : Fld := ⟨A.DBG_TAP, 16, 1, 0⟩

-- 02_hda_slot_interface.md
/-- Address of SLOT_STATUS (R63). -/
@[simp] abbrev A.SLOT_STATUS (s : Nat) : Nat := 0x100000 + s * 0x1000
/-- SLOT_STATUS.PRESENT [0:0], RO, reset 0, keeps V (R63). -/
abbrev R.SLOT_STATUS_PRESENT (s : Nat) : Fld := ⟨A.SLOT_STATUS s, 0, 1, 0⟩
/-- SLOT_STATUS.EN5 [1:1], RO, reset 0, keeps V (R63). -/
abbrev R.SLOT_STATUS_EN5 (s : Nat) : Fld := ⟨A.SLOT_STATUS s, 1, 1, 0⟩
/-- SLOT_STATUS.EN12 [2:2], RO, reset 0, keeps V (R63). -/
abbrev R.SLOT_STATUS_EN12 (s : Nat) : Fld := ⟨A.SLOT_STATUS s, 2, 1, 0⟩
/-- SLOT_STATUS.STATE [5:3], RO, reset 0, keeps V (R63). -/
abbrev R.SLOT_STATUS_STATE (s : Nat) : Fld := ⟨A.SLOT_STATUS s, 3, 3, 0⟩
/-- SLOT_STATUS.ASSIST_KIND [6:6], RO, reset 0, keeps V (R63). -/
abbrev R.SLOT_STATUS_ASSIST_KIND (s : Nat) : Fld := ⟨A.SLOT_STATUS s, 6, 1, 0⟩
/-- SLOT_STATUS.MODAREA_VALID [7:7], RO, reset 0, keeps V (R63). -/
abbrev R.SLOT_STATUS_MODAREA_VALID (s : Nat) : Fld := ⟨A.SLOT_STATUS s, 7, 1, 0⟩
/-- SLOT_STATUS.PSFLT0 [8:8], RO, reset 0, keeps V (R63). -/
abbrev R.SLOT_STATUS_PSFLT0 (s : Nat) : Fld := ⟨A.SLOT_STATUS s, 8, 1, 0⟩
/-- SLOT_STATUS.PSFLT1 [9:9], RO, reset 0, keeps V (R63). -/
abbrev R.SLOT_STATUS_PSFLT1 (s : Nat) : Fld := ⟨A.SLOT_STATUS s, 9, 1, 0⟩
/-- Address of SLOT_CTRL (R63). -/
@[simp] abbrev A.SLOT_CTRL (s : Nat) : Nat := 0x100004 + s * 0x1000
/-- SLOT_CTRL.ENABLE [0:0], RW, reset 1, keeps K (R63). -/
abbrev R.SLOT_CTRL_ENABLE (s : Nat) : Fld := ⟨A.SLOT_CTRL s, 0, 1, 1⟩
/-- SLOT_CTRL.REBRING [1:1], WO, reset 0, keeps V (R63). -/
abbrev R.SLOT_CTRL_REBRING (s : Nat) : Fld := ⟨A.SLOT_CTRL s, 1, 1, 0⟩
/-- SLOT_CTRL.POWER_OFF [2:2], RW, reset 0, keeps V (R63). -/
abbrev R.SLOT_CTRL_POWER_OFF (s : Nat) : Fld := ⟨A.SLOT_CTRL s, 2, 1, 0⟩
/-- SLOT_CTRL.ATTN [3:3], RW, reset 0, keeps V (R63). -/
abbrev R.SLOT_CTRL_ATTN (s : Nat) : Fld := ⟨A.SLOT_CTRL s, 3, 1, 0⟩
/-- Address of SLOT_MEAS_PHASE (R63). -/
@[simp] abbrev A.SLOT_MEAS_PHASE (s : Nat) : Nat := 0x100010 + s * 0x1000
/-- SLOT_MEAS_PHASE.PH_U [9:0], RO, reset 0, keeps V (R63). -/
abbrev R.SLOT_MEAS_PHASE_PH_U (s : Nat) : Fld := ⟨A.SLOT_MEAS_PHASE s, 0, 10, 0⟩
/-- SLOT_MEAS_PHASE.PH_V [19:10], RO, reset 0, keeps V (R63). -/
abbrev R.SLOT_MEAS_PHASE_PH_V (s : Nat) : Fld := ⟨A.SLOT_MEAS_PHASE s, 10, 10, 0⟩
/-- SLOT_MEAS_PHASE.PH_W [29:20], RO, reset 0, keeps V (R63). -/
abbrev R.SLOT_MEAS_PHASE_PH_W (s : Nat) : Fld := ⟨A.SLOT_MEAS_PHASE s, 20, 10, 0⟩
/-- Address of SLOT_MEAS_VCM (R63). -/
@[simp] abbrev A.SLOT_MEAS_VCM (m : Nat) : Nat := 0x100014 + (m / 2) * 0x1000 + (m % 2) * 0x4
/-- SLOT_MEAS_VCM.RES [11:0], RO, reset 0, keeps V (R63). -/
abbrev R.SLOT_MEAS_VCM_RES (m : Nat) : Fld := ⟨A.SLOT_MEAS_VCM m, 0, 12, 0⟩
/-- SLOT_MEAS_VCM.IND [27:12], RO, reset 0, keeps V (R63). -/
abbrev R.SLOT_MEAS_VCM_IND (m : Nat) : Fld := ⟨A.SLOT_MEAS_VCM m, 12, 16, 0⟩
/-- Address of SLOT_CABLE (R63). -/
@[simp] abbrev A.SLOT_CABLE (s : Nat) : Nat := 0x10001C + s * 0x1000
/-- SLOT_CABLE.LEN_MM [9:0], RO, reset 0, keeps V (R63). -/
abbrev R.SLOT_CABLE_LEN_MM (s : Nat) : Fld := ⟨A.SLOT_CABLE s, 0, 10, 0⟩
/-- SLOT_CABLE.SPREAD_MM [17:10], RO, reset 0, keeps V (R63). -/
abbrev R.SLOT_CABLE_SPREAD_MM (s : Nat) : Fld := ⟨A.SLOT_CABLE s, 10, 8, 0⟩
/-- Address of SLOT_PSER_CMD (R63). -/
@[simp] abbrev A.SLOT_PSER_CMD (m : Nat) : Nat := 0x100020 + (m / 2) * 0x1000 + (m % 2) * 0x8
/-- SLOT_PSER_CMD.ADDR [6:0], RW, reset 0, keeps V (R63). -/
abbrev R.SLOT_PSER_CMD_ADDR (m : Nat) : Fld := ⟨A.SLOT_PSER_CMD m, 0, 7, 0⟩
/-- SLOT_PSER_CMD.DIR [7:7], RW, reset 0, keeps V (R63). -/
abbrev R.SLOT_PSER_CMD_DIR (m : Nat) : Fld := ⟨A.SLOT_PSER_CMD m, 7, 1, 0⟩
/-- SLOT_PSER_CMD.WDATA [23:8], RW, reset 0, keeps V (R63). -/
abbrev R.SLOT_PSER_CMD_WDATA (m : Nat) : Fld := ⟨A.SLOT_PSER_CMD m, 8, 16, 0⟩
/-- SLOT_PSER_CMD.GO [24:24], WO, reset 0, keeps V (R63). -/
abbrev R.SLOT_PSER_CMD_GO (m : Nat) : Fld := ⟨A.SLOT_PSER_CMD m, 24, 1, 0⟩
/-- SLOT_PSER_CMD.DONE [25:25], RO, reset 0, keeps V (R63). -/
abbrev R.SLOT_PSER_CMD_DONE (m : Nat) : Fld := ⟨A.SLOT_PSER_CMD m, 25, 1, 0⟩
/-- SLOT_PSER_CMD.FAILED [26:26], RO, reset 0, keeps V (R63). -/
abbrev R.SLOT_PSER_CMD_FAILED (m : Nat) : Fld := ⟨A.SLOT_PSER_CMD m, 26, 1, 0⟩
/-- Address of SLOT_PSER_DATA (R63). -/
@[simp] abbrev A.SLOT_PSER_DATA (m : Nat) : Nat := 0x100024 + (m / 2) * 0x1000 + (m % 2) * 0x8
/-- SLOT_PSER_DATA.RDATA [15:0], RO, reset 0, keeps V (R63). -/
abbrev R.SLOT_PSER_DATA_RDATA (m : Nat) : Fld := ⟨A.SLOT_PSER_DATA m, 0, 16, 0⟩
/-- SLOT_PSER_DATA.LINK_ERRORS [31:16], RC, reset 0, keeps V (R63). -/
abbrev R.SLOT_PSER_DATA_LINK_ERRORS (m : Nat) : Fld := ⟨A.SLOT_PSER_DATA m, 16, 16, 0⟩

-- 03_spindle_motors.md
/-- Address of SPIN_CTRL (R91). -/
@[simp] abbrev A.SPIN_CTRL (s : Nat) : Nat := 0x100080 + s * 0x1000
/-- SPIN_CTRL.SETPOINT [1:0], RW, reset 0, keeps V (R91). -/
abbrev R.SPIN_CTRL_SETPOINT (s : Nat) : Fld := ⟨A.SPIN_CTRL s, 0, 2, 0⟩
/-- SPIN_CTRL.AUTO [2:2], RW, reset 1, keeps K (R91). -/
abbrev R.SPIN_CTRL_AUTO (s : Nat) : Fld := ⟨A.SPIN_CTRL s, 2, 1, 1⟩
/-- SPIN_CTRL.RESTART [3:3], WO, reset 0, keeps V (R91). -/
abbrev R.SPIN_CTRL_RESTART (s : Nat) : Fld := ⟨A.SPIN_CTRL s, 3, 1, 0⟩
/-- Address of SPIN_STATUS (R91). -/
@[simp] abbrev A.SPIN_STATUS (s : Nat) : Nat := 0x100084 + s * 0x1000
/-- SPIN_STATUS.STATE [3:0], RO, reset 0, keeps V (R91). -/
abbrev R.SPIN_STATUS_STATE (s : Nat) : Fld := ⟨A.SPIN_STATUS s, 0, 4, 0⟩
/-- SPIN_STATUS.SERVICE [5:4], RO, reset 0, keeps V (R91). -/
abbrev R.SPIN_STATUS_SERVICE (s : Nat) : Fld := ⟨A.SPIN_STATUS s, 4, 2, 0⟩
/-- SPIN_STATUS.IN_WINDOW [6:6], RO, reset 0, keeps V (R91). -/
abbrev R.SPIN_STATUS_IN_WINDOW (s : Nat) : Fld := ⟨A.SPIN_STATUS s, 6, 1, 0⟩
/-- SPIN_STATUS.SUPPLY_LIMITED [7:7], RO, reset 0, keeps V (R91). -/
abbrev R.SPIN_STATUS_SUPPLY_LIMITED (s : Nat) : Fld := ⟨A.SPIN_STATUS s, 7, 1, 0⟩
/-- SPIN_STATUS.ADVANCE [8:8], RO, reset 0, keeps V (R91). -/
abbrev R.SPIN_STATUS_ADVANCE (s : Nat) : Fld := ⟨A.SPIN_STATUS s, 8, 1, 0⟩
/-- SPIN_STATUS.START_FAILS [10:9], RO, reset 0, keeps V (R91). -/
abbrev R.SPIN_STATUS_START_FAILS (s : Nat) : Fld := ⟨A.SPIN_STATUS s, 9, 2, 0⟩
/-- Address of SPIN_SPEED (R91). -/
@[simp] abbrev A.SPIN_SPEED (s : Nat) : Nat := 0x100088 + s * 0x1000
/-- SPIN_SPEED.SPEED [16:0], RO, reset 0, keeps V (R91). -/
abbrev R.SPIN_SPEED_SPEED (s : Nat) : Fld := ⟨A.SPIN_SPEED s, 0, 17, 0⟩
/-- Address of SPIN_REF (R91). -/
@[simp] abbrev A.SPIN_REF (s : Nat) : Nat := 0x10008C + s * 0x1000
/-- SPIN_REF.REF [16:0], RO, reset 0, keeps V (R91). -/
abbrev R.SPIN_REF_REF (s : Nat) : Fld := ⟨A.SPIN_REF s, 0, 17, 0⟩
/-- SPIN_REF.RAMPING [17:17], RO, reset 0, keeps V (R91). -/
abbrev R.SPIN_REF_RAMPING (s : Nat) : Fld := ⟨A.SPIN_REF s, 17, 1, 0⟩
/-- SPIN_REF.HELD [18:18], RO, reset 0, keeps V (R91). -/
abbrev R.SPIN_REF_HELD (s : Nat) : Fld := ⟨A.SPIN_REF s, 18, 1, 0⟩
/-- Address of SPIN_ILIM (R91). -/
@[simp] abbrev A.SPIN_ILIM (s : Nat) : Nat := 0x100090 + s * 0x1000
/-- SPIN_ILIM.RUN_ILIM [5:0], RW, reset 34, keeps K (R91). -/
abbrev R.SPIN_ILIM_RUN_ILIM (s : Nat) : Fld := ⟨A.SPIN_ILIM s, 0, 6, 34⟩
/-- SPIN_ILIM.ALIGN_ILIM [13:8], RW, reset 20, keeps K (R91). -/
abbrev R.SPIN_ILIM_ALIGN_ILIM (s : Nat) : Fld := ⟨A.SPIN_ILIM s, 8, 6, 20⟩
/-- SPIN_ILIM.BRAKE_ILIM [21:16], RW, reset 30, keeps K (R91). -/
abbrev R.SPIN_ILIM_BRAKE_ILIM (s : Nat) : Fld := ⟨A.SPIN_ILIM s, 16, 6, 30⟩
/-- Address of SPIN_START (R91). -/
@[simp] abbrev A.SPIN_START (s : Nat) : Nat := 0x100094 + s * 0x1000
/-- SPIN_START.RAMP_RATE [7:0], RW, reset 40, keeps K (R91). -/
abbrev R.SPIN_START_RAMP_RATE (s : Nat) : Fld := ⟨A.SPIN_START s, 0, 8, 40⟩
/-- SPIN_START.ALIGN_TIME [15:8], RW, reset 20, keeps K (R91). -/
abbrev R.SPIN_START_ALIGN_TIME (s : Nat) : Fld := ⟨A.SPIN_START s, 8, 8, 20⟩
/-- SPIN_START.SLEW [23:16], RW, reset 72, keeps K (R91). -/
abbrev R.SPIN_START_SLEW (s : Nat) : Fld := ⟨A.SPIN_START s, 16, 8, 72⟩
/-- Address of SPIN_ADV (R91). -/
@[simp] abbrev A.SPIN_ADV (s : Nat) (i : Nat) : Nat := 0x100098 + s * 0x1000 + i * 0x4
/-- SPIN_ADV.ENTRY_LO [15:0], RW, reset spinAdvLo, keeps K (R91). -/
abbrev R.SPIN_ADV_ENTRY_LO (s : Nat) (i : Nat) : Fld := ⟨A.SPIN_ADV s i, 0, 16, spinAdvLo i⟩
/-- SPIN_ADV.ENTRY_HI [31:16], RW, reset spinAdvHi, keeps K (R91). -/
abbrev R.SPIN_ADV_ENTRY_HI (s : Nat) (i : Nat) : Fld := ⟨A.SPIN_ADV s i, 16, 16, spinAdvHi i⟩
/-- Address of SPIN_COUNT (R91). -/
@[simp] abbrev A.SPIN_COUNT (s : Nat) : Nat := 0x1000A8 + s * 0x1000
/-- SPIN_COUNT.LOSSES [7:0], RC, reset 0, keeps V (R91). -/
abbrev R.SPIN_COUNT_LOSSES (s : Nat) : Fld := ⟨A.SPIN_COUNT s, 0, 8, 0⟩
/-- SPIN_COUNT.RECATCH_FAILS [15:8], RC, reset 0, keeps V (R91). -/
abbrev R.SPIN_COUNT_RECATCH_FAILS (s : Nat) : Fld := ⟨A.SPIN_COUNT s, 8, 8, 0⟩
/-- SPIN_COUNT.START_FAILS [23:16], RC, reset 0, keeps V (R91). -/
abbrev R.SPIN_COUNT_START_FAILS (s : Nat) : Fld := ⟨A.SPIN_COUNT s, 16, 8, 0⟩
/-- SPIN_COUNT.REFUSALS [31:24], RC, reset 0, keeps V (R91). -/
abbrev R.SPIN_COUNT_REFUSALS (s : Nat) : Fld := ⟨A.SPIN_COUNT s, 24, 8, 0⟩
/-- Address of SPIN_PRED (R91). -/
@[simp] abbrev A.SPIN_PRED (s : Nat) : Nat := 0x1000AC + s * 0x1000
/-- SPIN_PRED.PREDICTED [15:0], RC, reset 0, keeps V (R91). -/
abbrev R.SPIN_PRED_PREDICTED (s : Nat) : Fld := ⟨A.SPIN_PRED s, 0, 16, 0⟩
/-- SPIN_PRED.ILIM_TRIPS [31:16], RC, reset 0, keeps V (R91). -/
abbrev R.SPIN_PRED_ILIM_TRIPS (s : Nat) : Fld := ⟨A.SPIN_PRED s, 16, 16, 0⟩
/-- Address of SPIN_BEMF (R91). -/
@[simp] abbrev A.SPIN_BEMF (s : Nat) : Nat := 0x1000B0 + s * 0x1000
/-- SPIN_BEMF.SENSE_SPEED [16:0], RO, reset 0, keeps V (R91). -/
abbrev R.SPIN_BEMF_SENSE_SPEED (s : Nat) : Fld := ⟨A.SPIN_BEMF s, 0, 17, 0⟩
/-- SPIN_BEMF.SENSE_REVERSE [17:17], RO, reset 0, keeps V (R91). -/
abbrev R.SPIN_BEMF_SENSE_REVERSE (s : Nat) : Fld := ⟨A.SPIN_BEMF s, 17, 1, 0⟩
/-- SPIN_BEMF.SENSE_RESULT [19:18], RO, reset 0, keeps V (R91). -/
abbrev R.SPIN_BEMF_SENSE_RESULT (s : Nat) : Fld := ⟨A.SPIN_BEMF s, 18, 2, 0⟩

-- 04_positioning_and_damper_array.md
/-- Address of ACT_CTRL (R126). -/
@[simp] abbrev A.ACT_CTRL (m : Nat) : Nat := 0x1000C0 + (m / 2) * 0x1000 + (m % 2) * 0x20
/-- ACT_CTRL.SET_MAX [3:0], RW, reset 10, keeps K (R126). -/
abbrev R.ACT_CTRL_SET_MAX (m : Nat) : Fld := ⟨A.ACT_CTRL m, 0, 4, 10⟩
/-- ACT_CTRL.UNLOAD [4:4], RW, reset 0, keeps V (R126). -/
abbrev R.ACT_CTRL_UNLOAD (m : Nat) : Fld := ⟨A.ACT_CTRL m, 4, 1, 0⟩
/-- Address of ACT_STATUS (R126). -/
@[simp] abbrev A.ACT_STATUS (m : Nat) : Nat := 0x1000C4 + (m / 2) * 0x1000 + (m % 2) * 0x20
/-- ACT_STATUS.STATE [2:0], RO, reset 0, keeps V (R126). -/
abbrev R.ACT_STATUS_STATE (m : Nat) : Fld := ⟨A.ACT_STATUS m, 0, 3, 0⟩
/-- ACT_STATUS.REID_PENDING [3:3], RO, reset 0, keeps V (R126). -/
abbrev R.ACT_STATUS_REID_PENDING (m : Nat) : Fld := ⟨A.ACT_STATUS m, 3, 1, 0⟩
/-- ACT_STATUS.EMERG [4:4], RO, reset 0, keeps V (R126). -/
abbrev R.ACT_STATUS_EMERG (m : Nat) : Fld := ⟨A.ACT_STATUS m, 4, 1, 0⟩
/-- ACT_STATUS.SET_MASK [17:8], RO, reset 0, keeps V (R126). -/
abbrev R.ACT_STATUS_SET_MASK (m : Nat) : Fld := ⟨A.ACT_STATUS m, 8, 10, 0⟩
/-- ACT_STATUS.FOLLOW_MASK [27:18], RO, reset 0, keeps V (R126). -/
abbrev R.ACT_STATUS_FOLLOW_MASK (m : Nat) : Fld := ⟨A.ACT_STATUS m, 18, 10, 0⟩
/-- ACT_STATUS.SET_LIMIT [31:28], RO, reset 0, keeps V (R126). -/
abbrev R.ACT_STATUS_SET_LIMIT (m : Nat) : Fld := ⟨A.ACT_STATUS m, 28, 4, 0⟩
/-- Address of ACT_TARGET (R126). -/
@[simp] abbrev A.ACT_TARGET (m : Nat) : Nat := 0x1000C8 + (m / 2) * 0x1000 + (m % 2) * 0x20
/-- ACT_TARGET.TARGET [23:0], RO, reset 0, keeps V (R126). -/
abbrev R.ACT_TARGET_TARGET (m : Nat) : Fld := ⟨A.ACT_TARGET m, 0, 24, 0⟩
/-- ACT_TARGET.MODE [25:24], RO, reset 0, keeps V (R126). -/
abbrev R.ACT_TARGET_MODE (m : Nat) : Fld := ⟨A.ACT_TARGET m, 24, 2, 0⟩
/-- ACT_TARGET.ACCEL [26:26], RO, reset 0, keeps V (R126). -/
abbrev R.ACT_TARGET_ACCEL (m : Nat) : Fld := ⟨A.ACT_TARGET m, 26, 1, 0⟩
/-- Address of ACT_PES (R126). -/
@[simp] abbrev A.ACT_PES (m : Nat) : Nat := 0x1000CC + (m / 2) * 0x1000 + (m % 2) * 0x20
/-- ACT_PES.EV [23:0], RO, reset 0, keeps V (R126). -/
abbrev R.ACT_PES_EV (m : Nat) : Fld := ⟨A.ACT_PES m, 0, 24, 0⟩
/-- ACT_PES.SPREAD [31:24], RO, reset 0, keeps V (R126). -/
abbrev R.ACT_PES_SPREAD (m : Nat) : Fld := ⟨A.ACT_PES m, 24, 8, 0⟩
/-- Address of ACT_CEIL (R126). -/
@[simp] abbrev A.ACT_CEIL (m : Nat) : Nat := 0x1000D0 + (m / 2) * 0x1000 + (m % 2) * 0x20
/-- ACT_CEIL.VIB_CEIL [11:0], RW, reset 2500, keeps K (R126). -/
abbrev R.ACT_CEIL_VIB_CEIL (m : Nat) : Fld := ⟨A.ACT_CEIL m, 0, 12, 2500⟩
/-- ACT_CEIL.VIB_CEIL_W [23:12], RW, reset 1400, keeps K (R126). -/
abbrev R.ACT_CEIL_VIB_CEIL_W (m : Nat) : Fld := ⟨A.ACT_CEIL m, 12, 12, 1400⟩
/-- Address of ACT_CURRENT (R126). -/
@[simp] abbrev A.ACT_CURRENT (m : Nat) : Nat := 0x1000D4 + (m / 2) * 0x1000 + (m % 2) * 0x20
/-- ACT_CURRENT.DEMAND [12:0], RO, reset 0, keeps V (R126). -/
abbrev R.ACT_CURRENT_DEMAND (m : Nat) : Fld := ⟨A.ACT_CURRENT m, 0, 13, 0⟩
/-- ACT_CURRENT.APPLIED [25:13], RO, reset 0, keeps V (R126). -/
abbrev R.ACT_CURRENT_APPLIED (m : Nat) : Fld := ⟨A.ACT_CURRENT m, 13, 13, 0⟩
/-- ACT_CURRENT.WIN [27:26], RO, reset 0, keeps V (R126). -/
abbrev R.ACT_CURRENT_WIN (m : Nat) : Fld := ⟨A.ACT_CURRENT m, 26, 2, 0⟩
/-- ACT_CURRENT.SATURATED [28:28], RO, reset 0, keeps V (R126). -/
abbrev R.ACT_CURRENT_SATURATED (m : Nat) : Fld := ⟨A.ACT_CURRENT m, 28, 1, 0⟩
/-- Address of ACT_COUNT (R126). -/
@[simp] abbrev A.ACT_COUNT (m : Nat) : Nat := 0x1000D8 + (m / 2) * 0x1000 + (m % 2) * 0x20
/-- ACT_COUNT.VCM_SAT_FAULTS [7:0], RC, reset 0, keeps V (R126). -/
abbrev R.ACT_COUNT_VCM_SAT_FAULTS (m : Nat) : Fld := ⟨A.ACT_COUNT m, 0, 8, 0⟩
/-- ACT_COUNT.SERVO_LOST [15:8], RC, reset 0, keeps V (R126). -/
abbrev R.ACT_COUNT_SERVO_LOST (m : Nat) : Fld := ⟨A.ACT_COUNT m, 8, 8, 0⟩
/-- ACT_COUNT.LOAD_FAILS [23:16], RC, reset 0, keeps V (R126). -/
abbrev R.ACT_COUNT_LOAD_FAILS (m : Nat) : Fld := ⟨A.ACT_COUNT m, 16, 8, 0⟩
/-- ACT_COUNT.EMERG_UNLOADS [31:24], RC, reset 0, keeps V (R126). -/
abbrev R.ACT_COUNT_EMERG_UNLOADS (m : Nat) : Fld := ⟨A.ACT_COUNT m, 24, 8, 0⟩
/-- Address of ACT_COIL (R126). -/
@[simp] abbrev A.ACT_COIL (m : Nat) : Nat := 0x1000DC + (m / 2) * 0x1000 + (m % 2) * 0x20
/-- ACT_COIL.T_EST [11:0], RO, reset 0, keeps V (R126). -/
abbrev R.ACT_COIL_T_EST (m : Nat) : Fld := ⟨A.ACT_COIL m, 0, 12, 0⟩
/-- ACT_COIL.KE [27:12], RO, reset 0, keeps V (R126). -/
abbrev R.ACT_COIL_KE (m : Nat) : Fld := ⟨A.ACT_COIL m, 12, 16, 0⟩

-- 05_read_write_channel.md
/-- Address of HEAD_CH_CTRL (R157). -/
@[simp] abbrev A.HEAD_CH_CTRL (g : Nat) : Nat := 0x100100 + (g / 20) * 0x1000 + (g % 20) * 0x40
/-- HEAD_CH_CTRL.LOOP_MODE [1:0], RW, reset 0, keeps V (R157). -/
abbrev R.HEAD_CH_CTRL_LOOP_MODE (g : Nat) : Fld := ⟨A.HEAD_CH_CTRL g, 0, 2, 0⟩
/-- HEAD_CH_CTRL.FIR_SET [3:2], RW, reset 0, keeps V (R157). -/
abbrev R.HEAD_CH_CTRL_FIR_SET (g : Nat) : Fld := ⟨A.HEAD_CH_CTRL g, 2, 2, 0⟩
/-- HEAD_CH_CTRL.TARGET_SET [5:4], RW, reset 0, keeps V (R157). -/
abbrev R.HEAD_CH_CTRL_TARGET_SET (g : Nat) : Fld := ⟨A.HEAD_CH_CTRL g, 4, 2, 0⟩
/-- HEAD_CH_CTRL.SM2_ONLY [6:6], RW, reset 0, keeps V (R157). -/
abbrev R.HEAD_CH_CTRL_SM2_ONLY (g : Nat) : Fld := ⟨A.HEAD_CH_CTRL g, 6, 1, 0⟩
/-- HEAD_CH_CTRL.FRAME_SHIFT [10:7], RW, reset 0, keeps V (R157). -/
abbrev R.HEAD_CH_CTRL_FRAME_SHIFT (g : Nat) : Fld := ⟨A.HEAD_CH_CTRL g, 7, 4, 0⟩
/-- HEAD_CH_CTRL.SM1_MAXERR [13:11], RW, reset 3, keeps K (R157). -/
abbrev R.HEAD_CH_CTRL_SM1_MAXERR (g : Nat) : Fld := ⟨A.HEAD_CH_CTRL g, 11, 3, 3⟩
/-- HEAD_CH_CTRL.SM2_MAXERR [16:14], RW, reset 2, keeps K (R157). -/
abbrev R.HEAD_CH_CTRL_SM2_MAXERR (g : Nat) : Fld := ⟨A.HEAD_CH_CTRL g, 14, 3, 2⟩
/-- HEAD_CH_CTRL.ERASE_DEFECTS [17:17], RW, reset 1, keeps K (R157). -/
abbrev R.HEAD_CH_CTRL_ERASE_DEFECTS (g : Nat) : Fld := ⟨A.HEAD_CH_CTRL g, 17, 1, 1⟩
/-- HEAD_CH_CTRL.WRITE_INHIBIT [18:18], RW, reset 0, keeps V (R157). -/
abbrev R.HEAD_CH_CTRL_WRITE_INHIBIT (g : Nat) : Fld := ⟨A.HEAD_CH_CTRL g, 18, 1, 0⟩
/-- Address of HEAD_CH_STATUS (R157). -/
@[simp] abbrev A.HEAD_CH_STATUS (g : Nat) : Nat := 0x100104 + (g / 20) * 0x1000 + (g % 20) * 0x40
/-- HEAD_CH_STATUS.ZONE [4:0], RO, reset 0, keeps V (R157). -/
abbrev R.HEAD_CH_STATUS_ZONE (g : Nat) : Fld := ⟨A.HEAD_CH_STATUS g, 0, 5, 0⟩
/-- HEAD_CH_STATUS.TIER [7:5], RO, reset 0, keeps V (R157). -/
abbrev R.HEAD_CH_STATUS_TIER (g : Nat) : Fld := ⟨A.HEAD_CH_STATUS g, 5, 3, 0⟩
/-- HEAD_CH_STATUS.MODE [9:8], RO, reset 0, keeps V (R157). -/
abbrev R.HEAD_CH_STATUS_MODE (g : Nat) : Fld := ⟨A.HEAD_CH_STATUS g, 8, 2, 0⟩
/-- HEAD_CH_STATUS.GATE [10:10], RO, reset 0, keeps V (R157). -/
abbrev R.HEAD_CH_STATUS_GATE (g : Nat) : Fld := ⟨A.HEAD_CH_STATUS g, 10, 1, 0⟩
/-- HEAD_CH_STATUS.HELD [11:11], RO, reset 0, keeps V (R157). -/
abbrev R.HEAD_CH_STATUS_HELD (g : Nat) : Fld := ⟨A.HEAD_CH_STATUS g, 11, 1, 0⟩
/-- HEAD_CH_STATUS.LAST_FRAME [13:12], RO, reset 0, keeps V (R157). -/
abbrev R.HEAD_CH_STATUS_LAST_FRAME (g : Nat) : Fld := ⟨A.HEAD_CH_STATUS g, 12, 2, 0⟩
/-- HEAD_CH_STATUS.VGA [21:14], RO, reset 0, keeps V (R157). -/
abbrev R.HEAD_CH_STATUS_VGA (g : Nat) : Fld := ⟨A.HEAD_CH_STATUS g, 14, 8, 0⟩
/-- Address of HEAD_AFE_TRIM (R157). -/
@[simp] abbrev A.HEAD_AFE_TRIM (g : Nat) : Nat := 0x100108 + (g / 20) * 0x1000 + (g % 20) * 0x40
/-- HEAD_AFE_TRIM.CTF_BOOST [3:0], RW, reset 0, keeps V (R157). -/
abbrev R.HEAD_AFE_TRIM_CTF_BOOST (g : Nat) : Fld := ⟨A.HEAD_AFE_TRIM g, 0, 4, 0⟩
/-- HEAD_AFE_TRIM.CTF_CUT [7:4], RW, reset 0, keeps V (R157). -/
abbrev R.HEAD_AFE_TRIM_CTF_CUT (g : Nat) : Fld := ⟨A.HEAD_AFE_TRIM g, 4, 4, 0⟩
/-- HEAD_AFE_TRIM.CTF_SPARES [10:8], RO, reset 0, keeps V (R157). -/
abbrev R.HEAD_AFE_TRIM_CTF_SPARES (g : Nat) : Fld := ⟨A.HEAD_AFE_TRIM g, 8, 3, 0⟩
/-- HEAD_AFE_TRIM.VGA_SPARES [13:11], RO, reset 0, keeps V (R157). -/
abbrev R.HEAD_AFE_TRIM_VGA_SPARES (g : Nat) : Fld := ⟨A.HEAD_AFE_TRIM g, 11, 3, 0⟩
/-- Address of HEAD_WRITE_TIMING (R157). -/
@[simp] abbrev A.HEAD_WRITE_TIMING (g : Nat) : Nat := 0x10010C + (g / 20) * 0x1000 + (g % 20) * 0x40
/-- HEAD_WRITE_TIMING.LAUNCH_PS [13:0], RO, reset 0, keeps V (R157). -/
abbrev R.HEAD_WRITE_TIMING_LAUNCH_PS (g : Nat) : Fld := ⟨A.HEAD_WRITE_TIMING g, 0, 14, 0⟩
/-- HEAD_WRITE_TIMING.PC1_OUTER [17:14], RW, reset 0, keeps V (R157). -/
abbrev R.HEAD_WRITE_TIMING_PC1_OUTER (g : Nat) : Fld := ⟨A.HEAD_WRITE_TIMING g, 14, 4, 0⟩
/-- HEAD_WRITE_TIMING.PC1_INNER [21:18], RW, reset 0, keeps V (R157). -/
abbrev R.HEAD_WRITE_TIMING_PC1_INNER (g : Nat) : Fld := ⟨A.HEAD_WRITE_TIMING g, 18, 4, 0⟩
/-- HEAD_WRITE_TIMING.PC2_OUTER [25:22], RW, reset 0, keeps V (R157). -/
abbrev R.HEAD_WRITE_TIMING_PC2_OUTER (g : Nat) : Fld := ⟨A.HEAD_WRITE_TIMING g, 22, 4, 0⟩
/-- HEAD_WRITE_TIMING.PC2_INNER [29:26], RW, reset 0, keeps V (R157). -/
abbrev R.HEAD_WRITE_TIMING_PC2_INNER (g : Nat) : Fld := ⟨A.HEAD_WRITE_TIMING g, 26, 4, 0⟩
/-- Address of HEAD_ASSIST (R157). -/
@[simp] abbrev A.HEAD_ASSIST (g : Nat) : Nat := 0x100110 + (g / 20) * 0x1000 + (g % 20) * 0x40
/-- HEAD_ASSIST.SETPOINT [11:0], RO, reset 0, keeps V (R157). -/
abbrev R.HEAD_ASSIST_SETPOINT (g : Nat) : Fld := ⟨A.HEAD_ASSIST g, 0, 12, 0⟩
/-- HEAD_ASSIST.ITH_EST [23:12], RO, reset 0, keeps V (R157). -/
abbrev R.HEAD_ASSIST_ITH_EST (g : Nat) : Fld := ⟨A.HEAD_ASSIST g, 12, 12, 0⟩
/-- HEAD_ASSIST.AT_MAX [24:24], RO, reset 0, keeps V (R157). -/
abbrev R.HEAD_ASSIST_AT_MAX (g : Nat) : Fld := ⟨A.HEAD_ASSIST g, 24, 1, 0⟩
/-- HEAD_ASSIST.DUTY [31:25], RO, reset 0, keeps V (R157). -/
abbrev R.HEAD_ASSIST_DUTY (g : Nat) : Fld := ⟨A.HEAD_ASSIST g, 25, 7, 0⟩
/-- Address of HEAD_FRAME_COUNT (R157). -/
@[simp] abbrev A.HEAD_FRAME_COUNT (g : Nat) : Nat := 0x100114 + (g / 20) * 0x1000 + (g % 20) * 0x40
/-- HEAD_FRAME_COUNT.XCHECK_REFRAME [7:0], RC, reset 0, keeps V (R157). -/
abbrev R.HEAD_FRAME_COUNT_XCHECK_REFRAME (g : Nat) : Fld := ⟨A.HEAD_FRAME_COUNT g, 0, 8, 0⟩
/-- HEAD_FRAME_COUNT.SM1_MISS_REFRAME [15:8], RC, reset 0, keeps V (R157). -/
abbrev R.HEAD_FRAME_COUNT_SM1_MISS_REFRAME (g : Nat) : Fld := ⟨A.HEAD_FRAME_COUNT g, 8, 8, 0⟩
/-- HEAD_FRAME_COUNT.SM2_MISS [23:16], RC, reset 0, keeps V (R157). -/
abbrev R.HEAD_FRAME_COUNT_SM2_MISS (g : Nat) : Fld := ⟨A.HEAD_FRAME_COUNT g, 16, 8, 0⟩
/-- HEAD_FRAME_COUNT.FRAME_FAIL [31:24], RC, reset 0, keeps V (R157). -/
abbrev R.HEAD_FRAME_COUNT_FRAME_FAIL (g : Nat) : Fld := ⟨A.HEAD_FRAME_COUNT g, 24, 8, 0⟩
/-- Address of HEAD_DEFECT_COUNT (R157). -/
@[simp] abbrev A.HEAD_DEFECT_COUNT (g : Nat) : Nat := 0x100118 + (g / 20) * 0x1000 + (g % 20) * 0x40
/-- HEAD_DEFECT_COUNT.DEFECT_SPANS [15:0], RC, reset 0, keeps V (R157). -/
abbrev R.HEAD_DEFECT_COUNT_DEFECT_SPANS (g : Nat) : Fld := ⟨A.HEAD_DEFECT_COUNT g, 0, 16, 0⟩
/-- HEAD_DEFECT_COUNT.TORN [23:16], RC, reset 0, keeps V (R157). -/
abbrev R.HEAD_DEFECT_COUNT_TORN (g : Nat) : Fld := ⟨A.HEAD_DEFECT_COUNT g, 16, 8, 0⟩
/-- HEAD_DEFECT_COUNT.ERASURE_LIMIT [31:24], RC, reset 0, keeps V (R157). -/
abbrev R.HEAD_DEFECT_COUNT_ERASURE_LIMIT (g : Nat) : Fld := ⟨A.HEAD_DEFECT_COUNT g, 24, 8, 0⟩
/-- Address of HEAD_ADC (R157). -/
@[simp] abbrev A.HEAD_ADC (g : Nat) : Nat := 0x10011C + (g / 20) * 0x1000 + (g % 20) * 0x40
/-- HEAD_ADC.INDEX [5:0], RW, reset 1, keeps V (R157). -/
abbrev R.HEAD_ADC_INDEX (g : Nat) : Fld := ⟨A.HEAD_ADC g, 0, 6, 1⟩
/-- HEAD_ADC.COMP [12:6], RO, reset 0, keeps V (R157). -/
abbrev R.HEAD_ADC_COMP (g : Nat) : Fld := ⟨A.HEAD_ADC g, 6, 7, 0⟩
/-- HEAD_ADC.USABLE [19:13], RO, reset 0, keeps V (R157). -/
abbrev R.HEAD_ADC_USABLE (g : Nat) : Fld := ⟨A.HEAD_ADC g, 13, 7, 0⟩
/-- HEAD_ADC.WORST_ERR [25:20], RO, reset 0, keeps V (R157). -/
abbrev R.HEAD_ADC_WORST_ERR (g : Nat) : Fld := ⟨A.HEAD_ADC g, 20, 6, 0⟩

-- 04_positioning_and_damper_array.md
/-- Address of HEAD_PES (R126). -/
@[simp] abbrev A.HEAD_PES (g : Nat) : Nat := 0x100120 + (g / 20) * 0x1000 + (g % 20) * 0x40
/-- HEAD_PES.PES [23:0], RO, reset 0, keeps V (R126). -/
abbrev R.HEAD_PES_PES (g : Nat) : Fld := ⟨A.HEAD_PES g, 0, 24, 0⟩
/-- HEAD_PES.VALID [24:24], RO, reset 0, keeps V (R126). -/
abbrev R.HEAD_PES_VALID (g : Nat) : Fld := ⟨A.HEAD_PES g, 24, 1, 0⟩
/-- HEAD_PES.IN_SET [25:25], RO, reset 0, keeps V (R126). -/
abbrev R.HEAD_PES_IN_SET (g : Nat) : Fld := ⟨A.HEAD_PES g, 25, 1, 0⟩
/-- HEAD_PES.FOLLOWING [26:26], RO, reset 0, keeps V (R126). -/
abbrev R.HEAD_PES_FOLLOWING (g : Nat) : Fld := ⟨A.HEAD_PES g, 26, 1, 0⟩
/-- HEAD_PES.RRO_BAD [27:27], RO, reset 0, keeps V (R126). -/
abbrev R.HEAD_PES_RRO_BAD (g : Nat) : Fld := ⟨A.HEAD_PES g, 27, 1, 0⟩
/-- HEAD_PES.WRITE_SAFE [28:28], RO, reset 0, keeps V (R126). -/
abbrev R.HEAD_PES_WRITE_SAFE (g : Nat) : Fld := ⟨A.HEAD_PES g, 28, 1, 0⟩
/-- Address of HEAD_OFFSET (R126). -/
@[simp] abbrev A.HEAD_OFFSET (g : Nat) : Nat := 0x100124 + (g / 20) * 0x1000 + (g % 20) * 0x40
/-- HEAD_OFFSET.OFFSET [15:0], RW, reset 0, keeps V (R126). -/
abbrev R.HEAD_OFFSET_OFFSET (g : Nat) : Fld := ⟨A.HEAD_OFFSET g, 0, 16, 0⟩
/-- Address of HEAD_UP (R126). -/
@[simp] abbrev A.HEAD_UP (g : Nat) : Nat := 0x100128 + (g / 20) * 0x1000 + (g % 20) * 0x40
/-- HEAD_UP.VOUT [15:0], RO, reset 0, keeps V (R126). -/
abbrev R.HEAD_UP_VOUT (g : Nat) : Fld := ⟨A.HEAD_UP g, 0, 16, 0⟩
/-- HEAD_UP.SAT [16:16], RO, reset 0, keeps V (R126). -/
abbrev R.HEAD_UP_SAT (g : Nat) : Fld := ⟨A.HEAD_UP g, 16, 1, 0⟩
/-- Address of HEAD_POS_COUNT (R126). -/
@[simp] abbrev A.HEAD_POS_COUNT (g : Nat) : Nat := 0x10012C + (g / 20) * 0x1000 + (g % 20) * 0x40
/-- HEAD_POS_COUNT.DEPARTURES [7:0], RC, reset 0, keeps V (R126). -/
abbrev R.HEAD_POS_COUNT_DEPARTURES (g : Nat) : Fld := ⟨A.HEAD_POS_COUNT g, 0, 8, 0⟩
/-- HEAD_POS_COUNT.UP_SAT [15:8], RC, reset 0, keeps V (R126). -/
abbrev R.HEAD_POS_COUNT_UP_SAT (g : Nat) : Fld := ⟨A.HEAD_POS_COUNT g, 8, 8, 0⟩
/-- HEAD_POS_COUNT.WRITE_UNSAFE [31:16], RC, reset 0, keeps V (R126). -/
abbrev R.HEAD_POS_COUNT_WRITE_UNSAFE (g : Nat) : Fld := ⟨A.HEAD_POS_COUNT g, 16, 16, 0⟩

-- 02_hda_slot_interface.md
/-- Address of HEAD_MEAS_UP (R63). -/
@[simp] abbrev A.HEAD_MEAS_UP (g : Nat) : Nat := 0x100130 + (g / 20) * 0x1000 + (g % 20) * 0x40
/-- HEAD_MEAS_UP.CAP_PF [14:0], RO, reset 0, keeps V (R63). -/
abbrev R.HEAD_MEAS_UP_CAP_PF (g : Nat) : Fld := ⟨A.HEAD_MEAS_UP g, 0, 15, 0⟩
/-- Address of HEAD_MEAS_RDR (R63). -/
@[simp] abbrev A.HEAD_MEAS_RDR (g : Nat) : Nat := 0x100134 + (g / 20) * 0x1000 + (g % 20) * 0x40
/-- HEAD_MEAS_RDR.RES [13:0], RO, reset 0, keeps V (R63). -/
abbrev R.HEAD_MEAS_RDR_RES (g : Nat) : Fld := ⟨A.HEAD_MEAS_RDR g, 0, 14, 0⟩
/-- Address of HEAD_MEAS_ASSIST (R63). -/
@[simp] abbrev A.HEAD_MEAS_ASSIST (g : Nat) : Nat := 0x100138 + (g / 20) * 0x1000 + (g % 20) * 0x40
/-- HEAD_MEAS_ASSIST.PRIMARY [15:0], RO, reset 0, keeps V (R63). -/
abbrev R.HEAD_MEAS_ASSIST_PRIMARY (g : Nat) : Fld := ⟨A.HEAD_MEAS_ASSIST g, 0, 16, 0⟩
/-- HEAD_MEAS_ASSIST.SECONDARY [31:16], RO, reset 0, keeps V (R63). -/
abbrev R.HEAD_MEAS_ASSIST_SECONDARY (g : Nat) : Fld := ⟨A.HEAD_MEAS_ASSIST g, 16, 16, 0⟩
/-- Address of HEAD_CABLE (R63). -/
@[simp] abbrev A.HEAD_CABLE (g : Nat) : Nat := 0x10013C + (g / 20) * 0x1000 + (g % 20) * 0x40
/-- HEAD_CABLE.LEN_MM [9:0], RO, reset 0, keeps V (R63). -/
abbrev R.HEAD_CABLE_LEN_MM (g : Nat) : Fld := ⟨A.HEAD_CABLE g, 0, 10, 0⟩
/-- HEAD_CABLE.PRECOMP_SKEW [17:10], RO, reset 0, keeps V (R63). -/
abbrev R.HEAD_CABLE_PRECOMP_SKEW (g : Nat) : Fld := ⟨A.HEAD_CABLE g, 10, 8, 0⟩
/-- HEAD_CABLE.REFL [24:18], RO, reset 0, keeps V (R63). -/
abbrev R.HEAD_CABLE_REFL (g : Nat) : Fld := ⟨A.HEAD_CABLE g, 18, 7, 0⟩
/-- HEAD_CABLE.RESULT [26:25], RO, reset 0, keeps V (R63). -/
abbrev R.HEAD_CABLE_RESULT (g : Nat) : Fld := ⟨A.HEAD_CABLE g, 25, 2, 0⟩

-- 15_calibration_and_ageing.md
/-- Address of CAL_CTRL (R426). -/
@[simp] abbrev A.CAL_CTRL : Nat := 0x120000
/-- CAL_CTRL.KIND_EN [6:0], RW, reset 0x7F, keeps K (R426). -/
abbrev R.CAL_CTRL_KIND_EN : Fld := ⟨A.CAL_CTRL, 0, 7, 0x7F⟩
/-- CAL_CTRL.SUSPECT_RETRY [15:8], RW, reset 60, keeps K (R426). -/
abbrev R.CAL_CTRL_SUSPECT_RETRY : Fld := ⟨A.CAL_CTRL, 8, 8, 60⟩
/-- CAL_CTRL.SUSPECT_LIMIT [19:16], RW, reset 3, keeps K (R426). -/
abbrev R.CAL_CTRL_SUSPECT_LIMIT : Fld := ⟨A.CAL_CTRL, 16, 4, 3⟩
/-- CAL_CTRL.CAL_HEADS [26:20], RW, reset 32, keeps K (R426). -/
abbrev R.CAL_CTRL_CAL_HEADS : Fld := ⟨A.CAL_CTRL, 20, 7, 32⟩
/-- Address of CAL_STATUS (R426). -/
@[simp] abbrev A.CAL_STATUS : Nat := 0x120004
/-- CAL_STATUS.RUNNING [9:0], RO, reset 0, keeps V (R426). -/
abbrev R.CAL_STATUS_RUNNING : Fld := ⟨A.CAL_STATUS, 0, 10, 0⟩
/-- CAL_STATUS.GROUPS [13:10], RO, reset 0, keeps V (R426). -/
abbrev R.CAL_STATUS_GROUPS : Fld := ⟨A.CAL_STATUS, 10, 4, 0⟩
/-- CAL_STATUS.HELD [14:14], RO, reset 0, keeps V (R426). -/
abbrev R.CAL_STATUS_HELD : Fld := ⟨A.CAL_STATUS, 14, 1, 0⟩
/-- Address of CAL_REQ (R426). -/
@[simp] abbrev A.CAL_REQ : Nat := 0x120008
/-- CAL_REQ.KIND [2:0], RW, reset 0, keeps V (R426). -/
abbrev R.CAL_REQ_KIND : Fld := ⟨A.CAL_REQ, 0, 3, 0⟩
/-- CAL_REQ.ELEM [12:3], RW, reset 0, keeps V (R426). -/
abbrev R.CAL_REQ_ELEM : Fld := ⟨A.CAL_REQ, 3, 10, 0⟩
/-- CAL_REQ.GO [13:13], WO, reset 0, keeps V (R426). -/
abbrev R.CAL_REQ_GO : Fld := ⟨A.CAL_REQ, 13, 1, 0⟩
/-- CAL_REQ.RESULT [15:14], RO, reset 0, keeps V (R426). -/
abbrev R.CAL_REQ_RESULT : Fld := ⟨A.CAL_REQ, 14, 2, 0⟩
/-- Address of CAL_INTERVAL (R426). -/
@[simp] abbrev A.CAL_INTERVAL (k : Nat) : Nat := 0x120010 + k * 0x4
/-- CAL_INTERVAL.HOURS [15:0], RW, reset calHours, keeps K (R426). -/
abbrev R.CAL_INTERVAL_HOURS (k : Nat) : Fld := ⟨A.CAL_INTERVAL k, 0, 16, calHours k⟩
/-- CAL_INTERVAL.TEMP [23:16], RW, reset calTemp, keeps K (R426). -/
abbrev R.CAL_INTERVAL_TEMP (k : Nat) : Fld := ⟨A.CAL_INTERVAL k, 16, 8, calTemp k⟩
/-- Address of CAL_ELEM_SEL (R426). -/
@[simp] abbrev A.CAL_ELEM_SEL : Nat := 0x120040
/-- CAL_ELEM_SEL.KIND [2:0], RW, reset 0, keeps V (R426). -/
abbrev R.CAL_ELEM_SEL_KIND : Fld := ⟨A.CAL_ELEM_SEL, 0, 3, 0⟩
/-- CAL_ELEM_SEL.ELEM [12:3], RW, reset 0, keeps V (R426). -/
abbrev R.CAL_ELEM_SEL_ELEM : Fld := ⟨A.CAL_ELEM_SEL, 3, 10, 0⟩
/-- Address of CAL_ELEM_DATA (R426). -/
@[simp] abbrev A.CAL_ELEM_DATA (k : Nat) : Nat := 0x120044 + k * 0x4
/-- CAL_ELEM_DATA.DATA [31:0], RO, reset 0, keeps P (R426). -/
abbrev R.CAL_ELEM_DATA_DATA (k : Nat) : Fld := ⟨A.CAL_ELEM_DATA k, 0, 32, 0⟩
/-- Address of AGE_CTRL (R426). -/
@[simp] abbrev A.AGE_CTRL : Nat := 0x120100
/-- AGE_CTRL.MARGIN_PERIOD [7:0], RW, reset 8, keeps K (R426). -/
abbrev R.AGE_CTRL_MARGIN_PERIOD : Fld := ⟨A.AGE_CTRL, 0, 8, 8⟩
/-- AGE_CTRL.HEADROOM_FLOOR [13:8], RW, reset 16, keeps K (R426). -/
abbrev R.AGE_CTRL_HEADROOM_FLOOR : Fld := ⟨A.AGE_CTRL, 8, 6, 16⟩
/-- AGE_CTRL.SNR_FLOOR [23:14], RW, reset 100, keeps K (R426). -/
abbrev R.AGE_CTRL_SNR_FLOOR : Fld := ⟨A.AGE_CTRL, 14, 10, 100⟩
/-- AGE_CTRL.QUALIFY_H [31:24], RW, reset 72, keeps K (R426). -/
abbrev R.AGE_CTRL_QUALIFY_H : Fld := ⟨A.AGE_CTRL, 24, 8, 72⟩
/-- Address of AGE_LIMITS (R426). -/
@[simp] abbrev A.AGE_LIMITS : Nat := 0x120104
/-- AGE_LIMITS.ASSIST_FLAG [6:0], RW, reset 20, keeps K (R426). -/
abbrev R.AGE_LIMITS_ASSIST_FLAG : Fld := ⟨A.AGE_LIMITS, 0, 7, 20⟩
/-- AGE_LIMITS.ASSIST_RETIRE [13:7], RW, reset 30, keeps K (R426). -/
abbrev R.AGE_LIMITS_ASSIST_RETIRE : Fld := ⟨A.AGE_LIMITS, 7, 7, 30⟩
/-- AGE_LIMITS.READER_FLAG [19:14], RW, reset 10, keeps K (R426). -/
abbrev R.AGE_LIMITS_READER_FLAG : Fld := ⟨A.AGE_LIMITS, 14, 6, 10⟩
/-- AGE_LIMITS.READER_RETIRE [25:20], RW, reset 15, keeps K (R426). -/
abbrev R.AGE_LIMITS_READER_RETIRE : Fld := ⟨A.AGE_LIMITS, 20, 6, 15⟩
/-- AGE_LIMITS.REPLAN_BATCH [31:26], RW, reset 16, keeps K (R426). -/
abbrev R.AGE_LIMITS_REPLAN_BATCH : Fld := ⟨A.AGE_LIMITS, 26, 6, 16⟩
/-- Address of AGE_COUNT (R426). -/
@[simp] abbrev A.AGE_COUNT : Nat := 0x120108
/-- AGE_COUNT.BATCHES [15:0], RC, reset 0, keeps V (R426). -/
abbrev R.AGE_COUNT_BATCHES : Fld := ⟨A.AGE_COUNT, 0, 16, 0⟩
/-- AGE_COUNT.SUSPECTS [31:16], RC, reset 0, keeps V (R426). -/
abbrev R.AGE_COUNT_SUSPECTS : Fld := ⟨A.AGE_COUNT, 16, 16, 0⟩
/-- Address of AGE_SEL (R426). -/
@[simp] abbrev A.AGE_SEL : Nat := 0x120110
/-- AGE_SEL.G [9:0], RW, reset 0, keeps V (R426). -/
abbrev R.AGE_SEL_G : Fld := ⟨A.AGE_SEL, 0, 10, 0⟩
/-- AGE_SEL.RZONE [14:10], RW, reset 0, keeps V (R426). -/
abbrev R.AGE_SEL_RZONE : Fld := ⟨A.AGE_SEL, 10, 5, 0⟩
/-- Address of AGE_DATA (R426). -/
@[simp] abbrev A.AGE_DATA (k : Nat) : Nat := 0x120114 + k * 0x4
/-- AGE_DATA.DATA [31:0], RO, reset 0, keeps P (R426). -/
abbrev R.AGE_DATA_DATA (k : Nat) : Fld := ⟨A.AGE_DATA k, 0, 32, 0⟩
/-- Address of AGE_HEAD_DATA (R426). -/
@[simp] abbrev A.AGE_HEAD_DATA : Nat := 0x120120
/-- AGE_HEAD_DATA.ASSIST_CHANGE [7:0], RO, reset 0, keeps P (R426). -/
abbrev R.AGE_HEAD_DATA_ASSIST_CHANGE : Fld := ⟨A.AGE_HEAD_DATA, 0, 8, 0⟩
/-- AGE_HEAD_DATA.READER_CHANGE [15:8], RO, reset 0, keeps P (R426). -/
abbrev R.AGE_HEAD_DATA_READER_CHANGE : Fld := ⟨A.AGE_HEAD_DATA, 8, 8, 0⟩
/-- AGE_HEAD_DATA.FLAGGED [16:16], RO, reset 0, keeps P (R426). -/
abbrev R.AGE_HEAD_DATA_FLAGGED : Fld := ⟨A.AGE_HEAD_DATA, 16, 1, 0⟩

/-- Registers of 18_register_map.md. -/
def rows18 : List RegRow := [
  -- ID_IDCODE
  ⟨0x0, [], false, fun _ => [
    ⟨R.ID_IDCODE_ONE, .ro, .none, []⟩,
    ⟨R.ID_IDCODE_MFR, .ro, .none, []⟩,
    ⟨R.ID_IDCODE_PART, .ro, .none, []⟩,
    ⟨R.ID_IDCODE_VERSION, .ro, .none, []⟩]⟩,
  -- ID_REVISION
  ⟨0x4, [], false, fun _ => [
    ⟨R.ID_REVISION_LETTER, .ro, .none, []⟩,
    ⟨R.ID_REVISION_DIGIT, .ro, .none, []⟩,
    ⟨R.ID_REVISION_STEPPING, .ro, .none, []⟩,
    ⟨R.ID_REVISION_BOARD, .ro, .none, []⟩]⟩,
  -- ID_SERIAL
  ⟨0x10, [(6, 0x4)], false, fun is => match is with
    | [k] => [
    ⟨R.ID_SERIAL_TEXT k, .ro, .none, []⟩]
    | _ => []⟩,
  -- ID_MAC_LO
  ⟨0x28, [], false, fun _ => [
    ⟨R.ID_MAC_LO_MAC, .ro, .none, []⟩]⟩,
  -- ID_MAC_HI
  ⟨0x2C, [], false, fun _ => [
    ⟨R.ID_MAC_HI_MAC, .ro, .none, []⟩]⟩,
  -- GLB_STATUS
  ⟨0x100, [], false, fun _ => [
    ⟨R.GLB_STATUS_STATE, .ro, .v, []⟩,
    ⟨R.GLB_STATUS_SERVICE, .ro, .v, []⟩,
    ⟨R.GLB_STATUS_SCAN, .ro, .v, []⟩]⟩,
  -- GLB_SCRATCH
  ⟨0x104, [], false, fun _ => [
    ⟨R.GLB_SCRATCH_VALUE, .rw, .s, []⟩]⟩,
  -- GLB_REFUSED
  ⟨0x108, [], false, fun _ => [
    ⟨R.GLB_REFUSED_ADDR, .ro, .v, []⟩]⟩,
  -- GLB_ACCESS
  ⟨0x110, [(5, 0x4)], false, fun is => match is with
    | [i] => [
    ⟨R.GLB_ACCESS_WRITES i, .rc, .v, []⟩]
    | _ => []⟩]
/-- Registers of 14_power_supply_events_and_thermal.md. -/
def rows14 : List RegRow := [
  -- PWR_STATUS
  ⟨0x10000, [], false, fun _ => [
    ⟨R.PWR_STATUS_SUPPLY, .ro, .v, []⟩,
    ⟨R.PWR_STATUS_FEED_A, .ro, .v, []⟩,
    ⟨R.PWR_STATUS_FEED_B, .ro, .v, []⟩,
    ⟨R.PWR_STATUS_FEED_A_LOST, .w1c, .v, []⟩,
    ⟨R.PWR_STATUS_FEED_B_LOST, .w1c, .v, []⟩,
    ⟨R.PWR_STATUS_DCDC_DEGRADED, .ro, .v, []⟩,
    ⟨R.PWR_STATUS_HOLDUP_LOW, .ro, .v, []⟩,
    ⟨R.PWR_STATUS_RIDE_MS, .ro, .v, []⟩]⟩,
  -- PWR_FEED
  ⟨0x10004, [(2, 0x4)], false, fun is => match is with
    | [f] => [
    ⟨R.PWR_FEED_VRMS f, .ro, .v, []⟩,
    ⟨R.PWR_FEED_FREQ f, .ro, .v, []⟩,
    ⟨R.PWR_FEED_POWER f, .ro, .v, []⟩]
    | _ => []⟩,
  -- PWR_BUS
  ⟨0x1000C, [], false, fun _ => [
    ⟨R.PWR_BUS_BULK_V, .ro, .v, []⟩,
    ⟨R.PWR_BUS_INT_V, .ro, .v, []⟩,
    ⟨R.PWR_BUS_INPUT_W, .ro, .v, []⟩]⟩,
  -- PWR_HOLDUP
  ⟨0x10010, [], false, fun _ => [
    ⟨R.PWR_HOLDUP_CAP, .ro, .v, []⟩,
    ⟨R.PWR_HOLDUP_HOLD_LIMIT, .ro, .v, []⟩]⟩,
  -- PWR_CTRL
  ⟨0x10014, [], false, fun _ => [
    ⟨R.PWR_CTRL_CAP_LIMIT, .rw, .k, [(340, 640)]⟩]⟩,
  -- PWR_CAP
  ⟨0x10018, [], false, fun _ => [
    ⟨R.PWR_CAP_CAP_W, .ro, .v, []⟩,
    ⟨R.PWR_CAP_ACTIONS, .ro, .v, []⟩,
    ⟨R.PWR_CAP_CAPPED, .ro, .v, []⟩]⟩,
  -- PWR_BANK
  ⟨0x10020, [], false, fun _ => [
    ⟨R.PWR_BANK_STATE, .ro, .p, []⟩,
    ⟨R.PWR_BANK_INCOMPLETE, .ro, .p, []⟩,
    ⟨R.PWR_BANK_MIB, .ro, .p, []⟩]⟩,
  -- PWR_BANK_TIME
  ⟨0x10024, [], false, fun _ => [
    ⟨R.PWR_BANK_TIME_BANK_MS, .ro, .p, []⟩,
    ⟨R.PWR_BANK_TIME_RELIGHT_MS, .ro, .p, []⟩]⟩,
  -- PWR_COUNT
  ⟨0x10028, [], false, fun _ => [
    ⟨R.PWR_COUNT_WARNINGS, .rc, .p, []⟩,
    ⟨R.PWR_COUNT_RIDE_RECOVERED, .rc, .p, []⟩,
    ⟨R.PWR_COUNT_CUTS, .rc, .p, []⟩,
    ⟨R.PWR_COUNT_CUT_RECOVERED, .rc, .p, []⟩]⟩,
  -- PWR_RSV
  ⟨0x10040, [(4, 0x4)], false, fun is => match is with
    | [i] => [
    ⟨R.PWR_RSV_V0 i, .ro, .v, []⟩,
    ⟨R.PWR_RSV_V1 i, .ro, .v, []⟩,
    ⟨R.PWR_RSV_V2 i, .ro, .v, []⟩,
    ⟨R.PWR_RSV_V3 i, .ro, .v, []⟩]
    | _ => []⟩]
/-- Registers of 03_spindle_motors.md. -/
def rows03 : List RegRow := [
  -- SPINUP_CTRL
  ⟨0x10200, [], false, fun _ => [
    ⟨R.SPINUP_CTRL_BUDGET, .rw, .k, [(50, 250)]⟩,
    ⟨R.SPINUP_CTRL_GROUP_GAP, .rw, .k, [(10, 100)]⟩,
    ⟨R.SPINUP_CTRL_GROUP, .ro, .v, []⟩,
    ⟨R.SPINUP_CTRL_ACTIVE, .ro, .v, []⟩]⟩]
/-- Registers of 14_power_supply_events_and_thermal.md. -/
def rows14_2 : List RegRow := [
  -- THM_CTRL
  ⟨0x20000, [], false, fun _ => [
    ⟨R.THM_CTRL_FAN_MIN, .rw, .k, [(20, 100)]⟩,
    ⟨R.THM_CTRL_FAN_FULL, .rw, .v, []⟩]⟩,
  -- THM_STATUS
  ⟨0x20004, [], false, fun _ => [
    ⟨R.THM_STATUS_FAN_DUTY, .ro, .v, []⟩,
    ⟨R.THM_STATUS_ANY_WARNING, .ro, .v, []⟩,
    ⟨R.THM_STATUS_ANY_THROTTLE, .ro, .v, []⟩,
    ⟨R.THM_STATUS_ANY_BROKEN, .ro, .v, []⟩,
    ⟨R.THM_STATUS_SHUTDOWN, .ro, .v, []⟩]⟩,
  -- THM_LIMIT
  ⟨0x20010, [(5, 0x4)], false, fun is => match is with
    | [c] => [
    ⟨R.THM_LIMIT_WARN c, .rw, .k, []⟩,
    ⟨R.THM_LIMIT_THROTTLE c, .rw, .k, []⟩,
    ⟨R.THM_LIMIT_SHUTDOWN c, .rw, .k, []⟩,
    ⟨R.THM_LIMIT_HYST c, .rw, .k, [(1, 15)]⟩]
    | _ => []⟩,
  -- THM_ZONE_SEL
  ⟨0x20040, [], false, fun _ => [
    ⟨R.THM_ZONE_SEL_ZONE, .rw, .v, [(0, 35)]⟩]⟩,
  -- THM_ZONE_DATA
  ⟨0x20044, [], true, fun _ => [
    ⟨R.THM_ZONE_DATA_TEMP, .ro, .v, []⟩,
    ⟨R.THM_ZONE_DATA_LEVEL, .ro, .v, []⟩,
    ⟨R.THM_ZONE_DATA_WARN, .ro, .v, []⟩,
    ⟨R.THM_ZONE_DATA_THROTTLE, .ro, .v, []⟩,
    ⟨R.THM_ZONE_DATA_SHUTDOWN, .ro, .v, []⟩,
    ⟨R.THM_ZONE_DATA_BROKEN, .ro, .v, []⟩,
    ⟨R.THM_ZONE_DATA_SHUTDOWNS, .ro, .v, []⟩]⟩,
  -- THM_SENSOR_SEL
  ⟨0x20048, [], false, fun _ => [
    ⟨R.THM_SENSOR_SEL_SENSOR, .rw, .v, [(0, 100)]⟩]⟩,
  -- THM_SENSOR_DATA
  ⟨0x2004C, [], true, fun _ => [
    ⟨R.THM_SENSOR_DATA_TEMP, .ro, .v, []⟩,
    ⟨R.THM_SENSOR_DATA_BROKEN, .ro, .v, []⟩,
    ⟨R.THM_SENSOR_DATA_CAUSE, .ro, .v, []⟩]⟩]
/-- Registers of 18_register_map.md. -/
def rows18_2 : List RegRow := [
  -- ISL_SUMMARY
  ⟨0x30000, [], false, fun _ => [
    ⟨R.ISL_SUMMARY_RUNNING, .ro, .v, []⟩,
    ⟨R.ISL_SUMMARY_RETIRED, .ro, .v, []⟩]⟩,
  -- ISL_SEL
  ⟨0x30010, [], false, fun _ => [
    ⟨R.ISL_SEL_ISLAND, .rw, .v, [(0, 74)]⟩]⟩,
  -- ISL_DATA
  ⟨0x30014, [], true, fun _ => [
    ⟨R.ISL_DATA_STATE, .ro, .v, []⟩,
    ⟨R.ISL_DATA_LOCKED, .ro, .v, []⟩,
    ⟨R.ISL_DATA_MHZ, .ro, .v, []⟩,
    ⟨R.ISL_DATA_STALLS, .ro, .v, []⟩,
    ⟨R.ISL_DATA_CAUSE, .ro, .p, []⟩,
    ⟨R.ISL_DATA_SPARE, .ro, .v, []⟩]⟩,
  -- RST_MODULE
  ⟨0x30100, [], false, fun _ => [
    ⟨R.RST_MODULE_CONFIRM, .wo, .v, []⟩]⟩,
  -- RST_PORT
  ⟨0x30104, [], false, fun _ => [
    ⟨R.RST_PORT_HP0, .wo, .v, []⟩,
    ⟨R.RST_PORT_HP1, .wo, .v, []⟩]⟩,
  -- RST_CAUSE
  ⟨0x30108, [], false, fun _ => [
    ⟨R.RST_CAUSE_MODULE, .ro, .s, []⟩]⟩]
/-- Registers of 16_kindling_startup_reset_and_selftest.md. -/
def rows16 : List RegRow := [
  -- KND_STATUS
  ⟨0x40000, [], false, fun _ => [
    ⟨R.KND_STATUS_STATE, .ro, .v, []⟩,
    ⟨R.KND_STATUS_CARD_PRESENT, .ro, .v, []⟩,
    ⟨R.KND_STATUS_ACTIVE_SLOT, .ro, .v, []⟩,
    ⟨R.KND_STATUS_FALLBACK, .ro, .v, []⟩,
    ⟨R.KND_STATUS_LAST_FAIL, .ro, .v, []⟩]⟩,
  -- KND_IMAGE
  ⟨0x40004, [], false, fun _ => [
    ⟨R.KND_IMAGE_VERSION, .ro, .v, []⟩]⟩,
  -- KND_SEQ
  ⟨0x40008, [], false, fun _ => [
    ⟨R.KND_SEQ_SEQ, .ro, .v, []⟩]⟩,
  -- KND_CARD
  ⟨0x4000C, [], false, fun _ => [
    ⟨R.KND_CARD_SIZE_MIB, .ro, .v, []⟩,
    ⟨R.KND_CARD_MODE, .ro, .v, []⟩,
    ⟨R.KND_CARD_ADDR4, .ro, .v, []⟩]⟩,
  -- KND_RECORDS
  ⟨0x40010, [], false, fun _ => [
    ⟨R.KND_RECORDS_APPLIED, .ro, .v, []⟩,
    ⟨R.KND_RECORDS_REFUSED, .ro, .v, []⟩]⟩,
  -- KND_WRITE
  ⟨0x40014, [], false, fun _ => [
    ⟨R.KND_WRITE_BYTES, .ro, .v, []⟩,
    ⟨R.KND_WRITE_STATE, .ro, .v, []⟩,
    ⟨R.KND_WRITE_FAIL_CHECK, .ro, .v, []⟩]⟩,
  -- KND_REKINDLE
  ⟨0x4001C, [], false, fun _ => [
    ⟨R.KND_REKINDLE_CONFIRM, .wo, .v, []⟩]⟩]
/-- Registers of 13_hob_and_flue_engines.md. -/
def rows13p0 : List RegRow := [
  -- ENG_VER_HOB
  ⟨0x50000, [], false, fun _ => [
    ⟨R.ENG_VER_HOB_ROM_VER, .ro, .none, []⟩,
    ⟨R.ENG_VER_HOB_PATCH_VER, .ro, .k, []⟩]⟩,
  -- ENG_VER_FLUE
  ⟨0x50004, [], false, fun _ => [
    ⟨R.ENG_VER_FLUE_ROM_VER, .ro, .none, []⟩,
    ⟨R.ENG_VER_FLUE_PATCH_VER, .ro, .k, []⟩]⟩,
  -- ENG_FLUE_ROLES
  ⟨0x50008, [], false, fun _ => [
    ⟨R.ENG_FLUE_ROLES_ROLE0, .ro, .v, []⟩,
    ⟨R.ENG_FLUE_ROLES_ROLE1, .ro, .v, []⟩,
    ⟨R.ENG_FLUE_ROLES_ROLE2, .ro, .v, []⟩,
    ⟨R.ENG_FLUE_ROLES_ROLE3, .ro, .v, []⟩]⟩,
  -- ENG_SLOT_ADOPTED
  ⟨0x5000C, [], false, fun _ => [
    ⟨R.ENG_SLOT_ADOPTED_SLOT, .ro, .v, []⟩]⟩,
  -- ENG_SLOT_OWNER
  ⟨0x50010, [(4, 0x4)], false, fun is => match is with
    | [i] => [
    ⟨R.ENG_SLOT_OWNER (8 * i + 0), .rw, .v, []⟩,
    ⟨R.ENG_SLOT_OWNER (8 * i + 1), .rw, .v, []⟩,
    ⟨R.ENG_SLOT_OWNER (8 * i + 2), .rw, .v, []⟩,
    ⟨R.ENG_SLOT_OWNER (8 * i + 3), .rw, .v, []⟩,
    ⟨R.ENG_SLOT_OWNER (8 * i + 4), .rw, .v, []⟩,
    ⟨R.ENG_SLOT_OWNER (8 * i + 5), .rw, .v, []⟩,
    ⟨R.ENG_SLOT_OWNER (8 * i + 6), .rw, .v, []⟩,
    ⟨R.ENG_SLOT_OWNER (8 * i + 7), .rw, .v, []⟩]
    | _ => []⟩,
  -- ENG_CTRL
  ⟨0x50100, [(20, 0x40)], false, fun is => match is with
    | [n] => [
    ⟨R.ENG_CTRL_FENCE n, .rw, .v, []⟩,
    ⟨R.ENG_CTRL_HALT n, .rw, .v, []⟩,
    ⟨R.ENG_CTRL_STEP n, .wo, .v, []⟩,
    ⟨R.ENG_CTRL_RESET n, .wo, .v, []⟩]
    | _ => []⟩,
  -- ENG_STATUS
  ⟨0x50104, [(20, 0x40)], false, fun is => match is with
    | [n] => [
    ⟨R.ENG_STATUS_STATE n, .ro, .v, []⟩,
    ⟨R.ENG_STATUS_PATCH_VERIFIED n, .ro, .v, []⟩,
    ⟨R.ENG_STATUS_PATCH_MODIFIED n, .ro, .v, []⟩,
    ⟨R.ENG_STATUS_CAUSE n, .ro, .p, []⟩,
    ⟨R.ENG_STATUS_DEPTH n, .ro, .v, []⟩,
    ⟨R.ENG_STATUS_REFUSED n, .w1c, .v, []⟩]
    | _ => []⟩,
  -- ENG_PC
  ⟨0x50108, [(20, 0x40)], false, fun is => match is with
    | [n] => [
    ⟨R.ENG_PC_PC n, .ro, .v, []⟩,
    ⟨R.ENG_PC_FAULT_PC n, .ro, .p, []⟩]
    | _ => []⟩,
  -- ENG_COUNT
  ⟨0x5010C, [(20, 0x40)], false, fun is => match is with
    | [n] => [
    ⟨R.ENG_COUNT_CS_CE n, .rc, .v, []⟩,
    ⟨R.ENG_COUNT_DM_CE n, .rc, .v, []⟩,
    ⟨R.ENG_COUNT_FOREIGN n, .rc, .v, []⟩,
    ⟨R.ENG_COUNT_STRETCHED n, .rc, .v, []⟩]
    | _ => []⟩,
  -- ENG_HB
  ⟨0x50110, [(20, 0x40)], false, fun is => match is with
    | [n] => [
    ⟨R.ENG_HB_LAST n, .ro, .v, []⟩]
    | _ => []⟩,
  -- ENG_DBG_SEL
  ⟨0x50114, [(20, 0x40)], false, fun is => match is with
    | [n] => [
    ⟨R.ENG_DBG_SEL_ITEM n, .rw, .v, []⟩,
    ⟨R.ENG_DBG_SEL_WR n, .wo, .v, []⟩]
    | _ => []⟩,
  -- ENG_DBG_DATA_LO
  ⟨0x50118, [(20, 0x40)], true, fun is => match is with
    | [n] => [
    ⟨R.ENG_DBG_DATA_LO_VALUE n, .rw, .v, []⟩]
    | _ => []⟩]
/-- Registers of 13_hob_and_flue_engines.md. -/
def rows13p1 : List RegRow := [
  -- ENG_DBG_DATA_HI
  ⟨0x5011C, [(20, 0x40)], true, fun is => match is with
    | [n] => [
    ⟨R.ENG_DBG_DATA_HI_VALUE n, .rw, .v, []⟩]
    | _ => []⟩,
  -- ENG_CS_SEL
  ⟨0x50120, [(20, 0x40)], false, fun is => match is with
    | [n] => [
    ⟨R.ENG_CS_SEL_ADDR n, .rw, .v, []⟩,
    ⟨R.ENG_CS_SEL_GO n, .wo, .v, []⟩,
    ⟨R.ENG_CS_SEL_WR n, .wo, .v, []⟩]
    | _ => []⟩,
  -- ENG_CS_DATA
  ⟨0x50124, [(20, 0x40), (4, 0x4)], true, fun is => match is with
    | [n, k] => [
    ⟨R.ENG_CS_DATA_WORD n k, .rw, .v, []⟩]
    | _ => []⟩,
  -- ENG_CS_ECC
  ⟨0x50134, [(20, 0x40)], true, fun is => match is with
    | [n] => [
    ⟨R.ENG_CS_ECC_ECC n, .ro, .v, []⟩]
    | _ => []⟩,
  -- ENG_MATCH_SEL
  ⟨0x50138, [(20, 0x40)], false, fun is => match is with
    | [n] => [
    ⟨R.ENG_MATCH_SEL_INDEX n, .rw, .v, []⟩,
    ⟨R.ENG_MATCH_SEL_WR n, .wo, .v, []⟩]
    | _ => []⟩,
  -- ENG_MATCH_DATA
  ⟨0x5013C, [(20, 0x40)], false, fun is => match is with
    | [n] => [
    ⟨R.ENG_MATCH_DATA_MATCH n, .rw, .v, []⟩]
    | _ => []⟩]
/-- Registers of 10_letor_queue_protocol.md. -/
def rows10p0 : List RegRow := [
  -- LQP_CTRL
  ⟨0x60000, [], false, fun _ => [
    ⟨R.LQP_CTRL_UDP_PORT, .rw, .k, [(1, 65535)]⟩,
    ⟨R.LQP_CTRL_KEEPALIVE, .rw, .k, [(1, 100)]⟩,
    ⟨R.LQP_CTRL_SESSION_HOLD, .rw, .k, [(1, 255)]⟩]⟩,
  -- LQP_TIMING
  ⟨0x60004, [], false, fun _ => [
    ⟨R.LQP_TIMING_RTO_MIN, .rw, .k, [(5, 255)]⟩,
    ⟨R.LQP_TIMING_ACK_DELAY, .rw, .k, [(1, 63)]⟩,
    ⟨R.LQP_TIMING_PATH_RETRIES, .rw, .k, [(2, 8)]⟩,
    ⟨R.LQP_TIMING_RX_WINDOW, .rw, .k, [(16, 1024)]⟩]⟩,
  -- LQP_STATUS
  ⟨0x60008, [], false, fun _ => [
    ⟨R.LQP_STATUS_SESSIONS, .ro, .v, []⟩,
    ⟨R.LQP_STATUS_IN_FLIGHT, .ro, .v, []⟩]⟩,
  -- LQP_DATA_TIMEOUT
  ⟨0x6000C, [], false, fun _ => [
    ⟨R.LQP_DATA_TIMEOUT_DATA_TIMEOUT, .rw, .k, [(10, 60000)]⟩]⟩,
  -- PORT_CFG
  ⟨0x60100, [(2, 0x100)], false, fun is => match is with
    | [p] => [
    ⟨R.PORT_CFG_MODE p, .rw, .k, [(0, 1)]⟩,
    ⟨R.PORT_CFG_PFC_EN p, .rw, .k, []⟩,
    ⟨R.PORT_CFG_PFC_PRIO p, .rw, .k, []⟩,
    ⟨R.PORT_CFG_DSCP p, .rw, .k, []⟩,
    ⟨R.PORT_CFG_IPV4_EN p, .rw, .k, []⟩,
    ⟨R.PORT_CFG_SLAAC_EN p, .rw, .k, []⟩,
    ⟨R.PORT_CFG_DISABLE p, .rw, .v, []⟩]
    | _ => []⟩,
  -- PORT_STATUS
  ⟨0x60104, [(2, 0x100)], false, fun is => match is with
    | [p] => [
    ⟨R.PORT_STATUS_LINK0 p, .ro, .v, []⟩,
    ⟨R.PORT_STATUS_LINK1 p, .ro, .v, []⟩,
    ⟨R.PORT_STATUS_RETIRED p, .ro, .p, []⟩,
    ⟨R.PORT_STATUS_OSFP_W p, .ro, .v, []⟩,
    ⟨R.PORT_STATUS_LOW_POWER p, .ro, .v, []⟩,
    ⟨R.PORT_STATUS_PATHS p, .ro, .v, []⟩]
    | _ => []⟩,
  -- PORT_VLAN
  ⟨0x60108, [(2, 0x100)], false, fun is => match is with
    | [p] => [
    ⟨R.PORT_VLAN_VLAN_ID0 p, .rw, .k, []⟩,
    ⟨R.PORT_VLAN_VLAN_ID1 p, .rw, .k, []⟩]
    | _ => []⟩,
  -- PORT_COUNT
  ⟨0x60120, [(2, 0x100), (7, 0x4)], false, fun is => match is with
    | [p, i] => [
    ⟨R.PORT_COUNT_COUNT p i, .rc, .v, []⟩]
    | _ => []⟩,
  -- PORT_ADDR_SEL
  ⟨0x60400, [], false, fun _ => [
    ⟨R.PORT_ADDR_SEL_PORT, .rw, .v, [(0, 2)]⟩,
    ⟨R.PORT_ADDR_SEL_LINK, .rw, .v, []⟩,
    ⟨R.PORT_ADDR_SEL_SLOT, .rw, .v, [(0, 5)]⟩,
    ⟨R.PORT_ADDR_SEL_WR, .wo, .v, []⟩]⟩,
  -- PORT_ADDR_DATA
  ⟨0x60404, [(4, 0x4)], true, fun is => match is with
    | [k] => [
    ⟨R.PORT_ADDR_DATA_ADDR k, .rw, .k, []⟩]
    | _ => []⟩,
  -- PORT_ADDR_DATA4
  ⟨0x60414, [], true, fun _ => [
    ⟨R.PORT_ADDR_DATA4_PREFIX, .rw, .k, []⟩,
    ⟨R.PORT_ADDR_DATA4_VALID, .ro, .v, []⟩,
    ⟨R.PORT_ADDR_DATA4_DAD_FAILED, .ro, .v, []⟩]⟩,
  -- LQP_SESS_SEL
  ⟨0x60800, [], false, fun _ => [
    ⟨R.LQP_SESS_SEL_SESSION, .rw, .v, []⟩]⟩]
/-- Registers of 10_letor_queue_protocol.md. -/
def rows10p1 : List RegRow := [
  -- LQP_SESS_DATA
  ⟨0x60804, [(3, 0x4)], true, fun is => match is with
    | [k] => [
    ⟨R.LQP_SESS_DATA_DATA k, .ro, .v, []⟩]
    | _ => []⟩,
  -- VOL_KEY_SEL
  ⟨0x60C00, [], false, fun _ => [
    ⟨R.VOL_KEY_SEL_VOLUME, .rw, .v, []⟩,
    ⟨R.VOL_KEY_SEL_OP, .wo, .v, [(0, 2)]⟩,
    ⟨R.VOL_KEY_SEL_GO, .wo, .v, []⟩]⟩,
  -- VOL_KEY_DATA
  ⟨0x60C04, [(16, 0x4)], false, fun is => match is with
    | [k] => [
    ⟨R.VOL_KEY_DATA_KEY k, .wo, .v, []⟩]
    | _ => []⟩,
  -- VOL_KEY_STATUS
  ⟨0x60C44, [], false, fun _ => [
    ⟨R.VOL_KEY_STATUS_RESULT, .ro, .v, []⟩,
    ⟨R.VOL_KEY_STATUS_LOCKED, .ro, .v, []⟩,
    ⟨R.VOL_KEY_STATUS_KCV_SET, .ro, .p, []⟩]⟩]
/-- Registers of 11_ordering_completion_and_errors.md. -/
def rows11 : List RegRow := [
  -- QUE_LOCK_STATUS
  ⟨0x70000, [], false, fun _ => [
    ⟨R.QUE_LOCK_STATUS_IN_USE, .ro, .v, []⟩,
    ⟨R.QUE_LOCK_STATUS_WAITING_ENTRY, .ro, .v, []⟩]⟩,
  -- QUE_LOCK_COUNT
  ⟨0x70004, [], false, fun _ => [
    ⟨R.QUE_LOCK_COUNT_FULL_EPISODES, .rc, .v, []⟩,
    ⟨R.QUE_LOCK_COUNT_PEAK, .rc, .v, []⟩]⟩,
  -- QUE_ARRIVAL_LO
  ⟨0x70008, [], false, fun _ => [
    ⟨R.QUE_ARRIVAL_LO_NEXT_LO, .ro, .v, []⟩]⟩,
  -- QUE_ARRIVAL_HI
  ⟨0x7000C, [], false, fun _ => [
    ⟨R.QUE_ARRIVAL_HI_NEXT_HI, .ro, .v, []⟩]⟩,
  -- QUE_FLUSH
  ⟨0x70010, [], false, fun _ => [
    ⟨R.QUE_FLUSH_PENDING, .ro, .v, []⟩]⟩,
  -- QUE_SEL
  ⟨0x70100, [], false, fun _ => [
    ⟨R.QUE_SEL_SESSION, .rw, .v, []⟩,
    ⟨R.QUE_SEL_QUEUE, .rw, .v, []⟩]⟩,
  -- QUE_DATA
  ⟨0x70104, [(3, 0x4)], true, fun is => match is with
    | [k] => [
    ⟨R.QUE_DATA_DATA k, .ro, .v, []⟩]
    | _ => []⟩,
  -- QUE_RESUME
  ⟨0x70110, [], false, fun _ => [
    ⟨R.QUE_RESUME_GO, .wo, .v, []⟩,
    ⟨R.QUE_RESUME_ACTION, .wo, .v, []⟩,
    ⟨R.QUE_RESUME_RESULT, .ro, .v, []⟩]⟩]
/-- Registers of 12_buffer_memory_and_cache.md. -/
def rows12p0 : List RegRow := [
  -- CACHE_CTRL
  ⟨0x80000, [], false, fun _ => [
    ⟨R.CACHE_CTRL_EN, .rw, .k, []⟩,
    ⟨R.CACHE_CTRL_INV_ALL, .wo, .v, []⟩,
    ⟨R.CACHE_CTRL_DIRTY_LIMIT, .rw, .k, [(8, 128)]⟩,
    ⟨R.CACHE_CTRL_SET_DIRTY_MAX, .rw, .k, [(1, 7)]⟩]⟩,
  -- CACHE_STATUS
  ⟨0x80004, [], false, fun _ => [
    ⟨R.CACHE_STATUS_STATE, .ro, .v, []⟩,
    ⟨R.CACHE_STATUS_INV_DONE, .ro, .v, []⟩,
    ⟨R.CACHE_STATUS_ENABLE_REFUSED, .w1c, .v, []⟩,
    ⟨R.CACHE_STATUS_AT_LIMIT, .ro, .v, []⟩,
    ⟨R.CACHE_STATUS_WAYS, .ro, .v, []⟩]⟩,
  -- CACHE_FILL
  ⟨0x80008, [], false, fun _ => [
    ⟨R.CACHE_FILL_DIRTY_LINES, .ro, .v, []⟩,
    ⟨R.CACHE_FILL_STAGED_MIB, .ro, .v, []⟩]⟩,
  -- CACHE_COUNT
  ⟨0x80010, [(6, 0x4)], false, fun is => match is with
    | [i] => [
    ⟨R.CACHE_COUNT_COUNT i, .rc, .v, []⟩]
    | _ => []⟩,
  -- CACHE_MAINT
  ⟨0x80040, [], false, fun _ => [
    ⟨R.CACHE_MAINT_BUSY, .ro, .v, []⟩,
    ⟨R.CACHE_MAINT_OP, .ro, .v, []⟩,
    ⟨R.CACHE_MAINT_SET, .ro, .v, []⟩]⟩,
  -- CACHE_PROBE_SEL
  ⟨0x80080, [], false, fun _ => [
    ⟨R.CACHE_PROBE_SEL_VOLUME, .rw, .v, []⟩,
    ⟨R.CACHE_PROBE_SEL_GO, .wo, .v, []⟩]⟩,
  -- CACHE_PROBE_LBA
  ⟨0x80084, [(2, 0x4)], false, fun is => match is with
    | [k] => [
    ⟨R.CACHE_PROBE_LBA_LBA k, .rw, .v, []⟩]
    | _ => []⟩,
  -- CACHE_PROBE_DATA
  ⟨0x8008C, [(5, 0x4)], true, fun is => match is with
    | [k] => [
    ⟨R.CACHE_PROBE_DATA_DATA k, .ro, .v, []⟩]
    | _ => []⟩,
  -- DRAM_CTRL
  ⟨0x90000, [], false, fun _ => [
    ⟨R.DRAM_CTRL_SCRUB_EN, .rw, .k, []⟩,
    ⟨R.DRAM_CTRL_SCRUB_HOURS, .rw, .k, [(1, 168)]⟩,
    ⟨R.DRAM_CTRL_CE_LIMIT, .rw, .k, [(8, 64)]⟩]⟩,
  -- DRAM_STATUS
  ⟨0x90004, [], false, fun _ => [
    ⟨R.DRAM_STATUS_IN_SERVICE, .ro, .v, []⟩,
    ⟨R.DRAM_STATUS_RETIRED, .ro, .p, []⟩]⟩,
  -- DRAM_RELOAD
  ⟨0x90008, [], false, fun _ => [
    ⟨R.DRAM_RELOAD_ACTIVE, .ro, .v, []⟩,
    ⟨R.DRAM_RELOAD_LEFT, .ro, .v, []⟩]⟩,
  -- DRAM_PKG0
  ⟨0x90100, [(16, 0x10)], false, fun is => match is with
    | [d] => [
    ⟨R.DRAM_PKG0_CE_WINDOW d, .ro, .v, []⟩,
    ⟨R.DRAM_PKG0_UE d, .ro, .v, []⟩,
    ⟨R.DRAM_PKG0_SCRUB_PCT d, .ro, .v, []⟩]
    | _ => []⟩]
/-- Registers of 12_buffer_memory_and_cache.md. -/
def rows12p1 : List RegRow := [
  -- DRAM_PKG1
  ⟨0x90104, [(16, 0x10)], false, fun is => match is with
    | [d] => [
    ⟨R.DRAM_PKG1_CE_TOTAL d, .rc, .v, []⟩]
    | _ => []⟩,
  -- DRAM_PKG2
  ⟨0x90108, [(16, 0x10)], false, fun is => match is with
    | [d] => [
    ⟨R.DRAM_PKG2_LAST_ADDR d, .ro, .v, []⟩]
    | _ => []⟩]
/-- Registers of 08_stoker_placement_and_map.md. -/
def rows08p0 : List RegRow := [
  -- STK_CTRL
  ⟨0xA0000, [], false, fun _ => [
    ⟨R.STK_CTRL_MIGRATE_EN, .rw, .k, []⟩,
    ⟨R.STK_CTRL_BALANCE_EN, .rw, .k, []⟩,
    ⟨R.STK_CTRL_SPEED_EN, .rw, .k, []⟩,
    ⟨R.STK_CTRL_HEAT_HALF, .rw, .k, [(1, 255)]⟩,
    ⟨R.STK_CTRL_EPOCH, .ro, .p, []⟩]⟩,
  -- STK_DRAFT
  ⟨0xA0004, [], false, fun _ => [
    ⟨R.STK_DRAFT_DRAFT, .rw, .k, [(5, 50)]⟩,
    ⟨R.STK_DRAFT_DRAFT_REBUILD, .rw, .k, [(5, 60)]⟩,
    ⟨R.STK_DRAFT_USED, .ro, .v, []⟩,
    ⟨R.STK_DRAFT_REBUILD, .ro, .v, []⟩]⟩,
  -- STK_HEAT
  ⟨0xA0008, [], false, fun _ => [
    ⟨R.STK_HEAT_PROMOTE, .rw, .k, [(1, 4095)]⟩,
    ⟨R.STK_HEAT_DEMOTE, .rw, .k, []⟩]⟩,
  -- STK_BAND
  ⟨0xA000C, [], false, fun _ => [
    ⟨R.STK_BAND_SHARE, .rw, .k, [(4, 12)]⟩,
    ⟨R.STK_BAND_HIGH, .rw, .k, [(50, 100)]⟩,
    ⟨R.STK_BAND_TARGET, .rw, .k, [(10, 99)]⟩,
    ⟨R.STK_BAND_OCCUPANCY, .ro, .v, []⟩]⟩,
  -- STK_SPEED
  ⟨0xA0010, [], false, fun _ => [
    ⟨R.STK_SPEED_DUSK_BELOW, .rw, .k, [(0, 99)]⟩,
    ⟨R.STK_SPEED_NOON_ABOVE, .rw, .k, [(1, 100)]⟩,
    ⟨R.STK_SPEED_IDLE_MIN, .rw, .k, []⟩,
    ⟨R.STK_SPEED_MID_MAX, .rw, .k, []⟩]⟩,
  -- STK_ZONE
  ⟨0xA0014, [], false, fun _ => [
    ⟨R.STK_ZONE_FILL_WAIT_D, .rw, .k, []⟩,
    ⟨R.STK_ZONE_FILL_WAIT_B, .rw, .k, []⟩,
    ⟨R.STK_ZONE_RECLAIM_AT, .rw, .k, [(5, 90)]⟩]⟩,
  -- STK_MAP
  ⟨0xA0018, [], false, fun _ => [
    ⟨R.STK_MAP_CKPT_PERIOD, .rw, .k, [(10, 255)]⟩,
    ⟨R.STK_MAP_JOURNAL_FILL, .ro, .v, []⟩,
    ⟨R.STK_MAP_STALLED, .ro, .v, []⟩]⟩,
  -- STK_CAP_CTRL
  ⟨0xA001C, [], false, fun _ => [
    ⟨R.STK_CAP_CTRL_SPARE, .rw, .k, [(0, 2)]⟩,
    ⟨R.STK_CAP_CTRL_WARN, .rw, .k, [(50, 99)]⟩]⟩,
  -- STK_VOL_SEL
  ⟨0xA0100, [], false, fun _ => [
    ⟨R.STK_VOL_SEL_VOL, .rw, .v, []⟩]⟩,
  -- STK_VOL_DATA
  ⟨0xA0104, [(5, 0x4)], true, fun is => match is with
    | [k] => [
    ⟨R.STK_VOL_DATA_DATA k, .ro, .p, []⟩]
    | _ => []⟩,
  -- STK_MEMBER_SEL
  ⟨0xA0140, [], false, fun _ => [
    ⟨R.STK_MEMBER_SEL_M, .rw, .v, []⟩]⟩,
  -- STK_MEMBER_DATA
  ⟨0xA0144, [(3, 0x4)], true, fun is => match is with
    | [k] => [
    ⟨R.STK_MEMBER_DATA_DATA k, .ro, .v, []⟩]
    | _ => []⟩]
/-- Registers of 08_stoker_placement_and_map.md. -/
def rows08p1 : List RegRow := [
  -- STK_CAP_SEL
  ⟨0xA0180, [], false, fun _ => [
    ⟨R.STK_CAP_SEL_GROUP, .rw, .v, []⟩]⟩,
  -- STK_CAP_DATA
  ⟨0xA0184, [(5, 0x4)], true, fun is => match is with
    | [k] => [
    ⟨R.STK_CAP_DATA_DATA k, .ro, .v, []⟩]
    | _ => []⟩,
  -- STK_LOOKUP_SEL
  ⟨0xA01C0, [], false, fun _ => [
    ⟨R.STK_LOOKUP_SEL_VOL, .rw, .v, []⟩,
    ⟨R.STK_LOOKUP_SEL_EXT_HI, .rw, .v, []⟩,
    ⟨R.STK_LOOKUP_SEL_GO, .wo, .v, []⟩]⟩,
  -- STK_LOOKUP_EXT
  ⟨0xA01C4, [], false, fun _ => [
    ⟨R.STK_LOOKUP_EXT_EXT, .rw, .v, []⟩]⟩,
  -- STK_LOOKUP_DATA
  ⟨0xA01C8, [(4, 0x4)], true, fun is => match is with
    | [k] => [
    ⟨R.STK_LOOKUP_DATA_ENTRY k, .ro, .v, []⟩]
    | _ => []⟩,
  -- STK_BG_TIME
  ⟨0xA0200, [(8, 0x4)], false, fun is => match is with
    | [i] => [
    ⟨R.STK_BG_TIME_MS i, .rc, .v, []⟩]
    | _ => []⟩,
  -- STK_COUNT
  ⟨0xA0240, [], false, fun _ => [
    ⟨R.STK_COUNT_MIGRATIONS, .rc, .v, []⟩,
    ⟨R.STK_COUNT_ABANDONED, .rc, .v, []⟩,
    ⟨R.STK_COUNT_RECLAIMED, .rc, .v, []⟩]⟩]
/-- Registers of 07_read_recovery.md. -/
def rows07 : List RegRow := [
  -- REC_CTRL
  ⟨0xAF000, [], false, fun _ => [
    ⟨R.REC_CTRL_STEP_EN, .rw, .k, []⟩,
    ⟨R.REC_CTRL_BG_EN, .rw, .k, []⟩,
    ⟨R.REC_CTRL_GUARD, .rw, .k, []⟩,
    ⟨R.REC_CTRL_RA_MAX, .rw, .k, []⟩,
    ⟨R.REC_CTRL_BG_PER_ACT, .rw, .k, [(0, 8)]⟩]⟩,
  -- REC_STATUS
  ⟨0xAF004, [], false, fun _ => [
    ⟨R.REC_STATUS_FG_IN_FLIGHT, .ro, .v, []⟩,
    ⟨R.REC_STATUS_RA_IN_FLIGHT, .ro, .v, []⟩,
    ⟨R.REC_STATUS_BG_IN_FLIGHT, .ro, .v, []⟩]⟩,
  -- REC_OUTCOME
  ⟨0xAF010, [(10, 0x4)], false, fun is => match is with
    | [i] => [
    ⟨R.REC_OUTCOME_COUNT i, .rc, .v, []⟩]
    | _ => []⟩,
  -- REC_EVENTS
  ⟨0xAF040, [], false, fun _ => [
    ⟨R.REC_EVENTS_HANDLE_LOST, .rc, .v, []⟩,
    ⟨R.REC_EVENTS_BG_SKIPPED, .rc, .v, []⟩]⟩,
  -- REC_BG
  ⟨0xAF044, [], false, fun _ => [
    ⟨R.REC_BG_BG_ABANDONED, .rc, .v, []⟩,
    ⟨R.REC_BG_RA_MISMATCH, .rc, .v, []⟩]⟩,
  -- REC_WEAK
  ⟨0xAF048, [], false, fun _ => [
    ⟨R.REC_WEAK_ENTRIES, .ro, .v, []⟩,
    ⟨R.REC_WEAK_DROPPED, .rc, .v, []⟩]⟩,
  -- REC_RELOC
  ⟨0xAF04C, [], false, fun _ => [
    ⟨R.REC_RELOC_RELOCATED, .rc, .v, []⟩]⟩,
  -- REC_HEAD_SEL
  ⟨0xAF080, [], false, fun _ => [
    ⟨R.REC_HEAD_SEL_G, .rw, .v, [(0, 639)]⟩,
    ⟨R.REC_HEAD_SEL_RZONE, .rw, .v, []⟩]⟩,
  -- REC_HEAD_DATA
  ⟨0xAF084, [(2, 0x4)], true, fun is => match is with
    | [k] => [
    ⟨R.REC_HEAD_DATA_DATA k, .ro, .v, []⟩]
    | _ => []⟩]
/-- Registers of 09_declustered_redundancy.md. -/
def rows09p0 : List RegRow := [
  -- RED_CTRL
  ⟨0xB0000, [], false, fun _ => [
    ⟨R.RED_CTRL_SCRUB_EN, .rw, .k, []⟩,
    ⟨R.RED_CTRL_REBUILD_EN, .rw, .k, []⟩,
    ⟨R.RED_CTRL_SCRUB_DAYS, .rw, .k, [(1, 255)]⟩,
    ⟨R.RED_CTRL_REBUILD_DELAY, .rw, .k, []⟩]⟩,
  -- RED_STATUS
  ⟨0xB0004, [], false, fun _ => [
    ⟨R.RED_STATUS_RESYNC, .ro, .v, []⟩,
    ⟨R.RED_STATUS_FULL_RESYNC, .ro, .v, []⟩,
    ⟨R.RED_STATUS_REBUILD, .ro, .v, []⟩,
    ⟨R.RED_STATUS_RESHAPE, .ro, .v, []⟩,
    ⟨R.RED_STATUS_COPIES, .ro, .v, []⟩,
    ⟨R.RED_STATUS_LEDGER_FULL, .ro, .v, []⟩,
    ⟨R.RED_STATUS_RESYNC_PCT, .ro, .v, []⟩]⟩,
  -- RED_JOURNAL
  ⟨0xB0008, [], false, fun _ => [
    ⟨R.RED_JOURNAL_OPEN, .ro, .v, []⟩,
    ⟨R.RED_JOURNAL_COPY0, .ro, .v, []⟩,
    ⟨R.RED_JOURNAL_COPY1, .ro, .v, []⟩]⟩,
  -- RED_GROUP_SEL
  ⟨0xB0010, [], false, fun _ => [
    ⟨R.RED_GROUP_SEL_GROUP, .rw, .v, []⟩]⟩,
  -- RED_GROUP_DATA
  ⟨0xB0014, [(3, 0x4)], true, fun is => match is with
    | [k] => [
    ⟨R.RED_GROUP_DATA_DATA k, .ro, .p, []⟩]
    | _ => []⟩,
  -- RED_REBUILD_SEL
  ⟨0xB0020, [], false, fun _ => [
    ⟨R.RED_REBUILD_SEL_M, .rw, .v, []⟩]⟩,
  -- RED_REBUILD_DATA
  ⟨0xB0024, [(4, 0x4)], true, fun is => match is with
    | [k] => [
    ⟨R.RED_REBUILD_DATA_DATA k, .ro, .v, []⟩]
    | _ => []⟩,
  -- RED_SCRUB
  ⟨0xB0050, [], false, fun _ => [
    ⟨R.RED_SCRUB_PROGRESS, .ro, .v, []⟩,
    ⟨R.RED_SCRUB_LATE, .ro, .v, []⟩,
    ⟨R.RED_SCRUB_DAYS_SINCE, .ro, .p, []⟩]⟩,
  -- RED_SCRUB_COUNT
  ⟨0xB0054, [], false, fun _ => [
    ⟨R.RED_SCRUB_COUNT_PARITY_MISMATCH, .rc, .v, []⟩,
    ⟨R.RED_SCRUB_COUNT_REPAIRED, .rc, .v, []⟩]⟩,
  -- RED_LEDGER
  ⟨0xB0060, [], false, fun _ => [
    ⟨R.RED_LEDGER_ENTRIES, .ro, .p, []⟩,
    ⟨R.RED_LEDGER_DROPPED, .rc, .v, []⟩]⟩,
  -- RED_RESHAPE_SEL
  ⟨0xB0070, [], false, fun _ => [
    ⟨R.RED_RESHAPE_SEL_VOL, .rw, .v, []⟩]⟩,
  -- RED_RESHAPE_DATA
  ⟨0xB0074, [(3, 0x4)], true, fun is => match is with
    | [k] => [
    ⟨R.RED_RESHAPE_DATA_DATA k, .ro, .p, []⟩]
    | _ => []⟩]
/-- Registers of 09_declustered_redundancy.md. -/
def rows09p1 : List RegRow := [
  -- RED_COUNT
  ⟨0xB0080, [], false, fun _ => [
    ⟨R.RED_COUNT_RESYNC_MISMATCH, .rc, .v, []⟩,
    ⟨R.RED_COUNT_SEAL_REPAIRED, .rc, .v, []⟩,
    ⟨R.RED_COUNT_RECON_FAILED, .rc, .v, []⟩,
    ⟨R.RED_COUNT_HOST_SEAL, .rc, .v, []⟩]⟩,
  -- RED_RESYNCED
  ⟨0xB0084, [], false, fun _ => [
    ⟨R.RED_RESYNCED_ROWS, .rc, .v, []⟩]⟩]
/-- Registers of 06_decoder_pool.md. -/
def rows06p0 : List RegRow := [
  -- DEC_CTRL
  ⟨0xC0000, [], false, fun _ => [
    ⟨R.DEC_CTRL_DEFER_EN, .rw, .k, []⟩,
    ⟨R.DEC_CTRL_DEFER_AT, .rw, .k, [(2, 40)]⟩,
    ⟨R.DEC_CTRL_KAT_INTERVAL, .rw, .k, [(1, 255)]⟩]⟩,
  -- DEC_STATUS
  ⟨0xC0004, [], false, fun _ => [
    ⟨R.DEC_STATUS_CORES, .ro, .v, []⟩,
    ⟨R.DEC_STATUS_OCCUPANCY, .ro, .v, []⟩,
    ⟨R.DEC_STATUS_PRESSURE, .ro, .v, []⟩,
    ⟨R.DEC_STATUS_FAILED, .ro, .v, []⟩,
    ⟨R.DEC_STATUS_FENCED, .ro, .v, []⟩]⟩,
  -- DEC_CORE_EN
  ⟨0xC0010, [(3, 0x4)], false, fun is => match is with
    | [i] => [
    ⟨R.DEC_CORE_EN_EN i, .rw, .k, []⟩]
    | _ => []⟩,
  -- DEC_IN_SERVICE
  ⟨0xC001C, [(3, 0x4)], false, fun is => match is with
    | [i] => [
    ⟨R.DEC_IN_SERVICE_LIVE i, .ro, .v, []⟩]
    | _ => []⟩,
  -- DEC_RETIRED
  ⟨0xC0028, [(3, 0x4)], false, fun is => match is with
    | [i] => [
    ⟨R.DEC_RETIRED_RETIRED i, .ro, .p, []⟩]
    | _ => []⟩,
  -- DEC_WATER
  ⟨0xC0034, [], false, fun _ => [
    ⟨R.DEC_WATER_LOW, .rw, .k, []⟩,
    ⟨R.DEC_WATER_DEFER, .rw, .k, []⟩,
    ⟨R.DEC_WATER_FLOOR, .rw, .k, []⟩]⟩,
  -- DEC_CLASS
  ⟨0xC0040, [(4, 0x4)], false, fun is => match is with
    | [c] => [
    ⟨R.DEC_CLASS_MAX_ITER c, .rw, .k, []⟩,
    ⟨R.DEC_CLASS_FLOOR_ITER c, .rw, .k, []⟩,
    ⟨R.DEC_CLASS_HOLD c, .rw, .k, [(1, 2047)]⟩]
    | _ => []⟩,
  -- DEC_SPILL
  ⟨0xC0050, [], false, fun _ => [
    ⟨R.DEC_SPILL_DEFERRED, .ro, .v, []⟩,
    ⟨R.DEC_SPILL_RETAINED, .ro, .v, []⟩,
    ⟨R.DEC_SPILL_RETAIN_EVICT, .rc, .v, []⟩]⟩,
  -- DEC_CONVERGED
  ⟨0xC0060, [], false, fun _ => [
    ⟨R.DEC_CONVERGED_SECTORS, .rc, .v, []⟩]⟩,
  -- DEC_ENDS
  ⟨0xC0064, [], false, fun _ => [
    ⟨R.DEC_ENDS_BUDGET, .rc, .v, []⟩,
    ⟨R.DEC_ENDS_HOLD, .rc, .v, []⟩,
    ⟨R.DEC_ENDS_SEAL, .rc, .v, []⟩,
    ⟨R.DEC_ENDS_ERASURE, .rc, .v, []⟩]⟩,
  -- DEC_COUNT
  ⟨0xC0068, [], false, fun _ => [
    ⟨R.DEC_COUNT_DEFERRALS, .rc, .v, []⟩,
    ⟨R.DEC_COUNT_BACKPRESSURE, .rc, .v, []⟩]⟩,
  -- DEC_ITERATIONS
  ⟨0xC006C, [], false, fun _ => [
    ⟨R.DEC_ITERATIONS_TOTAL, .rc, .v, []⟩]⟩]
/-- Registers of 06_decoder_pool.md. -/
def rows06p1 : List RegRow := [
  -- DEC_CORE_SEL
  ⟨0xC0080, [], false, fun _ => [
    ⟨R.DEC_CORE_SEL_CORE, .rw, .v, [(0, 95)]⟩]⟩,
  -- DEC_CORE_INFO
  ⟨0xC0084, [], false, fun _ => [
    ⟨R.DEC_CORE_INFO_SEAL_SUSPECT, .ro, .v, []⟩,
    ⟨R.DEC_CORE_INFO_KAT_FAILS, .ro, .v, []⟩,
    ⟨R.DEC_CORE_INFO_CONTEXTS, .ro, .v, []⟩,
    ⟨R.DEC_CORE_INFO_FENCED, .ro, .v, []⟩]⟩,
  -- DEC_STAT_SEL
  ⟨0xC0100, [], false, fun _ => [
    ⟨R.DEC_STAT_SEL_G, .rw, .v, [(0, 639)]⟩,
    ⟨R.DEC_STAT_SEL_RZONE, .rw, .v, []⟩,
    ⟨R.DEC_STAT_SEL_BANK, .rw, .v, []⟩,
    ⟨R.DEC_STAT_SEL_CLEAR, .wo, .v, []⟩]⟩,
  -- DEC_STAT_DATA
  ⟨0xC0104, [(10, 0x4)], true, fun is => match is with
    | [k] => [
    ⟨R.DEC_STAT_DATA_DATA k, .ro, .v, []⟩]
    | _ => []⟩,
  -- DEC_STAT_BUDGET
  ⟨0xC0130, [], true, fun _ => [
    ⟨R.DEC_STAT_BUDGET_BUDGET_BIN, .ro, .v, []⟩,
    ⟨R.DEC_STAT_BUDGET_EDGE_1_BIN, .ro, .v, []⟩]⟩]
/-- Registers of 04_positioning_and_damper_array.md. -/
def rows04p0 : List RegRow := [
  -- DAMP_CTRL
  ⟨0xD0000, [], false, fun _ => [
    ⟨R.DAMP_CTRL_LANE_EN, .rw, .k, []⟩]⟩,
  -- DAMP_LANES
  ⟨0xD0004, [], false, fun _ => [
    ⟨R.DAMP_LANES_IN_SERVICE, .ro, .v, []⟩,
    ⟨R.DAMP_LANES_RETIRED, .ro, .p, []⟩]⟩,
  -- DAMP_STATUS
  ⟨0xD0008, [], false, fun _ => [
    ⟨R.DAMP_STATUS_LANES, .ro, .v, []⟩,
    ⟨R.DAMP_STATUS_LANE_LIMIT, .ro, .v, []⟩,
    ⟨R.DAMP_STATUS_FAILED, .ro, .v, []⟩]⟩,
  -- DAMP_DELAY
  ⟨0xD000C, [], false, fun _ => [
    ⟨R.DAMP_DELAY_WORST, .rc, .v, []⟩,
    ⟨R.DAMP_DELAY_BOUND_MISS, .rc, .v, []⟩]⟩,
  -- DAMP_OUTVOTED
  ⟨0xD0010, [(4, 0x4)], false, fun is => match is with
    | [i] => [
    ⟨R.DAMP_OUTVOTED (4 * i + 0), .rc, .v, []⟩,
    ⟨R.DAMP_OUTVOTED (4 * i + 1), .rc, .v, []⟩,
    ⟨R.DAMP_OUTVOTED (4 * i + 2), .rc, .v, []⟩,
    ⟨R.DAMP_OUTVOTED (4 * i + 3), .rc, .v, []⟩]
    | _ => []⟩,
  -- DAMP_COMMIT
  ⟨0xD0020, [], false, fun _ => [
    ⟨R.DAMP_COMMIT_LOOP, .rw, .v, [(0, 799)]⟩,
    ⟨R.DAMP_COMMIT_GO, .wo, .v, []⟩,
    ⟨R.DAMP_COMMIT_PENDING, .ro, .v, []⟩]⟩,
  -- DAMP_STATE_SEL
  ⟨0xD0024, [], false, fun _ => [
    ⟨R.DAMP_STATE_SEL_LOOP, .rw, .v, []⟩]⟩,
  -- DAMP_STATE_DATA
  ⟨0xD0028, [(5, 0x4)], true, fun is => match is with
    | [k] => [
    ⟨R.DAMP_STATE_DATA_VALUE k, .ro, .v, []⟩]
    | _ => []⟩,
  -- POS_LIMITS_W
  ⟨0xD0040, [], false, fun _ => [
    ⟨R.POS_LIMITS_W_WU_LIMIT, .rw, .k, []⟩,
    ⟨R.POS_LIMITS_W_WU_REEN, .rw, .k, []⟩,
    ⟨R.POS_LIMITS_W_W_SETTLE, .rw, .k, []⟩]⟩,
  -- POS_LIMITS_R
  ⟨0xD0044, [], false, fun _ => [
    ⟨R.POS_LIMITS_R_R_SETTLE, .rw, .k, []⟩,
    ⟨R.POS_LIMITS_R_OFFTRACK, .rw, .k, []⟩]⟩,
  -- DAMP_COEF
  ⟨0xD1000, [(800, 0x40), (2, 0x20), (8, 0x4)], false, fun is => match is with
    | [L, set, i] => [
    ⟨R.DAMP_COEF_VALUE L set i, .rw, .k, []⟩]
    | _ => []⟩,
  -- DAMP_CFG0
  ⟨0xDE000, [(800, 0x8)], false, fun is => match is with
    | [L] => [
    ⟨R.DAMP_CFG0_EN L, .rw, .k, []⟩,
    ⟨R.DAMP_CFG0_FORM L, .rw, .k, []⟩,
    ⟨R.DAMP_CFG0_IN_SHIFT L, .rw, .k, []⟩,
    ⟨R.DAMP_CFG0_ACTIVE_SET L, .ro, .v, []⟩]
    | _ => []⟩]
/-- Registers of 04_positioning_and_damper_array.md. -/
def rows04p1 : List RegRow := [
  -- DAMP_CFG1
  ⟨0xDE004, [(800, 0x8)], false, fun is => match is with
    | [L] => [
    ⟨R.DAMP_CFG1_CLAMP L, .rw, .k, []⟩]
    | _ => []⟩]
/-- Registers of 17_faults_retirement_and_event_recorder.md. -/
def rows17p0 : List RegRow := [
  -- EVT_CTRL
  ⟨0xE0000, [], false, fun _ => [
    ⟨R.EVT_CTRL_RATE, .rw, .k, [(1, 60)]⟩,
    ⟨R.EVT_CTRL_BURST, .rw, .k, [(1, 255)]⟩,
    ⟨R.EVT_CTRL_EXEMPT, .rw, .k, []⟩,
    ⟨R.EVT_CTRL_FLUSH_S, .rw, .k, [(1, 255)]⟩]⟩,
  -- EVT_STATUS
  ⟨0xE0004, [], false, fun _ => [
    ⟨R.EVT_STATUS_FIXED_FULL, .ro, .p, []⟩,
    ⟨R.EVT_STATUS_VAR_FULL, .ro, .p, []⟩,
    ⟨R.EVT_STATUS_FLUSHING, .ro, .v, []⟩,
    ⟨R.EVT_STATUS_BUFFERED, .ro, .v, []⟩]⟩,
  -- EVT_FIXED
  ⟨0xE0008, [], false, fun _ => [
    ⟨R.EVT_FIXED_RECORDS, .ro, .p, []⟩]⟩,
  -- EVT_VAR
  ⟨0xE000C, [], false, fun _ => [
    ⟨R.EVT_VAR_KIB, .ro, .p, []⟩]⟩,
  -- EVT_DROPPED_FIXED
  ⟨0xE0010, [], false, fun _ => [
    ⟨R.EVT_DROPPED_FIXED_COUNT, .ro, .p, []⟩]⟩,
  -- EVT_DROPPED_VAR
  ⟨0xE0014, [], false, fun _ => [
    ⟨R.EVT_DROPPED_VAR_COUNT, .ro, .p, []⟩]⟩,
  -- EVT_SEQ
  ⟨0xE0018, [], false, fun _ => [
    ⟨R.EVT_SEQ_NEXT, .ro, .p, []⟩]⟩,
  -- EVT_OPSEC
  ⟨0xE001C, [], false, fun _ => [
    ⟨R.EVT_OPSEC_SECONDS, .ro, .p, []⟩]⟩,
  -- EVT_PCYCLE
  ⟨0xE0020, [], false, fun _ => [
    ⟨R.EVT_PCYCLE_COUNT, .ro, .p, []⟩]⟩,
  -- EVT_FLUSH
  ⟨0xE0024, [], false, fun _ => [
    ⟨R.EVT_FLUSH_GO, .wo, .v, []⟩]⟩,
  -- EVT_TIME_MARK_LO
  ⟨0xE0028, [], false, fun _ => [
    ⟨R.EVT_TIME_MARK_LO_LO, .wo, .v, []⟩]⟩,
  -- EVT_TIME_MARK_HI
  ⟨0xE002C, [], false, fun _ => [
    ⟨R.EVT_TIME_MARK_HI_HI, .wo, .v, []⟩]⟩]
/-- Registers of 17_faults_retirement_and_event_recorder.md. -/
def rows17p1 : List RegRow := [
  -- FLT_SEL
  ⟨0xE0100, [], false, fun _ => [
    ⟨R.FLT_SEL_KIND, .rw, .v, [(0, 5)]⟩,
    ⟨R.FLT_SEL_INDEX, .rw, .v, []⟩]⟩,
  -- FLT_DATA
  ⟨0xE0104, [], true, fun _ => [
    ⟨R.FLT_DATA_C, .ro, .v, []⟩,
    ⟨R.FLT_DATA_B, .ro, .v, []⟩,
    ⟨R.FLT_DATA_PERMANENT, .ro, .v, []⟩]⟩,
  -- RET_STATUS
  ⟨0xE0200, [], false, fun _ => [
    ⟨R.RET_STATUS_ENTRIES, .ro, .p, []⟩,
    ⟨R.RET_STATUS_ACTIVE, .ro, .v, []⟩,
    ⟨R.RET_STATUS_FULL, .ro, .p, []⟩]⟩,
  -- RET_CTRL
  ⟨0xE0204, [], false, fun _ => [
    ⟨R.RET_CTRL_ATTN_ACK, .wo, .v, []⟩]⟩,
  -- RMGR_SEL
  ⟨0xE0300, [], false, fun _ => [
    ⟨R.RMGR_SEL_DOMAIN, .rw, .v, [(0, 9)]⟩,
    ⟨R.RMGR_SEL_INDEX, .rw, .v, []⟩]⟩,
  -- RMGR_DATA
  ⟨0xE0304, [], true, fun _ => [
    ⟨R.RMGR_DATA_ACTIVE, .ro, .v, []⟩,
    ⟨R.RMGR_DATA_QUEUED, .ro, .v, []⟩,
    ⟨R.RMGR_DATA_REPLANS, .ro, .v, []⟩,
    ⟨R.RMGR_DATA_TRIGGER, .ro, .v, []⟩]⟩]
/-- Registers of 16_kindling_startup_reset_and_selftest.md. -/
def rows16_2 : List RegRow := [
  -- ST_CTRL
  ⟨0xF0000, [], false, fun _ => [
    ⟨R.ST_CTRL_BUDGET, .rw, .k, [(10, 60)]⟩,
    ⟨R.ST_CTRL_RETEST, .rw, .k, [(1, 255)]⟩]⟩,
  -- ST_STATUS
  ⟨0xF0004, [], false, fun _ => [
    ⟨R.ST_STATUS_PHASE, .ro, .v, []⟩,
    ⟨R.ST_STATUS_POWER_W, .ro, .v, []⟩,
    ⟨R.ST_STATUS_RUNNING, .ro, .v, []⟩,
    ⟨R.ST_STATUS_FAILS, .ro, .v, []⟩]⟩,
  -- ST_REQ
  ⟨0xF0008, [], false, fun _ => [
    ⟨R.ST_REQ_KIND, .rw, .v, [(0, 5)]⟩,
    ⟨R.ST_REQ_INDEX, .rw, .v, []⟩,
    ⟨R.ST_REQ_GO, .wo, .v, []⟩,
    ⟨R.ST_REQ_RESULT, .ro, .v, []⟩]⟩,
  -- ST_SEL
  ⟨0xF0010, [], false, fun _ => [
    ⟨R.ST_SEL_KIND, .rw, .v, [(0, 6)]⟩,
    ⟨R.ST_SEL_INDEX, .rw, .v, []⟩]⟩,
  -- ST_DATA
  ⟨0xF0014, [(2, 0x4)], true, fun is => match is with
    | [k] => [
    ⟨R.ST_DATA_DATA k, .ro, .v, []⟩]
    | _ => []⟩,
  -- ST_START
  ⟨0xF0020, [], false, fun _ => [
    ⟨R.ST_START_HOST_MS, .ro, .v, []⟩,
    ⟨R.ST_START_KIND, .ro, .v, []⟩]⟩,
  -- DBG_TAP
  ⟨0xF0040, [], false, fun _ => [
    ⟨R.DBG_TAP_ZEROIZE_COUNT, .ro, .p, []⟩,
    ⟨R.DBG_TAP_TAP_USED, .ro, .v, []⟩]⟩]
/-- Registers of 02_hda_slot_interface.md. -/
def rows02 : List RegRow := [
  -- SLOT_STATUS
  ⟨0x100000, [(32, 0x1000)], false, fun is => match is with
    | [s] => [
    ⟨R.SLOT_STATUS_PRESENT s, .ro, .v, []⟩,
    ⟨R.SLOT_STATUS_EN5 s, .ro, .v, []⟩,
    ⟨R.SLOT_STATUS_EN12 s, .ro, .v, []⟩,
    ⟨R.SLOT_STATUS_STATE s, .ro, .v, []⟩,
    ⟨R.SLOT_STATUS_ASSIST_KIND s, .ro, .v, []⟩,
    ⟨R.SLOT_STATUS_MODAREA_VALID s, .ro, .v, []⟩,
    ⟨R.SLOT_STATUS_PSFLT0 s, .ro, .v, []⟩,
    ⟨R.SLOT_STATUS_PSFLT1 s, .ro, .v, []⟩]
    | _ => []⟩,
  -- SLOT_CTRL
  ⟨0x100004, [(32, 0x1000)], false, fun is => match is with
    | [s] => [
    ⟨R.SLOT_CTRL_ENABLE s, .rw, .k, []⟩,
    ⟨R.SLOT_CTRL_REBRING s, .wo, .v, []⟩,
    ⟨R.SLOT_CTRL_POWER_OFF s, .rw, .v, []⟩,
    ⟨R.SLOT_CTRL_ATTN s, .rw, .v, []⟩]
    | _ => []⟩,
  -- SLOT_MEAS_PHASE
  ⟨0x100010, [(32, 0x1000)], false, fun is => match is with
    | [s] => [
    ⟨R.SLOT_MEAS_PHASE_PH_U s, .ro, .v, []⟩,
    ⟨R.SLOT_MEAS_PHASE_PH_V s, .ro, .v, []⟩,
    ⟨R.SLOT_MEAS_PHASE_PH_W s, .ro, .v, []⟩]
    | _ => []⟩,
  -- SLOT_MEAS_VCM
  ⟨0x100014, [(32, 0x1000), (2, 0x4)], false, fun is => match is with
    | [s, a] => [
    ⟨R.SLOT_MEAS_VCM_RES (2 * s + a), .ro, .v, []⟩,
    ⟨R.SLOT_MEAS_VCM_IND (2 * s + a), .ro, .v, []⟩]
    | _ => []⟩,
  -- SLOT_CABLE
  ⟨0x10001C, [(32, 0x1000)], false, fun is => match is with
    | [s] => [
    ⟨R.SLOT_CABLE_LEN_MM s, .ro, .v, []⟩,
    ⟨R.SLOT_CABLE_SPREAD_MM s, .ro, .v, []⟩]
    | _ => []⟩,
  -- SLOT_PSER_CMD
  ⟨0x100020, [(32, 0x1000), (2, 0x8)], false, fun is => match is with
    | [s, a] => [
    ⟨R.SLOT_PSER_CMD_ADDR (2 * s + a), .rw, .v, []⟩,
    ⟨R.SLOT_PSER_CMD_DIR (2 * s + a), .rw, .v, []⟩,
    ⟨R.SLOT_PSER_CMD_WDATA (2 * s + a), .rw, .v, []⟩,
    ⟨R.SLOT_PSER_CMD_GO (2 * s + a), .wo, .v, []⟩,
    ⟨R.SLOT_PSER_CMD_DONE (2 * s + a), .ro, .v, []⟩,
    ⟨R.SLOT_PSER_CMD_FAILED (2 * s + a), .ro, .v, []⟩]
    | _ => []⟩,
  -- SLOT_PSER_DATA
  ⟨0x100024, [(32, 0x1000), (2, 0x8)], false, fun is => match is with
    | [s, a] => [
    ⟨R.SLOT_PSER_DATA_RDATA (2 * s + a), .ro, .v, []⟩,
    ⟨R.SLOT_PSER_DATA_LINK_ERRORS (2 * s + a), .rc, .v, []⟩]
    | _ => []⟩]
/-- Registers of 03_spindle_motors.md. -/
def rows03_2 : List RegRow := [
  -- SPIN_CTRL
  ⟨0x100080, [(32, 0x1000)], false, fun is => match is with
    | [s] => [
    ⟨R.SPIN_CTRL_SETPOINT s, .rw, .v, [(0, 2)]⟩,
    ⟨R.SPIN_CTRL_AUTO s, .rw, .k, []⟩,
    ⟨R.SPIN_CTRL_RESTART s, .wo, .v, []⟩]
    | _ => []⟩,
  -- SPIN_STATUS
  ⟨0x100084, [(32, 0x1000)], false, fun is => match is with
    | [s] => [
    ⟨R.SPIN_STATUS_STATE s, .ro, .v, []⟩,
    ⟨R.SPIN_STATUS_SERVICE s, .ro, .v, []⟩,
    ⟨R.SPIN_STATUS_IN_WINDOW s, .ro, .v, []⟩,
    ⟨R.SPIN_STATUS_SUPPLY_LIMITED s, .ro, .v, []⟩,
    ⟨R.SPIN_STATUS_ADVANCE s, .ro, .v, []⟩,
    ⟨R.SPIN_STATUS_START_FAILS s, .ro, .v, []⟩]
    | _ => []⟩,
  -- SPIN_SPEED
  ⟨0x100088, [(32, 0x1000)], false, fun is => match is with
    | [s] => [
    ⟨R.SPIN_SPEED_SPEED s, .ro, .v, []⟩]
    | _ => []⟩,
  -- SPIN_REF
  ⟨0x10008C, [(32, 0x1000)], false, fun is => match is with
    | [s] => [
    ⟨R.SPIN_REF_REF s, .ro, .v, []⟩,
    ⟨R.SPIN_REF_RAMPING s, .ro, .v, []⟩,
    ⟨R.SPIN_REF_HELD s, .ro, .v, []⟩]
    | _ => []⟩,
  -- SPIN_ILIM
  ⟨0x100090, [(32, 0x1000)], false, fun is => match is with
    | [s] => [
    ⟨R.SPIN_ILIM_RUN_ILIM s, .rw, .k, [(0, 50)]⟩,
    ⟨R.SPIN_ILIM_ALIGN_ILIM s, .rw, .k, [(0, 50)]⟩,
    ⟨R.SPIN_ILIM_BRAKE_ILIM s, .rw, .k, [(0, 50)]⟩]
    | _ => []⟩,
  -- SPIN_START
  ⟨0x100094, [(32, 0x1000)], false, fun is => match is with
    | [s] => [
    ⟨R.SPIN_START_RAMP_RATE s, .rw, .k, [(20, 80)]⟩,
    ⟨R.SPIN_START_ALIGN_TIME s, .rw, .k, [(10, 50)]⟩,
    ⟨R.SPIN_START_SLEW s, .rw, .k, [(10, 72)]⟩]
    | _ => []⟩,
  -- SPIN_ADV
  ⟨0x100098, [(32, 0x1000), (4, 0x4)], false, fun is => match is with
    | [s, i] => [
    ⟨R.SPIN_ADV_ENTRY_LO s i, .rw, .k, []⟩,
    ⟨R.SPIN_ADV_ENTRY_HI s i, .rw, .k, []⟩]
    | _ => []⟩,
  -- SPIN_COUNT
  ⟨0x1000A8, [(32, 0x1000)], false, fun is => match is with
    | [s] => [
    ⟨R.SPIN_COUNT_LOSSES s, .rc, .v, []⟩,
    ⟨R.SPIN_COUNT_RECATCH_FAILS s, .rc, .v, []⟩,
    ⟨R.SPIN_COUNT_START_FAILS s, .rc, .v, []⟩,
    ⟨R.SPIN_COUNT_REFUSALS s, .rc, .v, []⟩]
    | _ => []⟩,
  -- SPIN_PRED
  ⟨0x1000AC, [(32, 0x1000)], false, fun is => match is with
    | [s] => [
    ⟨R.SPIN_PRED_PREDICTED s, .rc, .v, []⟩,
    ⟨R.SPIN_PRED_ILIM_TRIPS s, .rc, .v, []⟩]
    | _ => []⟩,
  -- SPIN_BEMF
  ⟨0x1000B0, [(32, 0x1000)], false, fun is => match is with
    | [s] => [
    ⟨R.SPIN_BEMF_SENSE_SPEED s, .ro, .v, []⟩,
    ⟨R.SPIN_BEMF_SENSE_REVERSE s, .ro, .v, []⟩,
    ⟨R.SPIN_BEMF_SENSE_RESULT s, .ro, .v, []⟩]
    | _ => []⟩]
/-- Registers of 04_positioning_and_damper_array.md. -/
def rows04_2 : List RegRow := [
  -- ACT_CTRL
  ⟨0x1000C0, [(32, 0x1000), (2, 0x20)], false, fun is => match is with
    | [s, a] => [
    ⟨R.ACT_CTRL_SET_MAX (2 * s + a), .rw, .k, [(1, 10)]⟩,
    ⟨R.ACT_CTRL_UNLOAD (2 * s + a), .rw, .v, []⟩]
    | _ => []⟩,
  -- ACT_STATUS
  ⟨0x1000C4, [(32, 0x1000), (2, 0x20)], false, fun is => match is with
    | [s, a] => [
    ⟨R.ACT_STATUS_STATE (2 * s + a), .ro, .v, []⟩,
    ⟨R.ACT_STATUS_REID_PENDING (2 * s + a), .ro, .v, []⟩,
    ⟨R.ACT_STATUS_EMERG (2 * s + a), .ro, .v, []⟩,
    ⟨R.ACT_STATUS_SET_MASK (2 * s + a), .ro, .v, []⟩,
    ⟨R.ACT_STATUS_FOLLOW_MASK (2 * s + a), .ro, .v, []⟩,
    ⟨R.ACT_STATUS_SET_LIMIT (2 * s + a), .ro, .v, []⟩]
    | _ => []⟩,
  -- ACT_TARGET
  ⟨0x1000C8, [(32, 0x1000), (2, 0x20)], false, fun is => match is with
    | [s, a] => [
    ⟨R.ACT_TARGET_TARGET (2 * s + a), .ro, .v, []⟩,
    ⟨R.ACT_TARGET_MODE (2 * s + a), .ro, .v, []⟩,
    ⟨R.ACT_TARGET_ACCEL (2 * s + a), .ro, .v, []⟩]
    | _ => []⟩,
  -- ACT_PES
  ⟨0x1000CC, [(32, 0x1000), (2, 0x20)], false, fun is => match is with
    | [s, a] => [
    ⟨R.ACT_PES_EV (2 * s + a), .ro, .v, []⟩,
    ⟨R.ACT_PES_SPREAD (2 * s + a), .ro, .v, []⟩]
    | _ => []⟩,
  -- ACT_CEIL
  ⟨0x1000D0, [(32, 0x1000), (2, 0x20)], false, fun is => match is with
    | [s, a] => [
    ⟨R.ACT_CEIL_VIB_CEIL (2 * s + a), .rw, .k, [(0, 2500)]⟩,
    ⟨R.ACT_CEIL_VIB_CEIL_W (2 * s + a), .rw, .k, [(0, 2500)]⟩]
    | _ => []⟩,
  -- ACT_CURRENT
  ⟨0x1000D4, [(32, 0x1000), (2, 0x20)], false, fun is => match is with
    | [s, a] => [
    ⟨R.ACT_CURRENT_DEMAND (2 * s + a), .ro, .v, []⟩,
    ⟨R.ACT_CURRENT_APPLIED (2 * s + a), .ro, .v, []⟩,
    ⟨R.ACT_CURRENT_WIN (2 * s + a), .ro, .v, []⟩,
    ⟨R.ACT_CURRENT_SATURATED (2 * s + a), .ro, .v, []⟩]
    | _ => []⟩,
  -- ACT_COUNT
  ⟨0x1000D8, [(32, 0x1000), (2, 0x20)], false, fun is => match is with
    | [s, a] => [
    ⟨R.ACT_COUNT_VCM_SAT_FAULTS (2 * s + a), .rc, .v, []⟩,
    ⟨R.ACT_COUNT_SERVO_LOST (2 * s + a), .rc, .v, []⟩,
    ⟨R.ACT_COUNT_LOAD_FAILS (2 * s + a), .rc, .v, []⟩,
    ⟨R.ACT_COUNT_EMERG_UNLOADS (2 * s + a), .rc, .v, []⟩]
    | _ => []⟩,
  -- ACT_COIL
  ⟨0x1000DC, [(32, 0x1000), (2, 0x20)], false, fun is => match is with
    | [s, a] => [
    ⟨R.ACT_COIL_T_EST (2 * s + a), .ro, .v, []⟩,
    ⟨R.ACT_COIL_KE (2 * s + a), .ro, .v, []⟩]
    | _ => []⟩]
/-- Registers of 05_read_write_channel.md. -/
def rows05 : List RegRow := [
  -- HEAD_CH_CTRL
  ⟨0x100100, [(32, 0x1000), (20, 0x40)], false, fun is => match is with
    | [s, h] => [
    ⟨R.HEAD_CH_CTRL_LOOP_MODE (20 * s + h), .rw, .v, [(0, 2)]⟩,
    ⟨R.HEAD_CH_CTRL_FIR_SET (20 * s + h), .rw, .v, []⟩,
    ⟨R.HEAD_CH_CTRL_TARGET_SET (20 * s + h), .rw, .v, []⟩,
    ⟨R.HEAD_CH_CTRL_SM2_ONLY (20 * s + h), .rw, .v, []⟩,
    ⟨R.HEAD_CH_CTRL_FRAME_SHIFT (20 * s + h), .rw, .v, [(0, 4), (12, 15)]⟩,
    ⟨R.HEAD_CH_CTRL_SM1_MAXERR (20 * s + h), .rw, .k, []⟩,
    ⟨R.HEAD_CH_CTRL_SM2_MAXERR (20 * s + h), .rw, .k, []⟩,
    ⟨R.HEAD_CH_CTRL_ERASE_DEFECTS (20 * s + h), .rw, .k, []⟩,
    ⟨R.HEAD_CH_CTRL_WRITE_INHIBIT (20 * s + h), .rw, .v, []⟩]
    | _ => []⟩,
  -- HEAD_CH_STATUS
  ⟨0x100104, [(32, 0x1000), (20, 0x40)], false, fun is => match is with
    | [s, h] => [
    ⟨R.HEAD_CH_STATUS_ZONE (20 * s + h), .ro, .v, []⟩,
    ⟨R.HEAD_CH_STATUS_TIER (20 * s + h), .ro, .v, []⟩,
    ⟨R.HEAD_CH_STATUS_MODE (20 * s + h), .ro, .v, []⟩,
    ⟨R.HEAD_CH_STATUS_GATE (20 * s + h), .ro, .v, []⟩,
    ⟨R.HEAD_CH_STATUS_HELD (20 * s + h), .ro, .v, []⟩,
    ⟨R.HEAD_CH_STATUS_LAST_FRAME (20 * s + h), .ro, .v, []⟩,
    ⟨R.HEAD_CH_STATUS_VGA (20 * s + h), .ro, .v, []⟩]
    | _ => []⟩,
  -- HEAD_AFE_TRIM
  ⟨0x100108, [(32, 0x1000), (20, 0x40)], false, fun is => match is with
    | [s, h] => [
    ⟨R.HEAD_AFE_TRIM_CTF_BOOST (20 * s + h), .rw, .v, []⟩,
    ⟨R.HEAD_AFE_TRIM_CTF_CUT (20 * s + h), .rw, .v, []⟩,
    ⟨R.HEAD_AFE_TRIM_CTF_SPARES (20 * s + h), .ro, .v, []⟩,
    ⟨R.HEAD_AFE_TRIM_VGA_SPARES (20 * s + h), .ro, .v, []⟩]
    | _ => []⟩,
  -- HEAD_WRITE_TIMING
  ⟨0x10010C, [(32, 0x1000), (20, 0x40)], false, fun is => match is with
    | [s, h] => [
    ⟨R.HEAD_WRITE_TIMING_LAUNCH_PS (20 * s + h), .ro, .v, []⟩,
    ⟨R.HEAD_WRITE_TIMING_PC1_OUTER (20 * s + h), .rw, .v, []⟩,
    ⟨R.HEAD_WRITE_TIMING_PC1_INNER (20 * s + h), .rw, .v, []⟩,
    ⟨R.HEAD_WRITE_TIMING_PC2_OUTER (20 * s + h), .rw, .v, []⟩,
    ⟨R.HEAD_WRITE_TIMING_PC2_INNER (20 * s + h), .rw, .v, []⟩]
    | _ => []⟩,
  -- HEAD_ASSIST
  ⟨0x100110, [(32, 0x1000), (20, 0x40)], false, fun is => match is with
    | [s, h] => [
    ⟨R.HEAD_ASSIST_SETPOINT (20 * s + h), .ro, .v, []⟩,
    ⟨R.HEAD_ASSIST_ITH_EST (20 * s + h), .ro, .v, []⟩,
    ⟨R.HEAD_ASSIST_AT_MAX (20 * s + h), .ro, .v, []⟩,
    ⟨R.HEAD_ASSIST_DUTY (20 * s + h), .ro, .v, []⟩]
    | _ => []⟩,
  -- HEAD_FRAME_COUNT
  ⟨0x100114, [(32, 0x1000), (20, 0x40)], false, fun is => match is with
    | [s, h] => [
    ⟨R.HEAD_FRAME_COUNT_XCHECK_REFRAME (20 * s + h), .rc, .v, []⟩,
    ⟨R.HEAD_FRAME_COUNT_SM1_MISS_REFRAME (20 * s + h), .rc, .v, []⟩,
    ⟨R.HEAD_FRAME_COUNT_SM2_MISS (20 * s + h), .rc, .v, []⟩,
    ⟨R.HEAD_FRAME_COUNT_FRAME_FAIL (20 * s + h), .rc, .v, []⟩]
    | _ => []⟩,
  -- HEAD_DEFECT_COUNT
  ⟨0x100118, [(32, 0x1000), (20, 0x40)], false, fun is => match is with
    | [s, h] => [
    ⟨R.HEAD_DEFECT_COUNT_DEFECT_SPANS (20 * s + h), .rc, .v, []⟩,
    ⟨R.HEAD_DEFECT_COUNT_TORN (20 * s + h), .rc, .v, []⟩,
    ⟨R.HEAD_DEFECT_COUNT_ERASURE_LIMIT (20 * s + h), .rc, .v, []⟩]
    | _ => []⟩,
  -- HEAD_ADC
  ⟨0x10011C, [(32, 0x1000), (20, 0x40)], false, fun is => match is with
    | [s, h] => [
    ⟨R.HEAD_ADC_INDEX (20 * s + h), .rw, .v, [(1, 63)]⟩,
    ⟨R.HEAD_ADC_COMP (20 * s + h), .ro, .v, []⟩,
    ⟨R.HEAD_ADC_USABLE (20 * s + h), .ro, .v, []⟩,
    ⟨R.HEAD_ADC_WORST_ERR (20 * s + h), .ro, .v, []⟩]
    | _ => []⟩]
/-- Registers of 04_positioning_and_damper_array.md. -/
def rows04_3 : List RegRow := [
  -- HEAD_PES
  ⟨0x100120, [(32, 0x1000), (20, 0x40)], false, fun is => match is with
    | [s, h] => [
    ⟨R.HEAD_PES_PES (20 * s + h), .ro, .v, []⟩,
    ⟨R.HEAD_PES_VALID (20 * s + h), .ro, .v, []⟩,
    ⟨R.HEAD_PES_IN_SET (20 * s + h), .ro, .v, []⟩,
    ⟨R.HEAD_PES_FOLLOWING (20 * s + h), .ro, .v, []⟩,
    ⟨R.HEAD_PES_RRO_BAD (20 * s + h), .ro, .v, []⟩,
    ⟨R.HEAD_PES_WRITE_SAFE (20 * s + h), .ro, .v, []⟩]
    | _ => []⟩,
  -- HEAD_OFFSET
  ⟨0x100124, [(32, 0x1000), (20, 0x40)], false, fun is => match is with
    | [s, h] => [
    ⟨R.HEAD_OFFSET_OFFSET (20 * s + h), .rw, .v, []⟩]
    | _ => []⟩,
  -- HEAD_UP
  ⟨0x100128, [(32, 0x1000), (20, 0x40)], false, fun is => match is with
    | [s, h] => [
    ⟨R.HEAD_UP_VOUT (20 * s + h), .ro, .v, []⟩,
    ⟨R.HEAD_UP_SAT (20 * s + h), .ro, .v, []⟩]
    | _ => []⟩,
  -- HEAD_POS_COUNT
  ⟨0x10012C, [(32, 0x1000), (20, 0x40)], false, fun is => match is with
    | [s, h] => [
    ⟨R.HEAD_POS_COUNT_DEPARTURES (20 * s + h), .rc, .v, []⟩,
    ⟨R.HEAD_POS_COUNT_UP_SAT (20 * s + h), .rc, .v, []⟩,
    ⟨R.HEAD_POS_COUNT_WRITE_UNSAFE (20 * s + h), .rc, .v, []⟩]
    | _ => []⟩]
/-- Registers of 02_hda_slot_interface.md. -/
def rows02_2 : List RegRow := [
  -- HEAD_MEAS_UP
  ⟨0x100130, [(32, 0x1000), (20, 0x40)], false, fun is => match is with
    | [s, h] => [
    ⟨R.HEAD_MEAS_UP_CAP_PF (20 * s + h), .ro, .v, []⟩]
    | _ => []⟩,
  -- HEAD_MEAS_RDR
  ⟨0x100134, [(32, 0x1000), (20, 0x40)], false, fun is => match is with
    | [s, h] => [
    ⟨R.HEAD_MEAS_RDR_RES (20 * s + h), .ro, .v, []⟩]
    | _ => []⟩,
  -- HEAD_MEAS_ASSIST
  ⟨0x100138, [(32, 0x1000), (20, 0x40)], false, fun is => match is with
    | [s, h] => [
    ⟨R.HEAD_MEAS_ASSIST_PRIMARY (20 * s + h), .ro, .v, []⟩,
    ⟨R.HEAD_MEAS_ASSIST_SECONDARY (20 * s + h), .ro, .v, []⟩]
    | _ => []⟩,
  -- HEAD_CABLE
  ⟨0x10013C, [(32, 0x1000), (20, 0x40)], false, fun is => match is with
    | [s, h] => [
    ⟨R.HEAD_CABLE_LEN_MM (20 * s + h), .ro, .v, []⟩,
    ⟨R.HEAD_CABLE_PRECOMP_SKEW (20 * s + h), .ro, .v, []⟩,
    ⟨R.HEAD_CABLE_REFL (20 * s + h), .ro, .v, []⟩,
    ⟨R.HEAD_CABLE_RESULT (20 * s + h), .ro, .v, []⟩]
    | _ => []⟩]
/-- Registers of 15_calibration_and_ageing.md. -/
def rows15 : List RegRow := [
  -- CAL_CTRL
  ⟨0x120000, [], false, fun _ => [
    ⟨R.CAL_CTRL_KIND_EN, .rw, .k, []⟩,
    ⟨R.CAL_CTRL_SUSPECT_RETRY, .rw, .k, [(10, 255)]⟩,
    ⟨R.CAL_CTRL_SUSPECT_LIMIT, .rw, .k, [(2, 15)]⟩,
    ⟨R.CAL_CTRL_CAL_HEADS, .rw, .k, [(1, 64)]⟩]⟩,
  -- CAL_STATUS
  ⟨0x120004, [], false, fun _ => [
    ⟨R.CAL_STATUS_RUNNING, .ro, .v, []⟩,
    ⟨R.CAL_STATUS_GROUPS, .ro, .v, []⟩,
    ⟨R.CAL_STATUS_HELD, .ro, .v, []⟩]⟩,
  -- CAL_REQ
  ⟨0x120008, [], false, fun _ => [
    ⟨R.CAL_REQ_KIND, .rw, .v, [(0, 6)]⟩,
    ⟨R.CAL_REQ_ELEM, .rw, .v, []⟩,
    ⟨R.CAL_REQ_GO, .wo, .v, []⟩,
    ⟨R.CAL_REQ_RESULT, .ro, .v, []⟩]⟩,
  -- CAL_INTERVAL
  ⟨0x120010, [(7, 0x4)], false, fun is => match is with
    | [k] => [
    ⟨R.CAL_INTERVAL_HOURS k, .rw, .k, [(1, 8760)]⟩,
    ⟨R.CAL_INTERVAL_TEMP k, .rw, .k, [(0, 50)]⟩]
    | _ => []⟩,
  -- CAL_ELEM_SEL
  ⟨0x120040, [], false, fun _ => [
    ⟨R.CAL_ELEM_SEL_KIND, .rw, .v, []⟩,
    ⟨R.CAL_ELEM_SEL_ELEM, .rw, .v, []⟩]⟩,
  -- CAL_ELEM_DATA
  ⟨0x120044, [(3, 0x4)], true, fun is => match is with
    | [k] => [
    ⟨R.CAL_ELEM_DATA_DATA k, .ro, .p, []⟩]
    | _ => []⟩,
  -- AGE_CTRL
  ⟨0x120100, [], false, fun _ => [
    ⟨R.AGE_CTRL_MARGIN_PERIOD, .rw, .k, [(1, 168)]⟩,
    ⟨R.AGE_CTRL_HEADROOM_FLOOR, .rw, .k, [(0, 39)]⟩,
    ⟨R.AGE_CTRL_SNR_FLOOR, .rw, .k, []⟩,
    ⟨R.AGE_CTRL_QUALIFY_H, .rw, .k, [(24, 255)]⟩]⟩,
  -- AGE_LIMITS
  ⟨0x120104, [], false, fun _ => [
    ⟨R.AGE_LIMITS_ASSIST_FLAG, .rw, .k, []⟩,
    ⟨R.AGE_LIMITS_ASSIST_RETIRE, .rw, .k, []⟩,
    ⟨R.AGE_LIMITS_READER_FLAG, .rw, .k, []⟩,
    ⟨R.AGE_LIMITS_READER_RETIRE, .rw, .k, []⟩,
    ⟨R.AGE_LIMITS_REPLAN_BATCH, .rw, .k, [(1, 63)]⟩]⟩,
  -- AGE_COUNT
  ⟨0x120108, [], false, fun _ => [
    ⟨R.AGE_COUNT_BATCHES, .rc, .v, []⟩,
    ⟨R.AGE_COUNT_SUSPECTS, .rc, .v, []⟩]⟩,
  -- AGE_SEL
  ⟨0x120110, [], false, fun _ => [
    ⟨R.AGE_SEL_G, .rw, .v, [(0, 639)]⟩,
    ⟨R.AGE_SEL_RZONE, .rw, .v, []⟩]⟩,
  -- AGE_DATA
  ⟨0x120114, [(3, 0x4)], true, fun is => match is with
    | [k] => [
    ⟨R.AGE_DATA_DATA k, .ro, .p, []⟩]
    | _ => []⟩,
  -- AGE_HEAD_DATA
  ⟨0x120120, [], true, fun _ => [
    ⟨R.AGE_HEAD_DATA_ASSIST_CHANGE, .ro, .p, []⟩,
    ⟨R.AGE_HEAD_DATA_READER_CHANGE, .ro, .p, []⟩,
    ⟨R.AGE_HEAD_DATA_FLAGGED, .ro, .p, []⟩]⟩]
/-- Every register row of the map. -/
def regRows : List RegRow := rows18 ++ rows14 ++ rows03 ++ rows14_2 ++ rows18_2 ++ rows16 ++ rows13p0 ++ rows13p1 ++ rows10p0 ++ rows10p1 ++ rows11 ++ rows12p0 ++ rows12p1 ++ rows08p0 ++ rows08p1 ++ rows07 ++ rows09p0 ++ rows09p1 ++ rows06p0 ++ rows06p1 ++ rows04p0 ++ rows04p1 ++ rows17p0 ++ rows17p1 ++ rows16_2 ++ rows02 ++ rows03_2 ++ rows04_2 ++ rows05 ++ rows04_3 ++ rows02_2 ++ rows15

/-- Whether an address lies inside the map (R478). -/
def inMap (a : Nat) : Bool := a < 0x130000

/-- The fields of the register at an address: none where no register is defined (R479). -/
def layoutIn : List RegRow → Nat → List FSpec
  | [], _ => []
  | r :: rs, a =>
    if a < r.base then layoutIn rs a
    else match indices r.dims (a - r.base) with
      | some is => r.fields is
      | none => layoutIn rs a

/-- The fields of the register at an address (R478, R479). -/
def layout (a : Nat) : List FSpec := layoutIn regRows a

/-- Whether the register at an address is a DATA register of a snapshot (R483). -/
def isSnapIn : List RegRow → Nat → Bool
  | [], _ => false
  | r :: rs, a =>
    if a < r.base then isSnapIn rs a
    else match indices r.dims (a - r.base) with
      | some _ => r.snap
      | none => isSnapIn rs a

/-- Whether the register at an address is a DATA register of a snapshot (R483). -/
def isSnap (a : Nat) : Bool := isSnapIn regRows a

/-- Whether a value is legal for a field (R14). -/
def FSpec.ok (f : FSpec) (v : Nat) : Bool :=
  f.legal.isEmpty || f.legal.any (fun r => r.1 ≤ v && v ≤ r.2)

/-- The value a written word gives a field. -/
def Fld.of (f : Fld) (w : Nat) : Nat := (w / 2 ^ f.lo) % 2 ^ f.w

/-- The survival class of the field whose key is given (R17). -/
def keepsOf (key : Nat) : Keeps :=
  match (layout (key / 32)).find? (fun f => f.fld.lo = key % 32) with
  | some f => f.keeps
  | none => .none

end Sys2Proof.Machine
end

