-- ==== Sys2Proof/Machine/State.lean ====
section
/-! DEFINITION. The state of the module: every register, table, buffer, queue, counter, mode and pin the spec gives it,
as plain data, and its value right after reset. A register field has its home in `flds`; what the registers do not hold
has a field of its own. -/

namespace Sys2Proof.Machine

/-- Stops with a fault. The module has none: every command the spec describes has an effect, and a condition the spec
calls an error is recorded and handled in the state (R451, R484). -/
inductive Fault where
  /-- Raised by no command: kept so that the type is inhabited. Safe. -/
  | none
  deriving DecidableEq, Repr

/-- Stops without a meaning. -/
inductive Refusal where
  /-- Raised by an arm of `exec` whose command has no meaning yet. Safe: the machine stops. -/
  | notModelled (mnemonic : String)
  deriving DecidableEq, Repr

/-- A sparse table: pairs of a key and a value, keys rising. -/
abbrev Tbl (α : Type) := List (Nat × α)

/-- Whether the module runs, and if not why. -/
inductive Run where
  /-- No supply reaches the always-on island. -/
  | off
  /-- Held in module reset (R62, R401, R437). -/
  | held
  /-- Waiting at step 2 of R435 for MOD_RESET_N to go high (R498). -/
  | waitPin
  /-- Running: starting, serving or Unlit as GLB_STATUS.STATE tells. -/
  | up
  /-- A failed unit (R7): stopped serving, no further outputs. -/
  | failed
  /-- In scan state (R449). -/
  | scan
  deriving DecidableEq, Repr

-- ch17: the event recorder

/-- A fixed record (R465). -/
structure EvRec where
  code : Nat
  origin : Nat
  p0 : Nat
  p1 : Nat
  p2 : Nat
  p3 : Nat
  rep : Nat
  folded : Bool
  relit : Bool
  linked : Bool
  opSec : Nat
  pcycle : Nat
  seq : Nat
  deriving DecidableEq, Repr

/-- A variable record (R467) without its closing CRC. -/
structure VarRec where
  code : Nat
  opSec : Nat
  pcycle : Nat
  seq : Nat
  payload : List Nat
  deriving DecidableEq, Repr

/-- The event recorder (R470 to R476). -/
structure Recorder where
  /-- Fixed records in the on-die buffer, oldest first (R472). -/
  fixBuf : List EvRec := []
  /-- Variable records in the on-die buffer, oldest first (R472). -/
  varBuf : List VarRec := []
  /-- The fixed region of the vault, oldest first (R474). -/
  fixReg : List EvRec := []
  /-- The variable region of the vault, oldest first (R474). -/
  varReg : List VarRec := []
  /-- Records dropped from the fixed region (R474). -/
  fixDropped : Nat := 0
  /-- Records dropped from the variable region (R474). -/
  varDropped : Nat := 0
  /-- Recording in the fixed region has stopped (R474). -/
  fixFull : Bool := false
  /-- Recording in the variable region has stopped (R474). -/
  varFull : Bool := false
  /-- The variable region's EVENTS_DROPPED waits for room in the fixed region (R476). -/
  varOwed : Bool := false
  /-- The next sequence number (R470). -/
  seq : Nat := 0
  /-- The sequence number saved in the vault (R470). -/
  savedSeq : Nat := 0
  /-- Tokens of each event code below BURST; an unlisted code's bucket is full (R471). -/
  tokens : Tbl Nat := []
  /-- Suppressed counts by event code (R471). -/
  suppressed : Tbl Nat := []
  /-- A flush is due or under way (R472). -/
  flushing : Bool := false
  /-- The banked records of the kept bank have been appended (R472). -/
  bankAppended : Bool := false
  deriving DecidableEq, Repr

/-- An entry of the retirement ledger (R455). -/
structure LedgerEntry where
  kind : Nat
  index : Nat
  active : Bool
  hdaHeld : Bool
  released : Bool
  reason : Nat
  opSec : Nat
  pcycle : Nat
  seq : Nat
  serial : List Nat
  deriving DecidableEq, Repr

/-- An error channel of R452: consecutive count, bucket, and whether it became permanent (R451). -/
structure Channel where
  c : Nat := 0
  b : Nat := 0
  permanent : Bool := false
  deriving DecidableEq, Repr

/-- A recovery domain of R458. -/
structure Domain where
  /-- A recovery is running. -/
  active : Bool := false
  /-- The code of the event that started it. -/
  trigger : Nat := 0
  /-- Re-plans of the running recovery (R460). -/
  replans : Nat := 0
  /-- Triggers waiting behind it, in order (R459, R460). -/
  queue : List Nat := []
  deriving DecidableEq, Repr

/-- A clock island of R488. -/
structure IslandSt where
  /-- 0 released, 1 held in reset, 2 retired, 3 clock stopped. -/
  state : Nat := 0
  /-- The local synthesiser is locked to the root reference. -/
  locked : Bool := false
  stalls : Nat := 0
  cause : Nat := 0
  /-- The standby synthesiser has been used (decoder and damper, R26). -/
  synSpent : Bool := false
  /-- The second bridge has been used (decoder and damper, R26). -/
  bridgeSpent : Bool := false
  deriving DecidableEq, Repr

/-- The vault flash (R452 kind 4) and what else its controller holds. -/
structure Vault where
  /-- The vault is faulted (R28). -/
  faulted : Bool := false
  /-- Erase blocks replaced from spares. -/
  retiredBlocks : List Nat := []
  /-- Operating seconds saved (R470). -/
  savedOpSec : Nat := 0
  deriving DecidableEq, Repr

/-- The pins of the midplane and shelf-services connectors (R44, R62, R497). -/
structure Pins where
  /-- SLOT_EN12[s]: 0 low, 1 high, 2 high impedance. -/
  en12 : Tbl Nat := []
  /-- SLOT_EN5[s]: 0 low, 1 high, 2 high impedance. -/
  en5 : Tbl Nat := []
  /-- Slots whose spindle driver works (R64); every other slot's phases are at high impedance. -/
  phases : List Nat := []
  /-- Slots whose VCM and micro-positioner outputs are driven; every other slot's are at high impedance. -/
  drives : List Nat := []
  /-- WDP/WDN, PSSEL_N, PSCK and PSDIO are at high impedance and IDSCL and IDSDA released (R62); otherwise the write pairs idle or
  carry data as the gates say, PSSEL_N is high between frames, and the buses rest. -/
  linksReleased : Bool := false
  /-- ATTN_MOD_N is held on by a retirement (R454). -/
  attnRetired : Bool := false
  /-- ATTN_MOD_N is held on by a lost feed (R392). -/
  attnFeed : List Nat := []
  /-- ATTN_N and ATTN_MOD_N are released (R62); otherwise the ATTN_N of a slot is on while its SLOT_CTRL.ATTN is 1 (R497). -/
  attnReleased : Bool := false
  /-- FAN_PWM is released, so that the line is high (R62); otherwise its duty is THM_STATUS.FAN_DUTY. -/
  fanReleased : Bool := false
  /-- The MOD_RESET_N input is low (R498). -/
  modResetLow : Bool := false
  /-- The front handle latch solenoid has released the latch (R496). -/
  latchReleased : Bool := false
  deriving DecidableEq, Repr

-- ch02: slots

/-- A transaction waiting on a preamp serial link (R49). -/
structure PserCmd where
  addr : Nat
  dir : Nat
  wdata : Nat
  deriving DecidableEq, Repr

/-- What a slot holds beside its registers. -/
structure SlotSt where
  /-- The HDA in the slot, with the contents of its ID memory as this module last wrote or read them. -/
  hda : Option Hda := none
  /-- The last assist measurement of each head: kind, primary, secondary (R58 step 5). -/
  assistMeas : Tbl (Nat × Nat × Nat) := []
  /-- Write one-way delay minus read one-way delay and read one-way delay of each head, ps (R61). -/
  delays : Tbl (Int × Nat) := []
  /-- Group and position of the HDA in the slot (R255). -/
  pos : Option (Nat × Nat) := none
  /-- The step of the power-off sequence of R57 under way: 0 none. -/
  offStep : Nat := 0
  /-- The cable path is retired (R59). -/
  cableRetired : Bool := false
  /-- Operating seconds of the last write of trims to the module area, plus 1; 0 none (R53). -/
  trimWrittenAt : Nat := 0
  /-- Module area writes have stopped (R452 kind 1). -/
  idFailed : Bool := false
  /-- HDA thermal limit of the set, 10 down to 3 (R98, R408). -/
  setLimit : Nat := 10
  /-- HDA thermal service level: the assist duty cap, % (R156, R408). -/
  dutyCap : Nat := 100
  /-- A duty cap has bound in the throttle episode in progress (R156). -/
  dutyLogged : Bool := false
  /-- What the HDA in the slot measures (R58). -/
  meas : Option Meas := none
  /-- The slot front-end is retired (R25). -/
  frontRetired : Bool := false
  deriving DecidableEq, Repr

-- ch03: spindles

/-- How the ramp in progress began (R68, R80). -/
inductive Origin where
  | service | start | caught | recaught | selfTest
  deriving DecidableEq, Repr

/-- What a spindle holds beside its registers. -/
structure Spindle where
  /-- Origin of the ramp in progress (R80). -/
  origin : Origin := .service
  /-- Times of the last crossings, newest first, ns, and whether each was measured (R67, R69). -/
  times : List (Nat × Bool) := []
  /-- Crossings predicted in a row (R67). -/
  predicted : Nat := 0
  /-- Crossings missing in a row (R82). -/
  missing : Nat := 0
  /-- Crossings measured in a row (R74, R82). -/
  measured : Nat := 0
  /-- Crossings measured in a row with the speed within the window (R78, R82). -/
  inside : Nat := 0
  /-- Operating seconds of the observer losses of the last hour (R85). -/
  losses : List Nat := []
  /-- Reference speed in 10⁻⁹ of 0.1 rpm, whose whole part is SPIN_REF.REF. -/
  refFine : Nat := 0
  /-- Output of the speed loop, 0.01 %: duty, or braking demand when negative (R69). -/
  duty : Int := 0
  /-- The sequence of R82 runs: the members stay fenced until step 7. -/
  recatching : Bool := false
  /-- The slot waits for its spin-up group (R89). -/
  waiting : Bool := false
  /-- The sense under way is the one R400 makes of every spindle. -/
  recoverSense : Bool := false
  /-- A start is under way, from its sense until SPEED: its allowance is in use (R89). -/
  starting : Bool := false
  /-- The commutation step that begins at `commAt`, 0 to 5 (R64, R68). -/
  step : Nat := 0
  /-- Time of the next commutation, ns (R68). -/
  commAt : Nat := 0
  /-- Module time at which the blind ramp began, µs (R74). -/
  blindAt : Nat := 0
  /-- Module time at which braking began or went on after a sense, µs (R72). -/
  brakeAt : Nat := 0
  /-- A sense comes before any braking: the retired HDA of a spindle whose drive was off (R87). -/
  senseFirst : Bool := false
  /-- The PWM frame, 25 µs long, in which the comparator last tripped (R65, R71). -/
  trip : Option Nat := none
  deriving DecidableEq, Repr

-- ch04: positioning and the damper array

/-- What an actuator holds beside its registers. -/
structure Actu where
  /-- Target of the actuator, 1/1,024 ST; ACT_TARGET shows its whole servo track (R94, R108). -/
  target : Nat := 0
  /-- Coil resistance R_meas of R113, 5 mΩ: the actuator trim's, or bring-up's. -/
  rMeas : Nat := 0
  /-- HDA temperature when the coil was measured, 0.1 °C (T_meas of R113). -/
  tMeas : Int := 0
  /-- Current applied at the previous wedge, mA (I_other of R114, to the other actuator). -/
  prevI : Int := 0
  /-- The head the spread rule of R97 has leave at the next wedge. -/
  leaver : Option Nat := none
  /-- Module time of the load request under way, µs (R112). -/
  loadAt : Nat := 0
  /-- Common fast motion and slow offsets give e_V (R96), 1/1,024 ST. -/
  ev : Int := 0
  /-- Slewed midrange of R96, in 2⁻¹⁶ of 1/1,024 ST. -/
  mids : Int := 0
  /-- Every write gate of the actuator is held since an actuator shock, until the listed heads re-enable (R105). -/
  shockHeads : List Nat := []
  /-- A load is due (after a failed load, a lost servo, a saturation fault or a catch). -/
  reloadDue : Bool := false
  /-- Load failures in a row (R118). -/
  loadFails : Nat := 0
  /-- Operating seconds of VCM saturation faults (R118). -/
  satAt : List Nat := []
  /-- Operating seconds of lost servos (R118). -/
  lostAt : List Nat := []
  /-- Wedges in a row at which no following head had a valid PES (R117). -/
  invalidRun : Nat := 0
  /-- The actuator is in write mode: settle criterion and gates (R104, R147). -/
  writing : Bool := false
  /-- A chunk transfer is in progress. -/
  transferring : Bool := false
  /-- Coupling gain KX of R114 in 2⁻¹⁶; 0 until the first identification. -/
  kx : Int := 0
  /-- Operating seconds of the last VCM_COIL_HOT, plus 1; 0 none (R113). -/
  hotAt : Nat := 0
  /-- Retired (R118, R56, R452). -/
  retired : Bool := false
  deriving DecidableEq, Repr

/-- What a head holds beside its registers: positioning (ch04) and channel (ch05). -/
structure HeadSt where
  /-- Following and not in the set: acquiring (R98). -/
  acquiring : Bool := false
  /-- Module time at which it left the set, plus 1; 0 when it has not been in it (R99). -/
  outAt : Nat := 0
  /-- Valid PES in a row (R99). -/
  validRun : Nat := 0
  /-- Invalid PES in a row (R100). -/
  invalidRun : Nat := 0
  /-- Wedges in a row within the settle limit of the operation (R104). -/
  settleRun : Nat := 0
  /-- Wedges in a row within the write re-enable limit (R104). -/
  reenRun : Nat := 0
  /-- The last PES, 1/1,024 ST, signed. -/
  pes : Int := 0
  /-- The last position P of R94, 1/1,024 ST. -/
  pos : Int := 0
  /-- Number of the wedge expected next; none before the first SAM is found (R95). -/
  wedge : Option Nat := none
  /-- The last wedge was write-unsafe for the head (R104). -/
  unsafeNow : Bool := false
  /-- The head leaves the set at its next sector boundary: the set limit was lowered (R98). -/
  leaving : Bool := false
  /-- Slow offset qf of R96, in 2⁻¹⁶ of 1/1,024 ST. -/
  qf : Int := 0
  /-- Micro-positioner drive, mV, signed. -/
  vout : Int := 0
  /-- Operating seconds of micro-positioner saturation departures (R118). -/
  upSatAt : List Nat := []
  /-- Operating seconds of invalid-PES departures (R118). -/
  badPesAt : List Nat := []
  /-- The sectors of the next data fragment are flagged off-track (R104). -/
  offTrack : Bool := false
  /-- Fenced (calibration, self-test, recovery). -/
  fenced : Bool := false
  /-- Retired. -/
  retired : Bool := false
  /-- The place of the sector refused an entry: the chunk's sectors are held until it passes again (R174). -/
  held : Option Place := none
  /-- Row and number of the sector at which a chunk write that stopped goes on (R32, R41). -/
  stop : Option (Nat × Nat) := none
  /-- Row of the chunk the head writes and number of the first sector of its share (R32, R101). -/
  chunk : Option (Nat × Nat) := none
  /-- Blocks of its share of that chunk it has written (R101). -/
  wrote : Nat := 0
  /-- Torn sectors in the conventional band it may rewrite in place: module time of the tear, target, number (R152). -/
  tornAt : List (Nat × Nat × Nat) := []
  /-- Settings of the ladder reads of this revolution: step and read index; (0, 0) for the default ones (R194). -/
  ladderKey : Option (Nat × Nat) := none
  /-- A ladder read's sector has ended since the last wedge (R191). -/
  ladderEnd : Bool := false
  /-- Blocks of a chunk read left unread when the head left the set, oldest first (R102). -/
  unread : List Place := []
  /-- Held at the duty cap for the rest of the 10 ms window (R156). -/
  capped : Bool := false
  /-- The assist set-point is written and read back (R151, R153). -/
  assistSet : Bool := false
  /-- Preamp temperature at the last set-point write, 0.125 °C, signed (R153). -/
  assistTemp : Int := 0
  /-- A sector is being written: target, sector number, and data fragments still to come (R133, R149). -/
  sector : Option (Nat × Nat × Nat) := none
  /-- The write FIFO holds the whole next sector (R41, R151). -/
  fifoFull : Bool := true
  /-- The comparator assigned to each ideal threshold k = 1 to 63 (R136); empty before calibration. -/
  comps : List Nat := []
  /-- Temperature of the latest assist characteristic measurement by kind 3, 0.125 °C; none while that of bring-up is the
  latest (R153). -/
  assistT0 : Option Int := none
  /-- The falling clock edge's offset from half a bit period, 0.1 ps (R150). -/
  fallEdge : Int := 0
  /-- LOOP_MODE as the last sector start took it (R140). -/
  loopMode : Nat := 0
  /-- The adaptive loops beside the VGA code, which CH_STATUS.VGA holds (R139). -/
  loops : LoopVals := {}
  /-- The sample ring: the current sector's ADC samples (R138). -/
  ring : List Nat := []
  /-- What a ladder read of the head changed, to be restored after it (R191): SM2_ONLY, FRAME_SHIFT, OFFSET, FIR_SET,
  TARGET_SET, LOOP_MODE, ERASE_DEFECTS and the preamp's BIAS; empty with none pending. -/
  ladder : List Nat := []
  deriving DecidableEq, Repr

/-- Coefficients and configuration of a damper loop (R121, R125). -/
structure LoopCfg where
  /-- b0 to d1 of set 0, then of set 1, as 32-bit words. -/
  coef : List Nat
  en : Nat
  form : Nat
  inShift : Nat
  clamp : Nat
  deriving DecidableEq, Repr

/-- A damper loop (R121): its signals, its last output and its active configuration (none: the ROM default, which the
shadow copy holds at reset). -/
structure Loop where
  x1 : Int := 0
  x2 : Int := 0
  u1 : Int := 0
  u2 : Int := 0
  v1 : Int := 0
  out : Int := 0
  active : Option LoopCfg := none
  /-- A commit waits for the next evaluation (R125). -/
  pending : Bool := false
  deriving DecidableEq, Repr

/-- The damper array beside its registers (R120 to R125). -/
structure Damper where
  loops : Tbl Loop := []
  /-- Lanes fenced for logic self-test (R123). -/
  fenced : List Nat := []
  /-- Operating seconds at which each lane was outvoted (R124). -/
  outvotedAt : Tbl (List Nat) := []
  /-- Slots with an actuator shock and the module time of it, newest first (R106). -/
  shocks : List (Nat × Nat) := []
  /-- A shelf shock holds every write gate (R106). -/
  shelfHold : Bool := false
  deriving DecidableEq, Repr


/-- A declustering group (R253, R256). -/
structure GroupSt where
  /-- H: the number of its positions. -/
  h : Nat
  seed : Nat
  k : Nat
  p : Nat
  /-- Sequence number of its record. -/
  seq : Nat := 0
  /-- Serial number of the HDA of each position; an unlisted position is vacant. -/
  serials : Tbl (List Nat) := []
  deriving DecidableEq, Repr

/-- Causes for which a member is fenced. -/
inductive Fence where
  | powerOff | observerLoss | positioning | thermal | calibration | selfTest | recovery
  deriving DecidableEq, Repr

/-- What a member holds beside the registers (R227, R267, R275). -/
structure MemberSt where
  /-- Causes for which the member is fenced: its reads are reconstructed and its writes placed elsewhere. -/
  fences : List Fence := []
  /-- Operating seconds at which the member was lost, plus 1; 0 when it is not. -/
  lostAt : Nat := 0
  /-- Marked for rebuild (R275). -/
  rebuild : Bool := false
  /-- It holds no data: formatted afresh, or new in its position (R255, R267, R457). -/
  empty : Bool := false
  /-- Retired. -/
  retired : Bool := false
  deriving DecidableEq, Repr

-- ch06: the decoder pool

/-- Where a sector of the pool stands. -/
inductive PoolSt where
  /-- An entry is granted; the LLRs have not come (R174). -/
  | granted
  /-- Waiting for a context (R168). -/
  | waiting
  /-- In a context of a core (R167). -/
  | running (core : Nat)
  /-- In an entry of the spill area (R170, R171). -/
  | deferred (entry : Nat)
  deriving DecidableEq, Repr

/-- A sector in the pool: the descriptor of R166 and its decoding so far. -/
structure PoolSector where
  req : PoolReq
  /-- Budget class (R172, R238). -/
  cls : Nat
  st : PoolSt
  iters : Nat := 0
  /-- Module time of its last LLR (R168, R175). -/
  arrival : Nat
  erased : Nat := 0
  offTrack : Bool := false
  saturated : Nat := 0
  /-- A cancel has been received (R176). -/
  cancel : Bool := false
  /-- The core whose decode satisfied every check and failed the seal (R183). -/
  cross : Option Nat := none
  /-- Frame kind as LAST_FRAME shows it (R137, R145). -/
  frame : Nat := 0
  /-- Servo-timed bits at which D1 and D2 start (R145, R146). -/
  d1 : Int := 0
  d2 : Int := 0
  /-- Target and number of the sector read (R132). -/
  target : Nat := 0
  n : Nat := 0
  /-- The channel LLRs, c[0] first, 0 for an erased bit (R162, R166); before the read, the sum of the named handles' (R178). -/
  llrs : List Int := []
  deriving DecidableEq, Repr

/-- Statuses of R175, and the framing failure of R145. -/
inductive PoolStatus where
  | converged | sealBad | aborted | hold | budget | erasure | spillLost | frame
  deriving DecidableEq, Repr

/-- A status posted to the owning hob engine, with the block as it was written to DRAM (R164, R175). -/
structure Post where
  id : Nat
  req : PoolReq
  status : PoolStatus
  iters : Nat
  handle : Option Nat
  block : Option Sealed
  deriving DecidableEq, Repr

/-- An entry of the retention store (R177). -/
structure Retained where
  req : PoolReq
  lastUsed : Nat
  /-- Target and number of the sector, and its channel LLRs. -/
  target : Nat
  n : Nat
  llrs : List Int
  deriving DecidableEq, Repr

/-- The statistics of a head and recording zone in one bank (R180 to R182). -/
structure DecStat where
  counted : Nat := 0
  converged : Nat := 0
  iterSum : Nat := 0
  meanSum : Nat := 0
  varSum : Nat := 0
  skipped : Nat := 0
  /-- Counts of the 12 bins, by bin. -/
  bins : Tbl Nat := []
  deriving DecidableEq, Repr

/-- The decoder pool beside its registers. -/
structure Pool where
  sectors : Tbl PoolSector := []
  nextId : Nat := 0
  retained : Tbl Retained := []
  nextHandle : Nat := 0
  /-- Statistics by (bank · 640 + g) · 32 + recording zone. -/
  stats : Tbl DecStat := []
  /-- Cores fenced for logic self-test. -/
  fenced : List Nat := []
  /-- Operating seconds of SEAL_SUSPECT counts by core (R183, R185). -/
  suspects : Tbl (List Nat) := []
  /-- Known-answer failures by core since reset (R184). -/
  katFails : Tbl Nat := []
  /-- Sector-iterations below the next 65,536 (DEC_ITERATIONS). -/
  iterRem : Nat := 0
  /-- Statuses posted and not yet taken by the hob engines, oldest first. -/
  posts : List Post := []
  /-- The sector whose iteration each core runs now (R167). -/
  busy : Tbl Nat := []
  /-- Module time, ns, until which the spill transfers begun so far take at their cap (R170). -/
  spillAt : Nat := 0
  /-- Sectors whose cancel was answered LATE, oldest first (R176). -/
  lates : List Nat := []
  deriving DecidableEq, Repr


-- ch08: the stoker and the map

/-- An entry of the lost-block ledger (R279). -/
structure LostEntry where
  vol : Nat
  cause : Nat
  first : Nat
  count : Nat
  row : Nat
  col : Nat
  opSec : Nat
  deriving DecidableEq, Repr

/-- A zone of a member's format record (R247): its tier (7 retired). -/
structure ZoneRec where
  tier : Nat := 0
  /-- Declared for re-plan (R425). -/
  replan : Bool := false
  deriving DecidableEq, Repr

/-- What a member's hearthstone header and format record hold (R214, R247), with the rows of its stale-row list and its
rebuild (R267, R276). -/
structure Store where
  /-- N of R51 when it was formatted. -/
  n : Nat := 0
  /-- Band share b, %. -/
  share : Nat := 6
  /-- The formatted head set, heads 0 to 9 ascending. -/
  heads : List Nat := [0, 1, 2, 3, 4, 5, 6, 7, 8, 9]
  /-- The head set its hearthstone area lies over (R246, R248). -/
  area : List Nat := [0, 1, 2, 3, 4, 5, 6, 7, 8, 9]
  /-- Sequence number of the governing header copy. -/
  seq : Nat := 0
  /-- Band slots taken out of use (R205, R218). -/
  bad : List Nat := []
  /-- Zones that are not EMPTY at tier 100 %, by zone number. -/
  zones : Tbl ZoneRec := []
  /-- Stale-row list (R267). -/
  stale : List Nat := []
  /-- State of its rebuild as RED_REBUILD_DATA shows it: 0 none, 1 delay, 2 rebuilding, 3 paused, 4 catch-up, 5 complete. -/
  rebuild : Nat := 0
  total : Nat := 0
  done : Nat := 0
  /-- Operating seconds at which the member was lost, plus 1, and the member it was; 0 when it is not lost (R275). -/
  lostAt : Nat := 0
  lostM : Nat := 0
  /-- It was marked for rebuild when it was lost. -/
  marked : Bool := false
  /-- Units of its rebuild that wait for the HDA that took the position: rows of band units, first rows of zone sets (R276). -/
  owed : List Nat := []
  /-- Units of its rebuild that have started (R276). -/
  running : List Nat := []
  /-- An HDA that took the position serves the rebuild of the member that was there before (R276). -/
  anew : Bool := false
  /-- Every unit left of its rebuild waits for a substitute (R276). -/
  paused : Bool := false
  /-- Its copy of the lost-block ledger (R279). -/
  ledger : List LostEntry := []
  /-- Its copy of the retirement ledger (R455). -/
  rets : List LedgerEntry := []
  deriving DecidableEq, Repr

/-- The rebuild of the member a store speaks of has begun, or is over: its data is no longer its own (R267, R275). -/
def Store.begun (x : Store) : Bool := (x.rebuild = 2 || x.rebuild = 5) && !x.anew

/-- States of a zone set that is not EMPTY (R217). -/
inductive ZState where
  | opened | full | evacuating | retired
  deriving DecidableEq, Repr

/-- A column of a zone set being rebuilt (R276): the substitute's member index and zone, and the rebuild pointer, below which its
chunks are on the substitute. -/
structure ZoneMove where
  col : Nat
  q : Nat
  zone : Nat
  upto : Nat
  deriving DecidableEq, Repr

/-- A zone set (R217, R219, R261): layout, generator row, a member index and zone for each column, write pointer, and zone
generation. -/
structure ZoneSet where
  group : Nat
  k : Nat
  p : Nat
  gen : Nat
  cols : List (Nat × Nat)
  st : ZState
  wp : Nat
  zgen : Nat
  /-- Columns left out because their members were out of service when the set was opened (R227). -/
  short : Bool
  /-- Columns being rebuilt. -/
  moving : List ZoneMove
  deriving DecidableEq, Repr

/-- A band row (R218, R219, R261): layout, generator row, a member index and slot for each column, and its generation. -/
structure BandRow where
  group : Nat
  k : Nat
  p : Nat
  gen : Nat
  cols : List (Nat × Nat)
  g : Nat
  deriving DecidableEq, Repr

/-- A granule entry of a fine record (R222). -/
structure Granule where
  st : Nat
  col : Nat
  slot : Nat
  row : Nat
  deriving DecidableEq, Repr

/-- A running copy of an extent (R228): the state before, and whether a host write to it was granted since. -/
structure Copying where
  before : Nat
  written : Bool
  /-- Row and column of the copy once it is on the medium. -/
  dest : Option (Nat × Nat) := none
  /-- The copy belongs to a reshape (R281). -/
  reshape : Bool := false
  deriving DecidableEq, Repr

/-- An extent entry (R220). -/
structure Extent where
  st : Nat := 0
  hint : Nat := 0
  lost : Bool := false
  col : Nat := 0
  row : Nat := 0xFFFFFFFF
  heat : Nat := 0
  epoch : Nat := 0
  /-- The fine record index shown by a lookup; 0xFFFFFFFF for none. -/
  fineIx : Nat := 0xFFFFFFFF
  /-- The eight granule entries of the fine record; empty when the extent has none. -/
  fine : List Granule := []
  copying : Option Copying := none
  deriving DecidableEq, Repr

/-- A running reshape (R281). -/
structure Reshape where
  k : Nat
  p : Nat
  group : Nat
  cursor : Nat
  /-- 1 copying, 2 flipping, 3 cancelling. -/
  st : Nat
  deriving DecidableEq, Repr

/-- A volume (R208, R315). -/
structure Volume where
  size : Nat
  group : Nat
  k : Nat
  p : Nat
  buffered : Bool
  latency : Nat
  budget : Nat
  hint : Nat
  encrypt : Bool
  /-- Key check value (R315). -/
  kcv : Option Nat := none
  /-- The loaded key; none while locked (R316). -/
  key : Option (BitVec 512) := none
  reshape : Option Reshape := none
  deriving DecidableEq, Repr

/-- The new content of a map-delta record, by its kind (R242): 1 extent entry, 2 granule entry, 3 zone set, 4 band row,
5 volume (without its loaded key), 6 exception record, 7 free-map change. -/
inductive MapContent where
  | extent (x : Extent)
  | granule (x : Granule)
  | zoneSet (x : Option ZoneSet)
  | bandRow (x : Option BandRow)
  | volume (x : Option Volume)
  | exception (x : List (Nat × Nat × Nat × Nat))
  | free
  deriving DecidableEq, Repr

/-- A record of the map-delta journal (R242): sequence number, sub-index, volume, object index and content. -/
structure MapRec where
  seq : Nat
  sub : Nat
  vol : Nat
  obj : Nat
  content : MapContent
  deriving DecidableEq, Repr

/-- The map-delta journal (R242 to R244). -/
structure MapJournal where
  /-- Sequence number of the next record. -/
  seq : Nat := 0
  /-- Records below this are durable. -/
  durable : Nat := 0
  /-- The lowest sequence number some segment still needs. -/
  low : Nat := 0
  /-- Records from the lowest number some segment still needs, oldest first. -/
  records : List MapRec := []
  /-- Sequence number in each of the two newest completed copies of a segment's checkpoint. -/
  ckpt : Tbl (Nat × Nat) := []
  /-- Homes of the newest checkpoint of a segment (R243): member, pair, and slot of the pair. -/
  homes : Tbl (List (Nat × Nat × Nat)) := []
  /-- Segments changed since their last checkpoint. -/
  dirty : List Nat := []
  /-- Members of two HDAs whose journal fallback regions take the records after a vault fault (R28). -/
  fallback : List Nat := []
  deriving DecidableEq, Repr

/-- A data chunk waiting for a zone set row (R226): an extent written whole, or granules of extents, with their blocks. -/
structure Chunk where
  vol : Nat
  /-- Extent and granule (8: the whole extent) of each piece. -/
  pieces : List (Nat × Nat)
  /-- The blocks of the chunk by index. -/
  blocks : Tbl (Block × Pi)
  group : Nat
  k : Nat
  p : Nat
  durable : Bool
  stream : Bool
  /-- Written with the hint cold (R232). -/
  cold : Bool := false
  /-- A background copy of its extent (R228). -/
  copy : Bool := false
  /-- A second placement, of an extent a reshape has passed (R281). -/
  shadow : Bool := false
  /-- A relocated granule's old row and column: it enters the map only while the granule still lies there (R205). -/
  from_ : Option (Nat × Nat) := none
  deriving DecidableEq, Repr

/-- A zone set row being written (R265). -/
structure ZoneRow where
  row : Nat
  chunks : List Chunk
  deriving DecidableEq, Repr

/-- A write to a band row (R266): the data columns and blocks it writes, and whether its row lock is granted. -/
structure BandOp where
  row : Nat
  vol : Nat
  ext : Nat
  /-- Data column written. -/
  col : Nat
  blocks : Tbl (Block × Pi)
  granted : Bool
  g1 : Nat
  /-- A background copy of its extent (R228). -/
  copy : Bool := false
  deriving DecidableEq, Repr

/-- A record of the stripe journal (R269). -/
structure OpenRec where
  seq : Nat
  kind : Nat
  group : Nat
  k : Nat
  p : Nat
  row : Nat
  g1 : Nat
  mask : Nat
  first : Nat
  count : Nat
  /-- Member index, for kinds 5 and 6. -/
  q : Nat := 0
  /-- For kind 4, the sequence number of the record closed. -/
  closes : Nat := 0
  deriving DecidableEq, Repr

/-- The stripe journal (R268 to R272). -/
structure Stripe where
  seq : Nat := 0
  opened : List OpenRec := []
  /-- The two copy members, in order. -/
  copies : List Nat := []
  /-- Intent bits set: 2,048·group + region (R270, R271). -/
  intent : List Nat := []
  /-- Regions whose bit a waiting write asks for (R271). -/
  asked : List Nat := []
  batch : Nat := 0
  /-- Records appended since the last batch was formed, oldest first (R268). -/
  recent : List OpenRec := []
  /-- OPEN records the copy members know of from the last batch (R268). -/
  held : List OpenRec := []
  /-- Band rows a full resync has still to reach, of how many, with the writes that were interrupted and the blocks (row, column,
  index) they left on the medium (R273). -/
  unsynced : List Nat := []
  unsyncedOf : Nat := 0
  cut : List BandOp := []
  torn : List (Nat × Nat × Nat) := []
  /-- The copy members' region of the journal is out of date since a copy was lost (R272). -/
  copyOwed : Bool := false
  deriving DecidableEq, Repr

/-- A background operation running on an actuator (R240, R241). -/
structure BgOp where
  /-- Draft order 1 to 8. -/
  order : Nat
  /-- It was started while foreground work was queued. -/
  counted : Bool
  deriving DecidableEq, Repr

/-- Foreground and background work of the stoker beside its registers. -/
structure Stoker where
  /-- Operating seconds of the last heat epoch advance (R229). -/
  epochAt : Nat := 0
  /-- Operating seconds at the end of the last complete scrub pass (R280). -/
  scrubAt : Nat := 0
  /-- Rows the scrub passes under way have read (R280). -/
  scrubbed : List Nat := []
  /-- Draft credit of each actuator, µs (R240). -/
  credit : Tbl Int := []
  /-- Background operations running, by actuator. -/
  bg : Tbl BgOp := []
  /-- Generator row next taken, by group (R258). -/
  nextRow : Tbl Nat := []
  /-- Next zone generation, by group (R261). -/
  zgen : Tbl Nat := []
  /-- Chunks waiting for a row (R226), oldest first. -/
  waiting : List Chunk := []
  /-- Slots an adopting engine has yet to give up (R237). -/
  moves : List (Nat × Nat) := []
  /-- Groups whose CAP_WARN stands (R250). -/
  warned : List Nat := []
  /-- The zone set a volume's stream writes go to (R225). -/
  streams : Tbl Nat := []
  /-- BAND extents are being migrated down, from TARGET until 5 points below it (R230). -/
  demoting : Bool := false
  /-- Chunk writes of departed heads handed on (R215, R216): blocks reported unwritten. -/
  rewrites : List (Nat × Nat × Nat) := []
  /-- Blocks a transfer that ended reported unread, oldest first (R103). -/
  unread : List Place := []
  deriving DecidableEq, Repr

-- ch07: recovery

/-- Where the reconstruction of a block in recovery stands (R196, R197). -/
inductive RaState where
  | none | running | failed | good
  deriving DecidableEq, Repr

/-- A block in recovery (R189 to R203). -/
structure Recovery where
  head : Nat
  rz : Nat
  place : Place
  vol : Nat
  lba : Nat
  /-- Reads waiting for the block, and when each must be served (D of R196), µs. -/
  waiting : List (CmdRef × Nat)
  /-- Step 1 to 8; 9 when exhausted. -/
  step : Nat
  /-- Reads of the step done. -/
  idx : Nat
  /-- The running sum's handle and its count of reads. -/
  sum : Option Nat
  sumCount : Nat
  /-- Handle of the latest uncombined read. -/
  last : Option Nat
  revs : Nat
  ra : RaState
  bg : Bool
  /-- The block delivered by reconstruction, to compare with (R200). -/
  recon : Option Sealed
  /-- No ladder: the cause was SEAL (R189). -/
  noLadder : Bool
  /-- The sector of its ladder read has passed the head. -/
  passed : Bool := false
  /-- Entered by patrol scrub (R280). -/
  scrub : Bool := false
  deriving DecidableEq, Repr

/-- A weak-list entry (R204). -/
structure Weak where
  place : Place
  vol : Nat
  lba : Nat
  block : Sealed
  deriving DecidableEq, Repr

/-- The counts of a head and recording zone that REC_HEAD_DATA shows (R206, R207). -/
structure HeadRec where
  /-- Operating seconds of its recoveries of the last 24 h, newest first. -/
  effort : List Nat := []
  around : Nat := 0
  unrecovered : Nat := 0
  deepest : Nat := 0
  deriving DecidableEq, Repr

-- ch10, ch11: sessions, commands and locks

/-- A frame the module sent that takes a sequence number, as it keeps it to resend. -/
inductive TxFrame where
  /-- DATA of a read: queue, tag, block offset and blocks with their tuples, LAST. -/
  | blocks (queue tag offset : Nat) (l : List (Block × Pi)) (last : Bool)
  /-- DATA of an admin command: tag, byte offset and bytes, LAST. -/
  | bytes (tag offset : Nat) (l : List Nat) (last : Bool)
  /-- CPL with one completion entry. -/
  | cpl (e : Cpl)
  /-- CTRL: OP, REASON, QUEUES, PATH, DEPTH, THROUGH. -/
  | ctrl (op reason queues path depth through : Nat)
  deriving DecidableEq, Repr

/-- A path of a session (R290, R296 to R301). -/
structure PathSt where
  addr : PathAddr
  up : Bool := true
  /-- The CTRL frame that opened it: OP, HOST_ID and SEQ (R293). -/
  opener : Nat × Nat × Nat
  /-- Next SEQ expected from the peer. -/
  rx : Nat
  /-- Frames held out of order, by SEQ. -/
  held : Tbl Frame := []
  /-- Frames received since the last acknowledgement. -/
  unacked : Nat := 0
  /-- A NAK for the present gap has been sent in this RTO. -/
  naked : Bool := false
  /-- Next SEQ to send. -/
  tx : Nat
  /-- Frames sent and not acknowledged: SEQ, frame, whether it was resent, and the module time it was sent. -/
  sent : List (Nat × TxFrame × Bool × Nat) := []
  /-- Frames waiting for the peer's window, oldest first. -/
  queue : List TxFrame := []
  /-- The peer's window. -/
  window : Nat
  /-- SACK bits last received. -/
  sack : Nat := 0
  /-- SRTT and RTTVAR, 1/32 µs; none before the first sample. -/
  srtt : Option (Nat × Nat) := none
  /-- RTO in force, µs. -/
  rto : Nat := 1000
  /-- Consecutive timeouts. -/
  timeouts : Nat := 0
  retransmits : Nat := 0
  naks : Nat := 0
  failovers : Nat := 0
  frames : Nat := 0
  /-- FAILOVER has been sent for the dead path. -/
  told : Bool := false
  /-- THROUGH of the module's own FAILOVER: last SEQ delivered in order when the path went down. -/
  through : Nat := 0
  deriving DecidableEq, Repr

/-- An entry of the queue error log (R337). -/
structure LogEntry where
  arrival : Nat
  tag : Nat
  opcode : Nat
  cflags : Nat
  status : Nat
  vol : Nat
  result0 : Nat
  result1 : Nat
  done : Nat
  opSec : Nat
  pcycle : Nat
  deriving DecidableEq, Repr

/-- What a queue holds beside its commands (R334 to R337). -/
structure QueueSt where
  /-- Arrival number and tag of the completion that froze it. -/
  frozen : Option (Nat × Nat) := none
  errors : Nat := 0
  log : List LogEntry := []
  deriving DecidableEq, Repr

/-- A session (R291 to R298). -/
structure Session where
  hostId : Nat
  queues : Nat
  depth : Nat
  paths : List PathSt
  qs : Tbl QueueSt := []
  /-- CLOSE has been received: no new capsule is accepted. -/
  closing : Bool := false
  /-- Frames kept while no path is up, oldest first (R298). -/
  parked : List TxFrame := []
  deriving DecidableEq, Repr

/-- Commit state of a command (R339). -/
inductive Commit where
  | opened | committed | aborting
  deriving DecidableEq, Repr

/-- Range lock of a command (R324 to R328). -/
inductive LockSt where
  | none | entry | waiting | granted
  deriving DecidableEq, Repr

/-- How far a command has come. -/
inductive Stage where
  /-- Admitted, not yet begun. -/
  | fresh
  /-- A WRITE that passed its checks and receives its data, or any command at work. -/
  | begun
  /-- A WRITE ready to commit that waits for dirty space (R352). -/
  | space
  /-- Staging commit in progress. -/
  | commit
  /-- A BUFFERED point reached or not asked; waits for the DURABLE point (R329). -/
  | durable
  /-- Waits for its map changes, up to this map journal record, to be durable (R242). -/
  | journal (seq : Nat)
  deriving DecidableEq, Repr

/-- A command in flight. -/
structure Cmd where
  ref : CmdRef
  cap : Capsule
  arrival : Nat
  /-- Index of the path it is bound to (R294). -/
  path : Nat
  /-- Port that delivered its capsule (R469). -/
  port : Nat
  /-- Module time from which its deadline and its DATA_TIMEOUT run, µs (R196, R306). -/
  since : Nat
  commit : Commit := .opened
  lock : LockSt := .none
  held : Bool := false
  stage : Stage := .fresh
  /-- Blocks of a WRITE delivered into uncommitted staging, by index (R351). -/
  data : Tbl (Block × Pi) := []
  /-- Bytes of an admin command delivered. -/
  bytes : List Nat := []
  /-- Next OFFSET expected; data has ended with LAST. -/
  nextOff : Nat := 0
  last : Bool := false
  /-- A block failed the checks of R310: status and LBA. -/
  bad : Option (Nat × Nat) := none
  /-- Dirty lines not yet at the DURABLE point (R329): volume and line. -/
  lines : List (Nat × Nat) := []
  /-- The write completes at the DURABLE point for a reason of R330. -/
  asDurable : Bool := false
  /-- Commands a FLUSH covers that have not ended, by arrival number (R333). -/
  covers : List Nat := []
  /-- Sets still to be stepped by a cache operation, as lines (R358). -/
  todo : List (Nat × Nat) := []
  deriving DecidableEq, Repr

/-- Fields of the IP header and tag a frame goes out with (R285): hop limit or TTL, DSCP, ECN, DF, and VID and PCP of its tag. -/
structure IpHead where
  hops : Nat
  dscp : Nat
  ecn : Nat
  df : Bool
  tag : Option (Nat × Nat)
  deriving DecidableEq, Repr

/-- What the header of a frame sent carries beside what its kind gives (R288): SEQ, ACK, WINDOW, CMD_CREDIT, SACK and RETX, with the
headers around it. -/
structure FrameHead where
  seq : Nat
  ack : Nat
  window : Nat
  credit : Nat
  sack : Nat
  retx : Bool
  ip : IpHead
  deriving DecidableEq, Repr

/-- What the module sends to the world outside. -/
inductive Out where
  /-- A preamp serial frame of an actuator (R46). -/
  | pser (m frame : Nat)
  /-- A sector launched by a head at a target and sector number (R149): its 37,376 channel bits (R131), the wedge, first bit
  and bits of each data fragment it lies in (R133), first bit at bit 0, a fragment after the first beginning with its resume field, and
  the launch of an edge by the transitions at bits n−1 and n−2: neither, n−2, n−1, both; whole bits of advance, falling bit
  clock, delay tap (R150). -/
  | sector (g target n : Nat) (bits : BitVec 37376) (frags : List (Nat × Nat × Nat)) (edges : List (Nat × Bool × Nat))
  /-- A frame that takes a sequence number, on a path of a session, with its bytes (R287 to R289). -/
  | frame (session path : Nat) (h : FrameHead) (f : TxFrame) (bytes : List Nat)
  /-- An ACK frame (R299, R301). -/
  | ack (session path : Nat) (h : FrameHead) (bytes : List Nat)
  /-- A NAK frame with its reason (R290, R299). -/
  | nak (session path reason : Nat) (h : FrameHead) (bytes : List Nat)
  /-- A REFUSE: where the request came from, and its reason; its ACK is the SEQ answered plus one (R293). -/
  | refuse (a : PathAddr) (reason : Nat) (h : FrameHead) (bytes : List Nat)
  /-- The module joins or answers on a link: what it sends (R284, R286): 0 neighbour advertisement, 1 ARP reply, 2 echo
  reply, 3 LLDP, 4 duplicate address probe. -/
  | link (port link what : Nat)
  /-- A reply line on the UART (R485). -/
  | uart (line : List Nat)
  /-- The byte image of a copy of a slot's module area, written to its ID memory: 0 copy A, 1 copy B (R52, R53). -/
  | idWrite (slot copy : Nat) (bytes : List Nat)
  /-- Blocks written in a member's hearthstone area: the first one's address in its block address space and how many (R246). -/
  | hearth (member block count : Nat)
  /-- A copy of a member's hearthstone header, 0 A or 1 B, written with these bytes (R247). -/
  | header (member copy : Nat) (bytes : List Nat)
  /-- Both copies of a group's record, written with these bytes (R256). -/
  | groupRecord (group : Nat) (bytes : List Nat)
  /-- A record appended to the stripe journal, to its DRAM twin and the vault (R268, R269). -/
  | stripeRecord (bytes : List Nat)
  /-- A batch of the stripe journal written to a copy member: its header block, and its records (R270). -/
  | stripeBatch (member : Nat) (header : List Nat) (records : List (List Nat))
  /-- Records appended to the map-delta journal, 64 bytes each (R242). -/
  | mapRecords (records : List (List Nat))
  /-- A transfer an engine sends to a fabric endpoint (R370). -/
  | transfer (engine endpoint : Nat) (value : BitVec 64)
  deriving DecidableEq, Repr


/-- FE0's queues and locks beside the sessions. -/
structure Queues where
  /-- Next arrival number (R321). -/
  arrival : Nat := 0
  /-- A lock-table-full episode stands (R328). -/
  full : Bool := false
  /-- Host ports whose sending on PFC_PRIO is paused, with the module time at which the pause ends (R283). -/
  paused : Tbl Nat := []
  /-- What waits for the end of a port's pause, newest first (R283). -/
  stalled : Tbl (List Out) := []
  deriving DecidableEq, Repr

/-- A configured address of a link (R284). -/
structure AddrSt where
  addr : Nat
  prefix4 : Nat
  valid : Bool
  dadFailed : Bool
  deriving DecidableEq, Repr

-- ch12: DRAM and the cache

/-- A tag entry with its header's WRITTEN (R348, R349). -/
structure Tag where
  valid : Nat := 0
  dirty : Nat := 0
  vol : Nat := 0
  line : Nat := 0
  kind : Nat := 0
  partner : Nat := 0
  wb : Bool := false
  fill : Bool := false
  hold : Bool := false
  written : Nat := 0
  /-- Blocks that were dirty when the write-back began (R353). -/
  wbDirty : Nat := 0
  /-- Touches so far when it was last touched: orders lines by use (R352). -/
  touched : Nat := 0
  /-- VALID as the frame's header holds it: as it stood when KIND, PARTNER, DIRTY or WRITTEN last changed (R349). -/
  hdr : Nat := 0
  deriving DecidableEq, Repr

/-- The buffer cache and DRAM beside their registers. -/
structure Cache where
  /-- Tag entries at 16·set + way. -/
  tags : Tbl Tag := []
  /-- Blocks and tuples of the line frames at 32·(16·set + way) + block. -/
  frames : Tbl (Block × Pi) := []
  /-- PLRU bits by set. -/
  plru : Tbl Nat := []
  touches : Nat := 0
  /-- Acknowledged staging by volume and block: 2⁴¹·volume + LBA (R351). -/
  staged : Tbl (Block × Pi) := []
  /-- Lines for which dirty space is reserved: volume and line (R352). -/
  reserved : List (Nat × Nat) := []
  /-- Fills in flight: volume, line and the blocks read for it (R355). -/
  fills : List (Nat × Nat × Tbl (Block × Pi)) := []
  /-- Lines whose write-back has reached the DURABLE point and waits to be cleared (R353): volume and line. -/
  durable : List (Nat × Nat) := []
  /-- Acknowledged staging being written back, by the same key, as it was read (R353). -/
  staging : Tbl (Block × Pi) := []
  /-- Packages fenced or retired (R359). -/
  lost : List Nat := []
  /-- Map segments still to reload (R359, R360). -/
  reload : List Nat := []
  /-- Reloaded segments by the package whose reserve holds them (R360); the others lie in the package of R219. -/
  moved : Tbl Nat := []
  /-- The package after which the next reloaded segment is placed. -/
  placed : Nat := 15
  /-- Packages whose new twins are not yet written (R359 step 5). -/
  retwin : List Nat := []
  /-- The packages' map space is exhausted (R360). -/
  capacityLost : Bool := false
  /-- Operating seconds of corrected bursts of the last 24 h by package, newest first. -/
  ceAt : Tbl (List Nat) := []
  deriving DecidableEq, Repr

-- ch13: the engines

/-- An engine beside its registers (R363). -/
structure Engine where
  /-- r0 to r63; an unlisted one holds 0. -/
  regs : Tbl (BitVec 64) := []
  z : Bool := false
  n : Bool := false
  c : Bool := false
  v : Bool := false
  /-- Condition register, 8 bits. -/
  cr : Nat := 0
  /-- Return stack, newest first, at most 16 entries of 16 bits. -/
  stack : List Nat := []
  /-- Data memory by 64-bit word; an unlisted word is 0. -/
  dm : Tbl (BitVec 64) := []
  /-- Patch RAM by word; an unlisted word is 0. -/
  patch : Tbl (BitVec 128) := []
  /-- Match registers in the format of R377. -/
  matches_ : Tbl Nat := []
  /-- Receive queues, oldest first. -/
  rx : Tbl (List (BitVec 64)) := []
  doorbell : Nat := 0
  /-- Count and module time of the last load of T0 and T1; none while stopped. -/
  t0 : Option (Nat × Nat) := none
  t1 : Option (Nat × Nat) := none
  /-- T0 and T1 have expired since they were loaded. -/
  exp0 : Bool := false
  exp1 : Bool := false
  /-- Module time of the last heartbeat, µs. -/
  hbAt : Nat := 0
  cycles : Nat := 0
  ceSeen : Bool := false
  /-- OWNER_CHANGED of a hob engine, ROLE_CHANGED of a flue engine. -/
  changed : Bool := false
  /-- Words stretched below the next 2¹⁶ (R376). -/
  stretched : Nat := 0
  /-- WREGs issued and not yet acknowledged, oldest first: address and value. -/
  posted : List (Nat × Nat) := []
  /-- Slots (hob) or roles (flue) that FENCE has moved away (R385). -/
  lent : List Nat := []
  deriving DecidableEq, Repr

-- ch14: power and temperature

/-- An entry of the bank index (R398): a dirty line or a staging pair, its blocks, the package it is copied from, and the
line's frame header (R349, R356). A staging pair has no header, and no rule names its packages. -/
structure BankLine where
  vol : Nat
  line : Nat
  mask : Nat
  pkg : Option Nat
  header : List Nat
  deriving DecidableEq, Repr

/-- The bank region of the vault (R398): what the last banking copied. -/
structure Bank where
  /-- The bank index, written first (R398 item 1). -/
  index : List BankLine := []
  /-- Dirty blocks and acknowledged staging with their tuples, by 2⁴¹·volume + LBA. -/
  blocks : Tbl (Block × Pi) := []
  /-- The stripe journal's twin. -/
  stripe : Option Stripe := none
  /-- The recorder's on-die buffers. -/
  fix : List EvRec := []
  var : List VarRec := []
  deriving DecidableEq, Repr

/-- Why the module cuts and banks without a supply event. -/
inductive CutFor where
  | supply | thermal | pin | register | scan (code : Nat)
  deriving DecidableEq, Repr

/-- Power and supply beside their registers. -/
structure Power where
  /-- Feeds retired with their PFC stage until the next cold start (R392). -/
  feedRetired : List Nat := []
  /-- Feeds lost and not yet restored (R392). -/
  lostFeeds : List Nat := []
  /-- The ride timer, µs: what it held, and the module time from which it runs (R395). -/
  ride : Nat := 0
  rideAt : Option Nat := none
  /-- Why the cut in force was made; none outside a cut. -/
  cut : Option CutFor := none
  /-- Slots whose HDA served before the cut (R400). -/
  served : List Nat := []
  /-- Recovery from CUT_QUALIFY runs (R400). -/
  recovering : Bool := false
  /-- Group of a grouped spin-up from which the next one is looked for, and when the last one started, µs (R89). -/
  nextGroup : Nat := 0
  groupAt : Option Nat := none
  /-- The blocks of R397 step 5 are powered down. -/
  blocksDown : Bool := false
  /-- Action 3 of R394 is in force: every set limit is one lower. -/
  lowerSets : Bool := false
  /-- Slots action 2 of R394 wrote to Dusk. -/
  dusked : List Nat := []
  bank : Bank := {}
  deriving DecidableEq, Repr

/-- A temperature sensor (R405, R409). -/
structure SensorSt where
  /-- Last reading, 0.5 °C. -/
  temp : Int := 0
  /-- It has been read since the last reset or bring-up. -/
  seen : Bool := false
  /-- Periods of 100 ms without a reading. -/
  silent : Nat := 0
  /-- 0 working, 1 out of range, 2 no reading, 3 step. -/
  cause : Nat := 0
  deriving DecidableEq, Repr

/-- A thermal zone (R405 to R410). -/
structure ThermZone where
  temp : Int := 0
  level : Nat := 100
  warn : Bool := false
  throttle : Bool := false
  shutdown : Bool := false
  /-- Operating seconds of its shutdowns of the last 24 h. -/
  shutAt : List Nat := []
  deriving DecidableEq, Repr

/-- The thermal monitor. Zone numbers are those of THM_ZONE_SEL. -/
structure Thermal where
  sensors : Tbl SensorSt := []
  zones : Tbl ThermZone := []
  deriving DecidableEq, Repr

-- ch15: calibration and ageing

/-- A calibration in progress (R413, R414). -/
structure CalRun where
  kind : Nat
  elem : Nat
  /-- Recording zone of kind 5; 0 otherwise. -/
  rz : Nat
  /-- Values of its runs, oldest first. -/
  runs : List (List Int) := []
  /-- A run was discarded and repeated (R418). -/
  discarded : Bool := false
  deriving DecidableEq, Repr

/-- What the ageing monitor holds of a head (R422, R424). -/
structure Age where
  /-- Change of the assist element and of the reader from their baselines, %. -/
  assist : Int := 0
  reader : Int := 0
  assistFlag : Bool := false
  readerFlag : Bool := false
  /-- Marked as having shrinking margin (R424). -/
  mark : Bool := false
  /-- Preamp temperature of the assist baseline, 0.125 °C, where this module took it. -/
  baseT : Option Int := none
  deriving DecidableEq, Repr

/-- The margin run of a head and recording zone (R423 to R425). -/
structure Margin where
  headroom : Nat := 0
  snr : Nat := 0
  run : Nat := 0
  start : Nat := 0
  /-- Measurements at or above floor in a row. -/
  above : Nat := 0
  replanning : Bool := false
  lowered : Nat := 0
  deriving DecidableEq, Repr

/-- Calibration and ageing beside their registers. -/
structure Calib where
  /-- Calibrations in progress. -/
  running : List CalRun := []
  /-- Calibrations due: kind, element, recording zone. -/
  due : List (Nat × Nat × Nat) := []
  /-- Operating seconds, plus 1, of the last run of kind 5 by 32·head + recording zone. -/
  zoneAt : Tbl Nat := []
  /-- Largest run-pair difference of the last calibration, % of tolerance, by 1,024·kind + element. -/
  spread : Tbl Nat := []
  /-- Heads by global number. -/
  ages : Tbl Age := []
  /-- Runs by 32·head + recording zone. -/
  margins : Tbl Margin := []
  deriving DecidableEq, Repr

-- ch16: kindling and self-test

/-- Who asked for a self-test. -/
inductive TestFor where
  /-- At start, or of a block fenced because a fault was suspected. -/
  | module_
  /-- SELF-TEST of a command. -/
  | cmd (r : CmdRef)
  /-- ST_REQ. -/
  | reg
  deriving DecidableEq, Repr

/-- A self-test in progress (R442, R446): kinds of R446. -/
structure Test where
  kind : Nat
  index : Nat
  by_ : TestFor
  deriving DecidableEq, Repr

/-- The last self-test of a block (R450). -/
structure TestRes where
  /-- 0 not run, 1 PASS, 2 FAIL, 3 INCOMPLETE. -/
  result : Nat := 0
  reached : Bool := false
  match_ : Bool := false
  runs : Nat := 0
  ms : Nat := 0
  opSec : Nat := 0
  deriving DecidableEq, Repr

/-- Self-tests. -/
structure Tests where
  running : List Test := []
  /-- Tests that wait for the power budget (R443). -/
  waiting : List Test := []
  /-- Results by 1,024·kind + index. -/
  results : Tbl TestRes := []
  /-- Blocks kept fenced after an INCOMPLETE test (R444), with the operating seconds of it. -/
  retest : List (Nat × Nat × Nat) := []
  deriving DecidableEq, Repr

/-- A rekindle under way (R438). -/
inductive Rekindle where
  | none
  /-- Sessions close and the cache drains (steps 1 to 3); the operating second at which it began. -/
  | draining (since : Nat) (obs : StartObs)
  deriving DecidableEq, Repr

/-- Kindling beside its registers. -/
structure Kindle where
  /-- The card in the front slot (R427). -/
  card : Option Card := none
  /-- The gathering buffer (R433): bytes that are not 0xFF, by offset. -/
  buf : Tbl Nat := []
  /-- The image in force was applied: its GROUP records (R431) and system name (R430). -/
  groups : List KGroup := []
  sysName : List Nat := []
  rekindle : Rekindle := .none
  /-- The start under way waits for its map (R435 step 13): map segments still to rebuild. -/
  mapWait : List Nat := []
  /-- Time from the trigger of the start under way to the end of its own steps, ms (R450). -/
  startMs : Nat := 0
  /-- A write to RST_MODULE or KND_REKINDLE that takes effect once its own completion is sent (R438, R488). -/
  resetAsked : Bool := false
  rekindleAsked : Bool := false
  /-- The TAP instruction in force, by its code. -/
  tapIr : Nat := 1
  /-- The TAP's register access: DONE, address and read data (R486). -/
  tapDone : Bool := false
  tapAddr : Nat := 0
  tapData : Nat := 0
  /-- The UART: bytes given for the next admin command (R485). -/
  uartData : List Nat := []
  deriving DecidableEq, Repr
/-- The state of the module. -/
structure State where
  /-- Whether the module runs. -/
  run : Run := .up
  /-- Module time since reset, µs, counted while the queue is empty (log entry 2). -/
  now : Nat := 0
  /-- Microseconds of the operating second in progress (R470). -/
  opSub : Nat := 0
  /-- Operating seconds of the always-on island (R470); EVT_OPSEC. -/
  opSec : Nat := 0
  /-- Power-cycle count (R470); EVT_PCYCLE. -/
  pcycle : Nat := 0
  /-- The model's own: how many free values have been taken (log entry 1). -/
  fresh : Nat := 0
  /-- The register file by field: pairs of a field's place and its value, places rising, no value equal to the field's reset value; an unlisted field holds its reset value (log entry 3). -/
  flds : List (Nat × Nat) := []
  /-- DATA words of the snapshots of R483 by path and address. -/
  snaps : Tbl Nat := []
  /-- HI words latched by reads of LO words (R483) by path and address. -/
  latches : Tbl Nat := []
  /-- The event recorder. -/
  rcd : Recorder := {}
  /-- The retirement ledger, oldest first (R455). -/
  ledger : List LedgerEntry := []
  /-- The ledger has refused an entry for want of room (R456). -/
  ledgerFull : Bool := false
  /-- Error channels of R452 by kind and index. -/
  channels : Tbl Channel := []
  /-- Recovery domains of R458 by row and index. -/
  domains : Tbl Domain := []
  /-- Clock islands of R488 by number. -/
  islands : Tbl IslandSt := []
  /-- The vault. -/
  vault : Vault := {}
  /-- The pins. -/
  pins : Pins := {}
  /-- Slots (ch02). -/
  slots : Tbl SlotSt := []
  /-- Preamp registers of R47, at 128·m + address; an unlisted one holds its reset value. -/
  preamp : Tbl Nat := []
  /-- Link queues of the actuators, held writes included (R49). -/
  pser : Tbl (List PserCmd) := []
  /-- Spindles (ch03). -/
  spins : Tbl Spindle := []
  /-- Actuators (ch04). -/
  acts : Tbl Actu := []
  /-- Heads (ch04, ch05). -/
  heads : Tbl HeadSt := []
  /-- The damper array (ch04). -/
  damper : Damper := {}
  /-- Members. -/
  mems : Tbl MemberSt := []
  /-- Declustering groups (R253). -/
  groups : Tbl GroupSt := []
  /-- Torn positions in shingled zones, marked void: head, target, sector number (R152). -/
  voids : List (Nat × Nat × Nat) := []
  /-- Sectors reported unwritten to the stoker: head, target, sector number (R101, R103, R152). -/
  unwritten : List (Nat × Nat × Nat) := []
  /-- The decoder pool (ch06). -/
  pool : Pool := {}
  /-- Heads whose write gate is open (R147); CH_STATUS.GATE. -/
  gates : List Nat := []
  /-- What the module has sent: frames, replies, captures (the model's own record of its outputs), newest first. -/
  outs : List Out := []
  /-- Commands waiting, first in first out. -/
  pending : List Instr := []
  /-- The volume table (R208). -/
  vols : Tbl Volume := []
  /-- Extent entries at 2³³·volume + extent; an unlisted one is UNMAPPED (R220). -/
  exts : Tbl Extent := []
  /-- Entries of the shadow directories of reshapes, by the same keys (R281). -/
  shadows : Tbl Extent := []
  /-- Zone sets that are not EMPTY, by number (R217). -/
  zsets : Tbl ZoneSet := []
  /-- Band rows, by index (R218). -/
  brows : Tbl BandRow := []
  /-- Exception records at 32·ROW + column: kind, block, head, run position (R215). -/
  excs : Tbl (List (Nat × Nat × Nat × Nat)) := []
  /-- What each member holds in its hearthstone, at 64·group + member index. -/
  stores : Tbl Store := []
  /-- The blocks on the medium at 256·(32·ROW + column) + block; an unlisted one was never written. -/
  media : Tbl Sealed := []
  /-- The map-delta journal (R242). -/
  jn : MapJournal := {}
  /-- The stoker. -/
  stk : Stoker := {}
  /-- Zone set rows being written (R265). -/
  zrows : List ZoneRow := []
  /-- Band row writes granted or waiting for their row lock, in arrival order (R266). -/
  bops : List BandOp := []
  /-- The stripe journal. -/
  stripe : Stripe := {}
  /-- The lost-block ledger (R279). -/
  lost : List LostEntry := []
  /-- Blocks in recovery at 256·(32·ROW + column) + block. -/
  recs : Tbl Recovery := []
  /-- The weak list (R204). -/
  weak : List Weak := []
  /-- Recovery counts at 32·g + recording zone (R206). -/
  headRecs : Tbl HeadRec := []
  /-- Sessions by number (R291). -/
  sessions : Tbl Session := []
  /-- Commands in flight in arrival order. -/
  cmds : List Cmd := []
  /-- Arrival numbers and the lock table. -/
  que : Queues := {}
  /-- Addresses at 64·port + 8·link + slot (R284). -/
  addrs : Tbl AddrSt := []
  /-- Last LLDP frame received by 2·port + link: chassis and port ID first (R286). -/
  lldp : Tbl (List Nat) := []
  /-- The buffer cache and DRAM. -/
  cache : Cache := {}
  /-- Engines HE0 to HE15 (0 to 15) and FE0 to FE3 (16 to 19). -/
  engs : Tbl Engine := []
  /-- Power and supply (ch14). -/
  pow : Power := {}
  /-- Sensors and thermal zones (ch14). -/
  thm : Thermal := {}
  /-- Calibration and ageing (ch15). -/
  cal : Calib := {}
  /-- Trim records not yet written to their ID memory, at 24·slot + 0 to 19 for heads, 20 and 21 for actuators, 22 for the spindle (R419). -/
  trims : Tbl Trim := []
  /-- Self-tests (ch16). -/
  tst : Tests := {}
  /-- Kindling, starts, TAP and UART (ch16, ch18). -/
  knd : Kindle := {}
  deriving DecidableEq, Repr

/-- The module right after a module-level reset, before any image is applied (R17): every register field at its reset
value, nothing listed, nothing waiting. -/
def State.reset : State := {}

end Sys2Proof.Machine
end

