-- ==== Sys2Proof/Machine/Ops.lean ====
section
/-! DEFINITION. The named operations over the state that every family shares: sparse tables, the register file, free
values, snapshots, the event recorder, the error channels, retirement, recovery domains and write gates. -/

namespace Sys2Proof.Machine

/-- A mask of identities. -/
def maskOf (l : List Nat) : Nat := l.foldl (fun w i => if w.testBit i then w else w + 2 ^ i) 0

/-! ## Sparse tables -/

/-- The entry at a key, if one is listed. -/
def tget {α : Type} (k : Nat) : Tbl α → Option α
  | [] => none
  | (k', v) :: t => if k = k' then some v else tget k t

/-- Write an entry, keys kept rising. -/
def tset {α : Type} (k : Nat) (v : α) : Tbl α → Tbl α
  | [] => [(k, v)]
  | (k', v') :: t => if k = k' then (k, v) :: t else if k < k' then (k, v) :: (k', v') :: t else (k', v') :: tset k v t

/-- Remove an entry. -/
def tdel {α : Type} (k : Nat) : Tbl α → Tbl α
  | [] => []
  | (k', v') :: t => if k = k' then tdel k t else (k', v') :: tdel k t

/-- The entry at a key, or a default. -/
def tgetD {α : Type} (k : Nat) (d : α) (t : Tbl α) : α := (tget k t).getD d

/-! ## Addressed memories: words by address, an unlisted one 0 -/

/-- Write a word: a word of 0 is not listed. -/
def putWord {w : Nat} (a : Nat) (v : BitVec w) (t : Tbl (BitVec w)) : Tbl (BitVec w) := if v = 0 then tdel a t else tset a v t

/-- Keys rise strictly. -/
def rising {α : Type} : Tbl α → Bool
  | [] => true
  | (_, _) :: [] => true
  | (k, _) :: (k', v) :: t => k < k' && rising ((k', v) :: t)

/-- The canonical form of an addressed memory: addresses strictly rising, no entry equal to what an unlisted address reads
as. -/
def Memory.wf {w : Nat} (t : Tbl (BitVec w)) : Bool := rising t && t.all fun e => e.2 != 0

/-! ## Lists of identities, kept rising -/

/-- Add an identity. -/
def addId (k : Nat) : List Nat → List Nat
  | [] => [k]
  | k' :: t => if k = k' then k' :: t else if k < k' then k :: k' :: t else k' :: addId k t

/-- Remove an identity. -/
def delId (k : Nat) (l : List Nat) : List Nat := l.filter fun x => x != k

/-! ## The register file -/

/-- The value of a register field. -/
def State.get (f : Fld) (s : State) : Nat := tgetD f.key f.rst s.flds

/-- Set a register field: the value is cut to the field's width, and a field at its reset value is not listed. -/
def State.set (f : Fld) (v : Nat) (s : State) : State :=
  { s with flds := if v % 2 ^ f.w = f.rst then tdel f.key s.flds else tset f.key (v % 2 ^ f.w) s.flds }

/-- Whether a one-bit field is 1. -/
def State.bit (f : Fld) (s : State) : Bool := s.get f = 1

/-- Set a field to a truth value. -/
def State.setB (f : Fld) (b : Bool) (s : State) : State := s.set f b.toNat

/-- Add to a counter that saturates at the field's largest value. -/
def State.count (f : Fld) (n : Nat) (s : State) : State := s.set f (min (s.get f + n) (2 ^ f.w - 1))

/-- The field seen as a signed number. -/
def State.getI (f : Fld) (s : State) : Int := ofBits f.w (s.get f)

/-- Set a field from a signed number. -/
def State.setI (f : Fld) (v : Int) (s : State) : State := s.set f (toBits f.w v)

/-! ## Free values (log entry 1) -/

/-- Take the next free value, below a bound when the bound is not 0. -/
def State.freeNat (s : State) (bound : Nat) : Nat :=
  if bound = 0 then Config.free s.fresh else Config.free s.fresh % bound

/-- Count a free value as taken. -/
def State.bump (s : State) : State := { s with fresh := s.fresh + 1 }

/-! ## Accessors of the typed tables -/

def State.slot (s : State) (i : Nat) : SlotSt := tgetD i {} s.slots
def State.setSlot (s : State) (i : Nat) (x : SlotSt) : State := { s with slots := tset i x s.slots }
def State.spin (s : State) (i : Nat) : Spindle := tgetD i {} s.spins
def State.setSpin (s : State) (i : Nat) (x : Spindle) : State := { s with spins := tset i x s.spins }
def State.actu (s : State) (m : Nat) : Actu := tgetD m {} s.acts
def State.setActu (s : State) (m : Nat) (x : Actu) : State := { s with acts := tset m x s.acts }
def State.head (s : State) (g : Nat) : HeadSt := tgetD g {} s.heads
def State.setHead (s : State) (g : Nat) (x : HeadSt) : State := { s with heads := tset g x s.heads }
def State.loop (s : State) (l : Nat) : Loop := tgetD l {} s.damper.loops
def State.setLoop (s : State) (l : Nat) (x : Loop) : State :=
  { s with damper := { s.damper with loops := tset l x s.damper.loops } }
def State.island (s : State) (i : Nat) : IslandSt := tgetD i {} s.islands
def State.setIsland (s : State) (i : Nat) (x : IslandSt) : State := { s with islands := tset i x s.islands }
def State.domain (s : State) (row i : Nat) : Domain := tgetD (64 * row + i) {} s.domains
def State.setDomain (s : State) (row i : Nat) (x : Domain) : State :=
  { s with domains := tset (64 * row + i) x s.domains }
def State.channel (s : State) (kind i : Nat) : Channel := tgetD (8192 * kind + i) {} s.channels
def State.setChannel (s : State) (kind i : Nat) (x : Channel) : State :=
  { s with channels := tset (8192 * kind + i) x s.channels }

/-- Do something for every element of a list, in order. -/
def State.forAll {α : Type} (l : List α) (f : α → State → State) (s : State) : State := l.foldl (fun t a => f a t) s

/-- Do something if a condition holds. -/
def State.when (c : Bool) (f : State → State) (s : State) : State := if c then f s else s

/-- Record that the module sends something. -/
def State.send (o : Out) (s : State) : State := { s with outs := o :: s.outs }

def State.mem (s : State) (m : Nat) : MemberSt := tgetD m {} s.mems
def State.setMem (s : State) (m : Nat) (x : MemberSt) : State := { s with mems := tset m x s.mems }

/-! ## The event recorder (R462 to R476) -/

/-- Class of an event code (R462). -/
def evClass (code : Nat) : Nat := code / 4096

/-- R466: an ORIGIN from kind and index. -/
def origin (kind index : Nat) : Nat := kind * 4096 + index % 4096

/-- Bytes of a fixed record (R465). -/
def EvRec.bytes (r : EvRec) : List Nat :=
  let b := leBytes 2 r.code ++
    leBytes 2 (r.folded.toNat + 2 * r.relit.toNat + 4 * r.linked.toNat + 16 * min r.rep 4095) ++
    leBytes 4 r.opSec ++ leBytes 4 r.pcycle ++ leBytes 4 r.seq ++ leBytes 2 r.origin ++
    leBytes 2 r.p0 ++ leBytes 2 r.p1 ++ leBytes 4 r.p2 ++ leBytes 4 r.p3
  b ++ leBytes 2 (crc16 b)

/-- Bytes of a variable record, padded to a multiple of 16 (R467). -/
def VarRec.bytes (r : VarRec) : List Nat :=
  let h := leBytes 2 r.code ++ leBytes 2 (r.payload.length + 4) ++ leBytes 4 r.opSec ++ leBytes 4 r.pcycle ++
    leBytes 4 r.seq
  let b := h ++ r.payload ++ leBytes 4 (crc32c (h ++ r.payload))
  b ++ List.replicate ((16 - b.length % 16) % 16) 0

/-- Size of a variable record in its region (R467). -/
def VarRec.size (r : VarRec) : Nat := (r.payload.length + 20 + 15) / 16 * 16

/-- Size of a list of variable records. -/
def varSize (l : List VarRec) : Nat := l.foldl (fun n r => n + r.size) 0

/-- Capacity of the fixed buffer, of the variable buffer, of the fixed region less its reserved record, and of the
variable region (R472, R474). -/
def fixBufCap : Nat := 16384
def varBufCap : Nat := 1048576
def fixRegCap : Nat := 262143
def varRegCap : Nat := 25165824

/-- The stamp of a new record. -/
structure Stamp where
  opSec : Nat
  pcycle : Nat

/-- Append a fixed record to the fixed region, or count it dropped (R474). The first drop puts EVENT_REGION_FULL in the
reserved slot. -/
def Recorder.appendFix (t : Stamp) (e : EvRec) (r : Recorder) : Recorder :=
  if !r.fixFull && r.fixReg.length < fixRegCap then { r with fixReg := r.fixReg ++ [e] }
  else if r.fixFull then { r with fixDropped := r.fixDropped + 1 }
  else { r with
    fixFull := true, fixDropped := r.fixDropped + 1,
    fixReg := r.fixReg ++ [⟨Ev.EVENT_REGION_FULL, 0, 0, 0, 0, 0, 0, false, false, false, t.opSec, t.pcycle, r.seq⟩],
    seq := r.seq + 1 }

/-- Append a variable record to the variable region, or count it dropped (R474). -/
def Recorder.appendVar (t : Stamp) (e : VarRec) (r : Recorder) : Recorder :=
  if !r.varFull && varSize r.varReg + e.size ≤ varRegCap then { r with varReg := r.varReg ++ [e] }
  else if r.varFull then { r with varDropped := r.varDropped + 1 }
  else Recorder.appendFix t
    ⟨Ev.EVENT_REGION_FULL, 0, 1, 0, 0, 0, 0, false, false, false, t.opSec, t.pcycle, r.seq⟩
    { r with varFull := true, varDropped := r.varDropped + 1, seq := r.seq + 1 }

/-- Flush the buffers to the regions in sequence order, and save the sequence number (R470, R472, R474). -/
def Recorder.flush (t : Stamp) (r : Recorder) : Recorder :=
  let r1 := r.fixBuf.foldl (fun q e => q.appendFix t e) { r with fixBuf := [], varBuf := [] }
  let r2 := r.varBuf.foldl (fun q e => q.appendVar t e) r1
  { r2 with flushing := false, savedSeq := r2.seq }

/-- Put a fixed record in its buffer, or count it dropped when the buffer is full (R472). -/
def Recorder.pushFix (e : EvRec) (r : Recorder) : Recorder :=
  if r.fixBuf.length < fixBufCap then
    { r with
      fixBuf := r.fixBuf ++ [e], seq := r.seq + 1
      flushing := r.flushing || [3, 4, 5].contains (evClass e.code) || fixBufCap ≤ 2 * (r.fixBuf.length + 1) }
  else { r with fixDropped := r.fixDropped + 1 }

/-- Put a variable record in its buffer, or count it dropped when the buffer is full (R472). -/
def Recorder.pushVar (t : Stamp) (code : Nat) (payload : List Nat) (r : Recorder) : Recorder :=
  let e : VarRec := ⟨code, t.opSec, t.pcycle, r.seq, payload⟩
  if varSize r.varBuf + e.size ≤ varBufCap then
    { r with
      varBuf := r.varBuf ++ [e], seq := r.seq + 1
      flushing := r.flushing || evClass code = 7 || varBufCap ≤ 2 * (varSize r.varBuf + e.size) }
  else { r with varDropped := r.varDropped + 1 }

/-- Whether a record of this code carries a fault snapshot (R468). -/
def hasSnapshot (code : Nat) : Bool :=
  evClass code = 4 || evClass code = 5 || code = Ev.ENGINE_FAULT || code = Ev.ISLAND_RESET

/-- Record an event of R463 (R471, R472): take a token, or suppress it; a written record carries the suppressed count,
and its fault snapshot follows it (R468). `words` are the snapshot's pairs of address and value. -/
def Recorder.record (t : Stamp) (burst exempt : Nat) (code org p0 p1 p2 p3 : Nat) (words : List (Nat × Nat))
    (r : Recorder) : Recorder :=
  let tok := tgetD code burst r.tokens
  if tok = 0 && !exempt.testBit (evClass code) then
    { r with suppressed := tset code (tgetD code 0 r.suppressed + 1) r.suppressed }
  else
    let rep := tgetD code 0 r.suppressed
    let e : EvRec := ⟨code, org % 65536, p0 % 65536, p1 % 65536, p2 % 2 ^ 32, p3 % 2 ^ 32, rep, rep != 0, false,
      hasSnapshot code, t.opSec, t.pcycle, r.seq⟩
    let r1 := Recorder.pushFix e
      { r with tokens := tset code (tok - 1) r.tokens, suppressed := tdel code r.suppressed }
    if hasSnapshot code then
      r1.pushVar t Ev.FAULT_SNAPSHOT
        (leBytes 4 r.seq ++ leBytes 2 org ++ leBytes 2 (min words.length 508) ++
          (words.take 508).flatMap fun w => leBytes 4 w.1 ++ leBytes 4 w.2)
    else r1

/-- The stamp of a record made now. -/
def State.stamp (s : State) : Stamp := ⟨s.opSec, s.pcycle⟩

/-- A flush of the buffers to the vault regions, with the operating seconds saved; none while the vault is faulted (R470,
R472, R473). -/
def State.flush (s : State) : State :=
  if s.vault.faulted then s
  else { s with rcd := s.rcd.flush s.stamp, vault := { s.vault with savedOpSec := s.opSec } }

/-- The word of the register at an address as its fields stand, with nothing cleared or latched. -/
def State.fieldWord (s : State) (a : Nat) : Nat :=
  (layout a).foldl (fun w f => w + s.get f.fld * 2 ^ f.fld.lo) 0

/-- The registers of an element's block that hold its state and counts, for its fault snapshot (R468, log entry 9). -/
def snapshotRegs (org : Nat) : List Nat :=
  let i := org % 4096
  match org / 4096 with
  | 1 => [A.SLOT_STATUS i, A.SLOT_CTRL i, A.SPIN_STATUS i, A.SPIN_SPEED i, A.SPIN_COUNT i]
  | 2 => [A.SLOT_STATUS (i / 2), A.ACT_STATUS i, A.ACT_CURRENT i, A.ACT_COUNT i, A.SLOT_PSER_DATA i]
  | 3 => [A.HEAD_CH_STATUS i, A.HEAD_PES i, A.HEAD_UP i, A.HEAD_POS_COUNT i, A.HEAD_FRAME_COUNT i,
      A.HEAD_DEFECT_COUNT i, A.HEAD_CABLE i]
  | 4 => [A.ENG_STATUS i, A.ENG_PC i, A.ENG_COUNT i, A.ENG_HB i]
  | 5 => [A.DEC_STATUS, A.DEC_COUNT, A.DEC_ENDS]
  | 6 => [A.DAMP_LANES, A.DAMP_STATUS, A.DAMP_DELAY]
  | 7 => [A.DRAM_STATUS, A.DRAM_PKG0 i, A.DRAM_PKG1 i, A.DRAM_PKG2 i]
  | 8 => [A.PORT_STATUS (i / 2)]
  | 9 => [A.PWR_STATUS, A.PWR_BUS]
  | 12 => [A.THM_STATUS]
  | _ => [A.GLB_STATUS]

/-- Record an event with its ORIGIN and parameters (R464 to R466). -/
def State.event (code org : Nat) (p0 p1 p2 p3 : Nat := 0) (s : State) : State :=
  { s with
    rcd := s.rcd.record s.stamp (s.get R.EVT_CTRL_BURST) (s.get R.EVT_CTRL_EXEMPT) code org p0 p1 p2 p3
      ((snapshotRegs org).map fun a => (a, s.fieldWord a)) }

/-- Record a variable record (R467). -/
def State.varEvent (code : Nat) (payload : List Nat) (s : State) : State :=
  { s with rcd := s.rcd.pushVar s.stamp code payload }

/-! ## Recovery domains (R458 to R460) -/

/-- Plan a recovery in a domain, or queue it behind the one running there (R459, R460). -/
def State.plan (row i trigger : Nat) (s : State) : State :=
  let d := s.domain row i
  s.setDomain row i
    (if d.active then { d with queue := d.queue ++ [trigger] }
     else { active := true, trigger := trigger, replans := 0, queue := [] })

/-- Plan the running recovery of a domain again and record RECOVERY_REPLANNED (R460). -/
def State.replan (row i : Nat) (s : State) : State :=
  let d := s.domain row i
  if d.active then
    (s.setDomain row i { d with replans := d.replans + 1 }).event Ev.RECOVERY_REPLANNED (origin 0 0) row i
  else s

/-! ## Retirement (R454 to R456) -/

/-- The attention output of an element: the slot's for slot elements, the module's for others (R454 step 3). -/
def State.attention (kind i : Nat) (s : State) : State :=
  if kind = 1 then s.set (R.SLOT_CTRL_ATTN i) 1
  else if kind = 2 then s.set (R.SLOT_CTRL_ATTN (i / 2)) 1
  else if kind = 3 then s.set (R.SLOT_CTRL_ATTN (i / 20)) 1
  else { s with pins := { s.pins with attnRetired := true } }

/-- The serial number a ledger entry of an element carries: the HDA's for heads, actuators and HDAs, spaces otherwise
(R455). -/
def State.serialOf (kind i : Nat) (s : State) : List Nat :=
  let slot := if kind = 1 then i else if kind = 2 then i / 2 else i / 20
  if 1 ≤ kind && kind ≤ 3 then
    match (s.slot slot).hda with
    | some h => h.factory.serial
    | none => List.replicate 24 0x20
  else List.replicate 24 0x20

/-- Whether an event code stands in the list of R463 (for the reason of R455). -/
def reasonOf (code : Nat) : Nat := if 0x1000 ≤ code && code < 0x6000 then code else Ev.ELEMENT_RETIRED

/-- Enter an element in the retirement ledger (R455), or mark the ledger full (R456). -/
def State.enterLedger (kind i reason : Nat) (held : Bool) (s : State) : State :=
  if s.ledger.length < 16384 then
    { s with ledger := s.ledger ++
        [⟨kind, i, true, held, false, reasonOf reason, s.opSec, s.pcycle, s.rcd.seq, s.serialOf kind i⟩] }
  else { s with ledgerFull := true }

/-- The recovery domain of an element (R458). -/
def domainOf (kind i : Nat) : Nat × Nat :=
  match kind with
  | 1 => (0, i)
  | 2 => (0, i / 2)
  | 3 => (0, i / 20)
  | 4 => if i < 16 then (2, i / 2) else (3, 0)
  | 5 => (4, 0)
  | 6 => (5, 0)
  | 7 => (6, 0)
  | 8 => (7, 0)
  | 9 => (8, 0)
  | _ => (9, 0)

/-- Steps 2 to 4 of R454: the ledger entry, the event the element's chapter names with its parameters, the attention
output, and the recovery's plan. -/
def State.retire (kind i reason ev : Nat) (held : Bool) (p0 p1 p2 p3 : Nat) (s : State) : State :=
  ((((s.enterLedger kind i reason held).event ev (origin kind i) p0 p1 p2 p3).attention kind i).plan
    (domainOf kind i).1 (domainOf kind i).2 ev)

/-- Mark the active ledger entries of an element RELEASED (R456). -/
def State.release (kind i : Nat) (s : State) : State :=
  { s with ledger := s.ledger.map fun e =>
      if e.kind = kind && e.index = i && e.active then { e with active := false, released := true } else e }

/-! ## Error channels (R451, R452) -/

/-- Bucket threshold of a channel kind; 0 for none. -/
def chanBucket (kind : Nat) : Nat := [32, 16, 8, 64, 0, 0].getD kind 0
/-- Consecutive count at which a channel kind's error is permanent; 0 where only the bucket makes it so. -/
def chanPersist (kind : Nat) : Nat := [4, 3, 0, 0, 3, 1].getD kind 0

/-- An operation of a channel succeeded: C clears, B stays (R451). -/
def State.chanOk (kind i : Nat) (s : State) : State :=
  let c := s.channel kind i
  if c.c = 0 then s else s.setChannel kind i { c with c := 0 }

/-- Count an error of a channel: transient, or lasting through its retries (R451). -/
def State.chanCount (kind i : Nat) (transient : Bool) (s : State) : State :=
  let c := s.channel kind i
  s.setChannel kind i
    { c with c := if transient then 0 else min 255 (c.c + 1), b := min 255 (c.b + 1) }

/-- Whether a channel's counts make its error permanent now (R451). -/
def State.chanDue (kind i : Nat) (s : State) : Bool :=
  let c := s.channel kind i
  !c.permanent && ((chanPersist kind != 0 && chanPersist kind ≤ c.c) || (chanBucket kind != 0 && chanBucket kind ≤ c.b))

/-- Make a channel's error permanent and record CHANNEL_PERMANENT with kind, C and B (R451). -/
def State.chanPermanent (kind i org : Nat) (s : State) : State :=
  let c := s.channel kind i
  (s.setChannel kind i { c with permanent := true }).event Ev.CHANNEL_PERMANENT org kind 0 c.c c.b

/-! ## Snapshots and latches (R483) -/

/-- A number for a path, no two alike. -/
def pathNo : Path → Nat
  | .uart => 0
  | .tap => 1
  | .engine n => 2 + n.val
  | .host i => 32 + 2 * i
  | .mp i => 33 + 2 * i

/-- GLB_ACCESS index of a path (R487). -/
def pathKind : Path → Nat
  | .host _ => 0
  | .mp _ => 1
  | .uart => 2
  | .tap => 3
  | .engine _ => 4

/-- Where a path keeps its word of an address. -/
def pathKey (p : Path) (a : Nat) : Nat := pathNo p * 0x200000 + a

/-- Capture the DATA words of a snapshot from an address on, for one path (R483). -/
def State.capture (p : Path) (a : Nat) (ws : List Nat) (s : State) : State :=
  { s with
    snaps := (List.range ws.length).foldl
      (fun t k => tset (pathKey p (a + 4 * k)) (ws.getD k 0 % 2 ^ 32) t) s.snaps }

/-- The module has made its cut (R397): slot rails are low and no command makes progress. -/
def State.isCut (s : State) : Bool := s.pow.cut.isSome

/-- An island is neither held in reset nor retired (R25, R488). -/
def State.islandUp (s : State) (i : Nat) : Bool := (s.island i).state != 1 && (s.island i).state != 2

/-- The management island works: MP, UART, TAP and card access are in service (R27). -/
def State.mgmtOk (s : State) : Bool := s.islandUp 73

/-! ## Keys (R441) -/

/-- Every key is gone: encrypted volumes are locked (R316). -/
def State.dropKeys (s : State) : State := { s with vols := s.vols.map fun e => (e.1, { e.2 with key := none }) }

/-- R441: with the management island out of service and both host islands reset, no copy of a key remains. -/
def State.keysCheck (s : State) : State :=
  if !s.mgmtOk && (s.island 0).state != 0 && (s.island 1).state != 0 && s.vols.any fun e => e.2.key.isSome then
    s.dropKeys.event Ev.KEYS_LOST (origin 0 0)
  else s

/-! ## Members: fencing and loss -/

/-- Fence a member: its reads are served by reconstruction and its writes placed elsewhere. -/
def State.fence (m : Nat) (cause : Fence) (s : State) : State :=
  s.setMem m { s.mem m with
    fences := if (s.mem m).fences.contains cause then (s.mem m).fences else cause :: (s.mem m).fences }

/-- End a fence of a member. -/
def State.unfence (m : Nat) (cause : Fence) (s : State) : State :=
  s.setMem m { s.mem m with fences := (s.mem m).fences.filter fun c => c != cause }

/-- What the map holds of a member that is lost: when, and which member it was (R275). -/
def State.noteLost (m : Nat) (s : State) : State :=
  { s with stores := match (s.slot (m / 2)).pos with
    | some (g, p) => (match tget (64 * g + 2 * p + m % 2) s.stores with
      | some x => tset (64 * g + 2 * p + m % 2)
          { x with lostAt := s.opSec + 1, lostM := m, marked := (s.mem m).rebuild } s.stores
      | none => s.stores)
    | none => s.stores }

/-- A member is lost: its rebuild starts after REBUILD_DELAY (R275). -/
def State.loseMember (m : Nat) (s : State) : State :=
  if (s.mem m).lostAt = 0 then (s.setMem m { s.mem m with lostAt := s.opSec + 1 }).noteLost m else s

/-- Mark a member for rebuild (R275, R457). -/
def State.markRebuild (m : Nat) (s : State) : State := s.setMem m { s.mem m with rebuild := true }

/-- A member retires: its rebuild starts at once (R275). -/
def State.retireMember (m : Nat) (s : State) : State :=
  s.setMem m { s.mem m with retired := true, rebuild := true }

/-! ## Torn sectors and write gates (R151, R152) -/

/-- Triggers of a torn sector, P1 of SECTOR_TORN (log entry 10). -/
abbrev Torn.writeUnsafe : Nat := 0
abbrev Torn.preampFault : Nat := 1
abbrev Torn.observerLoss : Nat := 2
abbrev Torn.supplyCut : Nat := 3
abbrev Torn.removal : Nat := 4
abbrev Torn.unload : Nat := 5
abbrev Torn.left : Nat := 6

/-- A torn run position of a shingled zone is void (R152). -/
def State.voidRun (g target n : Nat) (s : State) : State := { s with voids := (g, target, n) :: s.voids }

/-- A sector is reported unwritten to the stoker (R103, R152). -/
def State.noteUnwritten (g target n : Nat) (s : State) : State := { s with unwritten := (g, target, n) :: s.unwritten }

/-- A head that stays in the set may rewrite a torn sector of the band in place (R152). -/
def State.mayRewrite (g target n : Nat) (s : State) : State :=
  s.setHead g { s.head g with tornAt := (s.now, target, n) :: (s.head g).tornAt }

/-- The gate of a head closes with its sector torn (R152): TORN counts, SECTOR_TORN is recorded with head and trigger,
a torn position in a shingled zone is void. It is reported unwritten when the actuator unloads, or when its head leaves the
set in the conventional band; a head that leaves it in a shingled zone leaves its data to R101; in the band a head that stays
may rewrite it in place within 50 ms. -/
def State.tear (trigger : Nat) (stays : Bool) (g : Nat) (s : State) : State :=
  let h := s.head g
  let s1 := { s with gates := delId g s.gates }
  match h.sector with
  | none => s1
  | some (target, n, _) =>
    let band := s.get (R.HEAD_CH_STATUS_TIER g) = 5
    let s2 := ((s1.setHead g { h with sector := none }).count (R.HEAD_DEFECT_COUNT_TORN g) 1).event
      Ev.SECTOR_TORN (origin 3 g) g trigger
    let s3 := if band then s2.when stays (State.mayRewrite g target n) else s2.voidRun g target n
    s3.when (!(stays || (!band && [Torn.writeUnsafe, Torn.preampFault, Torn.left].contains trigger))) (State.noteUnwritten g target n)

/-- Close the gates of a list of heads, tearing what they were writing. -/
def State.tearAll (trigger : Nat) (gs : List Nat) (s : State) : State :=
  s.forAll (gs.filter fun g => s.gates.contains g) (State.tear trigger false)

/-! ## Write gates (R151) -/

/-- The conditions of R151 whose loss closes a gate at once: FOLLOWING, in the concurrent set, OFFSET 0. -/
def State.gateKeeps (s : State) (g : Nat) : Bool :=
  s.get (R.ACT_STATUS_STATE (g / 10)) = 4 && s.bit (R.HEAD_PES_IN_SET g) && s.get (R.HEAD_OFFSET_OFFSET g) = 0

/-- What holds after every command: a write gate stays open only while R151 lets it (log entry 8). -/
def State.settle (s : State) : State := { s with gates := s.gates.filter s.gateKeeps }

/-- The state t a command leaves that began in state old: the write gates settle, and the commands that wait are those that
waited. -/
def State.after (t old : State) : State := { t.settle with pending := old.pending }

/-- A command that found state s has left state t. -/
def done (s t : State) : Host.Outcome State Fault Refusal := .next (t.after s)

/-- The effect of a command on a running module; on one that does not run, nothing (R7, R62, R437). -/
def act (s : State) (f : State → State) : Host.Outcome State Fault Refusal :=
  if s.run = .up then done s (f s) else .next s

/-- The effect of work for a host, or on a medium, which waits while a cut is in force (R397, R400). -/
def actHost (s : State) (f : State → State) : Host.Outcome State Fault Refusal :=
  act s fun t => if t.isCut then t else f t

end Sys2Proof.Machine
end

