-- ==== Sys2Proof/Machine/Members.lean ====
section
/-! DEFINITION. How the HDAs in the slots take their positions in the declustering groups (R255). -/

namespace Sys2Proof.Machine

/-- The module's own serial number, 24 bytes (R487, R52). -/
def State.mySerial (s : State) : List Nat :=
  (List.range 6).flatMap fun k => leBytes 4 (s.get (R.ID_SERIAL_TEXT k))

/-- The group and position whose record holds a serial number (R255, R256). -/
def State.findSerial (s : State) (serial : List Nat) : Option (Nat × Nat) :=
  s.groups.findSome? fun (g, gr) => (gr.serials.find? fun e => e.2 = serial).map fun e => (g, e.1)

/-- Nothing is left of a member index's rebuild but units that wait for a substitute (R255, R276). -/
def State.rebuilt (s : State) (g q : Nat) : Bool :=
  match tget (64 * g + q) s.stores with
  | some x => x.begun && (x.rebuild = 5 || x.paused)
  | none => true

/-- A position is vacant (R255): no HDA has it, or the rebuilds of both its former members are over or wait for substitutes. -/
def State.vacantAt (s : State) (g : Nat) (gr : GroupSt) (p : Nat) : Bool :=
  (tget p gr.serials).isNone || ((tget (64 * g + 2 * p) s.stores).isSome && s.rebuilt g (2 * p) && s.rebuilt g (2 * p + 1))

/-- Vacant positions of a group. -/
def State.vacants (s : State) (g : Nat) (gr : GroupSt) : List Nat := (List.range gr.h).filter (s.vacantAt g gr)

/-- The lowest vacant position of the lowest-numbered group that has one (R255). -/
def State.findVacant (s : State) : Option (Nat × Nat) :=
  s.groups.findSome? fun (g, gr) => (s.vacants g gr).head?.map fun p => (g, p)

/-- The 4,096 bytes of a group record (R256). -/
def GroupSt.bytes (x : GroupSt) (g : Nat) : List Nat :=
  let c := padTo 4092 ([0x47, 0x52, 0x50, 0x52] ++ leBytes 2 1 ++ [g, x.h] ++ leBytes 8 x.seq ++ leBytes 4 x.seed ++ [x.k, x.p, 0, 0] ++
    (List.range 32).flatMap fun p => match tget p x.serials with | some t => padTo 24 t | none => List.replicate 24 0x20)
  c ++ leBytes 4 (crc32c c)

/-- A group's record is rewritten, both copies, with its sequence number one higher (R256). -/
def State.putGroup (g : Nat) (gr : GroupSt) (s : State) : State :=
  let x := { gr with seq := gr.seq + 1 }
  ({ s with groups := tset g x s.groups }).send (.groupRecord g (x.bytes g))

/-- Give a position to a serial number; the group record is rewritten (R256). -/
def State.setPosition (g p : Nat) (serial : List Nat) (s : State) : State :=
  match tget g s.groups with
  | none => s
  | some gr => s.putGroup g { gr with serials := tset p serial gr.serials }

/-- A member enters service with its HDA: one lost within its delay rejoins through catch-up, one whose rebuild began or that
is new starts empty (R255, R267, R275). One that was not lost stays as it is. -/
def State.rejoin (g p : Nat) (fresh : Bool) (m : Nat) (s : State) : State :=
  let x := s.mem m
  let k := 64 * g + 2 * p + m % 2
  let st := tgetD k {} s.stores
  if !fresh && x.lostAt = 0 && st.lostAt = 0 then s
  else
    let began := st.begun || (if st.lostAt = 0 then x.rebuild else st.marked)
    let s1 := if (tget k s.stores).isSome then { s with stores := tset k { st with lostAt := 0, marked := false } s.stores } else s
    s1.setMem m { x with lostAt := 0, retired := (s.actu m).retired, empty := fresh || began, rebuild := false }

/-- No other slot holds a position any more. -/
def State.soleSlot (g p i : Nat) (s : State) : State :=
  s.forAll ((List.range 32).filter fun j => j != i && (s.slot j).pos = some (g, p)) fun j t =>
    t.setSlot j { t.slot j with pos := none }

/-- R255: the HDA of a ready slot takes its position. -/
def State.assign (i : Nat) (serial : List Nat) (s : State) : State :=
  let take (g p : Nat) (fresh : Bool) (t : State) : State :=
    (((t.soleSlot g p i).setSlot i { t.slot i with pos := some (g, p) }).rejoin g p fresh (2 * i)).rejoin g p fresh (2 * i + 1)
  match s.findSerial serial with
  | some (g, p) => take g p false s
  | none =>
    match s.findVacant with
    | some (g, p) => take g p true (s.setPosition g p serial)
    | none => (s.setSlot i { s.slot i with pos := none }).event Ev.HDA_UNASSIGNED (origin 1 i) 0 0 0 0

/-- Whether a member serves: its HDA is ready and in a position, it is neither lost, retired, fenced nor Midnight, and the hob engine
that owns its slot has not retired: after both engines of a pair have, it serves only from the slot's reassignment on (R34). -/
def State.serves (s : State) (m : Nat) : Bool :=
  let x := s.mem m
  s.get (R.SLOT_STATUS_STATE (m / 2)) = 4 && (s.slot (m / 2)).pos.isSome && x.lostAt = 0 && !x.retired &&
    x.fences.isEmpty && s.get (R.SPIN_CTRL_SETPOINT (m / 2)) != 0 &&
    s.get (R.ENG_STATUS_STATE (s.get (R.ENG_SLOT_OWNER (m / 2)))) != 4

end Sys2Proof.Machine
end

