-- ==== Sys2Proof/Machine/Layout.lean ====
section
/-! DEFINITION. Where data lies: the regions of a member (R212 to R214), the stripe-row generator (R257), the stripe
parity (R259), the seals (R260 to R262), and the lookups of the map (R209, R220 to R223). -/

namespace Sys2Proof.Machine

/-! ## Regions of a member (R212 to R214) -/

/-- W_b = round(b·(N − 1,024)) for a share in per cent (R212). -/
def bandWidth (n share : Nat) : Nat := roundDiv (share * (n - 1024)) 100

/-- First servo track of the shingled zones. -/
def zonesStart (n share : Nat) : Nat := 1024 + bandWidth n share

/-- Width of the zones of a recording zone with S sectors per track (R213). -/
def zoneWidth (sect : Nat) : Nat := if sect = 0 then 0 else ceilDiv 61984 sect + 1

/-- The runs of zones of each recording zone: recording zone, first servo track, width and how many (R213). -/
def zoneRuns (n share : Nat) : List (Nat × Nat × Nat × Nat) :=
  ((List.range 32).foldl (fun (acc : List (Nat × Nat × Nat × Nat) × Nat) z =>
    let ze := (z + 1) * n / 32
    let t := max acc.2 (z * n / 32)
    let w := zoneWidth (sectorsPerTrack z)
    let c := if w = 0 || ze < t then 0 else (ze - t) / w
    (acc.1 ++ [(z, t, w, c)], t + c * w)) ([], zonesStart n share)).1

/-- Number of zones of a member (R213). -/
def zoneCount (n share : Nat) : Nat := (zoneRuns n share).foldl (fun c r => c + r.2.2.2) 0

/-- Start, width and recording zone of zone q (R213). -/
def zoneAt (n share q : Nat) : Option (Nat × Nat × Nat) :=
  ((zoneRuns n share).foldl (fun (acc : Option (Nat × Nat × Nat) × Nat) r =>
    let (z, t, w, c) := r
    match acc.1 with
    | some x => (some x, acc.2)
    | none => if acc.2 < c then (some (t + acc.2 * w, w, z), 0) else (none, acc.2 - c)) (none, q)).1

/-- Run length ρ = ⌈260 ÷ F⌉ (R214). -/
def runLength (f : Nat) : Nat := ceilDiv 260 (max f 1)

/-- Capacity of a zone at a tier, in chunks (R213). -/
def zoneCapacity (n share q tier f : Nat) : Nat :=
  match zoneAt n share q with
  | none => 0
  | some (_, w, z) => min 2384 (1024 * (w - 1) / tierPitch tier * sectorsPerTrack z / runLength f)

/-- Conventional tracks of the band of a member that lie in a recording zone (R212). -/
def bandTracksIn (n share z : Nat) : Nat :=
  let total := bandWidth n share * 1024 / 1280
  let from_ (b : Nat) : Nat := min total (ceilDiv (1024 * (b - 1024)) 1280)
  (if z = 31 then total else from_ ((z + 1) * n / 32)) - from_ (z * n / 32)

/-- Band slots of a member (R212, R214): positions of all its tracks over the run length. -/
def bandSlots (n share f : Nat) : Nat :=
  (((List.range 32).foldl (fun c z => c + bandTracksIn n share z * sectorsPerTrack z) 0)) / runLength f

/-- Tier code of a servo track of a member: 5 in the hearthstone area and the band, else the zone's (R130, R157). -/
def Store.tierAt (st : Store) (track : Nat) : Nat :=
  if track < zonesStart st.n st.share then 5
  else
    let q := (zoneRuns st.n st.share).foldl (fun (acc : Option Nat × Nat) r =>
      let (_, t, w, c) := r
      match acc.1 with
      | some x => (some x, acc.2)
      | none => if w != 0 && t ≤ track && track < t + c * w then (some (acc.2 + (track - t) / w), acc.2)
        else (none, acc.2 + c)) (none, 0)
    match q.1 with
    | some z => (tgetD z {} st.zones).tier
    | none => 0

/-! ## The hearthstone area (R212, R246) -/

/-- First block of each region of the hearthstone block address space: header, format record, checkpoint pairs, stripe journal,
journal fallback, ledgers; offsets in MiB at 256 blocks each (R246). -/
def hearthHeader : Nat := 0
def hearthFormat : Nat := 256 * 2
def hearthPairs : Nat := 256 * 64
def hearthStripe : Nat := 256 * 6720
def hearthFallback : Nat := 256 * 8768
def hearthLedgers : Nat := 256 * 12864
/-- Blocks of each of those regions (R246). -/
def hearthHeaderBlocks : Nat := 256 * 2
def hearthFormatBlocks : Nat := 256 * 62
def hearthPairsBlocks : Nat := 256 * 6656
def hearthStripeBlocks : Nat := 256 * 2048
def hearthFallbackBlocks : Nat := 256 * 4096
def hearthLedgersBlocks : Nat := 256 * 1024

/-- First block of a slot of a checkpoint pair: pairs of two slots of 13 MiB (R246). -/
def hearthSlot (pair slot : Nat) : Nat := hearthPairs + 256 * 13 * (2 * pair + slot)

/-- Target and sector number of a position of the hearthstone area of one surface: conventional tracks from servo track 0 that end
before 1,024 (R212, R214). -/
def hearthPosition (n pos : Nat) : Option (Nat × Nat) :=
  ((List.range 819).foldl (fun (acc : Option (Nat × Nat) × Nat) j =>
    match acc.1 with
    | some _ => acc
    | none =>
      let sct := sectorsPerTrack (recZone (1280 * j / 1024) n)
      if acc.2 < sct then (some (1280 * j, acc.2), 0) else (none, acc.2 - sct)) (none, pos)).1

/-- Head number, target and sector number of a block of a member's hearthstone area over the head set of its header (R246). -/
def Store.hearthAt (st : Store) (a : Nat) : Option (Nat × Nat × Nat) :=
  let h := max st.area.length 1
  (hearthPosition st.n (a / h)).map fun x => (st.area.getD (a % h) 0, x.1, x.2)

/-! ## Members and positions -/

/-- Key of a member's store. -/
def storeKey (g q : Nat) : Nat := 64 * g + q

/-- The slot that holds a position of a group. -/
def State.slotOf (s : State) (g pos : Nat) : Option Nat :=
  (List.range 32).find? fun i => (s.slot i).pos = some (g, pos)

/-- The member in a slot that a member index of a group names (R253, R255). -/
def State.memberOfIx (s : State) (g q : Nat) : Option Nat := (s.slotOf g (q / 2)).map fun i => 2 * i + q % 2

/-- Group and member index of a member. -/
def State.ixOf (s : State) (m : Nat) : Option (Nat × Nat) :=
  (s.slot (m / 2)).pos.map fun (g, pos) => (g, 2 * pos + m % 2)

def State.store (s : State) (g q : Nat) : Store := tgetD (storeKey g q) {} s.stores
def State.setStore (s : State) (g q : Nat) (x : Store) : State := { s with stores := tset (storeKey g q) x s.stores }

/-- A set of heads as bits [9:0]. -/
def headBits (l : List Nat) : Nat := l.foldl (fun n h => n + 2 ^ h) 0

/-- Bytes of a copy of a member's hearthstone header (R247). -/
def State.headerBytes (s : State) (m g q : Nat) : List Nat :=
  let st := s.store g q
  let hda := match (s.slot (m / 2)).hda with | some h => h.factory.serial | none => []
  let b := [0x48, 0x52, 0x54, 0x48] ++ leBytes 2 1 ++ leBytes 2 m ++ leBytes 8 st.seq ++
    s.mySerial ++ padTo 24 hda ++ leBytes 2 (headBits st.area) ++
    [st.share, g] ++ leBytes 4 st.n ++ leBytes 4 (bandWidth st.n st.share) ++ leBytes 4 (zoneCount st.n st.share)
  let c := padTo 4092 b
  c ++ leBytes 4 (crc32c c)

/-- The header of a member is written with its sequence number one higher, to copies A and B in turn (R247). -/
def State.putHeader (g q : Nat) (s : State) : State :=
  let st := s.store g q
  let t := s.setStore g q { st with seq := st.seq + 1 }
  match s.memberOfIx g q with
  | some m => t.send (.header m (st.seq % 2) (t.headerBytes m g q))
  | none => t

/-- The member index last held by a member that is lost and whose position no slot holds (R275). -/
def State.lostIx (s : State) (m : Nat) : Option (Nat × Nat) :=
  s.stores.findSome? fun e =>
    if e.2.lostAt != 0 && e.2.lostM = m && (s.slotOf (e.1 / 64) (e.1 % 64 / 2)).isNone then some (e.1 / 64, e.1 % 64) else none

/-- The member a member index names in events: the one it is, else the one it was. -/
def State.memberNamed (s : State) (g q : Nat) : Nat := (s.memberOfIx g q).getD (s.store g q).lostM

/-- A member index serves as a column (R195): its HDA is there, and it is in service. -/
def State.ixServes (s : State) (g q : Nat) : Bool :=
  match s.memberOfIx g q with
  | some m => s.serves m
  | none => false

/-! ## The generator (R257) -/

/-- rnd of R257. -/
def rnd (x : BitVec 32) : BitVec 32 :=
  let a := (x ^^^ (x >>> 16)) * 0x2C1B3C6D#32
  let b := (a ^^^ (a >>> 12)) * 0x297A2D39#32
  b ^^^ (b >>> 15)

/-- Swap two entries of a list. -/
def swapAt (l : List Nat) (i j : Nat) : List Nat := (l.set i (l.getD j 0)).set j (l.getD i 0)

/-- The permutation of the positions of round q (R257). -/
def genPerm (seed q h : Nat) : List Nat :=
  (List.range (h - 1)).foldl (fun pi n =>
    let i := h - 1 - n
    let x := BitVec.ofNat 32 seed ^^^ (BitVec.ofNat 32 q * 0x9E3779B1#32) ^^^ (BitVec.ofNat 32 i * 0x85EBCA77#32)
    swapAt pi i ((rnd x).toNat % (i + 1))) (List.range h)

/-- Member indices of the columns of generator row r (R257). -/
def rowMembers (r seed h w : Nat) : List Nat :=
  if w = 0 || 2 * h < w then []
  else
    let per := 2 * h / w
    let q := r / per
    let pi := genPerm seed q h
    (List.range w).map fun c =>
      let e := (r % per) * w + c
      2 * pi.getD (e % h) 0 + (if e / h = 0 then q % 2 else 1 - q % 2)

/-! ## Stripe parity (R259) -/

/-- The coefficient g(j, i) of R259. -/
def gfCoef (j i : Nat) : Nat := gfMul (i + 3) (gfInv (Nat.xor j (i + 3)))

/-- The eight tuple bytes of a block's seal (R260). -/
def tupleBytes (pi : Pi) : List Nat := beBytes 2 pi.guard ++ beBytes 2 pi.app ++ beBytes 4 pi.ref

/-- The tuple eight bytes stand for. -/
def tupleOf (b : List Nat) : Pi :=
  ⟨leVal (b.take 2).reverse, leVal ((b.drop 2).take 2).reverse, leVal ((b.drop 4).take 4).reverse⟩

/-- The 4,104 bytes of a block that parity covers: user bytes and seal bytes 0 to 7. -/
def parityBytes (b : Block) (pi : Pi) : List Nat := blockBytes b ++ tupleBytes pi

/-- Parity j over the data columns of one block index, by column (R259). -/
def parityOf (j : Nat) (data : List (Block × Pi)) : Block × Pi :=
  let bytes := (List.range data.length).foldl (fun acc i =>
    let d := parityBytes (data.getD i (0, ⟨0, 0, 0⟩)).1 (data.getD i (0, ⟨0, 0, 0⟩)).2
    let g := gfCoef j i
    (acc.zip d).map fun x => Nat.xor x.1 (gfMul g x.2)) (List.replicate 4104 0)
  (blockOf (bytes.take 4096), tupleOf (bytes.drop 4096))

/-- The module's own tuple of a block (R260, R310). -/
def moduleTuple (vol lba : Nat) (b : Block) : Pi := ⟨blockGuard b, vol, lba % 2 ^ 32⟩

/-- The tuple of a block never written (R311). -/
def zeroTuple (vol lba : Nat) : Pi := ⟨0, vol, lba % 2 ^ 32⟩

/-! ## Rows of the map -/

/-- ROW names a band row. -/
def isBand (row : Nat) : Bool := 2 ^ 31 ≤ row && row != 0xFFFFFFFF
/-- Band row index of a ROW. -/
def bandIx (row : Nat) : Nat := row % 2 ^ 31
/-- Zone set of a ROW (R220). -/
def zsetIx (row : Nat) : Nat := row / 4096
/-- Chunk index of a ROW (R220). -/
def chunkIx (row : Nat) : Nat := row % 4096

/-- Member index and zone of each column at a chunk index: chunks below a rebuild pointer are on the substitute (R276). -/
def ZoneSet.colsAt (z : ZoneSet) (c : Nat) : List (Nat × Nat) :=
  if z.moving.isEmpty then z.cols
  else (List.range z.cols.length).map fun i => match z.moving.find? fun m => m.col = i && c < m.upto with
    | some m => (m.q, m.zone)
    | none => z.cols.getD i (0, 0)

/-- Layout, group and member indices of the columns of a row. -/
def State.rowShape (s : State) (row : Nat) : Option (Nat × Nat × Nat × List Nat) :=
  if isBand row then (tget (bandIx row) s.brows).map fun b => (b.group, b.k, b.p, b.cols.map (·.1))
  else (tget (zsetIx row) s.zsets).map fun z => (z.group, z.k, z.p, (z.colsAt (chunkIx row)).map (·.1))

/-- The generation a block of a row carries when written now: G or ZGEN (R261). -/
def State.rowGen (s : State) (row : Nat) : Nat :=
  if isBand row then (match tget (bandIx row) s.brows with | some b => b.g | none => 0)
  else (match tget (zsetIx row) s.zsets with | some z => z.zgen | none => 0)

/-- The rebuild unit a row belongs to: a band row, or a zone set by its first row (R276). -/
def unitOf (row : Nat) : Nat := if isBand row then row else row - row % 4096

/-- A chunk of a column owed to a member index is already on it: it lies below the rebuild pointer (R276). -/
def State.refilled (s : State) (q row : Nat) : Bool :=
  !isBand row && match tget (zsetIx row) s.zsets with
    | some z => z.moving.any fun m => m.q = q && chunkIx row < m.upto && (z.cols.getD m.col (0, 0)).1 = q
    | none => false

/-- A member index holds its column of a row: it serves, and the column is no unit owed to it (R276). -/
def State.colServes (s : State) (g q row : Nat) : Bool :=
  s.ixServes g q && (!(s.store g q).owed.contains (unitOf row) || s.refilled q row)

/-- The member of a column of a row. -/
def State.colMember (s : State) (row col : Nat) : Option Nat :=
  match s.rowShape row with
  | some (g, _, _, qs) => (qs[col]?).bind fun q => s.memberOfIx g q
  | none => none

/-- A column serves a read: its member is in service and the row is not on the member's stale-row list (R264). -/
def State.colGood (s : State) (row col : Nat) : Bool :=
  match s.rowShape row with
  | some (g, _, _, qs) => (match qs[col]? with
    | some q => s.colServes g q row && !(s.store g q).stale.contains row
    | none => false)
  | none => false

/-- R195: at least k members of the row other than one column's serve. -/
def State.redundant (s : State) (row col : Nat) : Bool :=
  match s.rowShape row with
  | some (_, k, p, _) => k ≤ ((List.range (k + p)).filter fun c => c != col && s.colGood row c).length
  | none => false

/-- Seal values expected of a block (R262). -/
def State.expected (s : State) (pl : Place) : Expect :=
  match s.rowShape pl.row with
  | some (_, k, _, qs) => ⟨qs.getD pl.col 0, s.rowGen pl.row, k ≤ pl.col⟩
  | none => ⟨0, 0, false⟩

/-- A sealed block of a row and column (R260). -/
def State.sealed (s : State) (row col gen : Nat) (b : Block) (pi : Pi) (parity lost : Bool) : Sealed :=
  match s.rowShape row with
  | some (_, _, _, qs) => ⟨b, pi, row, gen, qs.getD col 0, parity, lost⟩
  | none => ⟨b, pi, row, gen, 0, parity, lost⟩

/-! ## Blocks on the medium -/

/-- Key of a block on the medium. -/
def placeKey (pl : Place) : Nat := 256 * (32 * pl.row + pl.col) + pl.block

def State.onMedium (s : State) (pl : Place) : Option Sealed := tget (placeKey pl) s.media
def State.putMedium (pl : Place) (x : Sealed) (s : State) : State := { s with media := tset (placeKey pl) x s.media }

/-- The user bytes and tuple a place holds; zeros where nothing was written. -/
def State.blockAt (s : State) (pl : Place) : Block × Pi :=
  match s.onMedium pl with
  | some x => (x.data, x.pi)
  | none => (0, ⟨0, 0, 0⟩)

/-- Write one block of a data column of a row and the parity it changes, each sealed at a generation, on every column
that serves (R259, R260, R266). -/
def State.writeColumn (row col b gen : Nat) (x : Block × Pi) (s : State) : State :=
  match s.rowShape row with
  | none => s
  | some (g, k, p, qs) =>
    let data := (List.range k).map fun c => if c = col then x else s.blockAt ⟨row, c, b⟩
    let live (c : Nat) : Bool := match qs[c]? with | some q => s.colServes g q row | none => false
    let s1 := s.putMedium ⟨row, col, b⟩ (s.sealed row col gen x.1 x.2 false false)
    s1.forAll ((List.range p).filter fun j => live (k + j)) fun j t =>
      let y := parityOf j data
      t.putMedium ⟨row, k + j, b⟩ (t.sealed row (k + j) gen y.1 y.2 true false)

/-- Head number (within the member) and run position of a block of a chunk: its default, or as the exception record of
the chunk says (R214, R215). -/
def State.chunkPlace (s : State) (st : Store) (pl : Place) : Nat × Nat :=
  let f := max st.heads.length 1
  let ex := tgetD (32 * pl.row + pl.col) [] s.excs
  match ex.find? fun e => e.1 = 1 && e.2.1 = pl.block with
  | some (_, _, h, r) => (h, r)
  | none =>
    let h := st.heads.getD (pl.block % f) 0
    (h, ex.foldl (fun r e => if e.1 = 2 && e.2.2.1 = h && e.2.2.2 ≤ r then r + 1 else r) (pl.block / f))

/-- Target and sector number of a position of the conventional band on one surface (R212, R214). -/
def bandPosition (n share pos : Nat) : Option (Nat × Nat) :=
  ((List.range 32).foldl (fun (acc : Option (Nat × Nat) × Nat × Nat) z =>
    let (found, p, j) := acc
    match found with
    | some x => (some x, p, j)
    | none =>
      let c := bandTracksIn n share z
      let sct := sectorsPerTrack z
      if p < c * sct then (some (1024 * 1024 + 1280 * (j + p / sct), p % sct), p, j)
      else (none, p - c * sct, j + c)) (none, pos, 0)).1

/-- Target and sector number of a run position of the chunk at a row and column (R213, R214). -/
def State.runAt (s : State) (st : Store) (row col run : Nat) : Option (Nat × Nat) :=
  let rho := runLength st.heads.length
  if isBand row then
    let slot := match tget (bandIx row) s.brows with
      | some b => (b.cols.getD col (0, 0)).2
      | none => 0
    bandPosition st.n st.share (rho * slot + run)
  else
    let zq := match tget (zsetIx row) s.zsets with
      | some z => ((z.colsAt (chunkIx row)).getD col (0, 0)).2
      | none => 0
    match zoneAt st.n st.share zq with
    | some (start, _, rz) =>
      let pos := rho * chunkIx row + run
      let sct := max (sectorsPerTrack rz) 1
      some (1024 * start + tierPitch (tgetD zq {} st.zones).tier * (pos / sct), pos % sct)
    | none => none

/-- Global head, target and sector number of a block (R213 to R215). -/
def State.position (s : State) (pl : Place) : Option (Nat × Nat × Nat) :=
  match s.rowShape pl.row with
  | none => none
  | some (g, _, _, qs) =>
    match qs[pl.col]?, s.colMember pl.row pl.col with
    | some q, some m =>
      let st := s.store g q
      let (h, run) := s.chunkPlace st pl
      (s.runAt st pl.row pl.col run).map fun x => (10 * m + h, x.1, x.2)
    | _, _ => none

/-! ## Extents (R209, R220 to R223) -/

/-- Key of an extent. -/
def extKey (v e : Nat) : Nat := 2 ^ 33 * v + e

def State.ext (s : State) (v e : Nat) : Extent := tgetD (extKey v e) {} s.exts

/-- UNMAPPED granule. -/
def noGranule : Granule := ⟨0, 0, 0, 0xFFFFFFFF⟩
/-- BASE granule. -/
def baseGranule : Granule := ⟨15, 0, 0, 0xFFFFFFFF⟩

/-- Kind of a map-delta record (R242). -/
def MapContent.kind : MapContent → Nat
  | .extent _ => 1 | .granule _ => 2 | .zoneSet _ => 3 | .bandRow _ => 4 | .volume _ => 5 | .exception _ => 6 | .free => 7

/-- The 16-byte extent entry of R220. -/
def Extent.entry (x : Extent) : Nat :=
  x.st + 16 * x.hint + 64 * x.lost.toNat + 256 * x.col + 2 ^ 16 * x.row + 2 ^ 48 * x.heat + 2 ^ 60 * x.epoch + 2 ^ 96 * x.fineIx

/-- The 16-byte granule entry of R222. -/
def Granule.entry (x : Granule) : Nat := x.st + 2 ^ 8 * x.col + 2 ^ 13 * x.slot + 2 ^ 16 * x.row

/-- The 32-byte exception record of R215. -/
def exceptionBytes (row col : Nat) (ex : List (Nat × Nat × Nat × Nat)) : List Nat :=
  padTo 32 (leBytes 4 row ++ [col, ex.length, 0, 0] ++
    ex.flatMap fun e => leBytes 4 (e.1 + 4 * e.2.1 + 2 ^ 10 * e.2.2.1 + 2 ^ 14 * e.2.2.2))

/-- The 40 bytes of new content of a record (R242): an entry's, or an exception record's; of the other kinds no rule gives the layout
(log entry 93). -/
def MapRec.contentBytes (r : MapRec) : List Nat :=
  match r.content with
  | .extent x => padTo 40 (leBytes 16 x.entry)
  | .granule x => padTo 40 (leBytes 16 x.entry)
  | .exception x => padTo 40 (exceptionBytes r.obj r.sub x)
  | _ => (List.range 40).map fun i => Config.mapByte r.seq i % 256

/-- The 64 bytes of a record of the map-delta journal (R242). -/
def MapRec.bytes (r : MapRec) : List Nat :=
  let b := leBytes 8 r.seq ++ [r.content.kind, r.sub] ++ leBytes 2 r.vol ++ leBytes 8 r.obj ++ r.contentBytes
  b ++ leBytes 4 (crc32c b)

/-- Append a record of a map change to the journal (R242), and mark the segment of the object changed. -/
def State.mapRecord (sub vol obj : Nat) (c : MapContent) (s : State) : State :=
  { s with jn := { s.jn with
    seq := s.jn.seq + 1, dirty := addId (obj % 4096) s.jn.dirty, records := s.jn.records ++ [⟨s.jn.seq, sub, vol, obj, c⟩] } }

/-- The record of a zone set as it now stands. -/
def State.zsetRecord (z : Nat) (s : State) : State := s.mapRecord 0 0 z (.zoneSet (tget z s.zsets))
/-- The record of a band row as it now stands. -/
def State.bandRecord (ix : Nat) (s : State) : State := s.mapRecord 0 0 ix (.bandRow (tget ix s.brows))
/-- The record of a volume as it now stands; its loaded key is no part of the table (R208, R316). -/
def State.volRecord (v : Nat) (s : State) : State :=
  s.mapRecord 0 v v (.volume ((tget v s.vols).map fun x => { x with key := none }))

/-- Change an extent entry: the entry but for its heat, and every granule entry that changed, are journalled (R242). -/
def State.setExt (v e : Nat) (x : Extent) (s : State) : State :=
  let old := s.ext v e
  (({ s with exts := tset (extKey v e) x s.exts }).mapRecord 0 v e
    (.extent { x with heat := 0, epoch := 0, fine := [], copying := none })).forAll
      ((List.range x.fine.length).filter fun g => old.fine[g]? != x.fine[g]?) fun g t =>
        t.mapRecord g v e (.granule (x.fine.getD g noGranule))

/-- Change an extent's heat, which is not journalled (R229, R242). -/
def State.setHeat (v e h ep : Nat) (s : State) : State :=
  match tget (extKey v e) s.exts with
  | some x => { s with exts := tset (extKey v e) { x with heat := h, epoch := ep } s.exts }
  | none => s

/-- R223: where a block is found; none where it reads as zeros. A MOVING extent keeps its entry and reads from its source, so
one that was PARTIAL keeps its granules (R221, R228; log entry 80). -/
def State.find (s : State) (v lba : Nat) : Option Place :=
  let e := s.ext v (lba / 256)
  let g := lba / 32 % 8
  let b := lba % 256
  let gr := e.fine.getD g baseGranule
  if (e.st = 4 || e.st = 5) && gr.st != 15 then
    if gr.st = 2 || gr.st = 3 then some ⟨gr.row, gr.col, 32 * gr.slot + b % 32⟩ else none
  else if (e.st = 2 || e.st = 3 || e.st = 4 || e.st = 5) && e.row != 0xFFFFFFFF then some ⟨e.row, e.col, b⟩
  else none

/-- The extent whose block a place holds, and its LBA (R279). -/
def State.lbaOf (s : State) (pl : Place) : Option (Nat × Nat) :=
  s.exts.findSome? fun x =>
    let v := x.1 / 2 ^ 33
    let e := x.1 % 2 ^ 33
    if x.2.st != 0 && x.2.row = pl.row && x.2.col = pl.col && s.find v (256 * e + pl.block) = some pl then some (v, 256 * e + pl.block)
    else (List.range 8).findSome? fun g => match x.2.fine[g]? with
      | some gr => if (gr.st = 2 || gr.st = 3) && gr.row = pl.row && gr.col = pl.col && gr.slot = pl.block / 32 then
          some (v, 256 * e + 32 * g + pl.block % 32) else none
      | none => none

/-- What stands for the volume of a block that no volume maps. -/
def noVolume : Nat := 0xFFFF

/-- Extents of a volume that are not UNMAPPED. -/
def State.mapped (s : State) (v : Nat) : Nat :=
  (s.exts.filter fun x => x.1 / 2 ^ 33 = v && x.2.st != 0).length

/-- Chunks of a row in use: extents whose own row it is, and granules redirected to it. -/
def State.rowUsed (s : State) (row : Nat) : Bool :=
  s.exts.any fun x => (x.2.st != 0 && x.2.row = row) || x.2.fine.any fun g => (g.st = 2 || g.st = 3) && g.row = row

/-- Live chunks of a zone set: rows and columns that some extent or granule uses (R233). -/
def State.liveChunks (s : State) (z : Nat) : Nat :=
  ((List.range (4096)).foldl (fun n c =>
    let row := 4096 * z + c
    if s.rowUsed row then n + ((List.range 24).filter fun col =>
        s.exts.any fun x => (x.2.st != 0 && x.2.row = row && x.2.col = col) ||
          x.2.fine.any fun g => (g.st = 2 || g.st = 3) && g.row = row && g.col = col).length
    else n) 0)

/-- The lost-block ledger lists a block (R279). -/
def State.lostBlock (s : State) (v lba : Nat) : Bool :=
  s.lost.any fun e => e.vol = v && e.first ≤ lba && lba < e.first + e.count

/-- Enter blocks in the lost-block ledger (R279): adjacent blocks with the same cause share an entry; a full ledger
counts them dropped. LOSTBLK is set and BLOCKS_LOST recorded with the count. -/
def State.loseBlocks (v lba count cause row col : Nat) (s : State) : State :=
  let e := s.ext v (lba / 256)
  let s1 := if (tget (extKey v (lba / 256)) s.exts).isSome then s.setExt v (lba / 256) { e with lost := true } else s
  let s2 := match s1.lost.find? fun x => x.vol = v && x.cause = cause && x.first + x.count = lba with
    | some x => { s1 with lost := s1.lost.map fun y => if y = x then { y with count := y.count + count } else y }
    | none =>
      if s1.lost.length < 2097152 then { s1 with lost := s1.lost ++ [(⟨v, cause, lba, count, row, col, s.opSec⟩ : LostEntry)] }
      else ((s1.count R.RED_LEDGER_DROPPED 1).set R.RED_STATUS_LEDGER_FULL 1).event Ev.LEDGER_FULL (origin 0 0) 0 0 0 0
  s2.event Ev.BLOCKS_LOST (origin 10 v) cause 0 count lba

/-- A host write or deallocation removes blocks from the ledger; LOSTBLK clears when none of the extent remain (R279). -/
def State.unlose (v lba count : Nat) (s : State) : State :=
  let cut (e : LostEntry) : List LostEntry :=
    if e.vol != v || lba + count ≤ e.first || e.first + e.count ≤ lba then [e]
    else
      (if e.first < lba then [{ e with count := lba - e.first }] else []) ++
      (if lba + count < e.first + e.count then
        [{ e with first := lba + count, count := e.first + e.count - (lba + count) }] else [])
  let s1 := { s with lost := s.lost.flatMap cut }
  s1.forAll (s1.exts.filter fun x => x.1 / 2 ^ 33 = v && x.2.lost && !(s1.lost.any fun e =>
      e.vol = v && e.first < 256 * (x.1 % 2 ^ 33 + 1) && 256 * (x.1 % 2 ^ 33) < e.first + e.count)) fun x t =>
    t.setExt v (x.1 % 2 ^ 33) { t.ext v (x.1 % 2 ^ 33) with lost := false }

end Sys2Proof.Machine
end

