-- ==== Sys2Proof/Machine/Capacity.lean ====
section
/-! DEFINITION. Capacity of members and groups, in chunks (R231, R249, R250). -/

namespace Sys2Proof.Machine

/-- Capacity of a zone of a recording zone and width at a tier (R213); a retired zone holds nothing. -/
def capOf (w z tier f : Nat) : Nat :=
  if tier = 7 then 0 else min 2384 (1024 * (w - 1) / tierPitch tier * sectorsPerTrack z / runLength f)

/-- Zone chunks of a member: its zones at their tiers (R249). -/
def Store.zoneChunks (st : Store) : Nat :=
  let f := st.heads.length
  let all := (zoneRuns st.n st.share).foldl (fun c r => c + r.2.2.2 * capOf r.2.2.1 r.1 0 f) 0
  let gone := st.zones.foldl (fun c e => match zoneAt st.n st.share e.1 with
    | some (_, w, z) => c + (capOf w z 0 f - capOf w z e.2.tier f)
    | none => c) 0
  all - gone

/-- Band slots of a member in use: columns of band rows held there. -/
def State.bandUsed (s : State) (g q : Nat) : Nat :=
  (s.brows.filter fun r => r.2.group = g && r.2.cols.any fun c => c.1 = q).length

/-- Band slots of a member that can still be allocated (R218). -/
def State.bandFree (s : State) (g q : Nat) : Nat :=
  let st := s.store g q
  bandSlots st.n st.share st.heads.length - s.bandUsed g q - st.bad.length

/-- Formatted chunks of a member (R249): band slots in use or free, and its zones at their tiers. -/
def State.formatted (s : State) (g q : Nat) : Nat :=
  let st := s.store g q
  (bandSlots st.n st.share st.heads.length - st.bad.length) + st.zoneChunks

/-- Members of a group that are formatted: those whose store is listed, but for the former ones whose rebuild is complete. -/
def State.formattedMembers (s : State) (g : Nat) : List Nat :=
  (s.stores.filter fun e => e.1 / 64 = g && !(e.2.begun && e.2.rebuild = 5)).map fun e => e.1 % 64

/-- Chunks written in a zone set: its rows up to the write pointer, parity included. -/
def ZoneSet.chunks (z : ZoneSet) : Nat := z.wp * (z.k + z.p)

/-- Chunks a member holds in use: band slots and the rows of its zones. -/
def State.memberUsed (s : State) (g q : Nat) : Nat :=
  s.bandUsed g q + (s.zsets.filter fun z => z.2.group = g && z.2.cols.any fun c => c.1 = q).foldl (fun n z => n + z.2.wp) 0

/-- Used fraction of a member, % (R231). -/
def State.usedPct (s : State) (g q : Nat) : Nat :=
  let f := s.formatted g q
  if f = 0 then 0 else 100 * s.memberUsed g q / f

/-- Used fraction of a member (R231), in 10⁻⁹. -/
def State.usedFrac (s : State) (g q : Nat) : Nat :=
  let f := s.formatted g q
  if f = 0 then 0 else 10 ^ 9 * s.memberUsed g q / f

/-- F, spare reserve, reclaim reserve and A of a group (R249). -/
def State.capacity (s : State) (g : Nat) : Nat × Nat × Nat × Nat :=
  let ms := s.formattedMembers g
  let f := ms.foldl (fun n q => n + s.formatted g q) 0
  let zc := ms.foldl (fun n q => n + (s.store g q).zoneChunks) 0
  let h := match tget g s.groups with | some x => max x.h 1 | none => 1
  let a := (s.zsets.filter fun z => z.2.group = g).foldl (fun n z => n + z.2.chunks) 0 +
    (s.brows.filter fun r => r.2.group = g).foldl (fun n r => n + r.2.k + r.2.p) 0
  (f, s.get R.STK_CAP_CTRL_SPARE * f / h, 3 * zc / 100, a)

/-- Chunks outside the reserves. -/
def State.outside (s : State) (g : Nat) : Nat :=
  let (f, sp, rc, _) := s.capacity g
  f - sp - rc

/-- Usable capacity U of a group for its default layout (R249). -/
def State.usable (s : State) (g : Nat) : Nat :=
  match tget g s.groups with
  | some x => if x.k + x.p = 0 then 0 else s.outside g * x.k / (x.k + x.p)
  | none => 0

/-- Provisioned extents of a group. -/
def State.provisioned (s : State) (g : Nat) : Nat :=
  (s.vols.filter fun v => v.2.group = g).foldl (fun n v => n + v.2.size) 0

/-- No free chunk remains outside the reserves (R250). -/
def State.capFull (s : State) (g : Nat) : Bool := s.outside g ≤ (s.capacity g).2.2.2

/-- CAP_WARN is recorded when A rises to WARN of what lies outside the reserves, once until it falls again (R250). -/
def State.capCheck (g : Nat) (s : State) : State :=
  let high := s.get R.STK_CAP_CTRL_WARN * s.outside g ≤ 100 * (s.capacity g).2.2.2 && 0 < s.outside g
  if high && !s.stk.warned.contains g then
    { s with stk := { s.stk with warned := addId g s.stk.warned } }.event Ev.CAP_WARN (origin 13 g) 0 0 0 0
  else if !high then { s with stk := { s.stk with warned := delId g s.stk.warned } }
  else s

/-- Band occupancy of the module, % (R252). -/
def State.bandOccupancy (s : State) : Nat :=
  let total := s.stores.foldl (fun n e => n + (bandSlots e.2.n e.2.share e.2.heads.length - e.2.bad.length)) 0
  let used := s.brows.foldl (fun n r => n + r.2.k + r.2.p) 0
  if total = 0 then 100 else 100 * used / total

/-- EMPTY zones of a member: its zones less those in a set and those retired (R252). -/
def State.emptyZones (s : State) (g q : Nat) : Nat :=
  let st := s.store g q
  let used := (s.zsets.filter fun z => z.2.group = g && z.2.cols.any fun c => c.1 = q).length
  zoneCount st.n st.share - used - (st.zones.filter fun e => e.2.tier = 7).length

end Sys2Proof.Machine
end

