-- ==== Sys2Proof/Machine/Margin.lean ====
section
/-! DEFINITION. How much margin a head has: the pool's statistics as headroom and SNR (R180 to R182), the marks of the
ageing monitor, and the order in which heads leave a set (R239). -/

namespace Sys2Proof.Machine

/-- Key of the statistics of a head and recording zone in a bank. -/
def statKey (bank g rz : Nat) : Nat := (bank * 640 + g) * 32 + rz

/-- Bin of an iteration count (R181): bins 1 to 11, 12 for a sector ended BUDGET. -/
def iterBin (n : Nat) : Nat :=
  match [1, 2, 3, 4, 5, 6, 8, 12, 16, 24, 40].findIdx? (fun e => n ≤ e) with
  | some i => i + 1
  | none => 11

/-- Upper edge of a bin 1 to 11. -/
def binEdge (b : Nat) : Nat := [1, 2, 3, 4, 5, 6, 8, 12, 16, 24, 40].getD (b - 1) 40

/-- Iteration headroom (R181): 40 minus the upper edge of the bin that holds the 99th percentile; 63 below 1,024. -/
def DecStat.headroom (d : DecStat) : Nat :=
  if d.counted < 1024 then 63
  else
    let need := ceilDiv (99 * d.counted) 100
    match (List.range 12).find? fun i =>
      need ≤ ((List.range (i + 1)).foldl (fun n j => n + tgetD (j + 1) 0 d.bins) 0) with
    | some i => if i = 11 then 0 else 40 - binEdge (i + 1)
    | none => 0

/-- LLR-derived SNR in 0.1 dB, rounded down (R182, log entry 12); 0x3FF below 1,024 converged sectors. -/
def DecStat.snr (d : DecStat) : Nat :=
  if d.converged < 1024 then 0x3FF
  else
    let a := d.meanSum * d.meanSum
    let b := 256 * d.converged * d.varSum
    if b = 0 then 0x3FE
    else ((List.range 1022).filter fun t => 10 ^ (t + 1) * b ^ 100 ≤ a ^ 100).length

/-- A head has shrinking margin (R206, R422, R424). -/
def State.headShrinks (s : State) (g : Nat) : Bool :=
  let a := tgetD g {} s.cal.ages
  a.mark || a.assistFlag || a.readerFlag ||
    s.headRecs.any fun e => e.1 / 32 = g && 16 ≤ (e.2.effort.filter fun t => s.opSec < t + 86400).length

/-- Whether head a leaves before head b (R239): shrinking margin, lower headroom and then lower SNR in the current
recording zone (log entry 11), higher number. -/
def State.leavesFirst (s : State) (a b : Nat) : Bool :=
  let key (g : Nat) :=
    let d := tgetD (statKey 0 g (s.get (R.HEAD_CH_STATUS_ZONE g))) {} s.pool.stats
    (!s.headShrinks g, d.headroom, d.snr)
  let (xa, ha, na) := key a
  let (xb, hb, nb) := key b
  if xa != xb then !xa
  else if ha != hb then ha < hb
  else if na != nb then na < nb
  else b < a

/-- Put a head in its place among heads in leaving order. -/
def State.insertLeaver (s : State) (g : Nat) : List Nat → List Nat
  | [] => [g]
  | x :: t => if s.leavesFirst g x then g :: x :: t else x :: s.insertLeaver g t

/-- Heads in leaving order (R239). -/
def State.leavingOrder (s : State) (gs : List Nat) : List Nat := gs.foldl (fun l g => s.insertLeaver g l) []

end Sys2Proof.Machine
end

