-- ==== Sys2Proof/Machine/Wedge.lean ====
section
/-! DEFINITION. What a servo wedge carries (R93) and how the front-end reads it (R94, R95). -/

namespace Sys2Proof.Machine

/-- The servo address mark (R93). -/
def samMark : Nat := 0x0F35

/-- The value of bits, most significant first. -/
def msbVal (l : List Bool) : Nat := l.foldl (fun a b => 2 * a + b.toNat) 0

/-- n servo bits of a wedge from one on. -/
def servoBits (w : BitVec 488) (first n : Nat) : List Bool := (List.range n).map fun i => w.getLsbD (first + i)

/-- The logical bit a coded symbol writes; none where it is no symbol (R93). -/
def symbolBit (v : Nat) : Option Bool := if v = 0xC then some true else if v = 0x3 then some false else none

/-- The logical bits of a coded field of n symbols; none where a symbol is bad (R93, log entry 86). -/
def codedBits (w : BitVec 488) (first n : Nat) : Option (List Bool) :=
  let l := (List.range n).map fun k => symbolBit (msbVal (servoBits w (first + 4 * k) 4))
  if l.all Option.isSome then some (l.map fun b => b.getD false) else none

/-- The number Gray-coded bits spell, most significant first. -/
def grayVal (l : List Bool) : Nat :=
  (l.foldl (fun (acc : Nat × Bool) b => let x := acc.2 != b; (2 * acc.1 + x.toNat, x)) (0, false)).1

/-- CRC-4 with polynomial 0x3, initial value 0, most significant bit first (R93, log entry 86). -/
def crc4 (l : List Bool) : Nat :=
  l.foldl (fun c b => Nat.xor (2 * c % 16) (if (c / 8 % 2 = 1) != b then 3 else 0)) 0

/-- The logical bits of a number, most significant first. -/
def msbBits (w v : Nat) : List Bool := (List.range w).map fun i => v.testBit (w - 1 - i)

/-- π · 2⁶⁴, rounded. -/
def piFix : Nat := 57952155664616982739

/-- Sine and cosine of an angle from 0 to π, all times 2⁶⁴, from their series. -/
def sinCos (t : Nat) : Int × Int :=
  let r := (List.range 48).foldl (fun (acc : Int × Int × Nat) k =>
    let v : Int := acc.2.2
    let nxt := acc.2.2 * t / 2 ^ 64 / (k + 1)
    match k % 4 with
    | 0 => (acc.1, acc.2.1 + v, nxt)
    | 1 => (acc.1 + v, acc.2.1, nxt)
    | 2 => (acc.1, acc.2.1 - v, nxt)
    | _ => (acc.1 - v, acc.2.1, nxt)) (0, 0, 2 ^ 64)
  (r.1, r.2.1)

/-- How many of the angles (2k + 1)·π/2,048, k below 1,024, a vector of sine part a ≥ 0 and cosine part b reaches: its angle in
units of π/1,024, rounded. -/
def angleSteps (a b : Int) : Nat :=
  let reaches (k : Nat) : Bool :=
    let sc := sinCos ((2 * k + 1) * piFix / 2048)
    b * sc.1 ≤ a * sc.2
  ((List.range 11).foldl (fun (acc : Nat × Nat) _ =>
    let mid := (acc.1 + acc.2) / 2
    if acc.1 = acc.2 then acc else if reaches mid then (mid + 1, acc.2) else (acc.1, mid)) (0, 1024)).1

/-- x_fine of R94 in 1/1,024 ST, rounded half away from zero: above −1,024 and at or below 1,024; none where both bursts are 0. -/
def xFine (a b : Int) : Option Int :=
  if a = 0 && b = 0 then none
  else
    let n := angleSteps (if 0 ≤ a then a else -a) b
    some (if 0 ≤ a || n = 1024 then n else -n)

/-- A wedge as decoded. -/
structure Wedge where
  sam : Bool
  /-- Wedge number and its mod-7 check. -/
  id : Option (Nat × Nat)
  track : Option Nat
  /-- The runout correction, 1/1,024 ST; none where the field fails its CRC. -/
  rro : Option Int
  fine : Option Int
  deriving DecidableEq, Repr

/-- The fields of a wedge (R93, R94). -/
def readWedge (w : BitVec 488) (a b : Int) : Wedge :=
  { sam := msbVal (servoBits w 96 16) = samMark
    id := (codedBits w 112 14).map fun l => (msbVal ((l.drop 1).take 10), msbVal (l.drop 11))
    track := (codedBits w 168 24).map grayVal
    rro := (codedBits w 392 16).bind fun l =>
      if crc4 (l.take 12) = msbVal (l.drop 12) then some (ofBits 12 (msbVal (l.take 12))) else none
    fine := xFine a b }

/-- A coded field as it is written, first servo bit at bit 0 (R93). -/
def codedField (l : List Bool) : Nat :=
  (l.flatMap fun b => if b then [true, true, false, false] else [false, false, true, true]).foldr (fun b a => 2 * a + b.toNat) 0

/-- The servo bits of a wedge of a track with its runout correction, the burst fields left at 0 (R93). -/
def wedgeBits (n track rro : Nat) : BitVec 488 :=
  let id := (n = 0 : Bool) :: (msbBits 10 n ++ msbBits 3 (n % 7))
  let r := msbBits 12 rro
  BitVec.ofNat 488 (preambleBits 24 + msbFirst 16 samMark * 2 ^ 96 + codedField id * 2 ^ 112 +
    codedField (msbBits 24 (Nat.xor track (track / 2))) * 2 ^ 168 + codedField (r ++ msbBits 4 (crc4 r)) * 2 ^ 392)

/-- P of R94 in 1/1,024 ST, from the decoded track ID and x_fine. -/
def wedgePos (track : Nat) (fine : Int) : Int := 2048 * roundAway (track * 1024 - fine) 2048 + fine

/-- PES of R94, saturated to ±8,191 ST. -/
def wedgePes (p rro target offset : Int) : Int := clampI (-(8191 * 1024)) (8191 * 1024) (p - rro - (target + offset))

end Sys2Proof.Machine
end

