-- ==== Sys2Proof/Machine/Positioning.lean ====
section
/-! DEFINITION. Positioning (ch04): the servo wedge, the concurrent set, seeks, loading and unloading, VCM arbitration,
saturation and retirement, and the damper array with its lanes. -/

namespace Sys2Proof.Machine

/-! ## Trims and units -/

/-- Valid copy of the module area with the higher sequence number: the one in force (R53). -/
def modInForce (h : Hda) : Option ModCopy :=
  match h.copyA.valid, h.copyB.valid with
  | true, true => some (if h.copyB.seq < h.copyA.seq then h.copyA else h.copyB)
  | true, false => some h.copyA
  | false, true => some h.copyB
  | false, false => none

/-- A trim record of a slot as the module holds it (R419): one not yet written, else the ID memory's. Records 0 to 19 are
the heads', 20 and 21 the actuators', 22 the spindle's. -/
def State.trimRec (s : State) (i k : Nat) : Trim :=
  match tget (24 * i + k) s.trims with
  | some t => t
  | none =>
    match (s.slot i).hda.bind modInForce with
    | none => []
    | some c => if k < 20 then tgetD k [] c.heads else if k < 22 then tgetD (k - 20) [] c.acts else c.spin

/-- The head trim record in force, or none where R420 gives no trim. -/
def State.headTrim (s : State) (g : Nat) : Option Trim :=
  let t := s.trimRec (g / 20) (g % 20)
  if tgetD 0 0 t = 0xA5 then some t else none

/-- Little-endian field of a trim record. -/
def trimField (off n : Nat) (t : Trim) : Nat := leVal ((List.range n).map fun i => tgetD (off + i) 0 t)

/-- A field of a head's trim record, or of the ROM class defaults where there is no trim (R139, R157, R420). -/
def State.headField (s : State) (g off n : Nat) : Nat :=
  match s.headTrim g with
  | some t => trimField off n t
  | none => leVal ((List.range n).map fun i => Config.classTrim (off + i) % 256)

/-- Threshold of a comparator with an offset, in 1/160 LSB (R136). -/
def compThreshold (i : Nat) (o : Int) : Int := 128 * i - 4992 + 5 * o

/-- Whether a comparator may serve ideal threshold k: within ±0.5 LSB. -/
def compFits (offs : List Int) (i k : Nat) : Bool :=
  (compThreshold i (offs.getD i 0) - ((k : Int) - 32) * 160).natAbs ≤ 80

/-- An assignment of R136 over the comparators that passed calibration: it takes the lowest that fits each time, and is
empty when there is none. -/
def lowestComps (us : List Nat) (offs : List Int) : List Nat :=
  let (l, _) := (List.range' 1 63).foldl (fun (acc : List Nat × Nat) k =>
    match us.find? fun i => acc.2 ≤ i && compFits offs i k with
    | some i => (acc.1 ++ [i], i + 1)
    | none => acc) ([], 0)
  if l.length = 63 then l else []

/-- Micro-positioner gain G_h, 0.01 nm/V: the trim, or the factory gain (R96). -/
def State.upGain (s : State) (g : Nat) : Nat :=
  match s.headTrim g with
  | some t => trimField 418 2 t
  | none => match (s.slot (g / 20)).hda with
    | some h => h.factory.upGain
    | none => 0

/-- UPX_h = G_h · V_h in 2⁻¹⁶ of 1/1,024 ST; 24 nm is 1,024 units (R92, R96). -/
def State.upx (s : State) (g : Nat) : Int :=
  roundAway ((s.upGain g : Int) * (s.head g).vout * (1024 * 65536)) (24 * 100000)

/-- A length in nm in 2⁻¹⁶ of 1/1,024 ST. -/
def nmFine (nm : Int) : Int := roundAway (nm * 1024 * 65536) 24

/-- Magnitude of an integer. -/
def mag (i : Int) : Nat := i.natAbs

/-- The heads of an actuator. -/
def headsOf (m : Nat) : List Nat := (List.range 10).map fun h => 10 * m + h

/-- The actuator is loaded: LOADING to FOLLOWING, or IDENTIFYING (R119). -/
def State.loaded (s : State) (m : Nat) : Bool :=
  [1, 2, 3, 4, 6].contains (s.get (R.ACT_STATUS_STATE m))

/-- Whether a head of the slot is loaded. -/
def State.slotLoaded (s : State) (i : Nat) : Bool := s.loaded (2 * i) || s.loaded (2 * i + 1)

def State.inSet (s : State) (g : Nat) : Bool := s.bit (R.HEAD_PES_IN_SET g)
def State.following (s : State) (g : Nat) : Bool := s.bit (R.HEAD_PES_FOLLOWING g)

/-- A head that is neither retired nor fenced (R98). -/
def State.eligible (s : State) (g : Nat) : Bool := !(s.head g).retired && !(s.head g).fenced

/-- The concurrent set of an actuator (R98). -/
def State.setOf (s : State) (m : Nat) : List Nat := (headsOf m).filter s.inSet

/-- The reference head: the lowest-numbered head neither retired nor fenced (R103); in a load whose reference head has had no
valid servo for 100 ms, the next eligible one (R112). -/
def State.refHead (s : State) (m : Nat) : Option Nat :=
  let l := (headsOf m).filter s.eligible
  match l with
  | a :: b :: _ =>
    if s.get (R.ACT_STATUS_STATE m) = 1 && (s.actu m).loadAt + 100000 ≤ s.now && (s.head a).validRun = 0 then some b else some a
  | _ => l.head?

/-- SET_MASK and FOLLOW_MASK of an actuator (R126). -/
def State.masks (m : Nat) (s : State) : State :=
  let mk (p : Nat → Bool) := (List.range 10).foldl (fun w h => if p (10 * m + h) then w + 2 ^ h else w) 0
  (s.set (R.ACT_STATUS_SET_MASK m) (mk s.inSet)).set (R.ACT_STATUS_FOLLOW_MASK m) (mk s.following)

/-! ## The preamp's registers (R46, R47) -/

/-- A preamp register of an actuator; READ_GAIN resets to 0x10, IDENT is the maker's, every other resets to 0 (R47). -/
def State.preampReg (s : State) (m a : Nat) : Nat :=
  tgetD (128 * m + a) (if a = 4 then 0x10 else if a = 0 then ((s.slot (m / 2)).meas.elim 0 fun x => x.ident.getD (m % 2) 0) else 0)
    s.preamp

/-- Set a preamp register of an actuator. -/
def State.setPreamp (m a v : Nat) (s : State) : State := { s with preamp := tset (128 * m + a) (v % 65536) s.preamp }

/-- The engine writes a preamp register that holds another value, in a write frame on the link, and outside a transfer reads it
back (R46, R49, R147; log entry 88). -/
def State.preampWrite (m a v : Nat) (s : State) : State :=
  if s.preampReg m a = v then s
  else ((s.setPreamp m a v).send (.pser m (preampWriteFrame a v))).when (!(s.actu m).transferring)
    (State.send (.pser m (128 + a % 128)))

/-- The actuator leaves write or read mode: ASSIST_EN is written 0 first, then MODE, then HEAD_MASK with no head following
(R147, R155). -/
def State.preampRest (m mode : Nat) (s : State) : State := ((s.preampWrite m 0x3A 0).preampWrite m 2 mode).preampWrite m 3 0

/-! ## Chunk transfers of a head (R101 to R103, R214 to R216) -/

/-- Blocks of a chunk that lie on a head of the formatted set by default, in run order (R214). -/
def ownBlocks (heads : List Nat) (h : Nat) : List Nat := (List.range 256).filter fun i => heads.getD (i % max heads.length 1) 0 = h

/-- The column of a row that lies on a member. -/
def State.colOf (s : State) (m row : Nat) : Option Nat :=
  match s.rowShape row, s.ixOf m with
  | some (g, _, _, qs), some (g', q) => if g = g' then qs.findIdx? (· = q) else none
  | _, _ => none

/-- The formatted head set of a member (R214). -/
def State.headSet (s : State) (m : Nat) : List Nat :=
  match s.ixOf m with
  | some (g, q) => (s.store g q).heads
  | none => List.range 10

/-- The row of the chunk an actuator writes. -/
def State.rowWritten (s : State) (m : Nat) : Option Nat := (headsOf m).findSome? fun g => (s.head g).chunk.map (·.1)

/-- Blocks of its share of a row's chunk a head has not written (R101). -/
def State.shareLeft (s : State) (g row : Nat) : List Nat :=
  (ownBlocks (s.headSet (g / 10)) (g % 10)).drop (if (s.head g).chunk.any (·.1 = row) then (s.head g).wrote else 0)

/-- Blocks of a row's chunk are reported unwritten to the stoker (R103, R215). -/
def State.reportBlocks (row col : Nat) (bs : List Nat) (s : State) : State :=
  { s with stk := { s.stk with rewrites := s.stk.rewrites ++ bs.map fun b => (row, col, b) } }

/-- A read of a head is granted and has not passed (R174). -/
def State.reading (s : State) (g : Nat) : Bool :=
  s.pool.sectors.any fun e => e.2.st = .granted && e.2.req.head.val = g && e.2.req.budget.isNone

/-- A sector of the head is in progress. -/
def State.inSector (s : State) (g : Nat) : Bool := (s.head g).sector.isSome || s.reading g

/-- The reads of heads end: what they leave unread is reported to the stoker (R103). -/
def State.endReads (gs : List Nat) (s : State) : State :=
  let mine (e : Nat × PoolSector) : Bool := e.2.st = .granted && gs.contains e.2.req.head.val
  let open_ := (s.pool.sectors.filter fun e => mine e && e.2.req.budget.isNone).map fun e => e.2.req.place
  let left := gs.flatMap fun g => (s.head g).unread
  let s1 := { s with
    pool := { s.pool with sectors := s.pool.sectors.filter fun e => !mine e }
    stk := { s.stk with unread := s.stk.unread ++ left ++ open_ } }
  s1.forAll gs fun g t => t.setHead g { t.head g with unread := [] }

/-- The transfer of an actuator ends: the blocks of its chunk not written are reported to the stoker, and so are those unread
(R103). -/
def State.endTransfer (m : Nat) (s : State) : State :=
  let s1 := if (s.actu m).writing && (s.actu m).transferring then
      match s.rowWritten m with
      | some row =>
        (match s.colOf m row with
        | some col => s.reportBlocks row col ((s.headSet m).flatMap fun h => s.shareLeft (10 * m + h) row)
        | none => s)
      | none => s
    else s
  let s2 := s1.forAll (headsOf m) fun g t => t.setHead g { t.head g with chunk := none, wrote := 0, stop := none, held := none }
  (s2.setActu m { s2.actu m with transferring := false }).endReads (headsOf m)

/-! ## Exception records (R101, R215) -/

/-- Next run position of a head of a chunk after its own share and what was moved to it; none left gives none (R215). -/
def nextRun (heads : List Nat) (ex : List (Nat × Nat × Nat × Nat)) (h : Nat) : Option Nat :=
  let f := max heads.length 1
  let r := (ownBlocks heads h).length + (ex.filter fun e => e.2.2.1 = h).length
  if r < runLength f then some r else none

/-- Deal the blocks left round-robin to heads in ascending order, each a MOVE; the second list is what is left over
(R101, R215). -/
def dealBlocks (heads dst : List Nat) : List Nat → Nat → List (Nat × Nat × Nat × Nat) →
    List (Nat × Nat × Nat × Nat) × List Nat
  | [], _, ex => (ex, [])
  | b :: bs, i, ex =>
    let able := dst.filter fun h => (nextRun heads ex h).isSome
    match able[i % max able.length 1]? with
    | some h => (match nextRun heads ex h with
      | some r => if ex.length < 6 then dealBlocks heads dst bs (i + 1) (ex ++ [(1, b, h, r)]) else (ex, b :: bs)
      | none => (ex, b :: bs))
    | none => (ex, b :: bs)

/-- The exception record of a chunk, and its map record (R215, R242). -/
def State.setException (row col : Nat) (ex : List (Nat × Nat × Nat × Nat)) (s : State) : State :=
  { s with excs := tset (32 * row + col) ex s.excs }.mapRecord col 0 row (.exception ex)

/-- A head that stays in the set writes a shingled torn sector again at its next position: the torn run position is void in the
chunk's exception record, and the head's last block is moved or reported where its run is full (R152, R215). -/
def State.shiftRun (g : Nat) (s : State) : State :=
  let m := g / 10
  match (s.head g).chunk with
  | none => s
  | some (row, _) =>
    match s.colOf m row with
    | none => s
    | some col =>
      let heads := s.headSet m
      let ex := tgetD (32 * row + col) [] s.excs
      let shifts := (ex.filter fun e => e.1 = 2 && e.2.2.1 = g % 10).length
      let own := ownBlocks heads (g % 10)
      if 6 ≤ ex.length then s.reportBlocks row col (s.shareLeft g row)
      else
        let ex1 := ex ++ [(2, 0, g % 10, (s.head g).wrote + shifts)]
        let dst := heads.filter fun h => h != g % 10 && s.inSet (10 * m + h)
        let r := if runLength heads.length < own.length + shifts + 1 then dealBlocks heads dst (own.drop (own.length - 1)) 0 ex1
          else (ex1, [])
        (s.setException row col r.1).reportBlocks row col r.2

/-- A gate closes with its sector torn and its head stays in the set (R152). -/
def State.tearStay (trigger g : Nat) (s : State) : State :=
  let again := (s.head g).sector.isSome && s.get (R.HEAD_CH_STATUS_TIER g) != 5
  (s.tear trigger true g).when again (State.shiftRun g)

/-! ## The damper array's arithmetic (R121) -/

/-- Saturation to a signed 40-bit value. -/
def sat40 (x : Int) : Int := clampI (-(2 ^ 39)) (2 ^ 39 - 1) x
/-- r(p) of R121. -/
def round30 (p : Int) : Int := (p + 2 ^ 29) / 2 ^ 30
/-- lim() of R121. -/
def limTo (clamp : Nat) (x : Int) : Int := clampI (-(clamp * 2 ^ 8)) (clamp * 2 ^ 8) x
/-- Coefficient i of a set as a signed Q2.30 number. -/
def LoopCfg.co (c : LoopCfg) (set i : Nat) : Int := ofBits 32 (c.coef.getD (8 * set + i) 0)

/-- The result v of one evaluation of a loop on input e (R121). -/
def loopV (c : LoopCfg) (set : Nat) (l : Loop) (e : Int) : Int × Int × Int :=
  let x := sat40 (e * 2 ^ (8 + c.inShift))
  let t0 := sat40 (round30 (c.co set 0 * x))
  let t1 := sat40 (t0 + round30 (c.co set 1 * l.x1))
  let t2 := sat40 (t1 + round30 (c.co set 2 * l.x2))
  let t3 := sat40 (t2 - round30 (c.co set 3 * l.u1))
  let u := sat40 (t3 - round30 (c.co set 4 * l.u2))
  if c.form = 0 then
    let v := limTo c.clamp u
    (x, v, v)
  else
    let w0 := sat40 (round30 (c.co set 5 * u))
    let w1 := sat40 (w0 + round30 (c.co set 6 * l.u1))
    let v := limTo c.clamp (sat40 (w1 - round30 (c.co set 7 * l.v1)))
    (x, u, v)

/-- The loop after an evaluation whose applied result is v (R121). -/
def Loop.shift (l : Loop) (x u v : Int) : Loop :=
  { l with x2 := l.x1, x1 := x, u2 := l.u1, u1 := u, v1 := v, out := v / 2 ^ 8 }

/-- The shadow copy of a loop's coefficients and configuration: its registers (R125). -/
def State.shadow (s : State) (l : Nat) : LoopCfg :=
  { coef := (List.range 16).map fun i => s.get (R.DAMP_COEF_VALUE l (i / 8) (i % 8))
    en := s.get (R.DAMP_CFG0_EN l), form := s.get (R.DAMP_CFG0_FORM l)
    inShift := s.get (R.DAMP_CFG0_IN_SHIFT l), clamp := s.get (R.DAMP_CFG1_CLAMP l) }

/-- The ROM default of a loop's active copy: the shadow's reset values. -/
def romLoop (l : Nat) : LoopCfg :=
  { coef := List.replicate 16 0, en := 1, form := 0, inShift := 0, clamp := dampClamp l }

/-! ## Lanes (R122 to R124) -/

/-- Lanes in service: enabled, not retired, not fenced, the damper island running (R26). -/
def State.laneOk (s : State) (n : Nat) : Bool :=
  s.islandUp 52 && (s.get R.DAMP_CTRL_LANE_EN).testBit n && !(s.get R.DAMP_LANES_RETIRED).testBit n && !s.damper.fenced.contains n

/-- R124: following heads per actuator for a number of lanes in service. -/
def laneLimit (n : Nat) : Nat := if 8 ≤ n then 10 else if 4 ≤ n then 4 else if 1 ≤ n then 1 else 0

/-- The set limit in force of an actuator (R98), one lower while action 3 of R394 is in force. -/
def State.setLimitOf (s : State) (m : Nat) : Nat :=
  let l := min (min (s.get (R.ACT_CTRL_SET_MAX m)) (s.slot (m / 2)).setLimit)
    (min (s.get R.DAMP_STATUS_LANE_LIMIT) ((headsOf m).filter s.eligible).length)
  if s.pow.lowerSets && 3 < l then l - 1 else l

/-- A head leaves the concurrent set, and stops following unless it stays as a write-unsafe head does (R99, R100). -/
def State.leave (stays : Bool) (g : Nat) (s : State) : State :=
  let s1 := if s.inSet g then
      ((s.set (R.HEAD_PES_IN_SET g) 0).count (R.HEAD_POS_COUNT_DEPARTURES g) 1).setHead g
        { s.head g with outAt := s.now + 1, acquiring := stays, leaving := false }
    else s.setHead g { s.head g with acquiring := stays && (s.head g).acquiring, leaving := false }
  if stays then s1
  else (((s1.set (R.HEAD_PES_FOLLOWING g) 0).setHead g { s1.head g with vout := 0, settleRun := 0 }).set
    (R.HEAD_UP_VOUT g) 0).set (R.HEAD_UP_SAT g) 0

/-- A head leaves the set at a wedge: the sector it is writing is torn (R100, R101, R152). -/
def State.leaveTorn (g : Nat) (s : State) : State := (s.tear Torn.left false g).leave false g

/-- Heads of an actuator leave at their next sector boundary until the following count fits the set limit, in the order of R239
(R98); a head with no sector in progress is at one. -/
def State.fitSet (m : Nat) (s : State) : State :=
  let lim := s.setLimitOf m
  let s1 := s.set (R.ACT_STATUS_SET_LIMIT m) lim
  let fol := (headsOf m).filter s1.following
  let out := (s1.leavingOrder fol).take (fol.length - lim)
  let s2 := s1.forAll fol fun g t => t.setHead g { t.head g with leaving := out.contains g }
  (s2.forAll (out.filter fun g => !s2.inSector g) (State.leave false)).masks m

/-- A sector of a head has ended: a head the set limit sends away leaves (R98). -/
def State.sectorBoundary (g : Nat) (s : State) : State :=
  if (s.head g).leaving && !s.inSector g then (s.leave false g).masks (g / 10) else s

/-- An unload of a loaded actuator begins: every head leaves, sectors in progress are torn, the transfer ends, the preamps go to
idle, and the state is UNLOADING; an emergency unload is counted (R112, R119, R147, R152). -/
def State.unload (emerg : Bool) (trigger m : Nat) (s : State) : State :=
  if s.loaded m then
    let s1 := (s.tearAll trigger (headsOf m)).endTransfer m
    let s2 := s1.forAll ((headsOf m).filter s1.following) (State.leave false)
    let s3 := ((((s2.set (R.ACT_STATUS_STATE m) 5).setB (R.ACT_STATUS_EMERG m) emerg).set (R.ACT_TARGET_MODE m) 0).set
      (R.ACT_TARGET_ACCEL m) 0).masks m
    let s4 := (s3.setActu m { s3.actu m with writing := false, leaver := none }).preampRest m 1
    if emerg then s4.count (R.ACT_COUNT_EMERG_UNLOADS m) 1 else s4
  else s

/-- Every micro-positioner is held at 0 V (R124). -/
def State.restPositioners (s : State) : State :=
  s.forAll (s.heads.map (·.1)) fun g t =>
    ((t.setHead g { t.head g with vout := 0 }).set (R.HEAD_UP_VOUT g) 0).set (R.HEAD_UP_SAT g) 0

/-- Lanes and set limits follow the lanes in service; with fewer than four, micro-positioners are held at 0 V; with none, every actuator unloads on reserve, the spindle drives
go to high impedance and FAILED is set (R124). -/
def State.laneRefresh (s : State) : State :=
  let live := (List.range 16).filter s.laneOk
  let mask := live.foldl (fun w n => w + 2 ^ n) 0
  let lim := laneLimit live.length
  let old := s.get R.DAMP_STATUS_LANE_LIMIT
  let s1 := (((s.set R.DAMP_LANES_IN_SERVICE mask).set R.DAMP_STATUS_LANES live.length).set
    R.DAMP_STATUS_LANE_LIMIT lim).setB R.DAMP_STATUS_FAILED live.isEmpty
  let s2 := if lim = old then s1 else s1.event Ev.DAMP_SET_LIMITED (origin 0 0) 0 0 0 0
  let s3 := (s2.forAll (List.range 64) State.fitSet).when (live.length < 4) State.restPositioners
  if live.isEmpty then
    { s3.forAll (List.range 64) (State.unload true Torn.unload) with
      pins := { s3.pins with phases := [] } }
  else s3

/-- A damper lane retires for a reason (R124). -/
def State.retireLaneFor (reason n : Nat) (s : State) : State :=
  if (s.get R.DAMP_LANES_RETIRED).testBit n then s
  else ((s.set R.DAMP_LANES_RETIRED (s.get R.DAMP_LANES_RETIRED + 2 ^ n)).retire 6 n reason
    Ev.DAMP_LANE_RETIRED false 0 0 0 0).laneRefresh

/-- A damper lane retires by its outvotes (R124). -/
def State.retireLane (n : Nat) (s : State) : State := s.retireLaneFor Ev.DAMP_LANE_RETIRED n

/-- A lane is outvoted: it is counted, and the third time within 24 h retires it (R118, R123, R124). -/
def State.outvote (n : Nat) (s : State) : State :=
  let recent := s.opSec :: (tgetD n [] s.damper.outvotedAt).filter fun t => s.opSec < t + 86400
  let s1 := (s.count (R.DAMP_OUTVOTED n) 1)
  let s2 := { s1 with damper := { s1.damper with outvotedAt := tset n recent s1.damper.outvotedAt } }
  if 3 ≤ recent.length then s2.retireLane n else s2

/-- All lanes of an evaluation differ: they are fenced for logic self-test and DAMP_LANE_MISMATCH is recorded (R123). -/
def State.fenceLanes (ns : List Nat) (s : State) : State :=
  ({ s with damper := { s.damper with fenced := ns.foldl (fun l n => addId n l) s.damper.fenced } }.event
    Ev.DAMP_LANE_MISMATCH (origin 0 0) 0 0 0 0).laneRefresh

/-- The applied result of an evaluation from the lanes that ran it, and what is counted (R123, R124): none when the
previous output is held. -/
def State.vote (s : State) (v : Int) (runs : List LaneRun) : Option Int × State :=
  match runs with
  | [a] => (some (v + a.dev), s)
  | [a, b] =>
    if a.dev = b.dev then (some (v + a.dev), s) else (none, s.fenceLanes [a.lane.val, b.lane.val])
  | a :: b :: c :: _ =>
    if a.dev = b.dev then (some (v + a.dev), s)
    else if a.dev = c.dev then (some (v + a.dev), s.outvote b.lane.val)
    else if b.dev = c.dev then (some (v + b.dev), s.outvote a.lane.val)
    else (none, s.fenceLanes [a.lane.val, b.lane.val, c.lane.val])
  | [] => (none, s)

/-- One evaluation of a loop (R121 to R125): a waiting commit is applied first; the result the lanes agree on is
applied and the loop's signals move on; where no two lanes agree the previous output holds. -/
def State.evalLoop (l : Nat) (e : Int) (runs : List LaneRun) (s : State) : State :=
  let lp := s.loop l
  let lp1 := if lp.pending then { lp with active := some (s.shadow l), pending := false } else lp
  let c := lp1.active.getD (romLoop l)
  let set := if l < 768 then s.get (R.DAMP_CFG0_ACTIVE_SET l) else 0
  if c.en = 1 then
    let (x, u, v) := loopV c set lp1 e
    let (r, s1) := s.vote v runs
    match r with
    | some w => s1.setLoop l (lp1.shift x (if c.form = 0 then w else u) w)
    | none => s1.setLoop l lp1
  else s.setLoop l lp1

/-! ## VCM current arbitration (R113 to R115) -/

/-- Hot resistance of a coil in µΩ: R_meas · (1 + 0.00393 · (T_est − T_meas)), temperatures in 0.1 °C (R113). -/
def rHot (res5m : Nat) (tEst tMeas : Int) : Int :=
  (res5m : Int) * 5000 * (1000000 + 393 * (tEst - tMeas)) / 1000000

/-- C_T: the coil-thermal ceiling in mA for an estimate in 0.1 °C (R113). -/
def ceilThermal (t : Int) : Int :=
  if t ≤ 1100 then 2500 else if t ≤ 1250 then 2500 - 1300 * (t - 1100) / 150 else 1200

/-- C_S: the supply ceiling in mA (R113). -/
def ceilSupply (v12 : Int) (ke : Nat) (vel : Int) (d : Int) (rh : Int) : Int :=
  let sgn : Int := if (0 ≤ d) = (0 ≤ vel) then 1 else -1
  let mv := v12 - 400 - sgn * (ke : Int) * (if 0 ≤ vel then vel else -vel) / 1000
  if rh ≤ 0 then 2500 else max 0 (min 2500 (mv * 1000000 / rh))

/-- Whether the vibration ceiling of the writing partner applies: a write gate of the other actuator of the HDA is
open, or that actuator is in write settle (R113). -/
def State.otherWrites (s : State) (m : Nat) : Bool :=
  let o := if m % 2 = 0 then m + 1 else m - 1
  s.gates.any (fun g => g / 10 = o) || ((s.actu o).writing && s.get (R.ACT_STATUS_STATE o) = 3)

/-- The VCM current of an actuator for a loop output (R113 to R115). Of two ceilings that are equal and lowest, WIN names the
supply's before the coil's before the vibration's (DESIGN CHOICE, log entry 87). -/
def State.arbitrate (m : Nat) (out ff : Int) (i : VcmIn) (s : State) : State :=
  let o := if m % 2 = 0 then m + 1 else m - 1
  let d := clampI (-4096) 4095 (out + ff - (s.actu m).kx * (s.actu o).prevI / 65536)
  let tEst : Int := s.get (R.ACT_COIL_T_EST m)
  let rh := rHot (s.actu m).rMeas tEst (s.actu m).tMeas
  let cS := ceilSupply i.v12 (s.get (R.ACT_COIL_KE m)) i.vel d rh
  let cT := ceilThermal tEst
  let cV : Int := if s.otherWrites m then s.get (R.ACT_CEIL_VIB_CEIL_W m) else s.get (R.ACT_CEIL_VIB_CEIL m)
  let a := if 0 ≤ d then d else -d
  let low := min cS (min cT cV)
  let win := if a ≤ low then 0 else if cS = low then 1 else if cT = low then 2 else 3
  let app := min a low
  let clamp : Int := ((s.loop (640 + m)).active.getD (romLoop (640 + m))).clamp
  (((s.setI (R.ACT_CURRENT_DEMAND m) d).setI (R.ACT_CURRENT_APPLIED m) (if 0 ≤ d then app else -app)).set
    (R.ACT_CURRENT_WIN m) win).setB (R.ACT_CURRENT_SATURATED m) (win != 0 || clamp < a)

/-- The input of a loop (R120): PES; e_V, or in a short or long seek the reference head's position against the trajectory (R110);
coil power; the spindle loop's comes with its crossing. -/
def State.loopInput (s : State) (l : Nat) (i : VcmIn) : Int :=
  if l < 640 then (s.head l).pes
  else if l < 704 then
    let m := l - 640
    if s.get (R.ACT_STATUS_STATE m) = 2 && s.get (R.ACT_TARGET_MODE m) != 1 then
      (match s.refHead m with | some g => (s.head g).pos - i.traj | none => 0)
    else (s.actu m).ev
  else if l < 768 then
    let m := l - 704
    let cur := s.getI (R.ACT_CURRENT_APPLIED m)
    cur * cur * rHot (s.actu m).rMeas (s.get (R.ACT_COIL_T_EST m)) (s.actu m).tMeas / 1000000000
  else 0

/-- Whether a loop is evaluated now (R120): following heads while no trajectory runs (R108, R110) and lanes allow it (R124),
loaded actuators, every coil model. -/
def State.loopRuns (s : State) (l : Nat) : Bool :=
  if l < 640 then s.following l && (s.get (R.ACT_STATUS_STATE (l / 10)) != 2 || s.get (R.ACT_TARGET_MODE (l / 10)) = 1) && 4 ≤ s.get R.DAMP_STATUS_LANES
  else if l < 704 then s.loaded (l - 640)
  else l < 768

/-- Apply a loop's output (R120, R113). -/
def State.applyOut (l : Nat) (i : VcmIn) (ff : Int) (s : State) : State :=
  let out := (s.loop l).out
  if l < 640 then
    let clamp : Int := ((s.loop l).active.getD (romLoop l)).clamp
    ((s.setHead l { s.head l with vout := out }).setI (R.HEAD_UP_VOUT l) out).setB (R.HEAD_UP_SAT l)
      (out = clamp || out = -clamp)
  else if l < 704 then s.arbitrate (l - 640) out ff i
  else s.set (R.ACT_COIL_T_EST (l - 704)) (clampI 0 4095 (i.tHda + out / 10)).toNat

/-- The lanes an evaluation needs: two in service where two are, from both halves where both have one, and a third where the
two differ and a third is in service (R123, R124). -/
def State.lanesFit (s : State) (runs : List LaneRun) : Bool :=
  let ns := runs.map fun r => r.lane.val
  let live := (List.range 16).filter s.laneOk
  let differ := match runs with | a :: b :: _ => a.dev != b.dev | _ => false
  ns.all s.laneOk && ns.Nodup &&
    (match live.length with
     | 0 => false
     | 1 => ns.length = 1
     | n + 2 =>
       ns.length = (if differ && 1 ≤ n then 3 else 2) &&
         (!(live.any (· < 8) && live.any (8 ≤ ·)) || ((ns.take 2).any (· < 8) && (ns.take 2).any (8 ≤ ·))))

/-- The acceleration phase of a seek ends (R109): a short one's at half its trajectory, a long one's when the measured velocity
reaches 1.6 m/s or the profile √(2·a_d·d), a_d being 0.7 of the calibrated peak deceleration (R108, log entry 87). -/
def State.accelEnds (m : Nat) (i : VcmIn) (s : State) : State :=
  let t := s.trimRec (m / 2) (20 + m % 2)
  let d := match s.refHead m with | some g => mag (((s.actu m).target : Int) - (s.head g).pos) | none => 0
  let v := mag i.vel
  let ends := if s.get (R.ACT_TARGET_MODE m) = 2 then i.half
    else 1600 ≤ v || (tgetD 0 0 t = 0xA5 && 33600 * trimField 28 2 t * d ≤ v * v * 1024000000)
  if s.bit (R.ACT_TARGET_ACCEL m) && ends then s.set (R.ACT_TARGET_ACCEL m) 0 else s

/-- DAMPER_EVALUATION (R122 to R124) of a position or thermal loop, `ns` after its trigger: an evaluation past its deadline of
4.0 µs or 50 µs still runs and is counted. -/
def damperEvaluation (l : Nat) (runs : List LaneRun) (i : VcmIn) (ff : Int) (ns : Nat) (s : State) : State :=
  if l < 768 && s.loopRuns l && s.lanesFit runs then
    let s0 := if 640 ≤ l && l < 704 then s.accelEnds (l - 640) i else s
    let s1 := s0.evalLoop l (s0.loopInput l i) runs
    let s2 := if s1.loopRuns l then s1.applyOut l i ff else s1
    let s3 := if l < 704 then s2.set R.DAMP_DELAY_WORST (max (s2.get R.DAMP_DELAY_WORST) (min ns 65535)) else s2
    s3.when ((if l < 704 then 4000 else 50000) < ns) (State.count R.DAMP_DELAY_BOUND_MISS 1)
  else s

/-- The coefficient sets R415 derives for a loop, 0 for Noon and 1 for Dusk, are committed (R125). The manual gives no
derivation, so each coefficient is a free value (log entry 1). -/
def State.deriveLoop (l : Nat) (s : State) : State :=
  (s.forAll (List.range 16) fun i t => (t.set (R.DAMP_COEF_VALUE l (i / 8) (i % 8)) (t.freeNat (2 ^ 32))).bump).setLoop l
    { s.loop l with pending := true }

/-! ## The servo wedge (R94 to R106) -/

/-- R95: whether a wedge's PES is valid for a head, `t` being its track ID. -/
def State.wedgeValid (s : State) (g : Nat) (o : WedgeObs) (w : Wedge) (t : Nat) : Bool :=
  let cal : Int := s.headField g 420 2
  let h := s.head g
  let d := (t : Int) * 1024 - h.pos
  w.sam && o.samErr ≤ 8 &&
    (match w.id with | some (n, c) => n < 640 && c = n % 7 && h.wedge.all (· = n) | none => false) &&
    cal * cal ≤ 16 * (o.a * o.a + o.b * o.b) && !(s.following g && (2048 < d || d < -2048))

/-- The wedge a head expects after one it has read or missed. -/
def nextWedge (h : HeadSt) (w : Wedge) (ok : Bool) : Option Nat :=
  if ok then w.id.map fun x => (x.1 + 1) % 640 else h.wedge.map fun n => (n + 1) % 640

/-- One head at a wedge: PES, validity, settle and re-enable runs, off-track and write-unsafe (R94, R95, R104). A track ID or burst
that spells nothing is a free value (log entry 1). The slow offset of a head of the set moves at every wedge; outside it, at every
valid one, starting at the first of a run (DEDUCED, log entry 36). -/
def State.headWedge (g : Nat) (o : WedgeObs) (s : State) : State :=
  let m := g / 10
  let h := s.head g
  let w := readWedge o.bits o.a o.b
  let t := w.track.getD (s.freeNat (2 ^ 24))
  let ok := s.wedgeValid g o w t
  let p := wedgePos t (w.fine.getD ((s.freeNat 2048 : Int) - 1023))
  let pes := if ok then wedgePes p (w.rro.getD 0) ((s.actu m).target : Int) (s.getI (R.HEAD_OFFSET_OFFSET g)) else h.pes
  let q := pes * 65536 - s.upx g
  let settle := if (s.actu m).writing then s.get R.POS_LIMITS_W_W_SETTLE else s.get R.POS_LIMITS_R_R_SETTLE
  let unsafeNow := ok && (s.get R.POS_LIMITS_W_WU_LIMIT ≤ mag pes || s.get R.POS_LIMITS_W_WU_LIMIT ≤ mag (2 * pes - h.pes))
  let reen := if ok && mag pes ≤ s.get R.POS_LIMITS_W_WU_REEN then h.reenRun + 1 else 0
  let h' := { h with
    pes := pes, pos := if ok then p else h.pos
    wedge := nextWedge h w ok, unsafeNow := unsafeNow
    validRun := if ok then h.validRun + 1 else 0
    invalidRun := if ok then 0 else h.invalidRun + 1
    settleRun := if ok && mag pes ≤ settle then h.settleRun + 1 else 0
    reenRun := reen
    qf := if s.inSet g || (ok && (h.validRun != 0 || s.following g)) then h.qf + roundAway (q - h.qf) 64 else if ok then q else h.qf
    offTrack := ok && s.get R.POS_LIMITS_R_OFFTRACK ≤ mag pes }
  let s0 := if w.track.isNone || w.fine.isNone then s.bump else s
  let s1 := (((s0.setHead g h').setI (R.HEAD_PES_PES g) pes).setB (R.HEAD_PES_VALID g) ok).setB
    (R.HEAD_PES_RRO_BAD g) w.rro.isNone
  if unsafeNow then (s1.set (R.HEAD_PES_WRITE_SAFE g) 0).count (R.HEAD_POS_COUNT_WRITE_UNSAFE g) 1
  else if 3 ≤ reen then s1.set (R.HEAD_PES_WRITE_SAFE g) 1 else s1

/-- R100 last row: a write-unsafe head of an actuator in write mode leaves the set and stays following; the sector it
was writing is torn (R104, R151, R152). -/
def State.writeUnsafe (g : Nat) (s : State) : State := (s.tear Torn.writeUnsafe false g).leave true g

/-- Every member of a slot is served by an engine whose front-ends are not held in reset (R31, R34). -/
def State.ownerUp (s : State) (i : Nat) : Bool := s.islandUp (53 + s.get (R.ENG_SLOT_OWNER i))

/-- The conditions of R151 under which a write gate opens at a sector start and at a resume field alike; no sector starts or goes
on while the slot's engine is down (R31). -/
def State.gateResumes (s : State) (g : Nat) : Bool :=
  let m := g / 10
  s.get (R.ACT_STATUS_STATE m) = 4 && s.preampReg m 2 = 3 && s.inSet g && s.bit (R.HEAD_PES_WRITE_SAFE g) &&
    s.get (R.HEAD_OFFSET_OFFSET g) = 0 && !s.damper.shelfHold && (s.actu m).shockHeads.isEmpty && s.preampReg m 1 % 2 = 0 &&
    (s.head g).assistSet && !s.bit (R.HEAD_CH_CTRL_WRITE_INHIBIT g) && !(s.head g).fenced && !(s.head g).retired &&
    s.ownerUp (g / 20)

/-- A head that has written its share leaves the set for another of the formatted set whose turn has not come (R216). -/
def State.passTurn (g : Nat) (s : State) : State :=
  let m := g / 10
  match (s.head g).chunk with
  | none => s
  | some (row, _) =>
    let waits := (s.headSet m).any fun h =>
      s.eligible (10 * m + h) && !s.following (10 * m + h) && !(s.shareLeft (10 * m + h) row).isEmpty
    if (s.shareLeft g row).isEmpty && waits && s.inSet g && s.get (R.ACT_STATUS_SET_LIMIT m) ≤ ((headsOf m).filter s.following).length
    then
      let t := s.leave false g
      t.setHead g { t.head g with outAt := 0 }
    else s

/-- A head has written a sector to its end: its share is one block shorter, and it is at a sector boundary (R98, R101, R216). -/
def State.sectorWritten (g : Nat) (s : State) : State :=
  let h := s.head g
  (((s.setHead g { h with sector := none, wrote := h.wrote + 1 }).sectorBoundary g).passTurn g).masks (g / 10)

/-- The head's sector in progress at a wedge (R133, R151): one that spans it goes on at the resume field if the gate may reopen there
and is torn if not; one that does not has ended, and the gate is closed. -/
def State.wedgeSector (g : Nat) (s : State) : State :=
  let h := s.head g
  match h.sector with
  | some (t, n, k + 1) =>
    if s.gateResumes g then s.setHead g { h with sector := some (t, n, k) } else s.tearStay Torn.writeUnsafe g
  | some (_, _, 0) => { s with gates := delId g s.gates }.sectorWritten g
  | none => { s with gates := delId g s.gates }

/-- Torn sectors of the conventional band a head may rewrite in place (R152): it may once it is write-safe again; one not rewritten
within 50 ms, or whose head has left the set, is reported unwritten. -/
def State.tornDue (g : Nat) (s : State) : State :=
  let h := s.head g
  if h.tornAt.isEmpty then s
  else if s.inSet g && s.bit (R.HEAD_PES_WRITE_SAFE g) then s.setHead g { h with tornAt := [] }
  else
    let due := h.tornAt.filter fun x => !s.inSet g || x.1 + 50000 ≤ s.now
    { s.setHead g { h with tornAt := h.tornAt.filter fun x => !due.contains x } with
      unwritten := due.map (fun x => (g, x.2.1, x.2.2)) ++ s.unwritten }

/-- Spread and mid of a list of slow offsets: largest minus smallest, and twice the middle between them. -/
def extent (l : List Int) : Int × Int :=
  match l with
  | [] => (0, 0)
  | a :: t =>
    let hi := t.foldl max a
    let lo := t.foldl min a
    (hi - lo, hi + lo)

/-- The combined position error of an actuator over its set (R96); the halving, the mean and the whole units round half away from
zero, as R94 has positions rounded (DEDUCED, log entry 36). -/
def State.combine (m : Nat) (s : State) : State :=
  let a := s.actu m
  let set := s.setOf m
  let qs := set.map fun g => (s.head g).qf
  let (spread, mid2) := extent qs
  let mids := if set.isEmpty then a.mids else a.mids + clampI (nmFine (-20)) (nmFine 20) (roundAway mid2 2 - a.mids)
  let fast := if set.isEmpty then 0 else
    roundAway (set.foldl (fun t g => t + ((s.head g).pes * 65536 - s.upx g - (s.head g).qf)) 0) set.length
  let ev := if set.isEmpty then (match s.refHead m with | some g => (s.head g).pes | none => 0)
    else roundAway (mids + fast) 65536
  ((s.setActu m { a with mids := mids, ev := ev }).setI (R.ACT_PES_EV m) ev).set (R.ACT_PES_SPREAD m)
    (min 255 (roundAway spread (nmFine 20).toNat).toNat)

/-- R97: at a spread at or above 2.90 µm, the head whose slow offset lies farthest from the set's median; of several equally far
the lowest-numbered (DESIGN CHOICE, log entry 36). -/
def State.spreadLeaver (s : State) (m : Nat) : Option Nat :=
  let set := s.setOf m
  let qs := set.map fun g => (s.head g).qf
  if (extent qs).1 < nmFine 2900 then none
  else
    let med := median2 qs
    (set.foldl (fun (b : Option (Nat × Nat)) g =>
      let d := mag (2 * (s.head g).qf - med)
      match b with
      | none => some (g, d)
      | some (_, e) => if e < d then some (g, d) else b) none).map (·.1)

/-- R97: the head the previous wedge's spread chose leaves now. -/
def State.spreadDeparture (m : Nat) (s : State) : State :=
  match (s.actu m).leaver with
  | some g => if s.inSet g then s.leaveTorn g else s
  | none => s

/-- The budget of R97: with the head included, its offset from the midrange is at or below 1.20 µm. -/
def State.joinFits (s : State) (g : Nat) : Bool :=
  let qs := (s.head g).qf :: ((s.setOf (g / 10)).filter (· != g)).map fun x => (s.head x).qf
  mag (2 * (s.head g).qf - (extent qs).2) ≤ mag (2 * nmFine 1200)

/-- R99: a head starts acquiring. -/
def State.acquireStart (g : Nat) (s : State) : State :=
  let m := g / 10
  let h := s.head g
  if !s.following g && s.eligible g && [3, 4].contains (s.get (R.ACT_STATUS_STATE m)) &&
      ((headsOf m).filter s.following).length < s.get (R.ACT_STATUS_SET_LIMIT m) &&
      (h.outAt = 0 || h.outAt + 50000 ≤ s.now + 1) && 16 ≤ h.validRun && s.joinFits g then
    (s.set (R.HEAD_PES_FOLLOWING g) 1).setHead g { h with acquiring := true, settleRun := 0 }
  else s

/-- R105: three or more heads write-unsafe at one wedge hold every write gate of the actuator until each has met write
re-enable. R106: on four slots within 1 ms, every write gate for 10 ms. -/
def State.shock (m : Nat) (s : State) : State :=
  let set := s.setOf m
  let s1 := s.setActu m { s.actu m with shockHeads := set }
  let s2 := s1.forAll (headsOf m) fun g t =>
    (t.setHead g { t.head g with reenRun := 0 }).set (R.HEAD_PES_WRITE_SAFE g) 0
  let s3 := s2.event Ev.SHOCK_ACTUATOR (origin 2 m) 0 0 0 0
  let recent := (m / 2, s.now) :: s.damper.shocks.filter fun x => s.now < x.2 + 1000 && x.1 != m / 2
  let s4 := { s3 with damper := { s3.damper with shocks := recent } }
  if 4 ≤ recent.length && !s.damper.shelfHold then
    { s4 with damper := { s4.damper with shelfHold := true } }.event Ev.SHOCK_SHELF (origin 0 0) 0 0 0 0
  else s4

/-- Coefficient sets of an actuator's loops follow the spindle speed at the wedge (R111). -/
def State.chooseSets (m : Nat) (s : State) : State :=
  let set := if 63000 < s.get (R.SPIN_SPEED_SPEED (m / 2)) then 0 else 1
  s.forAll ((640 + m) :: (704 + m) :: headsOf m) fun l t => t.set (R.DAMP_CFG0_ACTIVE_SET l) set

/-- R147, R155: at a wedge the hob engine writes MODE and keeps HEAD_MASK equal to the following heads; ASSIST_EN is 1
only in write mode, and is written 0 before MODE leaves 3. -/
def State.preampMode (m : Nat) (s : State) : State :=
  let mask := s.get (R.ACT_STATUS_FOLLOW_MASK m)
  if (s.actu m).writing then ((s.preampWrite m 3 mask).preampWrite m 2 3).preampWrite m 0x3A 1
  else ((s.preampWrite m 0x3A 0).preampWrite m 2 2).preampWrite m 3 mask

/-- Wedges in a row at which no following head had a valid PES (R117); with none following, the reference head's, and in a load
only since it was first valid. -/
def State.invalidRun (s old : State) (m : Nat) : Nat :=
  let fol := (headsOf m).filter s.following
  let run := (old.actu m).invalidRun
  if !fol.isEmpty then (if fol.any fun g => s.bit (R.HEAD_PES_VALID g) then 0 else run + 1)
  else match s.refHead m with
  | some g =>
    if s.bit (R.HEAD_PES_VALID g) || (s.get (R.ACT_STATUS_STATE m) = 1 && run = 0 && (old.head g).validRun = 0) then 0 else run + 1
  | none => run + 1

/-- A head of an actuator reads its part of a wedge. -/
def State.wedgeOf (m : Nat) (obs : List WedgeObs) (h : Nat) (s : State) : State :=
  match obs[h]? with
  | some o => s.headWedge (10 * m + h) o
  | none => s

/-- SERVO_WEDGE (R94): the head the spread chose leaves; every loaded head's wedge, then write-unsafe departures and shocks, sectors
that span the wedge, the set and e_V. -/
def servoWedge (m : Nat) (obs : List WedgeObs) (s : State) : State :=
  if s.loaded m then
    let sp := (s.setActu m { s.actu m with prevI := s.getI (R.ACT_CURRENT_APPLIED m) }).spreadDeparture m
    let before := sp.setOf m
    let s0 := sp.chooseSets m
    let s1 := s0.forAll (List.range (min 10 obs.length)) (State.wedgeOf m obs)
    let bad := before.filter fun g => g % 10 < obs.length && (s1.head g).unsafeNow
    let s2 := if 3 ≤ bad.length then s1.shock m else s1
    let s3 := if (s1.actu m).writing then s2.forAll bad State.writeUnsafe else s2
    let s4 := s3.forAll (before.filter fun g => s3.gates.contains g) State.wedgeSector
    let s5 := s4.setActu m { s4.actu m with
      shockHeads := (s4.actu m).shockHeads.filter fun g => !s4.bit (R.HEAD_PES_WRITE_SAFE g)
      invalidRun := s4.invalidRun s m }
    let s6 := s5.combine m
    let s7 := s6.setActu m { s6.actu m with leaver := s6.spreadLeaver m }
    (((s7.forAll (headsOf m) State.tornDue).forAll (headsOf m) State.acquireStart).masks m).preampMode m
  else s

/-- SHOCK_SHELF_HOLD_END (R106): the 10 ms hold ends. -/
def shockShelfHoldEnd (s : State) : State := { s with damper := { s.damper with shelfHold := false, shocks := [] } }

/-! ## Joining and leaving (R99, R100) -/

/-- Whether an HDA serves again: at its set-point's speed with its heads loaded (R400). -/
def State.hdaServes (s : State) (i : Nat) : Bool :=
  (s.serves (2 * i) || s.serves (2 * i + 1)) && s.get (R.SPIN_STATUS_STATE i) = 7 && s.slotLoaded i

/-- SUPPLY_RECOVERED is recorded once every HDA that served before the cut serves again, or is gone (R400). -/
def State.recoveredCheck (s : State) : State :=
  if s.pow.recovering && s.pow.served.all fun i => s.hdaServes i || s.get (R.SLOT_STATUS_STATE i) != 4 then
    { s with pow := { s.pow with recovering := false, served := [] } }.event Ev.SUPPLY_RECOVERED (origin 0 0)
  else s

/-- The slot front-end is under test or kept fenced after an INCOMPLETE one (R444, R447). -/
def State.frontTested (s : State) (i : Nat) : Bool :=
  s.tst.running.any (fun t => t.kind = 4 && t.index = i) || s.tst.retest.any fun t => t.1 = 4 && t.2.1 = i

/-- HEAD_JOIN (R99): an acquiring head that has settled joins the set; the first to join makes the actuator FOLLOWING
unless its plant is to be identified first (R119). -/
def headJoin (g : Nat) (s : State) : State :=
  let m := g / 10
  let h := s.head g
  let need := if (s.actu m).writing then 8 else 4
  let safe := !(s.actu m).writing || s.bit (R.HEAD_PES_WRITE_SAFE g)
  if h.acquiring && s.following g && need ≤ h.settleRun && safe && s.joinFits g &&
      [3, 4].contains (s.get (R.ACT_STATUS_STATE m)) then
    if s.get (R.ACT_STATUS_STATE m) = 3 && s.bit (R.ACT_STATUS_REID_PENDING m) then s.set (R.ACT_STATUS_STATE m) 6
    else
      let s1 := (s.setHead g { h with acquiring := false }).set (R.HEAD_PES_IN_SET g) 1
      let s2 := if s.get (R.ACT_STATUS_STATE m) = 3 then
          (s1.set (R.ACT_STATUS_STATE m) 4).setActu m { s1.actu m with loadFails := 0 }
        else s1
      let s3 := ((s2.unfence m .positioning).when (!(s2.spin (m / 2)).recatching) (State.unfence m .observerLoss)).when
        (!s2.frontTested (m / 2)) (State.unfence m .selfTest)
      (s3.masks m).recoveredCheck
  else s

/-- HEAD_ACQUIRE_TIMEOUT (R99): an acquiring head that has not joined within 5 ms is no longer following. -/
def headAcquireTimeout (g : Nat) (s : State) : State :=
  if (s.head g).acquiring then
    ((s.setHead g { s.head g with acquiring := false, vout := 0, settleRun := 0 }).set
      (R.HEAD_PES_FOLLOWING g) 0).set (R.HEAD_UP_VOUT g) 0 |>.masks (g / 10)
  else s

/-- The member of a head that retired (R457): marked for rebuild, or retired when fewer than 5 heads remain. -/
def State.headGone (g : Nat) (s : State) : State :=
  let m := g / 10
  if ((headsOf m).filter fun x => !(s.head x).retired).length < 5 then
    (s.set (R.ACT_STATUS_STATE m) 7).setActu m { s.actu m with retired := true } |>.retireMember m
  else s.markRebuild m

/-- A head retires for a reason, with the event its chapter names or ELEMENT_RETIRED (R454, R457). -/
def State.retireHead (reason ev : Nat) (p0 p1 p2 p3 : Nat) (g : Nat) (s : State) : State :=
  if (s.head g).retired then s
  else
    let s1 := s.leaveTorn g
    let s2 := s1.setHead g { s1.head g with retired := true }
    ((s2.retire 3 g reason ev true p0 p1 p2 p3).headGone g).fitSet (g / 10)

/-- An actuator retires: an emergency unload if loaded, then RETIRED (R119); its member is rebuilt (R275). -/
def State.retireActuator (reason ev : Nat) (p0 p1 p2 p3 : Nat) (m : Nat) (s : State) : State :=
  if (s.actu m).retired then s
  else
    let s1 := s.unload true Torn.unload m
    let s2 := (s1.set (R.ACT_STATUS_STATE m) 7).setActu m { s1.actu m with retired := true }
    (s2.retire 2 m reason ev true p0 p1 p2 p3).retireMember m

/-- Spindle states of SPIN_STATUS.STATE (R91). -/
abbrev Sp.stopped : Nat := 0
abbrev Sp.sense : Nat := 1
abbrev Sp.brakeReverse : Nat := 2
abbrev Sp.brakeRest : Nat := 3
abbrev Sp.align : Nat := 4
abbrev Sp.blind : Nat := 5
abbrev Sp.ramp : Nat := 6
abbrev Sp.speed : Nat := 7
abbrev Sp.recatch : Nat := 8
abbrev Sp.failed : Nat := 9

def State.spState (s : State) (i : Nat) : Nat := s.get (R.SPIN_STATUS_STATE i)

/-- The spindle driver of a slot works, or its phases are at high impedance (R62, R64). -/
def State.phases (i : Nat) (on : Bool) (s : State) : State :=
  { s with pins := { s.pins with phases := if on then addId i s.pins.phases else delId i s.pins.phases } }

/-- Set the reference speed (R79, R80). -/
def State.setRef (i ref : Nat) (s : State) : State :=
  (s.set (R.SPIN_REF_REF i) ref).setSpin i { s.spin i with refFine := ref * 1000000000 }

/-- A braking state. -/
def Sp.brakes (st : Nat) : Bool := st = Sp.brakeReverse || st = Sp.brakeRest

/-- SERVICE (R76): Midnight in STOPPED under that set-point; none in any other state but SPEED. -/
def State.serviceShown (i : Nat) (s : State) : State :=
  s.set (R.SPIN_STATUS_SERVICE i) (if s.spState i = Sp.stopped && s.get (R.SPIN_CTRL_SETPOINT i) = 0 then 0 else 3)

/-- Enter a spindle state other than SPEED: the phase advance and a held or moving reference end with RAMP (R68, R70), the allowance of
a start with its end (R89). -/
def State.enterSp (i st : Nat) (s : State) : State :=
  let sp := s.spin i
  let s0 := s.setSpin i { sp with
    recoverSense := st = Sp.sense && sp.recoverSense
    starting := st = Sp.align || (sp.starting && st != Sp.stopped && st != Sp.failed)
    brakeAt := if Sp.brakes st && !Sp.brakes (s.spState i) then s.now else sp.brakeAt
    senseFirst := false, trip := none }
  let s1 := (s0.set (R.SPIN_STATUS_STATE i) st).serviceShown i
  let s2 := s1.phases i ([Sp.brakeReverse, Sp.brakeRest, Sp.align, Sp.blind, Sp.ramp].contains st)
  let s3 := if st = Sp.ramp then s2
    else ((s2.set (R.SPIN_STATUS_ADVANCE i) 0).set (R.SPIN_REF_RAMPING i) 0).set (R.SPIN_REF_HELD i) 0
  if st = Sp.stopped then ((s3.set (R.SPIN_SPEED_SPEED i) 0).setRef i 0).set (R.SPIN_STATUS_IN_WINDOW i) 0 else s3

/-- An HDA retires: each loaded actuator unloads on reserve and is RETIRED, the slot shows STATE 7, its spindle is braked
to Midnight, and its members are rebuilt (R85, R87, R90, R119, R454). -/
def State.retireHda (reason ev : Nat) (p0 p1 p2 p3 : Nat) (i : Nat) (s : State) : State :=
  let s1 := s.forAll [2 * i, 2 * i + 1] fun m t =>
    let t1 := t.unload true Torn.unload m
    ((t1.set (R.ACT_STATUS_STATE m) 7).setActu m { t1.actu m with retired := true }).retireMember m
  let s2 := (s1.set (R.SLOT_STATUS_STATE i) 7).set (R.SPIN_CTRL_SETPOINT i) 0
  let st := s.spState i
  let s3 := if st = Sp.stopped then s2.serviceShown i
    else
      let t := s2.enterSp i Sp.brakeRest
      t.setSpin i { t.spin i with senseFirst := st = Sp.failed, starting := false, waiting := false }
  (s3.set (R.SPIN_STATUS_IN_WINDOW i) 0).retire 1 i reason ev true p0 p1 p2 p3

/-- Times within a window of operating seconds, with now added. -/
def State.within (s : State) (window : Nat) (l : List Nat) : List Nat :=
  s.opSec :: l.filter fun t => s.opSec < t + window

/-- HEAD_UP_SATURATED (R100 row 1): a head at its clamp for 2 ms leaves; the eighth within 24 h retires it (R118). -/
def headUpSaturated (g : Nat) (s : State) : State :=
  if s.following g then
    let l := s.within 86400 (s.head g).upSatAt
    let s1 := ((s.leaveTorn g).count (R.HEAD_POS_COUNT_UP_SAT g) 1).event Ev.HEAD_UP_SATURATED (origin 3 g) 0 0 0 0
    let s2 := (s1.set (R.HEAD_UP_SAT g) 1).setHead g { s1.head g with upSatAt := l }
    (if 8 ≤ l.length then s2.retireHead Ev.HEAD_UP_SATURATED Ev.ELEMENT_RETIRED 0 0 0 0 g else s2).masks (g / 10)
  else s

/-- PES_INVALID_DEPARTURE (R100 row 3): invalid on two consecutive wedges; the 64th within 1 h retires (R118). -/
def pesInvalidDeparture (g : Nat) (s : State) : State :=
  if s.inSet g && 2 ≤ (s.head g).invalidRun then
    let l := s.within 3600 (s.head g).badPesAt
    let s1 := s.leaveTorn g
    let s2 := s1.setHead g { s1.head g with badPesAt := l }
    (if 64 ≤ l.length then s2.retireHead Ev.ELEMENT_RETIRED Ev.ELEMENT_RETIRED 0 0 0 0 g else s2).masks (g / 10)
  else s

/-- SET_EMPTY_TIMEOUT (R103): no head joined within 50 ms of an empty set, so the transfer ends and its sectors are
reported to the stoker. -/
def setEmptyTimeout (m : Nat) (s : State) : State :=
  if (s.setOf m).isEmpty && (s.actu m).transferring then
    let heads := headsOf m
    let left := heads.filterMap fun g => (s.head g).sector.map fun (t, n, _) => (g, t, n)
    let s1 := s.forAll heads fun g t => t.setHead g { t.head g with sector := none }
    { s1 with unwritten := left ++ s1.unwritten }.endTransfer m
  else s

/-! ## Seeks (R108 to R110) -/

/-- A seek begins (R108, R110, R119): its mode follows the largest distance any following head must travel, the reference head's
where none follows. Heads of the set acquire again at the new target (log entry 87). -/
def State.startSeek (m target : Nat) (s : State) : State :=
  let fol := (headsOf m).filter s.following
  let hs := if fol.isEmpty then (s.refHead m).toList else fol
  let far := hs.foldl (fun d g => max d (mag ((target : Int) - (s.head g).pos))) 0
  let st := (far + 1023) / 1024
  let mode := if st ≤ 4 then 1 else if st ≤ 4096 then 2 else 3
  let s1 := (((s.set (R.ACT_TARGET_TARGET m) (target / 1024)).set (R.ACT_TARGET_MODE m) mode).setB
    (R.ACT_TARGET_ACCEL m) (mode != 1)).setActu m { s.actu m with target := target }
  (s1.set (R.ACT_STATUS_STATE m) 2).forAll (s1.setOf m) (fun g t =>
    (t.set (R.HEAD_PES_IN_SET g) 0).setHead g { t.head g with acquiring := true, settleRun := 0 }) |>.masks m

/-- SEEK_REQUEST (R108): a seek begins at a sector boundary of every head of the set (R110); in a load the engine's target is kept
for its seek (R112). -/
def seekRequest (m target : Nat) (write : Bool) (s : State) : State :=
  let s1 := s.setActu m { s.actu m with writing := write, transferring := true }
  if s.get (R.ACT_STATUS_STATE m) = 1 then s1.setActu m { s1.actu m with target := target }
  else if s.get (R.ACT_STATUS_STATE m) = 4 && !s.gates.any (fun g => g / 10 = m) && !(headsOf m).any s.inSector then
    s1.startSeek m target
  else s

/-- SEEK_LOOPS_RESUME (R110): the loops resume and the set re-forms. -/
def seekLoopsResume (m : Nat) (s : State) : State :=
  if s.get (R.ACT_STATUS_STATE m) = 2 then
    ((s.set (R.ACT_STATUS_STATE m) 3).set (R.ACT_TARGET_MODE m) 0).set (R.ACT_TARGET_ACCEL m) 0
  else s

/-! ## Loading and unloading (R112, R119) -/

/-- R77, R112, R393: a load is permitted while the measured speed is above 4,800 rpm, the set-point is Noon or Dusk,
the slot is in service, the actuator is not told to stay unloaded, and the 12 V reserve has risen again. -/
def State.loadPermitted (s : State) (m reserveMv : Nat) : Bool :=
  let i := m / 2
  48000 < s.get (R.SPIN_SPEED_SPEED i) && s.get (R.SPIN_CTRL_SETPOINT i) != 0 && 11000 ≤ reserveMv &&
    s.get (R.SLOT_STATUS_STATE i) = 4 && (s.slot i).offStep = 0 && !s.bit (R.ACT_CTRL_UNLOAD m) &&
    !(s.actu m).retired && s.get R.DAMP_STATUS_LANE_LIMIT != 0

/-- Load an actuator from UNLOADED (R112, R119). -/
def State.load (m reserveMv : Nat) (s : State) : State :=
  if s.get (R.ACT_STATUS_STATE m) = 0 && s.loadPermitted m reserveMv then
    let s1 := (s.set (R.ACT_STATUS_STATE m) 1).set (R.ACT_STATUS_EMERG m) 0
    let s2 := s1.forAll (headsOf m) fun g t =>
      (t.setHead g { t.head g with vout := 0, validRun := 0, invalidRun := 0, settleRun := 0, reenRun := 0, outAt := 0, wedge := none }).set
        (R.HEAD_UP_VOUT g) 0
    (s2.preampRest m 1).fitSet m |>.setActu m
      { s2.actu m with reloadDue := false, invalidRun := 0, loadAt := s.now }
  else s

/-- LOAD_SERVO_ACQUIRED (R112 step 3): the reference head has been valid for 8 consecutive wedges; the actuator seeks to the
engine's target, or to the last one. -/
def loadServoAcquired (m : Nat) (s : State) : State :=
  if s.get (R.ACT_STATUS_STATE m) = 1 && (s.refHead m).any (fun g => 8 ≤ (s.head g).validRun) then
    s.startSeek m (s.actu m).target
  else s

/-- LOAD_FAIL (R112): no valid servo by 150 ms; the third in a row retires the actuator (R118). -/
def loadFail (m : Nat) (s : State) : State :=
  if s.get (R.ACT_STATUS_STATE m) = 1 then
    let n := (s.actu m).loadFails + 1
    let s1 := ((s.unload false Torn.unload m).count (R.ACT_COUNT_LOAD_FAILS m) 1).event Ev.LOAD_FAIL (origin 2 m) 0 0 0 0
    let s2 := s1.setActu m { s1.actu m with loadFails := n, reloadDue := true }
    if 3 ≤ n then s2.retireActuator Ev.LOAD_FAIL Ev.ELEMENT_RETIRED 0 0 0 0 m else s2
  else s

/-- LOAD_RETRY and SERVO_RELOAD: a reload that is due (R112, R117). -/
def reload (m reserveMv : Nat) (s : State) : State :=
  if (s.actu m).reloadDue then s.load m reserveMv else s

/-- HEADS_PARKED (R119): an unload completes, and the coil carries no current (R112); a retired actuator stays RETIRED. -/
def headsParked (m : Nat) (s : State) : State :=
  if s.get (R.ACT_STATUS_STATE m) = 5 then
    ((((s.set (R.ACT_STATUS_STATE m) 0).setI (R.ACT_CURRENT_DEMAND m) 0).setI (R.ACT_CURRENT_APPLIED m) 0).set
      (R.ACT_CURRENT_WIN m) 0).set (R.ACT_CURRENT_SATURATED m) 0
  else s

/-- A member goes out of service for a positioning fault until FOLLOWING (R116, R117). -/
def State.positionFault (m : Nat) (s : State) : State :=
  let s1 := (s.unload false Torn.unload m).fence m .positioning
  s1.setActu m { s1.actu m with reloadDue := true }

/-- VCM_SATURATED (R116): saturation for 8 ms outside an acceleration phase; the third within 24 h retires (R118). -/
def vcmSaturated (m : Nat) (s : State) : State :=
  if [2, 3, 4].contains (s.get (R.ACT_STATUS_STATE m)) && s.bit (R.ACT_CURRENT_SATURATED m) &&
      !s.bit (R.ACT_TARGET_ACCEL m) then
    let l := s.within 86400 (s.actu m).satAt
    let s1 := ((s.positionFault m).count (R.ACT_COUNT_VCM_SAT_FAULTS m) 1).event Ev.VCM_SATURATED (origin 2 m) 0 0 0 0
    let s2 := (s1.set (R.ACT_STATUS_REID_PENDING m) 1).setActu m { s1.actu m with satAt := l }
    if 3 ≤ l.length then s2.retireActuator Ev.VCM_SATURATED Ev.ELEMENT_RETIRED 0 0 0 0 m else s2
  else s

/-- SERVO_LOST (R117, and SETTLING for 5 ms with no head joined, R119); the third within 1 h retires (R118). -/
def servoLost (m : Nat) (s : State) : State :=
  if [1, 2, 3, 4, 6].contains (s.get (R.ACT_STATUS_STATE m)) &&
      (8 ≤ (s.actu m).invalidRun || (s.get (R.ACT_STATUS_STATE m) = 3 && (s.setOf m).isEmpty)) then
    let l := s.within 3600 (s.actu m).lostAt
    let s1 := ((s.positionFault m).count (R.ACT_COUNT_SERVO_LOST m) 1).event Ev.SERVO_LOST (origin 2 m) 0 0 0 0
    let s2 := s1.setActu m { s1.actu m with lostAt := l }
    if 3 ≤ l.length then s2.retireActuator Ev.SERVO_LOST Ev.ELEMENT_RETIRED 0 0 0 0 m else s2
  else s

/-- VCM_COIL_HOT (R113): the estimate at or above 135 °C is recorded, and again each minute while it lasts. -/
def vcmCoilHot (m : Nat) (s : State) : State :=
  let a := s.actu m
  if 1350 ≤ s.get (R.ACT_COIL_T_EST m) && (a.hotAt = 0 || a.hotAt + 60 ≤ s.opSec + 1) then
    (s.event Ev.VCM_COIL_HOT (origin 2 m) 0 0 0 0).setActu m { a with hotAt := s.opSec + 1 }
  else s

/-- The unload a write of ACT_CTRL.UNLOAD asks for (R119). -/
def State.unloadRequested (m : Nat) (s : State) : State :=
  if s.bit (R.ACT_CTRL_UNLOAD m) then s.unload false Torn.unload m else s

/-- A non-zero OFFSET closes the head's gate: the sector in progress completes at no gate (R107). -/
def State.offsetWritten (g : Nat) (s : State) : State :=
  if s.get (R.HEAD_OFFSET_OFFSET g) != 0 then s.tearStay Torn.left g else s

/-- The commit that a write of DAMP_COMMIT with GO asks for (R125). -/
def State.commitLoop (l : Nat) (s : State) : State :=
  s.setLoop l { s.loop l with pending := true }

/-- The five words DAMP_STATE_DATA shows of a loop: bits [39:8] of x1, x2, u1, u2 and v1 (R126). -/
def loopWords (l : Loop) : List Nat := [l.x1, l.x2, l.u1, l.u2, l.v1].map fun v => toBits 32 (v / 2 ^ 8)

/-! ## The commands -/

def execShockShelfHoldEnd (s : State) := act s shockShelfHoldEnd
def execHeadJoin (g : GHead) (s : State) := act s (headJoin g.val)
def execHeadAcquireTimeout (g : GHead) (s : State) := act s (headAcquireTimeout g.val)
def execHeadUpSaturated (g : GHead) (s : State) := act s (headUpSaturated g.val)
def execPesInvalidDeparture (g : GHead) (s : State) := act s (pesInvalidDeparture g.val)
def execSetEmptyTimeout (m : Member) (s : State) := act s (setEmptyTimeout m.val)
def execDamperEvaluation (l : LoopIx) (runs : List LaneRun) (i : VcmIn) (ff : Int) (ns : Nat) (s : State) :=
  act s (damperEvaluation l.val runs i ff ns)
def execSeekRequest (m : Member) (target : Nat) (write : Bool) (s : State) := act s (seekRequest m.val target write)
def execSeekLoopsResume (m : Member) (s : State) := act s (seekLoopsResume m.val)
/-- LOAD_REQUEST (R112): an unloaded actuator begins to load when R77 and the reserve voltage permit it. -/
def execLoadRequest (m : Member) (reserveMv : Nat) (s : State) := act s (State.load m.val reserveMv)
def execLoadServoAcquired (m : Member) (s : State) := act s (loadServoAcquired m.val)
def execLoadFail (m : Member) (s : State) := act s (loadFail m.val)
/-- LOAD_RETRY (R112): a failed load is retried 1 s later. -/
def execLoadRetry (m : Member) (reserveMv : Nat) (s : State) := act s (reload m.val reserveMv)
def execHeadsParked (m : Member) (s : State) := act s (headsParked m.val)
def execVcmSaturated (m : Member) (s : State) := act s (vcmSaturated m.val)
def execServoLost (m : Member) (s : State) := act s (servoLost m.val)
/-- SERVO_RELOAD (R117): an actuator that lost servo is reloaded 1 s later. -/
def execServoReload (m : Member) (reserveMv : Nat) (s : State) := act s (reload m.val reserveMv)
def execVcmCoilHot (m : Member) (s : State) := act s (vcmCoilHot m.val)

end Sys2Proof.Machine
end

