-- ==== Sys2Proof/Machine/Spindle.lean ====
section
/-! DEFINITION. Spindle motors (ch03): sensing, starting, the speed states, braking, observer loss, start failures and
staggered spin-up. Speeds are in 0.1 rpm. -/

namespace Sys2Proof.Machine

/-- The speed of a set-point (R76). -/
def setSpeed (v : Nat) : Nat := if v = 2 then 72000 else if v = 1 then 54000 else 0

/-- The transfer window of a set-point (R76). -/
def inWindow (v speed : Nat) : Bool :=
  if v = 2 then 71640 ≤ speed && speed ≤ 72360 else if v = 1 then 53730 ≤ speed && speed ≤ 54270 else false

/-- What a sense of R72 and R73 tells: rotation from three or more crossings, fewer crossings, or rest. -/
inductive Sensed where
  /-- Forward at a speed in 0.1 rpm, with the measured peak back-EMF in mV. -/
  | forward (speed emf : Nat)
  /-- Backward at a speed in 0.1 rpm. -/
  | backward (speed : Nat)
  /-- Fewer than three crossings: turning at 60 rpm or less, direction unknown. -/
  | slow
  /-- A 300 ms sense with no crossing and a peak back-EMF below 20 mV. -/
  | rest
  deriving DecidableEq, Repr

/-- The crossings of a sense: those of its 150 ms, or with none there those of the 300 ms it is extended to (R72, R73). -/
def senseKept (o : SenseObs) : List (Nat × Fin 3) :=
  let within (ns : Nat) := o.crossings.filter fun c => o.start ≤ c.1 && c.1 ≤ o.start + ns
  if (within 150000000).isEmpty then within 300000000 else within 150000000

/-- Speed, 0.1 rpm, of crossings a twenty-fourth of a revolution apart, newest first: over their whole span (R69, R73). -/
def spanSpeed (times : List Nat) : Nat :=
  match times with
  | a :: b :: l =>
    let first := (b :: l).getLastD b
    if first < a then 25000000000 * (l.length + 1) / (a - first) else 0
  | _ => 0

/-- R72, R73: what a sense tells. Turning forward the phases' crossings come in the order U, W, V, so that the rising ones come in the
order U, V, W (R64). Speed is taken over the whole span of the sense's crossings and the direction from its first two (DEDUCED, log
entry 91). -/
def senseFound (o : SenseObs) : Sensed :=
  match senseKept o with
  | a :: b :: c :: l =>
    let v := spanSpeed ((a :: b :: c :: l).map (·.1)).reverse
    if (b.2.val + 1) % 3 = a.2.val then .forward v o.peak else .backward v
  | [] => if o.peak < 20 then .rest else .slow
  | _ => .slow

/-- Times of the crossings of a sense, newest first, as the observer keeps them. -/
def senseTimes (o : SenseObs) : List (Nat × Bool) := ((senseKept o).map fun c => (c.1, true)).reverse.take 50

/-- A start from the sense of R73: it uses no crossing found before. -/
def State.startSense (i : Nat) (s : State) : State :=
  (s.setSpin i { s.spin i with
    waiting := false, missing := 0, measured := 0, predicted := 0, inside := 0, times := [], starting := true }).enterSp i Sp.sense

/-- Slots waiting to start: their HDA is there and ready (R90). -/
def State.waitingSlots (s : State) : List Nat :=
  (List.range 32).filter fun i => (s.spin i).waiting && s.get (R.SLOT_STATUS_STATE i) = 4

/-- R89: starts are grouped at cold start, until host service begins, and while a grouped spin-up is in progress. -/
def State.grouped (s : State) : Bool := !s.bit R.GLB_STATUS_SERVICE || s.bit R.SPINUP_CTRL_ACTIVE

/-- A slot whose spindle is at rest waits to start. -/
def State.waitStart (i : Nat) (s : State) : State := s.setSpin i { s.spin i with waiting := true }

/-- A grouped spin-up is in progress (R89): one that begins starts from group 0. -/
def State.spinupOn (s : State) : State :=
  if s.bit R.SPINUP_CTRL_ACTIVE then s
  else { s.set R.SPINUP_CTRL_ACTIVE 1 with pow := { s.pow with nextGroup := 0, groupAt := none } }

/-- A start from STOPPED: at once, or waiting for its group (R89, R90). It waits while action 1 of R394 defers starts, and
none is made after a cut (R397, R400). -/
def State.startSpindle (i : Nat) (s : State) : State :=
  if s.spState i = Sp.stopped && s.get (R.SLOT_STATUS_STATE i) = 4 then
    if s.isCut then s
    else if s.get R.PWR_CAP_ACTIONS != 0 then s.waitStart i
    else if s.grouped then (s.waitStart i).spinupOn
    else s.startSense i
  else s

/-- Slots that wait start together: eight or more, or any while starts are grouped, wait for their groups (R89). -/
def State.startWaiting (s : State) : State :=
  let ws := s.waitingSlots
  if ws.isEmpty then s
  else if s.grouped || 8 ≤ ws.length then s.spinupOn
  else s.forAll ws State.startSense

/-- A ramp toward the set-point from a measured speed (R80); the window of the new set-point is another (R78). -/
def State.retarget (i : Nat) (s : State) : State :=
  let s1 := ((s.setRef i (s.get (R.SPIN_SPEED_SPEED i))).set (R.SPIN_REF_RAMPING i) 1).setB (R.SPIN_STATUS_IN_WINDOW i)
    (s.bit (R.SPIN_STATUS_IN_WINDOW i) && inWindow (s.get (R.SPIN_CTRL_SETPOINT i)) (s.get (R.SPIN_SPEED_SPEED i)))
  (s1.setSpin i { s1.spin i with inside := 0 }).enterSp i Sp.ramp

/-- A set-point change (R79, R80, R90). -/
def State.setSetpoint (i v : Nat) (s : State) : State :=
  let old := s.get (R.SPIN_CTRL_SETPOINT i)
  let s0 := s.set (R.SPIN_CTRL_SETPOINT i) v
  let s1 := if v = 0 then s0.setSpin i { s0.spin i with waiting := false, starting := false } else s0
  let st := s.spState i
  if st = Sp.stopped then (s1.serviceShown i).when (v != 0) (State.startSpindle i)
  else if (st = Sp.align || st = Sp.blind) && v = 0 then s1.enterSp i Sp.brakeRest
  else if (st = Sp.ramp || st = Sp.speed) && v != old then
    let s2 := if v = 0 then (s1.unload false Torn.unload (2 * i)).unload false Torn.unload (2 * i + 1) else s1
    let s3 := if st = Sp.speed then s2.setSpin i { s2.spin i with origin := .service } else s2
    s3.retarget i
  else s1

/-- Catch at a speed: closed-loop commutation synchronised to the crossings, the duty from the peak back-EMF as the loop's previous
output, the reference at the measured speed, with phase advance (R68, R73, R82). -/
def State.catchAt (i : Nat) (o : Origin) (speed emf : Nat) (times : List (Nat × Bool)) (s : State) : State :=
  let d : Int := min 10000 (emf * 10000 / 12000)
  let s1 := (s.set (R.SPIN_SPEED_SPEED i) speed).setSpin i
    { s.spin i with origin := o, duty := d, missing := 0, predicted := 0, inside := 0, times := times }
  let s2 := s1.setLoop (768 + i) { s1.loop (768 + i) with out := d, u1 := d * 2 ^ 8, v1 := d * 2 ^ 8 }
  (((s2.setRef i speed).set (R.SPIN_REF_RAMPING i) 1).set (R.SPIN_STATUS_ADVANCE i) 1).enterSp i Sp.ramp

/-- The result of a sense in SPIN_BEMF (R91). -/
def State.senseShown (i speed : Nat) (rev : Bool) (res : Nat) (s : State) : State :=
  ((s.set (R.SPIN_BEMF_SENSE_SPEED i) speed).setB (R.SPIN_BEMF_SENSE_REVERSE i) rev).set (R.SPIN_BEMF_SENSE_RESULT i) res

/-- What the sense R400 makes of every spindle finds: forward at or above 4,800 rpm is caught at once; the other slots, in SENSE with
their drive off, wait to be sensed again with their group, and wait together once every sense has ended (log entry 91). -/
def State.recoverFound (i : Nat) (o : SenseObs) (s : State) : State :=
  let s1 := s.setSpin i { s.spin i with recoverSense := false, waiting := false }
  let wait (speed : Nat) (rev : Bool) : State :=
    let t := s1.senseShown i speed rev 0
    t.setSpin i { t.spin i with waiting := true, starting := false }
  let s2 := match senseFound o with
    | .forward speed emf =>
      if 48000 ≤ speed then
        ((s1.senseShown i speed false 1).catchAt i .caught speed emf (senseTimes o)).event Ev.SPIN_CAUGHT (origin 1 i) 0 0 0 0
      else wait speed false
    | .backward speed => wait speed true
    | _ => wait 0 false
  if (List.range 32).any fun j => (s2.spin j).recoverSense then s2 else s2.startWaiting

/-- SPIN_SENSE_END (R73, R90): what the sense of a start finds decides between catch, braking and align. -/
def spinSenseEnd (i : Nat) (o : SenseObs) (s : State) : State :=
  let found := senseFound o
  if s.spState i = Sp.sense && (s.spin i).recoverSense && s.get (R.SPIN_CTRL_SETPOINT i) != 0 then s.recoverFound i o
  else if s.spState i = Sp.sense && !(s.spin i).waiting then
    let mid := s.get (R.SPIN_CTRL_SETPOINT i) = 0
    match found with
    | .forward speed emf =>
      if mid || speed ≤ 6000 then (s.senseShown i speed false 3).enterSp i Sp.brakeRest
      else ((s.senseShown i speed false 1).catchAt i .caught speed emf (senseTimes o)).event Ev.SPIN_CAUGHT (origin 1 i) 0 0 0 0
    | .backward speed =>
      if mid || speed ≤ 600 then (s.senseShown i speed true 3).enterSp i Sp.brakeRest
      else (((s.senseShown i speed true 2).count (R.SPIN_COUNT_REFUSALS i) 1).event Ev.SPIN_START_REFUSED_REVERSE
        (origin 1 i) 0 0 0 0).enterSp i Sp.brakeReverse
    | .slow => (s.senseShown i 0 false 3).enterSp i Sp.brakeRest
    | .rest => (s.senseShown i 0 false 3).enterSp i (if mid then Sp.brakeRest else Sp.align)
  else s

/-- SENSE_RESULT of a sense made in braking (R72, R91): 2 while a refused rotor still turns backward above 60 rpm, else 3. -/
def brakeResult (st : Nat) (found : Sensed) : Nat :=
  match found with
  | .backward speed => if st = Sp.brakeReverse && 600 < speed then 2 else 3
  | _ => 3

/-- BRAKE_SENSE (R72, R90): the sense after 500 ms of braking. In BRAKE_REVERSE one that finds rest, or rotation of unknown direction
at 60 rpm or less, leads to BRAKE_REST as backward rotation at or below 60 rpm does (DESIGN CHOICE, log entry 91). -/
def brakeSense (i : Nat) (o : SenseObs) (s : State) : State :=
  let st := s.spState i
  if Sp.brakes st then
    let found := senseFound o
    let shown := match found with
      | .forward speed _ => s.senseShown i speed false (brakeResult st found)
      | .backward speed => s.senseShown i speed true (brakeResult st found)
      | _ => s.senseShown i 0 false (brakeResult st found)
    let s1 := shown.setSpin i { shown.spin i with brakeAt := s.now, senseFirst := false }
    match found with
    | .rest =>
      let s2 := s1.set (R.SPIN_SPEED_SPEED i) 0
      if st = Sp.brakeReverse then s2.enterSp i Sp.brakeRest
      else if s.get (R.SPIN_CTRL_SETPOINT i) = 0 then s2.enterSp i Sp.stopped
      else s2.enterSp i Sp.align
    | .backward speed => if st = Sp.brakeReverse && speed ≤ 600 then s1.enterSp i Sp.brakeRest else s1
    | .slow => if st = Sp.brakeReverse then s1.enterSp i Sp.brakeRest else s1
    | .forward _ _ => s1
  else s

/-- Reference of the blind ramp, 0.1 rpm: RAMP_RATE times the time since it began (R74). -/
def State.blindRef (s : State) (i : Nat) : Nat := s.get (R.SPIN_START_RAMP_RATE i) * 100 * (s.now - (s.spin i).blindAt) / 1000000

/-- Commutation steps of the blind ramp so far: 24 to a revolution at the frequency of its reference (R74). -/
def State.blindSteps (s : State) (i : Nat) : Nat :=
  2 * s.get (R.SPIN_START_RAMP_RATE i) * (s.now - (s.spin i).blindAt) ^ 2 / 10 ^ 12

/-- The reference as the blind ramp has raised it. -/
def State.blindShown (i : Nat) (s : State) : State := if s.spState i = Sp.blind then s.setRef i (s.blindRef i) else s

/-- ALIGN_ELAPSED (R74): after the align time the blind ramp starts from 0. -/
def alignElapsed (i : Nat) (s : State) : State :=
  if s.spState i = Sp.align then
    let s1 := (s.setSpin i { s.spin i with
      origin := .start, measured := 0, missing := 0, predicted := 0, times := [], step := 0, blindAt := s.now }).setRef i 0
    (s1.enterSp i Sp.blind).set (R.SPIN_REF_RAMPING i) 1
  else s

/-- BLIND_HANDOVER (R74): from 600 rpm of the blind reference on, six consecutive measured crossings hand over to closed-loop
commutation with phase advance; the reference goes on from where it is (DEDUCED, log entry 91). -/
def blindHandover (i : Nat) (s0 : State) : State :=
  let s := s0.blindShown i
  if s.spState i = Sp.blind && 6 ≤ (s.spin i).measured && 6000 ≤ s.blindRef i then
    let s1 := s.setSpin i { s.spin i with step := s.blindSteps i % 6 }
    ((s1.set (R.SPIN_STATUS_ADVANCE i) 1).set (R.SPIN_REF_RAMPING i) 1).enterSp i Sp.ramp
  else s

/-- A start failure (R86): the drive goes to high impedance, STATE is FAILED, both counts rise, and the third in a row
retires the HDA (R87). -/
def State.startFailure (i : Nat) (s : State) : State :=
  let n := s.get (R.SPIN_STATUS_START_FAILS i) + 1
  let st := s.spState i
  let s1 := (((s.enterSp i Sp.failed).count (R.SPIN_COUNT_START_FAILS i) 1).set (R.SPIN_STATUS_START_FAILS i) (min n 3)).event
    Ev.SPIN_START_FAIL (origin 1 i) st 0 0 0
  if 3 ≤ n then s1.retireHda Ev.SPIN_START_FAIL Ev.ELEMENT_RETIRED 0 0 0 0 i else s1

/-- BLIND_HANDOVER_FAIL (R75): the blind reference is at 720 rpm without six consecutive measured crossings. -/
def blindHandoverFail (i : Nat) (s0 : State) : State :=
  let s := s0.blindShown i
  if s.spState i = Sp.blind && 7200 ≤ s.blindRef i && (s.spin i).measured < 6 then s.startFailure i else s

/-- SPIN_BRAKE_TIMEOUT (R86). -/
def spinBrakeTimeout (i : Nat) (s : State) : State :=
  if s.spState i = Sp.brakeReverse || s.spState i = Sp.brakeRest then s.startFailure i else s

/-- SPIN_RAMP_TIMEOUT (R86): only of a ramp from a start or a catch. -/
def spinRampTimeout (i : Nat) (s : State) : State :=
  if s.spState i = Sp.ramp && ((s.spin i).origin = .start || (s.spin i).origin = .caught) then s.startFailure i else s

/-- SPIN_START_RETRY (R87): 2 s after FAILED, with fewer than three consecutive failures. -/
def spinStartRetry (i : Nat) (s : State) : State :=
  if s.spState i = Sp.failed && s.get (R.SPIN_STATUS_START_FAILS i) < 3 then s.startSense i else s

/-- What a write of 1 to SPIN_CTRL.RESTART does (R87): the count clears and a retry starts, unless the HDA is retired. -/
def State.restartSpindle (i : Nat) (s : State) : State :=
  if s.get (R.SLOT_STATUS_STATE i) = 7 then s
  else
    let s1 := s.set (R.SPIN_STATUS_START_FAILS i) 0
    if s.spState i = Sp.failed then s1.startSense i else s1

/-! ## Crossings (R66 to R70, R74, R78) -/

/-- Expected time and step interval of the next crossing from the last times, ns: t(n−6) + P and P ÷ 6, where
P = t(n−6) − t(n−12) (R67). -/
def expected (times : List (Nat × Bool)) : Option (Nat × Nat) :=
  match times[5]?, times[11]? with
  | some (a, _), some (b, _) => some (a + (a - b), (a - b) / 6)
  | _, _ => none

/-- How a crossing comes about (R66, R67). -/
inductive Crossing where
  /-- Located between two consecutive samples at this time, ns. -/
  | located (ns : Nat)
  /-- Not located because a bracketing sample was skipped. -/
  | skipped
  /-- Not located for another reason. -/
  | absent
  deriving DecidableEq, Repr

/-- The crossing that the samples of a floating phase show, oldest first (R66, R67): freewheel samples are ignored, one of a window
shorter than 2.0 µs is skipped; two that follow each other with different signs locate it, interpolated linearly. A voltage of 0
counts as positive (DEDUCED, log entry 91). -/
def crossingOf : Option PhaseSample → Bool → List PhaseSample → Crossing
  | _, gap, [] => if gap then .skipped else .absent
  | prev, gap, x :: l =>
    if x.freewheel then crossingOf prev gap l
    else if x.window < 2000 then crossingOf prev true l
    else match prev with
    | none => crossingOf (some x) gap l
    | some a =>
      if (a.mv < 0) = (x.mv < 0) then crossingOf (some x) false l
      else if gap then .skipped
      else .located (a.ns + (x.ns - a.ns) * a.mv.natAbs / max 1 (a.mv.natAbs + x.mv.natAbs))

/-- Class of a crossing (R67): 0 measured, 1 predicted, 2 missing; and its time for commutation. Before twelve crossings give it an
expected time, a located one is measured (DESIGN CHOICE, log entry 91). -/
def classify (sp : Spindle) (x : Crossing) : Nat × Nat :=
  let e := expected sp.times
  let pt := match e with | some (t, _) => t | none => (sp.times.head?.map (·.1)).getD 0
  match x with
  | .located t =>
    match e with
    | none => (0, t)
    | some (et, step) => if (if et ≤ t then t - et else et - t) * 4 ≤ step then (0, t) else (2, pt)
  | .skipped => if sp.predicted ≤ 1 && e.isSome then (1, pt) else (2, pt)
  | .absent => (2, pt)

/-- Measured speed from the span of the last 24 crossings, one revolution; where the crossing a revolution ago was
predicted, the same crossing one revolution earlier takes its place (R69). -/
def measuredSpeed (times : List (Nat × Bool)) : Option Nat :=
  match times[0]?, times[24]? with
  | some (t, _), some (a, ok) =>
    if ok then (if a < t then some (600000000000 / (t - a)) else none)
    else match times[48]? with
      | some (b, _) => if b < t then some (1200000000000 / (t - b)) else none
      | none => none
  | _, _ => none

/-- The reference moves toward the set-point by SLEW, and is held at the measured speed while the loop's output is saturated in the
direction it moves, at 100 % or at −100 %, which is taken as the braking ceiling (R70; DESIGN CHOICE, log entry 91). On the way to
Midnight it waits until the heads are unloaded (R79). -/
def State.moveRef (i dt speed : Nat) (s : State) : State :=
  let sp := s.spin i
  let target := setSpeed (s.get (R.SPIN_CTRL_SETPOINT i))
  let goal := target * 1000000000
  let up := sp.refFine < goal
  let waits := target = 0 && s.slotLoaded i
  let held := !waits && sp.refFine != goal && ((up && 10000 ≤ sp.duty) || (!up && sp.duty ≤ -10000))
  let step := s.get (R.SPIN_START_SLEW i) * 100 * dt
  let next := if waits then sp.refFine
    else if held then speed * 1000000000
    else if up then min goal (sp.refFine + step) else max goal (sp.refFine - step)
  (((s.setSpin i { sp with refFine := next }).set (R.SPIN_REF_REF i) (next / 1000000000)).setB (R.SPIN_REF_HELD i) held).setB
    (R.SPIN_REF_RAMPING i) (next != goal && !waits)

/-- R74, R82 step 7: the spindle reaches SPEED. -/
def State.atSpeed (i : Nat) (s : State) : State :=
  let sp := s.spin i
  let v := s.get (R.SPIN_CTRL_SETPOINT i)
  let s1 := ((((s.set (R.SPIN_STATUS_STATE i) Sp.speed).set (R.SPIN_STATUS_SERVICE i) v).set
    (R.SPIN_STATUS_ADVANCE i) 0).set (R.SPIN_STATUS_SUPPLY_LIMITED i) 0).set (R.SPIN_STATUS_START_FAILS i) 0
  let s2 := s1.setSpin i { sp with origin := .service, recatching := false, starting := false }
  if sp.recatching then
    (s2.forAll [2 * i, 2 * i + 1] fun m t => t.setActu m { t.actu m with reloadDue := true }).event
      Ev.SPIN_RECATCHED (origin 1 i) 0 0 0 0
  else (s2.event Ev.SPIN_AT_SPEED (origin 1 i) 0 0 0 0).recoveredCheck

/-- What a new measured speed brings: the window (R78), the unload at 4,600 rpm (R77), SPEED (R74, R82) and the end of a
downward ramp to Midnight (R79). -/
def State.speedMeasured (i speed : Nat) (s : State) : State :=
  let v := s.get (R.SPIN_CTRL_SETPOINT i)
  let inw := inWindow v speed
  let s1 := (s.set (R.SPIN_SPEED_SPEED i) speed).setSpin i
    { s.spin i with inside := if inw then (s.spin i).inside + 1 else 0 }
  let s2 := if inw then s1 else s1.set (R.SPIN_STATUS_IN_WINDOW i) 0
  let s3 := if speed ≤ 46000 then (s2.unload false Torn.unload (2 * i)).unload false Torn.unload (2 * i + 1) else s2
  if s3.spState i = Sp.ramp then
    if v = 0 && speed ≤ 6000 then s3.enterSp i Sp.brakeRest
    else if v != 0 && inw && s3.get (R.SPIN_REF_REF i) = setSpeed v &&
        (!(s3.spin i).recatching || 48 ≤ (s3.spin i).inside) then s3.atSpeed i
    else s3
  else s3

/-! ## Phase advance and commutation (R64, R65, R68, R71) -/

/-- Whether the eight speeds of the phase-advance table rise strictly (R68). -/
def State.advRises (s : State) (i : Nat) : Bool :=
  let sp := (List.range 8).map fun k =>
    (if k % 2 = 0 then s.get (R.SPIN_ADV_ENTRY_LO i (k / 2)) else s.get (R.SPIN_ADV_ENTRY_HI i (k / 2))) % 1024
  (List.range 7).all fun k => sp.getD k 0 < sp.getD (k + 1) 0

/-- Phase advance in force at a measured speed, in 0.005 electrical degrees (R68): interpolated in the table during a
ramp from rest, catch, re-catch or self-test, and 0 otherwise. -/
def State.phaseAdvance (s : State) (i speed : Nat) : Int :=
  if s.bit (R.SPIN_STATUS_ADVANCE i) then
    let es := (List.range 8).map fun k =>
      let e := if k % 2 = 0 then s.get (R.SPIN_ADV_ENTRY_LO i (k / 2)) else s.get (R.SPIN_ADV_ENTRY_HI i (k / 2))
      (e % 1024 * 100, e / 1024 * 100)
    match (es.filter fun e => e.1 ≤ speed).getLast?, es.find? fun e => speed < e.1 with
    | none, some b => b.2
    | some a, none => a.2
    | some a, some b => (a.2 : Int) + ((b.2 : Int) - a.2) * (speed - a.1 : Nat) / (b.1 - a.1 : Nat)
    | none, none => 0
  else 0

/-- The next commutation: 30 electrical degrees after a crossing, less the phase advance, of the electrical period of the last six
crossings (R67, R68). -/
def State.commutate (i t : Nat) (s : State) : State :=
  let sp := s.spin i
  let period := match sp.times[0]?, sp.times[6]? with | some (a, _), some (b, _) => a - b | _, _ => 0
  let wait : Int := (period : Int) * (6000 - s.phaseAdvance i (s.get (R.SPIN_SPEED_SPEED i))) / 72000
  s.setSpin i { sp with step := (sp.step + 1) % 6, commAt := t + wait.toNat }

/-- What a phase's half-bridge does. -/
inductive Leg where
  | high | low | floating
  deriving DecidableEq, Repr

/-- The six steps (R64): high side by PWM, low side, floating, in the order U, V, W; the floating phases cross zero rising in the order
U, V, W as the steps go on. -/
def sixStep (k : Nat) : List Leg :=
  [[.high, .low, .floating], [.high, .floating, .low], [.floating, .high, .low], [.low, .high, .floating], [.low, .floating, .high],
    [.floating, .low, .high]].getD (k % 6) []

/-- The step in force: the blind ramp's own, else the one that began at the last commutation. -/
def State.stepNow (s : State) (i : Nat) : Nat :=
  let sp := s.spin i
  if s.spState i = Sp.blind then s.blindSteps i % 6
  else if 1000 * s.now < sp.commAt then (sp.step + 5) % 6 else sp.step

/-- A spindle is braked now: in a braking state while no sense is made, 500 ms at a time (R72), or by a loop output below 0 (R69). -/
def State.braking (s : State) (i : Nat) : Bool :=
  let sp := s.spin i
  (Sp.brakes (s.spState i) && !sp.senseFirst && s.now < sp.brakeAt + 500000) ||
    ((s.spState i = Sp.ramp || s.spState i = Sp.speed) && sp.duty < 0)

/-- The PWM frame of 25.0 µs that module time lies in (R64). -/
def State.pwmFrame (s : State) : Nat := s.now / 25

/-- The comparator has tripped in this PWM frame: the high side is off, or all six switches are where the spindle is braked (R65,
R71). -/
def State.tripped (s : State) (i : Nat) : Bool := (s.spin i).trip = some s.pwmFrame

/-- The three half-bridges of a slot, U, V, W (R64, R65, R71, R72, R74). -/
def State.legs (s : State) (i : Nat) : List Leg :=
  let st := s.spState i
  let off : List Leg := [.floating, .floating, .floating]
  if !s.pins.phases.contains i then off
  else if s.braking i then (if s.tripped i then off else [.low, .low, .low])
  else if Sp.brakes st then off
  else
    let on := if st = Sp.align then [Leg.high, .low, .floating] else sixStep (s.stepNow i)
    if s.tripped i then on.map fun l => if l = .high then .floating else l else on

/-- The current limit in force, mA: 0.5 A and 50 mA a code of ALIGN_ILIM, RUN_ILIM or BRAKE_ILIM (R65, R71, R74, R91). -/
def State.currentLimit (s : State) (i : Nat) : Option Nat :=
  if !s.pins.phases.contains i then none
  else if s.braking i then some (500 + 50 * s.get (R.SPIN_ILIM_BRAKE_ILIM i))
  else if Sp.brakes (s.spState i) then none
  else if s.spState i = Sp.align then some (500 + 50 * s.get (R.SPIN_ILIM_ALIGN_ILIM i))
  else some (500 + 50 * s.get (R.SPIN_ILIM_RUN_ILIM i))

/-- ILIM_TRIP (R65, R71): the current through the low-side return, mA, and the time since switch-on, ns, as the comparator sees them:
from 1.0 µs after switch-on a current at the limit in force trips it for the rest of the PWM frame, and each trip is counted. -/
def ilimTrip (i ma ns : Nat) (s : State) : State :=
  match s.currentLimit i with
  | some limit =>
    if 1000 ≤ ns && limit ≤ ma then
      (s.setSpin i { s.spin i with trip := some s.pwmFrame }).count (R.SPIN_PRED_ILIM_TRIPS i) 1
    else s
  | none => s

/-! ## Crossings in service -/

/-- A speed-loop evaluation `ns` after its crossing: one past 50 µs still runs and is counted (R122). -/
def State.spindleLoop (i : Nat) (e : Int) (runs : List LaneRun) (ns : Nat) (s : State) : State :=
  if s.lanesFit runs then (s.evalLoop (768 + i) e runs).when (50000 < ns) (State.count R.DAMP_DELAY_BOUND_MISS 1) else s

/-- ZERO_CROSSING (R67 to R69): the crossing is classed and commutation goes on from it; a measured one gives speed, moves the reference
and evaluates the speed loop, whose output holds at any other. In BLIND and RECATCH the observer runs and the drive does not follow
it. -/
def zeroCrossing (i : Nat) (samples : List PhaseSample) (runs : List LaneRun) (ns : Nat) (s0 : State) : State :=
  let st := s0.spState i
  if [Sp.blind, Sp.ramp, Sp.speed, Sp.recatch].contains st then
    let s := s0.blindShown i
    let sp := s.spin i
    let (cls, t) := classify sp (crossingOf none false samples)
    let sp1 := { sp with
      times := ((t, cls == 0) :: sp.times).take 50
      predicted := if cls = 1 then sp.predicted + 1 else 0
      missing := if cls = 2 then sp.missing + 1 else 0
      measured := if cls = 0 then sp.measured + 1 else 0 }
    let s1 := (s.setSpin i sp1).when (cls = 1) (State.count (R.SPIN_PRED_PREDICTED i) 1)
    let closed := st = Sp.ramp || st = Sp.speed
    if cls = 0 && closed then
      let dt := t - (sp.times.head?.map (·.1)).getD t
      let speed := (measuredSpeed sp1.times).getD (s.get (R.SPIN_SPEED_SPEED i))
      let s2 := s1.moveRef i dt speed
      let e : Int := (s2.get (R.SPIN_REF_REF i) : Int) - speed
      let s3 := s2.spindleLoop i e runs ns
      let s4 := s3.setSpin i { s3.spin i with duty := (s3.loop (768 + i)).out }
      (s4.commutate i t).speedMeasured i speed
    else if cls = 0 then
      match measuredSpeed sp1.times with
      | some v => s1.set (R.SPIN_SPEED_SPEED i) v
      | none => s1
    else if closed then s1.commutate i t
    else s1
  else s0

/-- TRANSFER_WINDOW_RESUME (R78): transfer resumes after two consecutive revolutions, 48 crossings, inside the window. -/
def transferWindowResume (i : Nat) (s : State) : State :=
  if inWindow (s.get (R.SPIN_CTRL_SETPOINT i)) (s.get (R.SPIN_SPEED_SPEED i)) && 48 ≤ (s.spin i).inside &&
      (s.spState i = Sp.ramp || s.spState i = Sp.speed) then s.set (R.SPIN_STATUS_IN_WINDOW i) 1
  else s

/-! ## Observer loss (R82 to R85) -/

/-- SPIN_OBSERVER_LOST (R82, R83, R85): three crossings in a row are missing. The catch starts from crossings of its own. -/
def spinObserverLost (i : Nat) (s : State) : State :=
  let st := s.spState i
  if (st = Sp.ramp || st = Sp.speed) && 3 ≤ (s.spin i).missing then
    let loaded := s.slotLoaded i
    if st = Sp.ramp && (s.spin i).origin = .start && !loaded then s.startFailure i
    else
      let l := s.within 3600 (s.spin i).losses
      let s1 := (((s.count (R.SPIN_COUNT_LOSSES i) 1).event Ev.SPIN_OBSERVER_LOST (origin 1 i) 0 0 0 0).setSpin i
        { s.spin i with losses := l, missing := 0, measured := 0, predicted := 0, inside := 0, times := [], recatching := true })
      let s2 := if loaded then
          (((s1.unload true Torn.observerLoss (2 * i)).unload true Torn.observerLoss (2 * i + 1)).fence (2 * i)
            .observerLoss).fence (2 * i + 1) .observerLoss
        else s1
      if 4 ≤ l.length then s2.retireHda Ev.SPIN_OBSERVER_LOST Ev.ELEMENT_RETIRED 0 0 0 0 i
      else (s2.set (R.SPIN_STATUS_IN_WINDOW i) 0).enterSp i Sp.recatch
  else s

/-- SPIN_RECATCH (R82 steps 5 and 6): a catch, within 50 ms of the trigger (R84), on six consecutive measured crossings, at the speed
of their span. -/
def spinRecatch (i us emf : Nat) (s : State) : State :=
  let sp := s.spin i
  if s.spState i = Sp.recatch && 6 ≤ sp.measured && us ≤ 50000 then
    s.catchAt i .recaught (spanSpeed ((sp.times.take 7).map (·.1))) emf sp.times
  else s

/-- SPIN_RECATCH_FAIL (R84): braked to rest and started again; the members stay fenced. -/
def spinRecatchFail (i : Nat) (s : State) : State :=
  if s.spState i = Sp.recatch then
    ((s.count (R.SPIN_COUNT_RECATCH_FAILS i) 1).event Ev.SPIN_RECATCH_FAIL (origin 1 i) 0 0 0 0).enterSp i Sp.brakeRest
  else s

/-! ## Supply limit (R81) -/

/-- Full duty below the Noon window in SPEED at Noon. -/
def State.atSupplyLimit (s : State) (i : Nat) : Bool :=
  s.spState i = Sp.speed && s.get (R.SPIN_CTRL_SETPOINT i) = 2 && s.get (R.SPIN_SPEED_SPEED i) < 71640 &&
    10000 ≤ (s.spin i).duty

/-- SPIN_SUPPLY_LIMITED (R81): for 1 s. -/
def spinSupplyLimited (i : Nat) (s : State) : State :=
  if s.atSupplyLimit i then
    (s.set (R.SPIN_STATUS_SUPPLY_LIMITED i) 1).event Ev.SPIN_SUPPLY_LIMITED (origin 1 i) 0 0 0 0
  else s

/-- SPIN_SUPPLY_LIMIT_DUSK (R81): for 10 s, the module writes the set-point to Dusk. -/
def spinSupplyLimitDusk (i : Nat) (s : State) : State := if s.atSupplyLimit i then s.setSetpoint i 1 else s

/-! ## Staggered spin-up (R89) -/

/-- Allowance of a slot in 50 mA: its RUN_ILIM (R89, R91). -/
def State.allowance (s : State) (i : Nat) : Nat := 10 + s.get (R.SPIN_ILIM_RUN_ILIM i)

/-- The allowance in use, from the start of the sense until SPEED (R89). -/
def State.allowanceUsed (s : State) : Nat :=
  (List.range 32).foldl (fun n i => if (s.spin i).starting then n + s.allowance i else n) 0

/-- The group that starts next: the lowest with a slot waiting, from the one last started on, else the lowest (R89). -/
def State.nextGroup (s : State) : Option Nat :=
  let w := s.waitingSlots.map (· % 8)
  match (List.range 8).find? (fun j => w.contains j && s.pow.nextGroup ≤ j) with
  | some j => some j
  | none => (List.range 8).find? fun j => w.contains j

/-- GROUP_GAP has passed since the last group started (R89). -/
def State.groupGap (s : State) : Bool := s.pow.groupAt.all fun t => t + 100000 * s.get R.SPINUP_CTRL_GROUP_GAP ≤ s.now

/-- SPINUP_GROUP_START (R89): the next group's waiting slots begin their sense once the gap has passed and the allowance fits the
budget. -/
def spinupGroupStart (j : Nat) (s : State) : State :=
  let ws := s.waitingSlots.filter fun i => i % 8 = j
  if s.nextGroup = some j && s.groupGap && s.get R.PWR_CAP_ACTIONS = 0 && !s.isCut &&
      s.allowanceUsed + ws.foldl (fun n i => n + s.allowance i) 0 ≤ 2 * s.get R.SPINUP_CTRL_BUDGET then
    let s1 := (s.forAll ws State.startSense).set R.SPINUP_CTRL_GROUP j
    { s1.setB R.SPINUP_CTRL_ACTIVE !s1.waitingSlots.isEmpty with
      pow := { s1.pow with nextGroup := j, groupAt := some s.now } }
  else s

/-! ## The commands -/

def execSpinSenseEnd (i : Slot) (o : SenseObs) (s : State) := act s (spinSenseEnd i.val o)
def execBrakeSense (i : Slot) (o : SenseObs) (s : State) := act s (brakeSense i.val o)
def execAlignElapsed (i : Slot) (s : State) := act s (alignElapsed i.val)
def execBlindHandover (i : Slot) (s : State) := act s (blindHandover i.val)
def execBlindHandoverFail (i : Slot) (s : State) := act s (blindHandoverFail i.val)
def execZeroCrossing (i : Slot) (samples : List PhaseSample) (e : LaneRuns) (s : State) :=
  act s (zeroCrossing i.val samples e.runs e.ns)
def execTransferWindowResume (i : Slot) (s : State) := act s (transferWindowResume i.val)
def execIlimTrip (o : TripObs) (s : State) := act s (ilimTrip o.slot.val o.ma o.ns)
def execSpinObserverLost (i : Slot) (s : State) := act s (spinObserverLost i.val)
def execSpinRecatch (i : Slot) (us emf : Nat) (s : State) := act s (spinRecatch i.val us emf)
def execSpinRecatchFail (i : Slot) (s : State) := act s (spinRecatchFail i.val)
def execSpinBrakeTimeout (i : Slot) (s : State) := act s (spinBrakeTimeout i.val)
def execSpinRampTimeout (i : Slot) (s : State) := act s (spinRampTimeout i.val)
def execSpinStartRetry (i : Slot) (s : State) := act s (spinStartRetry i.val)
def execSpinSupplyLimited (i : Slot) (s : State) := act s (spinSupplyLimited i.val)
def execSpinSupplyLimitDusk (i : Slot) (s : State) := act s (spinSupplyLimitDusk i.val)
def execSpinupGroupStart (j : Fin 8) (s : State) := act s (spinupGroupStart j.val)

end Sys2Proof.Machine
end

