-- ==== Sys2Proof/Machine/Slot.lean ====
section
/-! DEFINITION. The HDA slot (ch02): bring-up and its measurements, removal, the power-off sequence, the cable path, the
preamp serial links and their faults, and writes of the module area. -/

namespace Sys2Proof.Machine

/-! ## Pins and power of a slot -/

/-- Drive SLOT_EN5[s] (0 low, 1 high, 2 high impedance). -/
def State.driveEn5 (i v : Nat) (s : State) : State :=
  { s with pins := { s.pins with en5 := tset i v s.pins.en5 } }.setB (R.SLOT_STATUS_EN5 i) (v = 1)

/-- Drive SLOT_EN12[s] (0 low, 1 high, 2 high impedance). -/
def State.driveEn12 (i v : Nat) (s : State) : State :=
  { s with pins := { s.pins with en12 := tset i v s.pins.en12 } }.setB (R.SLOT_STATUS_EN12 i) (v = 1)

/-- The VCM and micro-positioner outputs of a slot are driven, or at high impedance. -/
def State.drives (i : Nat) (on : Bool) (s : State) : State :=
  { s with pins := { s.pins with drives := if on then addId i s.pins.drives else delId i s.pins.drives } }

/-- STATUS with FAULT as the OR of the causes FAULT_MASK leaves unmasked (R47). -/
def preampFault (status mask : Nat) : Nat :=
  status / 2 * 2 + (decide (((status / 2 % 256) &&& (255 - mask / 2 % 128)) ≠ 0)).toNat

/-- What a preamp register holds after a write (R47): read-only registers and addresses not listed keep what they hold,
STATUS clears the causes written 1, and the others take the bits they have. -/
def State.preampTakes (s : State) (m a v : Nat) : Nat :=
  if a = 1 then
    let st := s.preampReg m 1
    preampFault (st - (st &&& (v &&& 0x1FE))) (s.preampReg m 7)
  else if a = 2 then v % 8
  else if a = 3 || (0x10 ≤ a && a ≤ 0x19) then v % 1024
  else if a = 4 then v % 64
  else if a = 5 then v % 128
  else if a = 7 then v / 2 % 128 * 2
  else if 0x20 ≤ a && a ≤ 0x29 then v % 65536
  else if 0x30 ≤ a && a ≤ 0x39 then v % 4096
  else if a = 0x3A then v % 2
  else s.preampReg m a

/-- Both preamps of a slot to sleep (R57, R59). -/
def State.sleepPreamps (i : Nat) (s : State) : State := (s.preampRest (2 * i) 0).preampRest (2 * i + 1) 0

/-- A preamp's registers at their reset values, as when its supply rises (R62). -/
def State.resetPreamp (m : Nat) (s : State) : State :=
  { s with preamp := s.preamp.filter fun e => e.1 / 128 != m }

/-! ## Measurement windows (R58 to R61) -/

/-- Whether a value lies within a percentage of the factory's. -/
def nearPct (pct x f : Nat) : Bool := (if f ≤ x then x - f else f - x) * 100 ≤ pct * f

/-- R58 step 1. The 5 % of two phases' difference is taken of the smallest phase (DESIGN CHOICE, log entry 44). -/
def phaseOk (f : Factory) (m : Meas) : Bool :=
  m.phase.length = 3 && m.phase.all (fun x => nearPct 15 x f.phaseRes) &&
    (m.phase.foldl max 0 - m.phase.foldl min (m.phase.getD 0 0)) * 100 ≤ 5 * m.phase.foldl min (m.phase.getD 0 0)

/-- The phase value a failure of R58 step 1 records: the first outside its window, else the largest (log entry 44). -/
def phaseBad (f : Factory) (m : Meas) : Nat := (m.phase.find? fun x => !nearPct 15 x f.phaseRes).getD (m.phase.foldl max 0)

/-- R58 step 2 for an actuator. -/
def vcmOk (f : Factory) (m : Meas) (a : Nat) : Bool :=
  nearPct 15 (m.vcmRes.getD a 0) (f.vcmRes.getD a 0) && nearPct 25 (m.vcmInd.getD a 0) (f.vcmInd.getD a 0)

/-- R60: what a sweep shows: laser 1, STO 2, neither 0. -/
def sweepKind (x : AssistSweep) : Nat :=
  match x.knee with
  | some k => if 800 ≤ k && k ≤ 2500 then 1 else if x.ohmic ≤ 10 then 2 else 0
  | none => if x.ohmic ≤ 10 then 2 else 0

/-- The sweep of a head. -/
def Meas.sweep (m : Meas) (h : Nat) : AssistSweep := m.assist.getD h ⟨none, 100, 0, 0⟩

/-- R58 step 5 for a head: `last` is the threshold in the module area, if one exists. -/
def assistOk (f : Factory) (m : Meas) (last : Option Nat) (h : Nat) : Bool :=
  let c := f.assist.getD h ⟨0, 0, 0, 0⟩
  let x := Meas.sweep m h
  if f.assistKind = 1 then
    85 * c.a ≤ 100 * x.primary && 100 * x.primary ≤ 130 * c.a &&
      (match last with | some l => 100 * x.primary ≤ 115 * l | none => true)
  else nearPct 15 x.secondary c.b

/-- R58 step 6 for a head. -/
def tdrOk (m : Meas) (h : Nat) : Bool :=
  1400 ≤ m.tdr.getD h 0 && m.tdr.getD h 0 ≤ 10400 && m.refl.getD h 0 < 20

/-- Precompensation skew of a head, ps: write minus read one-way delay (R61). -/
def skewPs (f : Factory) (m : Meas) (h : Nat) : Int :=
  (m.loop.getD h 0 : Int) - f.loopPs - (m.tdr.getD h 0 : Int)

/-- R58 step 7 for a head. -/
def loopOk (f : Factory) (m : Meas) (h : Nat) : Bool := mag (skewPs f m h) ≤ 150

/-- Path length of a head, mm: read one-way delay ÷ 5.30 ns/m (R61). -/
def lenMm (m : Meas) (h : Nat) : Nat := m.tdr.getD h 0 * 10 / 106

/-- Record SLOT_MEAS_OUT_OF_WINDOW with the measurement, the head and the measured value (R58). -/
def State.measFail (i order head value : Nat) (s : State) : State :=
  s.event Ev.SLOT_MEAS_OUT_OF_WINDOW (origin 1 i) order head value 0

/-- Retire the heads of a slot that fail a measurement (R58). -/
def State.measHeads (i order : Nat) (bad : Nat → Bool) (value : Nat → Nat) (s : State) : State :=
  s.forAll ((List.range 20).filter bad) fun h t =>
    (t.measFail i order h (value h)).retireHead Ev.SLOT_MEAS_OUT_OF_WINDOW Ev.ELEMENT_RETIRED 0 0 0 0 (20 * i + h)

/-- The measurement registers of a slot (R63). A value too wide for its field shows its low bits; SPREAD_MM saturates (DESIGN CHOICE,
log entry 44). -/
def State.showMeas (i : Nat) (f : Factory) (m : Meas) (s : State) : State :=
  let s1 := ((s.set (R.SLOT_MEAS_PHASE_PH_U i) (m.phase.getD 0 0)).set (R.SLOT_MEAS_PHASE_PH_V i) (m.phase.getD 1 0)).set
    (R.SLOT_MEAS_PHASE_PH_W i) (m.phase.getD 2 0)
  let s2 := s1.forAll [0, 1] fun a t =>
    (t.set (R.SLOT_MEAS_VCM_RES (2 * i + a)) (m.vcmRes.getD a 0)).set (R.SLOT_MEAS_VCM_IND (2 * i + a)) (m.vcmInd.getD a 0)
  let lens := (List.range 20).map (lenMm m)
  let s3 := (s2.set (R.SLOT_CABLE_LEN_MM i) ((median2 (lens.map fun (x : Nat) => (x : Int))).toNat / 2)).set
    (R.SLOT_CABLE_SPREAD_MM i) (min 255 (lens.foldl max 0 - lens.foldl min (lens.getD 0 0)))
  s3.forAll (List.range 20) fun h t =>
    let g := 20 * i + h
    let sw := Meas.sweep m h
    (((((((t.set (R.HEAD_MEAS_UP_CAP_PF g) (m.upCap.getD h 0)).set (R.HEAD_MEAS_RDR_RES g) (m.rdrRes.getD h 0)).set
      (R.HEAD_MEAS_ASSIST_PRIMARY g) sw.primary).set (R.HEAD_MEAS_ASSIST_SECONDARY g) sw.secondary).set
      (R.HEAD_CABLE_LEN_MM g) (lenMm m h)).setI (R.HEAD_CABLE_PRECOMP_SKEW g) (skewPs f m h / 2)).set
      (R.HEAD_CABLE_REFL g) (m.refl.getD h 0)).set (R.HEAD_CABLE_RESULT g)
        (if !tdrOk m h then 2 else if !loopOk f m h then 3 else 1)

/-- R157: the trim fields of a head from its trim record and its measured path (R61, R149), for recording zone 0 until a track of
another is reached; the set-point is not written yet. -/
def State.loadTrims (g : Nat) (f : Factory) (m : Meas) (s : State) : State :=
  let h := g % 20
  let z := 0
  let base := s.headField g (224 + 3 * z + 1) 1
  let boost := min 15 (base % 16 + roundDiv (2 * lenMm m h * zoneBits z * 640 * 120) 1000000000000)
  let launch : Int := (m.tdr.getD h 0 : Int) + skewPs f m h +
    (match s.headTrim g with | some t => ofBits 16 (trimField 412 2 t) | none => 0)
  let pc := s.headField g 414 4
  (((((((((s.set (R.HEAD_AFE_TRIM_CTF_BOOST g) boost).set (R.HEAD_AFE_TRIM_CTF_CUT g) (base / 16)).setI
    (R.HEAD_WRITE_TIMING_LAUNCH_PS g) launch).set (R.HEAD_WRITE_TIMING_PC1_OUTER g) (pc % 256)).set
    (R.HEAD_WRITE_TIMING_PC1_INNER g) (pc / 256 % 256)).set (R.HEAD_WRITE_TIMING_PC2_OUTER g) (pc / 65536 % 256)).set
    (R.HEAD_WRITE_TIMING_PC2_INNER g) (pc / 16777216 % 256))).set (R.HEAD_CH_STATUS_VGA g) (s.headField g 224 1)).set
    (R.HEAD_CH_STATUS_ZONE g) 0 |>.setHead g { s.head g with assistSet := false }

/-- R136: the comparators of a head whose record holds calibrated offsets are assigned again; a head that has no assignment
is retired. -/
def State.loadComps (g : Nat) (s : State) : State :=
  match s.headTrim g with
  | some t =>
    if trimField 4 2 t = 0 then s
    else
      let l := lowestComps ((List.range 79).filter fun i => (trimField (144 + i / 8) 1 t).testBit (i % 8))
        ((List.range 79).map fun i => ofBits 8 (trimField (64 + i) 1 t))
      let s1 := s.setHead g { s.head g with comps := l }
      if l.isEmpty then s1.retireHead Ev.ADC_NO_SELECTION Ev.ADC_NO_SELECTION 0 0 0 0 g else s1
  | none => s

/-- The actuator trims of a slot: KE, KX, R_meas and T_meas (R113, R421), the VCM loops re-derived from them (R125); or the bring-up
measurement's resistance and temperature. -/
def State.loadActTrims (m : Nat) (meas : Meas) (s : State) : State :=
  let t := s.trimRec (m / 2) (20 + m % 2)
  if tgetD 0 0 t = 0xA5 then
    ((s.set (R.ACT_COIL_KE m) (trimField 20 2 t)).setActu m
      { s.actu m with
        kx := 4 * ofBits 16 (trimField 22 2 t), rMeas := trimField 24 2 t
        tMeas := roundAway (ofBits 16 (trimField 26 2 t) * 125) 100 }).deriveLoop (640 + m)
  else s.setActu m { s.actu m with rMeas := meas.vcmRes.getD (m % 2) 0, tMeas := meas.temp }

/-! ## Bring-up (R55 to R60) -/

/-- Refuse a slot (R56, R60): SLOT_EN5 and SLOT_EN12 low, STATE 5 (7 while its cable path is retired, R59), and the event. -/
def State.refuseSlot (i ev : Nat) (s : State) : State :=
  (((s.driveEn12 i 0).driveEn5 i 0).set (R.SLOT_STATUS_STATE i) (if (s.slot i).cableRetired then 7 else 5)).event ev (origin 1 i) 0 0 0 0

/-- The ledger entry of a slot's cable path is RELEASED (R59, R456); one of its HDA is not. -/
def State.releaseCable (i : Nat) (s : State) : State :=
  { s with ledger := s.ledger.map fun e =>
      if e.kind = 1 && e.index = i && e.active && !e.hdaHeld && e.reason = Ev.CABLE_PATH_FAIL then
        { e with active := false, released := true }
      else e }

/-- Retire the slot's cable path (R59). -/
def State.retireCable (i : Nat) (s : State) : State :=
  let s1 := s.forAll [2 * i, 2 * i + 1] fun m t => (t.unload true Torn.unload m).loseMember m
  let s2 := (((s1.sleepPreamps i).driveEn12 i 0).driveEn5 i 0).set (R.SLOT_STATUS_STATE i) 7
  let s3 := s2.enterSp i Sp.stopped
  if (s.slot i).cableRetired then s3.set (R.SLOT_CTRL_ATTN i) 1
  else (s3.setSlot i { s3.slot i with cableRetired := true }).retire 1 i Ev.CABLE_PATH_FAIL Ev.CABLE_PATH_FAIL false 0 0 0 0

/-- The slot a ledger entry held by an HDA lies in: of an HDA, an actuator or a head (R455). -/
def LedgerEntry.slot (e : LedgerEntry) : Nat := if e.kind = 1 then e.index else if e.kind = 2 then e.index / 2 else e.index / 20

/-- Elements of the HDA in a slot that the retirement ledger holds ACTIVE stay retired through a new bring-up (R456). -/
def State.recallRetired (i : Nat) (s : State) : State :=
  s.forAll (s.ledger.filter fun e => e.active && e.hdaHeld && e.slot = i && e.serial = s.serialOf e.kind e.index) fun e t =>
    let act (m : Nat) (u : State) : State := (u.set (R.ACT_STATUS_STATE m) 7).setActu m { u.actu m with retired := true }
    if e.kind = 3 then
      let u := t.setHead e.index { t.head e.index with retired := true }
      if ((headsOf (e.index / 10)).filter fun x => !(u.head x).retired).length < 5 then act (e.index / 10) u else u
    else if e.kind = 2 then act e.index t
    else ((act (2 * i) (act (2 * i + 1) t)).set (R.SLOT_STATUS_STATE i) 7).set (R.SPIN_CTRL_SETPOINT i) 0

/-- R54: the retirement entries of the ID memory retire the same elements again. -/
def State.retireAgain (i : Nat) (c : ModCopy) (s : State) : State :=
  s.forAll c.rets fun e t =>
    if e.kind = 1 then t.retireHead e.reason Ev.ELEMENT_RETIRED 0 0 0 0 (20 * i + e.index % 20)
    else if e.kind = 2 then t.retireActuator e.reason Ev.ELEMENT_RETIRED 0 0 0 0 (2 * i + e.index % 2)
    else if e.kind = 3 && t.get (R.SLOT_STATUS_STATE i) != 7 then t.retireHda e.reason Ev.ELEMENT_RETIRED 0 0 0 0 i
    else t

/-- The last laser threshold in the module area of a head, if one exists (R58 step 5). -/
def lastThreshold (c : Option ModCopy) (h : Nat) : Option Nat :=
  match c with
  | none => none
  | some x =>
    let t := tgetD h [] x.heads
    if tgetD 0 0 t = 0xA5 && trimField 400 2 t != 0 then some (trimField 400 2 t) else none

/-- A slot element starts afresh with an HDA: nothing retired, fenced or counted. -/
def State.freshElements (i : Nat) (s : State) : State :=
  { s with
    heads := s.heads.filter fun e => e.1 / 20 != i
    trims := s.trims.filter fun e => e.1 / 24 != i
    thm := { s.thm with
      sensors := s.thm.sensors.filter fun e => !(e.1 = 37 + 2 * i || e.1 = 38 + 2 * i)
      zones := tset (4 + i) ({ shutAt := (tgetD (4 + i) ({} : ThermZone) s.thm.zones).shutAt } : ThermZone) s.thm.zones }
    acts := s.acts.filter fun e => e.1 / 2 != i }.forAll [2 * i, 2 * i + 1] fun m t =>
      (((((t.set (R.ACT_STATUS_STATE m) 0).set (R.ACT_STATUS_REID_PENDING m) 0).resetPreamp m).unfence m .thermal).unfence m
        .calibration).unfence m .powerOff

/-- R56 steps 7 and 8: the measurements, their windows and what follows each failure; then the slot is ready, its HDA
takes its position (R255), and the set-point is written to Noon (R79). -/
def State.measureSlot (i : Nat) (hda : Hda) (meas : Meas) (s : State) : State :=
  let f := hda.factory
  let c := modInForce hda
  let s0 := (s.set (R.SLOT_STATUS_STATE i) 3).showMeas i f meas
  let kinds := (List.range 20).map fun h => sweepKind (Meas.sweep meas h)
  let other := if f.assistKind = 1 then 2 else 1
  let s1 := if phaseOk f meas then s0 else
    (s0.measFail i 1 0 (phaseBad f meas)).retireHda Ev.SLOT_MEAS_OUT_OF_WINDOW Ev.ELEMENT_RETIRED 0 0 0 0 i
  let s2 := s1.forAll [0, 1] fun a t =>
    if vcmOk f meas a then t
    else (t.measFail i 2 (10 * a) (if nearPct 15 (meas.vcmRes.getD a 0) (f.vcmRes.getD a 0) then meas.vcmInd.getD a 0
        else meas.vcmRes.getD a 0)).retireActuator Ev.SLOT_MEAS_OUT_OF_WINDOW
      Ev.ELEMENT_RETIRED 0 0 0 0 (2 * i + a)
  let s3 := s2.measHeads i 3 (fun h => !nearPct 20 (meas.upCap.getD h 0) (f.upCap.getD h 0)) (meas.upCap.getD · 0)
  let s4 := s3.measHeads i 4 (fun h => !nearPct 15 (meas.rdrRes.getD h 0) (f.rdrRes.getD h 0)) (meas.rdrRes.getD · 0)
  if 12 ≤ (kinds.filter (· = other)).length then s4.refuseSlot i Ev.ASSIST_KIND_MISMATCH
  else
    let s5 := s4.measHeads i 5 (fun h => kinds.getD h 0 = other || !assistOk f meas (lastThreshold c h) h)
      fun h => if f.assistKind = 1 then (Meas.sweep meas h).primary else (Meas.sweep meas h).secondary
    let bad6 := (List.range 20).filter fun h => !tdrOk meas h
    let bad7 := (List.range 20).filter fun h => tdrOk meas h && !loopOk f meas h
    if 4 ≤ bad6.length + bad7.length then
      (s5.forAll (bad6 ++ bad7) fun h t => t.measFail i (if bad6.contains h then 6 else 7) h
        (if bad6.contains h then meas.tdr.getD h 0 else meas.loop.getD h 0)).retireCable i
    else
      let s6 := (s5.measHeads i 6 (fun h => bad6.contains h) (meas.tdr.getD · 0)).measHeads i 7 (fun h => bad7.contains h)
        (meas.loop.getD · 0)
      let s7 := if (s6.slot i).cableRetired then
          (s6.setSlot i { s6.slot i with cableRetired := false }).releaseCable i
        else s6
      let s8 := s7.forAll (List.range 20) fun h t => (t.loadTrims (20 * i + h) f meas).loadComps (20 * i + h)
      let s9 := s8.forAll [2 * i, 2 * i + 1] fun m t => t.loadActTrims m meas
      if s9.get (R.SLOT_STATUS_STATE i) = 7 then s9.enterSp i Sp.stopped
      else
        let s10 := ((s9.set (R.SLOT_STATUS_STATE i) 4).drives i true).event Ev.SLOT_INSERTED (origin 1 i) 0 0 0 0
        (s10.assign i f.serial).setSetpoint i 2

/-- A foreign HDA at bring-up: the runs of its heads are emptied (R424) and every kind of calibration of it is due (R417). -/
def State.foreign (i : Nat) (s : State) : State :=
  let heads := (List.range 20).map fun h => 20 * i + h
  let all := ((List.range 5).flatMap fun k => heads.map fun g => (k, g, 0)) ++
    (heads.flatMap fun g => (List.range 32).map fun z => (5, g, z)) ++ [(6, 2 * i, 0), (6, 2 * i + 1, 0)]
  let new := all.filter fun d => (s.get R.CAL_CTRL_KIND_EN).testBit d.1 && !s.cal.due.contains d
  { s with cal := { s.cal with
      margins := s.cal.margins.map fun e => if e.1 / 640 = i then (e.1, { e.2 with run := 0, start := 0, above := 0 }) else e
      due := s.cal.due ++ new } }

/-- Bring-up of a slot from step 2 of R56. -/
def State.bringUp (i : Nat) (hda : Hda) (meas : Meas) (s : State) : State :=
  let s0 := s.freshElements i
  let s1 := ((s0.driveEn5 i 1).set (R.SLOT_STATUS_STATE i) 1).setSlot i
    { s0.slot i with hda := some hda, meas := some meas, offStep := 0, setLimit := 10, dutyCap := 100, dutyLogged := false }
  let s2 := s1.set (R.SLOT_STATUS_STATE i) 2
  if !hda.answers || !hda.factory.sound || !(hda.factory.assistKind = 1 || hda.factory.assistKind = 2) then
    s2.refuseSlot i Ev.SLOT_ID_INVALID
  else
    let s3 := s2.set (R.SLOT_STATUS_ASSIST_KIND i) (hda.factory.assistKind - 1)
    let s4 := match modInForce hda with
      | none => (s3.set (R.SLOT_STATUS_MODAREA_VALID i) 0).event Ev.ID_MODULE_AREA_LOST (origin 1 i) 0 0 0 0
      | some c =>
        let t := s3.set (R.SLOT_STATUS_MODAREA_VALID i) 1
        if c.writer = s.mySerial then t else (t.event Ev.HDA_FOREIGN (origin 1 i) 0 0 0 0).foreign i
    let s5 := s4.driveEn12 i 1
    let s6 := s5.forAll [0, 1] fun a t =>
      if meas.ident.getD a 0 = hda.factory.ident.getD a 0 then t
      else t.retireActuator Ev.PREAMP_ID_MISMATCH Ev.PREAMP_ID_MISMATCH 0 0 0 0 (2 * i + a)
    let s7 := s6.recallRetired i
    let s8 := match modInForce hda with | some c => s7.retireAgain i c | none => s7
    if s8.get (R.SLOT_STATUS_STATE i) = 7 then s8.enterSp i Sp.stopped else s8.measureSlot i hda meas

/-- SLOT_INSERTION (R55, R56, R59): PRESENT is set; the HDA is brought up unless ENABLE is 0 or the slot is retired; with its cable
path retired the slot shows STATE 7. -/
def slotInsertion (i : Nat) (hda : Hda) (meas : Meas) (s : State) : State :=
  if s.bit (R.SLOT_STATUS_PRESENT i) then s
  else
    let s1 := (s.set (R.SLOT_STATUS_PRESENT i) 1).setSlot i { s.slot i with hda := some hda, meas := some meas }
    if (s.slot i).cableRetired then s1.set (R.SLOT_STATUS_STATE i) 7
    else if s.bit (R.SLOT_CTRL_ENABLE i) && !(s.slot i).frontRetired then s1.bringUp i hda meas
    else s1

/-- The ledger entries held by the HDA of a slot are no longer active (R456). -/
def State.inactiveHda (i : Nat) (s : State) : State :=
  { s with ledger := s.ledger.map fun e =>
      if e.hdaHeld && e.active && ((e.kind = 1 && e.index = i) || (e.kind = 2 && e.index / 2 = i) ||
        (e.kind = 3 && e.index / 20 = i)) then { e with active := false } else e }

/-- SLOT_REMOVED (R55, R88): gates close, outputs go to high impedance, both rails drop, the spindle is STOPPED, the
event is recorded and the members are lost. -/
def slotRemoved (i : Nat) (s : State) : State :=
  if s.bit (R.SLOT_STATUS_PRESENT i) then
    let s1 := s.tearAll Torn.removal ((List.range 20).map fun h => 20 * i + h)
    let s2 := s1.forAll [2 * i, 2 * i + 1] fun m t =>
      let t1 := (t.endTransfer m).forAll ((headsOf m).filter t.following) (State.leave false)
      headsParked m ((t1.set (R.ACT_STATUS_STATE m) 5).masks m)
    let s2' := s2.setSpin i { s2.spin i with waiting := false }
    let s3 := ((s2'.drives i false).set (R.SPIN_CTRL_SETPOINT i) 0).enterSp i Sp.stopped
    let s4 := (((s3.driveEn12 i 0).driveEn5 i 0).set (R.SLOT_STATUS_PRESENT i) 0).set (R.SLOT_STATUS_STATE i)
      (if (s.slot i).cableRetired then 7 else 0)
    let s5 := s4.event Ev.SLOT_REMOVED (origin 1 i) 0 0 0 0
    let s6 := if (s.slot i).pos.isSome then (s5.loseMember (2 * i)).loseMember (2 * i + 1) else s5
    let s7 := s6.inactiveHda i
    (s7.setSlot i { s7.slot i with hda := none, meas := none, offStep := 0, pos := none }).replan 1
      ((s.slot i).pos.elim 0 (·.1))
  else s

/-- What a write of 1 to SLOT_CTRL.REBRING does (R56, R59): bring-up of a refused or cable-retired slot from step 2. -/
def State.rebring (i : Nat) (s : State) : State :=
  if s.get (R.SLOT_STATUS_STATE i) = 5 || (s.slot i).cableRetired then
    match (s.slot i).hda, (s.slot i).meas with
    | some h, some m => s.bringUp i h m
    | _, _ => s
  else s

/-! ## Power-off (R57) -/

/-- What a write of SLOT_CTRL.POWER_OFF does (R57): 1 starts the sequence, 0 after step 5 starts bring-up. -/
def State.powerOff (i v : Nat) (s : State) : State :=
  if v = 1 && (s.slot i).offStep = 0 &&
      (s.get (R.SLOT_STATUS_STATE i) = 4 || (s.get (R.SLOT_STATUS_STATE i) = 7 && s.bit (R.SLOT_STATUS_EN5 i))) then
    let s1 := (s.fence (2 * i) .powerOff).fence (2 * i + 1) .powerOff
    let s2 := (s1.unload false Torn.unload (2 * i)).unload false Torn.unload (2 * i + 1)
    (s2.setSlot i { s2.slot i with offStep := 2 }).setSetpoint i 0
  else if v = 0 && s.get (R.SLOT_STATUS_STATE i) = 6 then
    match (s.slot i).hda, (s.slot i).meas with
    | some h, some m => ((s.unfence (2 * i) .powerOff).unfence (2 * i + 1) .powerOff).bringUp i h m
    | _, _ => s
  else s

/-- POWER_OFF_SPINDLE_STOPPED (R57 steps 3 and 4). -/
def powerOffSpindleStopped (i : Nat) (s : State) : State :=
  if (s.slot i).offStep = 2 then
    let s1 := ((s.sleepPreamps i).driveEn12 i 0).drives i false
    s1.setSlot i { s1.slot i with offStep := 4 }
  else s

/-- POWER_OFF_EN5_TIMER (R57 step 5): SLOT_EN5 low, STATE off and the attention output on; or bring-up at once if
POWER_OFF holds 0. -/
def powerOffEn5Timer (i : Nat) (s : State) : State :=
  if (s.slot i).offStep = 4 then
    let s1 := (((s.driveEn5 i 0).set (R.SLOT_STATUS_STATE i) 6).set (R.SLOT_CTRL_ATTN i) 1).setSlot i
      { s.slot i with offStep := 0 }
    if s.bit (R.SLOT_CTRL_POWER_OFF i) then s1 else s1.powerOff i 0
  else s

/-! ## The preamp serial link (R46, R49) -/

/-- A link error of an actuator's link: counted, recorded and put to its channel, which may retire the actuator (R46,
R49, R451, R452). -/
def State.linkError (m : Nat) (s : State) : State :=
  let s1 := ((s.count (R.SLOT_PSER_DATA_LINK_ERRORS m) 1).event Ev.PREAMP_LINK_ERROR (origin 2 m) 0 0 0 0).chanCount 0 m false
  if s1.chanDue 0 m then
    (s1.chanPermanent 0 m (origin 2 m)).retireActuator Ev.CHANNEL_PERMANENT Ev.ELEMENT_RETIRED 0 0 0 0 m
  else s1

/-- The chunk an actuator transfers has not ended: a sector is in progress, or a head of a chunk write has blocks left (R49). -/
def State.chunkRuns (s : State) (m : Nat) : Bool :=
  (s.actu m).transferring && ((headsOf m).any s.inSector || ((s.actu m).writing &&
    match s.rowWritten m with
    | some row => (s.headSet m).any fun h => !(s.shareLeft (10 * m + h) row).isEmpty
    | none => true))

/-- Whether a write is held: its target head is in the concurrent set and the chunk has not ended (R49). -/
def State.pserHeld (s : State) (m a : Nat) : Bool :=
  s.chunkRuns m &&
    (if a = 2 || a = 3 then !(s.setOf m).isEmpty
     else if (0x10 ≤ a && a ≤ 0x19) || (0x20 ≤ a && a ≤ 0x29) || (0x30 ≤ a && a ≤ 0x39) then s.inSet (10 * m + a % 16)
     else false)

/-- What a write leaves in a preamp register (R47); FAULT of STATUS follows a change of FAULT_MASK. -/
def State.preampHolds (m a v : Nat) (s : State) : State :=
  let s1 := s.setPreamp m a v
  if a = 7 then s1.setPreamp m 1 (preampFault (s.preampReg m 1) v) else s1

/-- A preamp register as it is read: what has been measured, or the fault causes that have arisen, is held from then on (R47). -/
def State.preampSees (m a data : Nat) (s : State) : State :=
  if a = 6 || a = 8 then s.setPreamp m a data
  else if a = 1 then
    let st := s.preampReg m 1
    let chan := if st / 2 % 256 = 0 then data / 512 % 16 * 512 else st / 512 * 512
    s.setPreamp m 1 (preampFault (chan + (st % 512 ||| data % 512)) (s.preampReg m 7))
  else s

/-- A write frame with a bad CRC: the preamp ignores it, sets STATUS.CRC_ERR and counts it (R46, R47). -/
def State.preampBadFrame (m : Nat) (s : State) : State :=
  (s.setPreamp m 0x3F (min 0xFFFF (s.preampReg m 0x3F + 1))).setPreamp m 1 (preampFault (s.preampReg m 1 ||| 256) (s.preampReg m 7))

/-- The read frames of a register, once and again for each CRC failure up to three times (R46). -/
def State.sendReads (m a bad : Nat) (s : State) : State :=
  s.forAll (List.range (1 + min 3 bad)) fun _ t => t.send (.pser m (128 + a % 128))

/-- A transaction of a link ends: DONE once none waits behind it, FAILED, and a link error or a success of the link's channel (R46,
R49, R63). -/
def State.pserEnd (m : Nat) (bad : Bool) (s : State) : State :=
  let s1 := (s.setB (R.SLOT_PSER_CMD_DONE m) (tgetD m [] s.pser).isEmpty).setB (R.SLOT_PSER_CMD_FAILED m) bad
  if bad then s1.linkError m else s1.chanOk 0 m

/-- Run one transaction on a link: a read is repeated up to three times; a write is read back outside a transfer against what the
register should hold (R46, R47, R49). -/
def State.pserRun (m : Nat) (c : PserCmd) (run : LinkRun) (s : State) : State :=
  let a := c.addr % 128
  if c.dir = 1 then
    let s1 := (s.sendReads m a run.badReads).preampSees m a (run.data % 65536)
    if 4 ≤ run.badReads then s1.pserEnd m true
    else (s1.set (R.SLOT_PSER_DATA_RDATA m) (s1.preampReg m a)).pserEnd m false
  else
    let want := s.preampTakes m a c.wdata
    let s0 := s.send (.pser m (preampWriteFrame a c.wdata))
    let s1 := if run.badWrite then s0.preampBadFrame m else s0.preampHolds m a want
    if (s.actu m).transferring then s1.pserEnd m false
    else (s1.sendReads m a run.badReads).pserEnd m (4 ≤ run.badReads || s1.preampReg m a != want)

/-- Queue a transaction of an actuator's link; it runs at once unless it is held or waits behind a held one (R49). -/
def State.pserGo (m : Nat) (c : PserCmd) (run : LinkRun) (s : State) : State :=
  let q := tgetD m [] s.pser
  let s1 := s.set (R.SLOT_PSER_CMD_DONE m) 0
  if q.isEmpty && !(c.dir = 0 && s.pserHeld m c.addr) then s1.pserRun m c run
  else { s1 with pser := tset m (q ++ [c]) s1.pser }

/-- PSER_HELD_WRITE_APPLY (R49): the transaction at the front of the queue runs once nothing holds it. -/
def pserHeldWriteApply (m : Nat) (run : LinkRun) (s : State) : State :=
  match tgetD m [] s.pser with
  | c :: q =>
    if c.dir = 0 && s.pserHeld m c.addr then s
    else { s with pser := if q.isEmpty then tdel m s.pser else tset m q s.pser }.pserRun m c run
  | [] => s

/-! ## Preamp faults (R48, R452 kind 2) -/

/-- PSFLT_N_ASSERTED (R48): every write gate of the actuator closes and its sectors are torn; STATUS is read, recorded
with its cause bits and channel, and its W1C bits are cleared; the head named leaves the set (R100) and its channel of
R452 counts, at once permanent for an open or short. -/
def psfltNAsserted (m status : Nat) (s : State) : State :=
  let h := status / 512 % 16
  let g := 10 * m + h % 10
  let s1 := s.forAll ((headsOf m).filter fun x => s.gates.contains x) fun x t =>
    if x = g then t.tear Torn.preampFault false x else t.tearStay Torn.preampFault x
  let s2 := (s1.event Ev.PREAMP_FAULT (origin 2 m) (status % 512) h 0 0).setPreamp m 1 0
  let s3 := (s2.leave false g).masks m
  let s4 := s3.chanCount 2 g false
  if status / 2 % 16 != 0 || s4.chanDue 2 g then
    ((s4.chanPermanent 2 g (origin 3 g)).retireHead Ev.PREAMP_FAULT Ev.ELEMENT_RETIRED 0 0 0 0 g).masks m
  else s4

/-! ## Module area writes (R53, R452 kind 1) -/

/-- The retirement entries the module area should hold: the ledger's active HDA-held entries of the slot (R52, R53). -/
def State.idRets (s : State) (i : Nat) : List IdRet :=
  s.ledger.filterMap fun e =>
    if e.hdaHeld && e.active then
      if e.kind = 3 && e.index / 20 = i then some ⟨1, e.index % 20, e.reason, e.opSec, e.pcycle⟩
      else if e.kind = 2 && e.index / 2 = i then some ⟨2, e.index % 2, e.reason, e.opSec, e.pcycle⟩
      else if e.kind = 1 && e.index = i then some ⟨3, 0, e.reason, e.opSec, e.pcycle⟩
      else none
    else none

/-- The copy the module writes next: 0 copy A, 1 copy B: the one with the lower valid sequence number, or an invalid one (R53). -/
def olderCopy (h : Hda) : Nat := if !h.copyA.valid || (h.copyB.valid && h.copyA.seq < h.copyB.seq) then 0 else 1

/-- The sequence number the module writes next: the highest valid one plus one (R53). -/
def nextSeq (h : Hda) : Nat :=
  (match h.copyA.valid, h.copyB.valid with
    | true, true => max h.copyA.seq h.copyB.seq
    | true, false => h.copyA.seq
    | false, true => h.copyB.seq
    | false, false => 0) + 1

/-- The copy of the module area to be written: the one in force with the trims given, and the retirements of the HDA (R52, R53). -/
def nextCopy (h : Hda) (serial : List Nat) (opSec : Nat) (rets : List IdRet) (trims : Tbl Trim) : ModCopy :=
  let old : ModCopy := (modInForce h).getD ⟨true, 0, [], 0, [], [], [], []⟩
  let base := trims.foldl (fun (c : ModCopy) e =>
    if e.1 < 20 then { c with heads := tset e.1 e.2 c.heads }
    else if e.1 < 22 then { c with acts := tset (e.1 - 20) e.2 c.acts }
    else { c with spin := e.2 }) old
  { base with valid := true, seq := nextSeq h, writer := serial, opSec := opSec, rets := rets.take 64 }

/-- The HDA with a copy of its module area written, as bytes, to the older place (R53). -/
def withCopy (h : Hda) (c : ModCopy) : Hda := if olderCopy h = 0 then { h with areaA := copyBytes c } else { h with areaB := copyBytes c }

/-- MODULE_AREA_WRITE (R53): trims or retirements are written to the older copy, trims at most once per 60 s, a retirement without
them in between; `bad` is the number of failed tries. A fourth failure is an error of the slot's ID memory channel, whose
permanence stops the writes (R452). -/
def moduleAreaWrite (i bad : Nat) (s : State) : State :=
  match (s.slot i).hda with
  | none => s
  | some h =>
    let rets := s.idRets i
    let newRet := match modInForce h with | some c => c.rets != rets.take 64 | none => true
    let at0 := (s.slot i).trimWrittenAt
    let trimsDue := at0 = 0 || at0 + 60 ≤ s.opSec + 1
    if (s.slot i).idFailed || s.isCut || (!newRet && !trimsDue) then s
    else if 4 ≤ bad then
      let s1 := s.chanCount 1 i false
      if s1.chanDue 1 i then
        ((s1.chanPermanent 1 i (origin 1 i)).setSlot i { s1.slot i with idFailed := true }).event Ev.ID_MEMORY_FAILED
          (origin 1 i) 0 0 0 0
      else s1
    else
      let s1 := if bad = 0 then s.chanOk 1 i else s.chanCount 1 i true
      let mine := if trimsDue then (s.trims.filter fun e => e.1 / 24 = i).map fun e => (e.1 % 24, e.2) else []
      let s2 := if trimsDue then { s1 with trims := s1.trims.filter fun e => e.1 / 24 != i } else s1
      let c := nextCopy h s.mySerial s.opSec rets mine
      ((s2.setSlot i { s2.slot i with
        hda := some (withCopy h c), trimWrittenAt := if trimsDue then s.opSec + 1 else at0 }).set
        (R.SLOT_STATUS_MODAREA_VALID i) 1).send (.idWrite i (olderCopy h) (copyBytes c))

/-! ## The commands -/

def execSlotInsertion (i : Slot) (hda : Hda) (meas : Meas) (s : State) := act s (slotInsertion i.val hda meas)
def execSlotRemoved (i : Slot) (s : State) := act s (slotRemoved i.val)
def execPowerOffSpindleStopped (i : Slot) (s : State) := act s (powerOffSpindleStopped i.val)
def execPowerOffEn5Timer (i : Slot) (s : State) := act s (powerOffEn5Timer i.val)
def execPserHeldWriteApply (m : Member) (run : LinkRun) (s : State) := act s (pserHeldWriteApply m.val run)
def execPsfltNAsserted (m : Member) (status : Nat) (s : State) := act s (psfltNAsserted m.val status)
def execModuleAreaWrite (i : Slot) (bad : Nat) (s : State) := act s (moduleAreaWrite i.val bad)

end Sys2Proof.Machine
end

