-- ==== Sys2Proof/Machine/Decoder.lean ====
section
/-! DEFINITION. The decoder pool (ch06): entries and contexts, iterations and their ends, deferral, retention, recovery
reads, statistics, and the cores' faults and retirement. -/

namespace Sys2Proof.Machine

/-- Change the pool. -/
def State.modPool (f : Pool → Pool) (s : State) : State := { s with pool := f s.pool }

/-- A core's bit in a bitmap of DEC_CORE_EN, DEC_IN_SERVICE or DEC_RETIRED (R188). -/
def State.coreBit (s : State) (f : Nat → Fld) (c : Nat) : Bool := (s.get (f (c / 32))).testBit (c % 32)

/-- Cores in service: enabled, neither retired nor fenced, the decoder island running (R26). -/
def State.coreOk (s : State) (c : Nat) : Bool :=
  s.islandUp 51 && s.coreBit R.DEC_CORE_EN_EN c && !s.coreBit R.DEC_RETIRED_RETIRED c && !s.pool.fenced.contains c

/-- Number of cores in service. -/
def State.coreCount (s : State) : Nat := ((List.range 96).filter s.coreOk).length

/-- A sector is in the spill area (R170). -/
def PoolSt.spilled : PoolSt → Bool
  | .deferred _ => true
  | _ => false

/-- Soft-buffer entries allocated (R169). -/
def Pool.occupancy (p : Pool) : Nat := (p.sectors.filter fun e => !e.2.st.spilled).length

/-- Spill entries in use (R171). -/
def Pool.deferred (p : Pool) : Nat := (p.sectors.filter fun e => e.2.st.spilled).length

/-- Contexts of a core in use (R167). -/
def Pool.contexts (p : Pool) (c : Nat) : Nat := (p.sectors.filter fun e => e.2.st = .running c).length

/-- The package that holds a spill entry: 128 entries of 56 KiB in the 7 MiB of each (R171). -/
def spillPkg (entry : Nat) : Nat := entry / 128

/-- The lowest spill entry in no use whose package is in service (R171; log entry 83). -/
def State.spillEntry (s : State) : Option Nat :=
  (List.range 2048).find? fun e => !(s.pool.sectors.any fun x => x.2.st = .deferred e) && !s.cache.lost.contains (spillPkg e)

/-- The spill area has room and deferral is enabled (R169, R171). -/
def State.canDefer (s : State) : Bool := s.bit R.DEC_CTRL_DEFER_EN && s.spillEntry.isSome

/-- A spill transfer may begin within the 32 GB/s cap: an entry of 56 KiB takes 1,792 ns (R170; log entry 83). -/
def State.spillFree (s : State) : Bool := s.pool.spillAt ≤ 1000 * s.now

/-- A spill transfer begins. -/
def State.spillBegin (s : State) : State := { s with pool := { s.pool with spillAt := max s.pool.spillAt (1000 * s.now) + 1792 } }

/-- PRESSURE of DEC_STATUS (R169, R188). -/
def State.pressure (s : State) : Nat :=
  let o := s.pool.occupancy
  let deferring := s.get R.DEC_WATER_DEFER ≤ o && s.bit R.DEC_CTRL_DEFER_EN
  if o = 896 && !s.canDefer then 5
  else if s.get R.DEC_WATER_FLOOR ≤ o then (if deferring then 3 else 4)
  else if s.get R.DEC_WATER_LOW ≤ o then (if deferring then 2 else 1)
  else 0

/-- The budget in force of a class (R169, R172). -/
def State.budget (s : State) (c : Nat) : Nat :=
  let o := s.pool.occupancy
  let hi := s.get (R.DEC_CLASS_MAX_ITER c)
  let lo := s.get (R.DEC_CLASS_FLOOR_ITER c)
  let low := s.get R.DEC_WATER_LOW
  let floor := s.get R.DEC_WATER_FLOOR
  if o < low then hi
  else if o < floor then lo + (hi - lo) * (floor - o) / (floor - low)
  else lo

/-- The budget class of a read (R238): the volume's latency class for a foreground read, 3 for background work. -/
def State.readClass (s : State) (r : PoolReq) : Nat :=
  match r.vol with
  | some v => (match tget v.val s.vols with | some x => x.latency | none => 3)
  | none => 3

/-- The budget of a sector: the one a recovery read names, else its class's (R172, R173). -/
def State.sectorBudget (s : State) (x : PoolSector) : Nat := x.req.budget.getD (s.budget x.cls)

/-- The class a sector is scheduled in: a recovery read's is 0 (R173). -/
def PoolSector.sched (x : PoolSector) : Nat := if x.req.budget.isSome then 0 else x.cls

/-- HOLD of a class, µs (R172, R188). -/
def State.holdUs (s : State) (c : Nat) : Nat := 10 * s.get (R.DEC_CLASS_HOLD c)

/-! ## LLRs (R162, R178, R182) -/

/-- The sum of two sectors' LLRs, bit by bit (R178); the empty list is the sum of none. -/
def addLlrs (a b : List Int) : List Int := if a.isEmpty then b else List.zipWith (· + ·) a b

/-- LLRs as the pool holds them: saturated to ±31 (R162, R178). -/
def satLlrs (l : List Int) : List Int := l.map (clampI (-31) 31)

/-- The sum of the LLRs of retained handles (R178). -/
def Pool.handleSum (p : Pool) (hs : List Nat) : List Int :=
  hs.foldl (fun a h => match tget h p.retained with | some x => addLlrs a x.llrs | none => a) []

/-- y of R182 for every bit that is not erased, from the channel LLRs and the decoded bits. -/
def signedLlrs (l : List Int) (hard : BitVec 37120) : List Int :=
  l.zipIdx.filterMap fun e => if e.1 = 0 then none else some (if hard.getLsbD e.2 then -e.1 else e.1)

/-- Mean and variance of y over a sector in 1/256 LSB and 1/256 LSB² (R182), rounded half away from zero, a negative mean as
0 (log entry 12). -/
def llrMoments (y : List Int) : Nat × Nat :=
  let n := y.length
  let t := y.sum
  let q := (y.map fun v => v * v).sum
  if n = 0 then (0, 0) else ((roundAway (256 * t) n).toNat, (roundAway (256 * (n * q - t * t)) (n * n)).toNat)

/-! ## Retention (R177, R178) -/

/-- Keep a sector's LLRs: a full store gives up its least recently used entry. -/
def State.retain (x : PoolSector) (s : State) : State :=
  let p := s.pool
  let old := p.retained.foldl (fun (b : Option (Nat × Nat)) e =>
    match b with
    | none => some (e.1, e.2.lastUsed)
    | some (_, t) => if e.2.lastUsed < t then some (e.1, e.2.lastUsed) else b) none
  let full : Bool := 1024 ≤ p.retained.length
  let kept := if full then (match old with | some (k, _) => tdel k p.retained | none => p.retained) else p.retained
  let s1 := s.modPool fun p => { p with
    retained := tset p.nextHandle ⟨x.req, s.now, x.target, x.n, x.llrs⟩ kept
    nextHandle := p.nextHandle + 1 }
  if full then (s1.count R.DEC_SPILL_RETAIN_EVICT 1).event Ev.DEC_RETAIN_EVICT (origin 0 0) 0 0 0 0 else s1

/-- Release a retained handle (R177). -/
def State.releaseHandle (h : Nat) (s : State) : State := s.modPool fun p => { p with retained := tdel h p.retained }

/-- Mark retained handles as used now (R177). -/
def State.touchHandles (hs : List Nat) (s : State) : State :=
  s.modPool fun p => { p with retained := p.retained.map fun e => if hs.contains e.1 then (e.1, { e.2 with lastUsed := s.now }) else e }

/-! ## Ends (R175) -/

/-- A sector ends with one status, posted to the owning hob engine; its entry and context are freed and its LLRs kept
where the status says so (R175, R177). -/
def State.endSector (id : Nat) (x : PoolSector) (st : PoolStatus) (keep : Bool) (block : Option Sealed) (s : State) :
    State :=
  let handle := if keep then some s.pool.nextHandle else none
  let s1 := if keep then s.retain x else s
  s1.modPool fun p => { p with
    sectors := tdel id p.sectors
    posts := p.posts ++ [⟨id, x.req, st, x.iters, handle, block⟩] }

/-! ## Statistics (R180 to R182) -/

/-- Whether a sector is of the kind the statistics count: a first read, on track, within the erasure limit (R180). -/
def statRead (x : PoolSector) : Bool := x.req.budget.isNone && !x.offTrack && x.erased ≤ 4224

/-- Change both banks' statistics of a sector's head and recording zone. -/
def State.modStat (x : PoolSector) (f : DecStat → DecStat) (s : State) : State :=
  s.modPool fun p => { p with
    stats := [0, 1].foldl (fun t b =>
      let k := statKey b x.req.head.val x.req.zone.val
      tset k (f (tgetD k {} t)) t) p.stats }

/-- A sector counted in the histogram: converged, or ended BUDGET with the class maximum in force (R180 to R182). -/
def DecStat.add (bin iters mean var : Nat) (conv : Bool) (d : DecStat) : DecStat :=
  { d with
    counted := d.counted + 1
    converged := if conv then d.converged + 1 else d.converged
    iterSum := if conv then d.iterSum + iters else d.iterSum
    meanSum := if conv then d.meanSum + mean else d.meanSum
    varSum := if conv then d.varSum + var else d.varSum
    bins := tset bin (tgetD bin 0 d.bins + 1) d.bins }

/-- A bin's count as a snapshot shows it (R188). -/
def DecStat.shown (d : DecStat) (bin : Nat) : Nat := min (tgetD bin 0 d.bins) 0xFFFF

/-- The words a snapshot of the statistics shows in DEC_STAT_DATA: every count saturates (R188). -/
def DecStat.words (d : DecStat) : List Nat :=
  ([d.counted, d.iterSum, d.meanSum, d.varSum].map fun v => min v (2 ^ 32 - 1)) ++
    [d.headroom + 64 * d.snr + 65536 * min d.skipped 0xFFFF] ++
    ((List.range 5).map fun k => d.shown (2 * k + 2) + 65536 * d.shown (2 * k + 3))

/-- A sector ended HOLD, ABORTED or BUDGET under a lowered budget is counted in SKIPPED only (R180). -/
def State.skip (x : PoolSector) (s : State) : State := s.modStat x fun d => { d with skipped := d.skipped + 1 }

/-- A sector ends ABORTED (R175, R176, R179). -/
def State.abortSector (id : Nat) (x : PoolSector) (s : State) : State := (s.skip x).endSector id x .aborted false none

/-- The answer LATE to a cancel whose sector has ended (R176). -/
def State.answerLate (id : Nat) (s : State) : State :=
  if id < s.pool.nextId && (tget id s.pool.sectors).isNone then s.modPool fun p => { p with lates := p.lates ++ [id] } else s

/-! ## Cores (R183 to R187) -/

/-- The sectors in a core's contexts restart from zero iterations on another core (R185). -/
def State.restartSectors (c : Nat) (s : State) : State :=
  s.modPool fun p => { p with
    sectors := p.sectors.map fun e => if e.2.st = .running c then (e.1, { e.2 with st := .waiting, iters := 0 }) else e
    busy := tdel c p.busy }

/-- The bitmap of cores in service and FAILED follow the cores; losing the last records DEC_POOL_FAILED (R187, R188). -/
def State.coreRefresh (s : State) : State :=
  let word (i : Nat) := (List.range 32).foldl (fun w b => if s.coreOk (32 * i + b) then w + 2 ^ b else w) 0
  let s1 := s.forAll [0, 1, 2] fun i t => t.set (R.DEC_IN_SERVICE_LIVE i) (word i)
  if s.coreCount = 0 then
    if s.bit R.DEC_STATUS_FAILED then s1
    else (s1.set R.DEC_STATUS_FAILED 1).event Ev.DEC_POOL_FAILED (origin 0 0) 0 0 0 0
  else s1.set R.DEC_STATUS_FAILED 0

/-- A core retires for a reason (R185). -/
def State.retireCoreFor (reason c : Nat) (s : State) : State :=
  if s.coreBit R.DEC_RETIRED_RETIRED c then s
  else
    let f := R.DEC_RETIRED_RETIRED (c / 32)
    let s1 := s.set f (s.get f + 2 ^ (c % 32))
    let s2 := s1.modPool fun p => { p with fenced := delId c p.fenced }
    ((s2.restartSectors c).retire 5 c reason Ev.DEC_CORE_RETIRED false 0 0 0 0).coreRefresh

/-- A core retires by its counts or its known-answer tests (R185). -/
def State.retireCore (c : Nat) (s : State) : State := s.retireCoreFor Ev.DEC_CORE_RETIRED c

/-- Fence a core for logic self-test: its sectors restart (R184, R186). -/
def State.fenceCore (c : Nat) (s : State) : State :=
  ((s.modPool fun p => { p with fenced := addId c p.fenced }).restartSectors c).coreRefresh

/-- A SEAL_SUSPECT count of a core; the third within 1 h retires it (R183, R185). -/
def State.suspectCore (c : Nat) (s : State) : State :=
  let l := s.within 3600 (tgetD c [] s.pool.suspects)
  let s1 := s.modPool fun p => { p with suspects := tset c l p.suspects }
  if 3 ≤ l.length then s1.retireCore c else s1

/-! ## A package of the spill area is lost (R171) -/

/-- The deferred sectors whose LLRs lay in a package that is fenced or retired end SPILL_LOST; the event is recorded once with their
number. -/
def State.loseSpill (d : Nat) (s : State) : State :=
  let l := s.pool.sectors.filter fun e => match e.2.st with | .deferred n => spillPkg n = d | _ => false
  if l.isEmpty then s
  else (s.forAll l fun e t => (t.skip e.2).endSector e.1 e.2 .spillLost false none).event Ev.DEC_SPILL_LOST (origin 7 d) l.length 0 0 0

/-! ## Contexts and the iteration a core runs (R167) -/

/-- The sector a free core takes: of its contexts the one with fewest iterations done, then lower class, then earlier
arrival (R167). -/
def State.coreSector (s : State) (c : Nat) : Option (Nat × PoolSector) :=
  (s.pool.sectors.filter fun e => e.2.st = .running c).foldl (fun (b : Option (Nat × PoolSector)) e =>
    match b with
    | none => some e
    | some (_, x) =>
      if e.2.iters < x.iters || (e.2.iters = x.iters && (e.2.sched < x.sched ||
        (e.2.sched = x.sched && e.2.arrival < x.arrival))) then some e else b) none

/-- The sector whose iteration a core runs now. -/
def State.coreBusy (s : State) (c : Nat) : Option (Nat × PoolSector) :=
  (tget c s.pool.busy).bind fun id =>
    match tget id s.pool.sectors with
    | some x => if x.st = .running c then some (id, x) else none
    | none => none

/-- A core that runs no iteration begins the next one of its contexts (R167). -/
def State.beginIter (c : Nat) (s : State) : State :=
  if (s.coreBusy c).isSome then s
  else match s.coreSector c with
  | some (id, _) => s.modPool fun p => { p with busy := tset c id p.busy }
  | none => s.modPool fun p => { p with busy := tdel c p.busy }

/-- A sector goes into a free context of a core. -/
def State.toContext (id : Nat) (x : PoolSector) (c : Nat) (s : State) : State :=
  (s.modPool fun p => { p with sectors := tset id { x with st := .running c } p.sectors }).beginIter c

/-! ## Grants (R166 to R170, R174) -/

/-- A new sector of the pool: its class, and the sum of the handles it names (R178). -/
def State.newSector (s : State) (r : PoolReq) (st : PoolSt) : PoolSector :=
  { req := r, cls := s.readClass r, st := st, arrival := s.now, llrs := s.pool.handleSum r.handles }

/-- The oldest deferred sector returns while occupancy is below LOW, to a free context if there is one (R169, R170). -/
def State.resumeDeferred (s : State) : State :=
  if s.pool.occupancy < s.get R.DEC_WATER_LOW && s.spillFree then
    let old := (s.pool.sectors.filter fun e => e.2.st.spilled).foldl (fun (b : Option (Nat × PoolSector)) e =>
      match b with
      | none => some e
      | some (_, x) => if e.2.arrival < x.arrival then some e else b) none
    match old with
    | some (id, x) =>
      (match (List.range 96).find? fun c => s.coreOk c && s.pool.contexts c < 4 && x.cross != some c with
      | some c => s.spillBegin.toContext id x c
      | none => s)
    | none => s
  else s

/-- No entry is granted to a head: the sector and the rest of its chunk wait until it passes again (R174, R187). -/
def State.noGrant (g : Nat) (pl : Place) (s : State) : State :=
  ((s.setHead g { s.head g with held := some pl }).count R.DEC_COUNT_BACKPRESSURE 1).event Ev.DEC_BACKPRESSURE (origin 3 g) 0 0 0 0

/-- A head refused an entry reads no other sector of that chunk (R174). -/
def HeadSt.waits (h : HeadSt) (pl : Place) : Bool :=
  match h.held with
  | some p => p.row = pl.row && p.col = pl.col && p.block != pl.block
  | none => false

/-- No core is in service, or no entry is free (R169, R174, R187). -/
def State.poolFull (s : State) : Bool := s.coreCount = 0 || 896 ≤ s.pool.occupancy

/-- DEC_GRANT (R174): an entry is granted to the head, or its remaining sectors are held to the next revolution. A head out of the set
reads no sector: the block is left unread until it rejoins (R102). -/
def decGrant (r : PoolReq) (s0 : State) : State :=
  let g := r.head.val
  let others := (s0.head g).unread.filter fun p => p != r.place
  let s := s0.setHead g { s0.head g with unread := if s0.inSet g then others else others ++ [r.place] }
  if !s.inSet g || (s.head g).waits r.place || s.reading g then s
  else if s.poolFull then s.noGrant g r.place
  else
    ((s.setHead g { s.head g with held := none }).modPool fun p => { p with
      sectors := tset p.nextId (s.newSector r .granted) p.sectors
      nextId := p.nextId + 1 }).resumeDeferred

/-- Whether one waiting sector is assigned before another (R168): one that has waited 50 µs first, then by class, then by
arrival. -/
def beforeWaiting (now : Nat) (a b : PoolSector) : Bool :=
  let la := a.arrival + 50 ≤ now
  let lb := b.arrival + 50 ≤ now
  if la && lb then a.arrival < b.arrival
  else if la != lb then la
  else a.sched < b.sched || (a.sched = b.sched && a.arrival < b.arrival)

/-- CONTEXT_ASSIGN (R168): a free context of a core takes the waiting sector at the head of the order; a sector decoded
again for its seal goes to a different core (R183). -/
def contextAssign (c : Nat) (s : State) : State :=
  if s.coreOk c && s.pool.contexts c < 4 then
    let ws := s.pool.sectors.filter fun e => e.2.st = .waiting && e.2.cross != some c
    let best := ws.foldl (fun (b : Option (Nat × PoolSector)) e =>
      match b with
      | none => some e
      | some (_, x) => if beforeWaiting s.now e.2 x then some e else b) none
    match best with
    | some (id, x) => s.toContext id x c
    | none => s
  else s

/-- R262: whether a block's seal is the one expected of its row. -/
def sealGood (e : Expect) (row : Nat) (x : Sealed) : Bool :=
  x.row = row && x.q = e.q && x.parity = e.parity &&
    (if row / 2 ^ 31 % 2 = 1 then (e.gen + 2 ^ 24 - x.gen % 2 ^ 24) % 2 ^ 24 < 2 ^ 23
     else x.gen = e.gen) &&
    (x.parity || x.pi.guard = blockGuard x.data)

/-- R262: whether a decoded block's seal is the one expected of its place. -/
def sealPasses (r : PoolReq) (x : Sealed) : Bool := sealGood r.expect r.place.row x

/-- Count a sector-iteration in DEC_ITERATIONS, whose unit is 65,536 (R188). -/
def State.countIter (s : State) : State :=
  if s.pool.iterRem = 65535 then (s.modPool fun p => { p with iterRem := 0 }).count R.DEC_ITERATIONS_TOTAL 1
  else s.modPool fun p => { p with iterRem := p.iterRem + 1 }

/-- A sector at an iteration end that is not the last, decided by its first condition of R175's table that applies: `none`
while it goes on. `again` says whether it satisfies every check and waits for its cross-check, so that it is not deferred. -/
def State.endsNow (s : State) (x : PoolSector) (again : Bool) : Option PoolStatus :=
  if x.cancel then some .aborted
  else if s.holdUs x.cls + x.arrival ≤ s.now then some .hold
  else if !again && s.get R.DEC_WATER_DEFER ≤ s.pool.occupancy && s.get R.DEC_CTRL_DEFER_AT ≤ x.iters && s.canDefer && s.spillFree
  then none
  else if s.sectorBudget x ≤ x.iters then some .budget
  else none

/-- A sector ends ABORTED, HOLD or BUDGET at an iteration end, with its counts (R175, R180). -/
def State.endAt (id : Nat) (x : PoolSector) (st : PoolStatus) (s : State) : State :=
  match st with
  | .aborted => s.abortSector id x
  | .hold => ((s.skip x).count R.DEC_ENDS_HOLD 1).endSector id x .hold true none
  | _ =>
    let full := s.budget x.cls = s.get (R.DEC_CLASS_MAX_ITER x.cls)
    let s1 := if x.req.budget.isSome then s
      else if full then (if statRead x then s.modStat x (DecStat.add 12 x.iters 0 0 false) else s)
      else s.skip x
    (s1.count R.DEC_ENDS_BUDGET 1).endSector id x .budget true none

/-- A sector goes to the spill area (R170). -/
def State.defer (id : Nat) (x : PoolSector) (s : State) : State :=
  match s.spillEntry with
  | some e =>
    (s.spillBegin.modPool fun p => { p with sectors := tset id { x with st := .deferred e } p.sectors }).count
      R.DEC_COUNT_DEFERRALS 1
  | none => s

/-- GLOBAL_ITERATION_END (R163, R164, R175, R183): the checks, the descrambling and the seal of the hard decisions; the sector
converges, ends with a status, is decoded again on another core, is deferred or continues, and the core goes on. -/
def globalIterationEnd (c : Nat) (r : IterEnd) (s : State) : State :=
  if r.eccBad then s.retireCore c
  else match s.coreBusy c with
  | none => s
  | some (id, x0) =>
    let x := { x0 with iters := x0.iters + 1 }
    let s1 := s.countIter.modPool fun p => { p with sectors := tset id x p.sectors, busy := tdel c p.busy }
    let block := decoded r.hard x.target x.n
    let passes := match block with | some b => sealPasses x.req b | none => false
    let s' :=
      if passes then
        let s2 := match x.cross with | some c1 => s1.suspectCore c1 | none => s1
        let m := llrMoments (signedLlrs x.llrs r.hard)
        let s3 := if statRead x then s2.modStat x (DecStat.add (iterBin x.iters) x.iters m.1 m.2 true) else s2
        ((s3.count R.DEC_CONVERGED_SECTORS 1).endSector id x .converged false block).when x.cancel (State.answerLate id)
      else match block.isSome, x.cross with
      | true, some c1 =>
        (((s1.count R.DEC_ENDS_SEAL 1).event Ev.DEC_SEAL_MISMATCH (origin 3 x.req.head.val) c1 c x.req.place.row
          x.req.place.block).endSector id x .sealBad true none).when x.cancel (State.answerLate id)
      | again, _ =>
        match s1.endsNow x again with
        | some st => s1.endAt id x st
        | none =>
          if again then s1.modPool fun p => { p with
            sectors := tset id { x with st := .waiting, iters := 0, cross := some c } p.sectors }
          else if s1.get R.DEC_WATER_DEFER ≤ s1.pool.occupancy && s1.get R.DEC_CTRL_DEFER_AT ≤ x.iters && s1.canDefer &&
              s1.spillFree then s1.defer id x
          else s1
    (s'.beginIter c).resumeDeferred

/-- DEFERRED_HOLD_EXPIRY (R175): a deferred sector whose HOLD expires ends HOLD at once, its LLRs retained. -/
def deferredHoldExpiry (id : Nat) (s : State) : State :=
  match tget id s.pool.sectors with
  | some x => if x.st.spilled then s.endAt id x .hold else s
  | none => s

/-- DEC_CANCEL (R176): ABORTED at once before the first iteration, else at its iteration end; LATE after the end. -/
def decCancel (id : Nat) (s : State) : State :=
  match tget id s.pool.sectors with
  | some x =>
    match x.st with
    | .running c =>
      if x.iters = 0 && !(s.coreBusy c).any (·.1 = id) then s.abortSector id x
      else s.modPool fun p => { p with sectors := tset id { x with cancel := true } p.sectors }
    | _ => s.abortSector id x
  | none => s.answerLate id

/-- Where the stored LLRs of a read with no new read come from: the sector of its first handle. -/
def State.storedSector (s : State) (r : PoolReq) : PoolSector :=
  let x := s.newSector r .waiting
  let y := match r.handles.head?.bind fun h => tget h s.pool.retained with | some e => (e.target, e.n) | none => (0, 0)
  { x with target := y.1, n := y.2, llrs := satLlrs x.llrs }

/-- RECOVERY_READ_SUBMIT (R173, R178): a recovery read with a budget of 1 to 40 and up to 7 retained handles, scheduled as
class 0; with no new read the stored LLRs are decoded again. -/
def recoveryReadSubmit (r : PoolReq) (newRead : Bool) (s : State) : State :=
  let b := r.budget.getD 0
  let ok := 1 ≤ b && b ≤ 40 && r.handles.length ≤ 7 && r.handles.all (fun h => (tget h s.pool.retained).isSome) &&
    (newRead || !r.handles.isEmpty)
  if !ok || (newRead && (s.head r.head.val).waits r.place) then s
  else if s.poolFull then (if newRead then s.noGrant r.head.val r.place else s)
  else
    ((s.touchHandles r.handles).when newRead fun t => t.setHead r.head.val { t.head r.head.val with held := none }).modPool fun p =>
      { p with
        sectors := tset p.nextId (if newRead then s.newSector r .granted else s.storedSector r) p.sectors
        nextId := p.nextId + 1 }

/-- RETENTION_TIMEOUT (R177): a handle unused for 2 s is released. -/
def retentionTimeout (h : Nat) (s : State) : State := s.releaseHandle h

/-- KAT_TIMER (R184): a failed known-answer test is repeated once; a second consecutive failure fences the core. -/
def katTimer (c : Nat) (first second : Bool) (s : State) : State :=
  if s.coreOk c && s.pool.contexts c < 4 then
    if first then s
    else
      let fails := if second then 1 else 2
      let s1 := s.modPool fun p => { p with katFails := tset c (min 255 (tgetD c 0 p.katFails + fails)) p.katFails }
      if second then s1 else s1.fenceCore c
  else s

/-- Every sector in the pool and every deferred sector ends ABORTED (R179). -/
def State.abortPool (s : State) : State := s.forAll s.pool.sectors fun e t => t.abortSector e.1 e.2

/-- What a written DEC_CORE_EN does (R188): sectors of cores taken out of service restart. -/
def State.coreEnWritten (s : State) : State :=
  (s.forAll ((List.range 96).filter fun c => !s.coreOk c) State.restartSectors).coreRefresh

/-- What a written DEC_STAT_SEL does (R188): the snapshot of one head and recording zone, then the clear. -/
def State.statSelected (p : Path) (clear : Bool) (s : State) : State :=
  let g := s.get R.DEC_STAT_SEL_G
  let rz := s.get R.DEC_STAT_SEL_RZONE
  let k := statKey (s.get R.DEC_STAT_SEL_BANK) g rz
  let d := tgetD k {} s.pool.stats
  let s1 := (s.capture p (A.DEC_STAT_DATA 0) d.words).capture p A.DEC_STAT_BUDGET
    [d.shown 12 + 65536 * d.shown 1]
  if clear then s1.modPool fun q => { q with stats := tdel k q.stats } else s1

/-! ## The commands -/

def execDecGrant (r : PoolReq) (s : State) := act s (decGrant r)
def execContextAssign (c : Core) (s : State) := act s (contextAssign c.val)
def execGlobalIterationEnd (c : Core) (r : IterEnd) (s : State) := act s (globalIterationEnd c.val r)
def execDeferredHoldExpiry (id : Nat) (s : State) := act s (deferredHoldExpiry id)
def execDecCancel (id : Nat) (s : State) := act s (decCancel id)
def execRetentionTimeout (h : Nat) (s : State) := act s (retentionTimeout h)
/-- RETAIN_RELEASE (R177): the hob engine releases a handle. -/
def execRetainRelease (h : Nat) (s : State) := act s (State.releaseHandle h)
def execKatTimer (c : Core) (a b : Bool) (s : State) := act s (katTimer c.val a b)

end Sys2Proof.Machine
end

