-- ==== Sys2Proof/Machine/Channel.lean ====
section
/-! DEFINITION. The read and write channel (ch05): the adaptive loops, defects and erasures, framing of a sector read, the write
path with its gate conditions, assist control, and what follows when a head leaves a chunk transfer (R101, R215, R216). -/

namespace Sys2Proof.Machine

/-! ## Recording zone and trims of a head -/

/-- Data cylinders N of the HDA of a head (R51). -/
def State.cylinders (s : State) (g : Nat) : Nat := match (s.slot (g / 20)).hda with | some h => h.factory.cyl | none => 0

/-- The head's recording zone on its present target (R127). -/
def State.zoneOf (s : State) (g : Nat) : Nat := recZone ((s.actu (g / 10)).target / 1024) (s.cylinders g)

/-- Density tier of the head's present track (R130): conventional where the member is in no group. -/
def State.tierOf (s : State) (g : Nat) : Nat :=
  match s.ixOf (g / 10) with
  | some (gr, q) => (s.store gr q).tierAt ((s.actu (g / 10)).target / 1024)
  | none => 5

/-- R135: the boost in force in a recording zone: base boost plus the cable term, at most 15 dB. -/
def State.boostOf (s : State) (g z : Nat) : Nat :=
  let base := s.headField g (224 + 3 * z + 1) 1 % 16
  min 15 (base + roundDiv (2 * s.get (R.HEAD_CABLE_LEN_MM g) * zoneBits z * 640 * 120) 1000000000000)

/-- A head comes to a recording zone and tier: at a change of zone the boost, the cutoff and the zone default of the gain
are set, and the assist set-point has to be written again (R135, R139, R153, R154). -/
def State.enterZone (g : Nat) (s : State) : State :=
  let z := s.zoneOf g
  let s1 := s.set (R.HEAD_CH_STATUS_TIER g) (s.tierOf g)
  if s.get (R.HEAD_CH_STATUS_ZONE g) = z then s1
  else
    ((((s1.set (R.HEAD_CH_STATUS_ZONE g) z).set (R.HEAD_AFE_TRIM_CTF_BOOST g) (s.boostOf g z)).set
      (R.HEAD_AFE_TRIM_CTF_CUT g) (s.headField g (224 + 3 * z + 1) 1 / 16)).set (R.HEAD_CH_STATUS_VGA g)
      (s.headField g (224 + 3 * z) 1)).setHead g { s.head g with assistSet := false }

/-! ## What a sector read passes (R133, R138) -/

/-- The bits a sector read passes in each data fragment: 256 bit periods before the first, a resume field before each other. -/
def readRuns (frags : List (Nat × Nat × Nat)) : List Nat := frags.zipIdx.map fun e => e.1.2.2 + if e.2 = 0 then 256 else 64

/-- A list cut into runs of given lengths. -/
def cutRuns {α : Type} : List Nat → List α → List (List α)
  | [], _ => []
  | n :: ns, l => l.take n :: cutRuns ns (l.drop n)

/-- The runs of a sector without what stands before its first bit. -/
def dropLead {α : Type} : List (List α) → List (List α)
  | [] => []
  | a :: t => a.drop 256 :: t

/-- The runs of a sector without its resume fields, joined: its bits in order from 256 before its start. -/
def joinBits {α : Type} : List (List α) → List α
  | [] => []
  | a :: t => a ++ t.flatMap (·.drop 64)

/-- n entries of a list from a place on, filled up where the list ends. -/
def sliceD {α : Type} (l : List α) (first n : Nat) (d : α) : List α :=
  let x := (l.drop first).take n
  x ++ List.replicate (n - x.length) d

/-- The entries of a sector's codeword bits, c[0] first, with D1 and D2 at servo-timed bits d1 and d2 (R131, R145). -/
def codeEntries {α : Type} (l : List α) (d1 d2 : Int) (d : α) : List α :=
  sliceD l (256 + d1).toNat 1024 d ++ sliceD l (256 + d2).toNat 36096 d

/-! ## Defects (R141, R142) -/

/-- Bits of a data fragment within a defect: `on` judges the window that begins at a bit, given the bit before it, and says what the
end is judged against; `off` tells the window at whose first bit the defect ends. -/
def defectBits {α κ : Type} (on : Option α → List α → Option κ) (off : κ → List α → Bool) :
    Option κ → Option α → List α → List Bool
  | _, _, [] => []
  | none, prev, a :: t =>
    match on prev (a :: t) with
    | some k => true :: defectBits on off (some k) (some a) t
    | none => false :: defectBits on off none (some a) t
  | some k, _, a :: t =>
    if off k (a :: t) then false :: defectBits on off none (some a) t else true :: defectBits on off (some k) (some a) t

/-- A window of n entries, if so many are left. -/
def window {α : Type} (n : Nat) (l : List α) : Option (List α) := if n ≤ l.length then some (l.take n) else none

/-- Sum of magnitudes. -/
def magSum (l : List Int) : Nat := (l.map fun v => v.natAbs).sum

/-- Drop-out (R141): the mean |FIR output| over 16 bits below 40 % of the tracked amplitude, until it is at or above 60 %. -/
def dropOut (amp : Nat) : List Int → List Bool :=
  defectBits (fun _ l => (window 16 l).bind fun w => if 10 * magSum w < 64 * amp then some () else none)
    (fun _ l => (window 16 l).any fun w => 96 * amp ≤ 10 * magSum w) none none

/-- Thermal asperity (R141): the baseline estimate, in 1/8 LSB, moves by 8 LSB within 32 bits, until it stays within 2 LSB of its
value before onset for 64 bits. -/
def asperity : List Int → List Bool :=
  defectBits (fun prev l => match l with
      | a :: _ => if (l.take 32).any fun b => 64 ≤ (b - a).natAbs then some (prev.getD a) else none
      | [] => none)
    (fun k l => (window 64 l).any fun w => w.all fun b => (b - k).natAbs ≤ 16) none none

/-- ADC saturation (R141): 4 samples at code 0 or 63, until 16 lie within 1 to 62. -/
def saturation : List Nat → List Bool :=
  let out (c : Nat) : Bool := c = 0 || c = 63
  defectBits (fun _ l => (window 4 l).bind fun w => if w.all out then some () else none)
    (fun _ l => (window 16 l).any fun w => w.all fun c => !out c) none none

/-- The defects of a sector by data fragment, resume fields included: each detector restarts at each fragment (R141). -/
def defectMarks (runs : List Nat) (o : ReadObs) : List (List Bool) :=
  let f := (dropLead (cutRuns runs o.fir)).map (dropOut o.amp)
  let b := (dropLead (cutRuns runs o.baseline)).map asperity
  let a := (dropLead (cutRuns runs o.samples)).map saturation
  List.zipWith (List.zipWith (· || ·)) (List.zipWith (List.zipWith (· || ·)) f b) a

/-- Spans of marked bits. -/
def spans : Bool → List Bool → Nat
  | _, [] => 0
  | p, b :: t => (if b && !p then 1 else 0) + spans b t

/-! ## The loops (R139, R140) -/

/-- FIR weights of a recording zone, 1/64: those of the anchor zones of R420, interpolated linearly between them (DEDUCED, log entry
85). -/
def State.firDefault (s : State) (g z : Nat) : List Int :=
  let an := [0, 4, 9, 13, 18, 22, 27, 31]
  let i := (an.filter (· ≤ z)).length - 1
  let a := an.getD i 0
  let b := an.getD (i + 1) 31
  (List.range 10).map fun t =>
    let w (k : Nat) : Int := ofBits 8 (s.headField g (320 + 10 * k + t) 1)
    if a = z then w i else roundAway (w i * ((b : Int) - a) + (w (i + 1) - w i) * ((z : Int) - a)) (b - a)

/-- Zone defaults of a head's loops beside the VGA code (R139); the timing phase is acquired. -/
def State.zoneLoops (s : State) (g z : Nat) (phase : Int) : LoopVals :=
  { baseline := 0, asym := ofBits 8 (s.headField g (224 + 3 * z + 2) 1), phase := phase, freq := 0, taps := s.firDefault g z }

/-- The loops at a sector's end (R139, R140): LOOP_MODE as it stood at the sector's start; a held timing loop advances its phase at
its frequency over the sector's bits; HELD while a hold is in force, which ends 64 bits after a defect. -/
def State.endLoops (g : Nat) (o : ReadObs) (hold : Bool) (s : State) : State :=
  let mode := s.get (R.HEAD_CH_CTRL_LOOP_MODE g)
  let z := s.get (R.HEAD_CH_STATUS_ZONE g)
  let h := s.head g
  let loops := if mode = 0 then o.loops
    else if mode = 1 then { h.loops with phase := (h.loops.phase + h.loops.freq * o.samples.length) % 64 }
    else s.zoneLoops g z o.loops.phase
  let s1 := (s.setB (R.HEAD_CH_STATUS_HELD g) (mode != 0 || hold)).setHead g
    { h with loopMode := mode, loops := loops, ring := o.samples.take 40960 }
  if mode = 0 then s1.set (R.HEAD_CH_STATUS_VGA g) o.vga
  else if mode = 1 then s1
  else s1.set (R.HEAD_CH_STATUS_VGA g) (s.headField g (224 + 3 * z) 1)

/-! ## Framing (R143 to R146) -/

/-- How many of the 32 bits at a servo-timed position differ from a sync mark, on hard decisions that begin 256 bits before the
sector's start (R143, R144). -/
def markErrs (mark : Nat) (hard : List Bool) (pos : Nat) : Nat :=
  let l := (hard.drop (256 + pos)).take 32
  32 - l.length + (l.zipIdx.filter fun e => e.1 != mark.testBit (31 - e.2)).length

/-- Differing bits of SM1 at bits 128 to 160, and of SM2 at bits 1,180 to 1,220. -/
def sm1Errs (hard : List Bool) : List Nat := (List.range 33).map fun i => markErrs sm1Mark hard (128 + i)
def sm2Errs (hard : List Bool) : List Nat := (List.range 41).map fun i => markErrs sm2Mark hard (1180 + i)

/-- R143: the first position of the window whose differing bits are within the limit. -/
def findSm1 (maxErr : Nat) (d : List Nat) : Option Nat :=
  ((List.range (min d.length 33)).find? fun i => d.getD i 33 ≤ maxErr).map (128 + ·)

/-- R144: the positions with the fewest differing bits nearest bit 1,200; none when they exceed the limit. -/
def findSm2 (maxErr : Nat) (d : List Nat) : List Nat :=
  let n := min d.length 41
  let best := (List.range n).foldl (fun b i => min b (d.getD i 33)) 33
  if n = 0 || maxErr < best then []
  else
    let at_ := (List.range n).filter fun i => d.getD i 33 = best
    let far (i : Nat) : Nat := if i ≤ 20 then 20 - i else i - 20
    let near := at_.foldl (fun b i => min b (far i)) 99
    (at_.filter fun i => far i = near).map (1180 + ·)

/-- How a sector is framed (R145, R146): LAST_FRAME, which counter rises, and whether LLRs are passed. -/
inductive FrameKind where
  | sm1 | xcheck | sm2Miss | sm1Miss | fail | sm2Only
  deriving DecidableEq, Repr

/-- R145, R146: the framing from what the two searches found. Of two positions of SM2 that are equally near, the one
taken is not stated (log entry 1). -/
def frameOf (only : Bool) (sm1 sm2 : Option Nat) : FrameKind :=
  if only then .sm2Only
  else match sm1, sm2 with
    | some a, some b => if b = a + 1056 then .sm1 else .xcheck
    | some _, none => .sm2Miss
    | none, some _ => .sm1Miss
    | none, none => .fail

/-- LAST_FRAME of a framing (R145, R146). Framed on SM1 with SM2 not found it is 0, as in the other framing on SM1: the table gives
that row no value (DESIGN CHOICE, log entry 84). -/
def FrameKind.last : FrameKind → Nat
  | .sm1 => 0
  | .xcheck => 1
  | .sm2Miss => 0
  | .sm1Miss => 1
  | .fail => 3
  | .sm2Only => 2

/-- Servo-timed bits at which D1 and D2 start (R145, R146): framed on SM1, or on SM2, whose servo-timed position serves
where SM2_ONLY finds none. Under SM2_ONLY, D1 is shifted with D2: R146 states D2's start only (DESIGN CHOICE, log entry 84). -/
def FrameKind.starts (k : FrameKind) (sm1 sm2 : Option Nat) (shift : Int) : Int × Int :=
  let on1 : Int × Int := ((sm1.getD 144 : Nat) + 32, (sm1.getD 144 : Nat) + 1088)
  let p2 : Int := (sm2.getD 1200 : Nat)
  match k with
  | .sm1 => on1
  | .sm2Miss => on1
  | .fail => on1
  | .xcheck => (p2 - 1024, p2 + 32)
  | .sm1Miss => (p2 - 1024, p2 + 32)
  | .sm2Only => (p2 - 1024 + shift, p2 + 32 + shift)

/-- LAST_FRAME and the head's frame counters (R145, R146). -/
def State.countFrame (g : Nat) (k : FrameKind) (s : State) : State :=
  match k with
  | .sm1 => s.set (R.HEAD_CH_STATUS_LAST_FRAME g) 0
  | .xcheck => (s.set (R.HEAD_CH_STATUS_LAST_FRAME g) 1).count (R.HEAD_FRAME_COUNT_XCHECK_REFRAME g) 1
  | .sm2Miss => (s.set (R.HEAD_CH_STATUS_LAST_FRAME g) 0).count (R.HEAD_FRAME_COUNT_SM2_MISS g) 1
  | .sm1Miss => (s.set (R.HEAD_CH_STATUS_LAST_FRAME g) 1).count (R.HEAD_FRAME_COUNT_SM1_MISS_REFRAME g) 1
  | .fail => (s.set (R.HEAD_CH_STATUS_LAST_FRAME g) 3).count (R.HEAD_FRAME_COUNT_FRAME_FAIL g) 1
  | .sm2Only => s.set (R.HEAD_CH_STATUS_LAST_FRAME g) 2

/-- The pool's entry granted for the sector a head reads now (R174): of several, the one whose block lies at the sector. -/
def State.grantedFor (s : State) (g n : Nat) : Option (Nat × PoolSector) :=
  let mine := s.pool.sectors.filter fun e => e.2.st = .granted && e.2.req.head.val = g
  match mine with
  | [] => none
  | [e] => some e
  | e :: _ => some ((mine.find? fun e => s.position e.2.req.place = some (g, (s.actu (g / 10)).target, n)).getD e)

/-- A granted entry whose sector could not be read is free again, and the block is left unread (R102, log entry 85). -/
def State.missGrant (g n : Nat) (s : State) : State :=
  match s.grantedFor g n with
  | some (id, x) =>
    let t := s.modPool fun p => { p with sectors := tdel id p.sectors }
    if x.req.budget.isSome then t else t.setHead g { s.head g with unread := (s.head g).unread ++ [x.req.place] }
  | none => s

/-- LLRs of a sector's codeword bits as they go to the pool: what the soft front detector gives at the framing's places, 0 for an
erased bit (R137, R142, R162). -/
def sectorLlrs (runs : List Nat) (o : ReadObs) (d1 d2 : Int) (erased : List Bool) : List Int :=
  List.zipWith (fun (e : Bool) v => if e then 0 else clampI (-31) 31 v) erased
    (codeEntries (joinBits (cutRuns runs o.soft)) d1 d2 0)

/-- The codeword bits of a sector within a defect (R142). -/
def erasedBits (marks : List (List Bool)) (d1 d2 : Int) : List Bool :=
  codeEntries (List.replicate 256 false ++ joinBits marks) d1 d2 false

/-- What the channel gives the pool for a sector (R137): the count of erased bits, the off-track flag, the count of saturated samples,
the frame kind, and the LLRs summed with those of the handles a recovery read names (R178). -/
def State.readEntry (s : State) (g target n : Nat) (k : FrameKind) (at_ : Int × Int) (runs : List Nat) (o : ReadObs)
    (erased : List Bool) (x : PoolSector) : PoolSector :=
  { x with
    st := .waiting, arrival := s.now, erased := erased.count true, offTrack := (s.head g).offTrack
    saturated := ((dropLead (cutRuns runs o.samples)).map fun l => (l.filter fun c => c = 0 || c = 63).length).sum
    frame := k.last, d1 := at_.1, d2 := at_.2, target := target, n := n
    llrs := satLlrs (addLlrs x.llrs (sectorLlrs runs o at_.1 at_.2 erased)) }

/-- A head may pass a sector it was granted (R78, R102, R147): its actuator is FOLLOWING in read mode, the speed is in the window,
the slot's engine runs, and the sector is one of the track. A head that left the set since the grant still ends the sector. -/
def State.readsNow (s : State) (g n : Nat) : Bool :=
  s.get (R.ACT_STATUS_STATE (g / 10)) = 4 && !(s.actu (g / 10)).writing && s.bit (R.SPIN_STATUS_IN_WINDOW (g / 20)) &&
    s.ownerUp (g / 20) && n < sectorsPerTrack (s.get (R.HEAD_CH_STATUS_ZONE g))

/-- SECTOR_READ (R129 to R146, R175): a head passes a granted sector; it is framed, its defects are counted and erased, and its LLRs
go to the pool's entry, or none do and its status is posted. -/
def sectorRead (g n : Nat) (o : ReadObs) (s0 : State) : State :=
  match s0.grantedFor g n with
  | none => s0
  | some (id, x) =>
    let s := s0.enterZone g
    let z := s.get (R.HEAD_CH_STATUS_ZONE g)
    if s.readsNow g n then
      let runs := readRuns (sectorFrags z n)
      let only := s.bit (R.HEAD_CH_CTRL_SM2_ONLY g)
      let c2 := findSm2 (s.get (R.HEAD_CH_CTRL_SM2_MAXERR g)) (sm2Errs o.hard)
      let two := 2 ≤ c2.length
      let p2 := if two then c2[s.freeNat 2]? else c2[0]?
      let p1 := findSm1 (s.get (R.HEAD_CH_CTRL_SM1_MAXERR g)) (sm1Errs o.hard)
      let k := frameOf only p1 p2
      let at_ := k.starts p1 p2 (s.getI (R.HEAD_CH_CTRL_FRAME_SHIFT g))
      let marks := defectMarks runs o
      let erased := if s.bit (R.HEAD_CH_CTRL_ERASE_DEFECTS g) then erasedBits marks at_.1 at_.2 else List.replicate 37120 false
      let s1 := ((if two then s.bump else s).countFrame g k).endLoops g o ((marks.getLastD []).reverse.take 64 |>.any (· = true))
      let s2 := s1.count (R.HEAD_DEFECT_COUNT_DEFECT_SPANS g) (marks.map (spans false)).sum
      let y := s.readEntry g (s.actu (g / 10)).target n k at_ runs o erased x
      let tooMany := 4224 < y.erased
      let s3 := if tooMany then s2.count (R.HEAD_DEFECT_COUNT_ERASURE_LIMIT g) 1 else s2
      let s4 := if k = .fail then s3.endSector id { y with llrs := x.llrs } .frame false none
        else if tooMany then (s3.count R.DEC_ENDS_ERASURE 1).endSector id y .erasure true none
        else s3.modPool fun p => { p with sectors := tset id y p.sectors }
      s4.sectorBoundary g
    else s.missGrant g n

/-! ## Writing (R147 to R152) -/

/-- The wedges that split a sector of a recording zone (R133). -/
def sectorSplits (z n : Nat) : Nat := (sectorFrags z n).length - 1

/-- Delay of a tap above tap 0 in 1/560 ps: the calibrated anchors are taps 8i + 7, the others are interpolated (R150,
R420). -/
def State.tapDelay (s : State) (g k : Nat) : Int :=
  let a (i : Nat) : Int := s.headField g (182 + 2 * i) 2
  if k ≤ 7 then a 0 * (8 * k) else 56 * a ((k - 7) / 8) + 7 * ((k - 7) % 8 : Nat) * (a ((k - 7) / 8 + 1) - a ((k - 7) / 8))

/-- Channel rate of a recording zone at the measured speed, in 1/600 Hz (R92, R128). -/
def State.rate600 (s : State) (g z : Nat) : Nat := zoneBits z * 640 * s.get (R.SPIN_SPEED_SPEED (g / 20))

/-- A precompensation code at a recording zone (R150). -/
def precompAt (outer inner z : Nat) : Nat := (roundAway ((outer : Int) * 31 + ((inner : Int) - outer) * z) 31).toNat

/-- How the edges of a head's sector are launched, by the transitions at bits n−1 and n−2 (R149, R150). -/
def State.edges (s : State) (g : Nat) : List (Nat × Bool × Nat) :=
  let z := s.get (R.HEAD_CH_STATUS_ZONE g)
  let rate := s.rate600 g z
  let pc1 := precompAt (s.get (R.HEAD_WRITE_TIMING_PC1_OUTER g)) (s.get (R.HEAD_WRITE_TIMING_PC1_INNER g)) z
  let pc2 := precompAt (s.get (R.HEAD_WRITE_TIMING_PC2_OUTER g)) (s.get (R.HEAD_WRITE_TIMING_PC2_INNER g)) z
  let mask := s.headField g 162 20
  [0, pc2, pc1, pc1 + pc2].map fun e =>
    let (adv, fall, need) := edgeDelay (s.get (R.HEAD_WRITE_TIMING_LAUNCH_PS g)) rate e
    (adv, fall, nearestTap (fun k => mask.testBit k) (s.tapDelay g) rate
      (if fall then need - (s.head g).fallEdge * 64 * rate else need))

/-- The bits launched in each data fragment of a sector: its part of the sector's 37,376, after the resume field in every fragment but
the first (R133). -/
def launchRuns (bits : BitVec 37376) (frags : List (Nat × Nat × Nat)) : List (Nat × Nat × Nat) :=
  (frags.foldl (fun (acc : List (Nat × Nat × Nat) × Nat) f =>
    let part := bits.toNat / 2 ^ acc.2 % 2 ^ f.2.2
    (acc.1 ++ [if acc.2 = 0 then (f.1, f.2.1, part) else (f.1, f.2.1 - 64, preambleBits 16 + part * 2 ^ 64)], acc.2 + f.2.2))
    ([], 0)).1

/-- What the front-end launches for a sealed block (R149). -/
def State.launch (s : State) (g target n : Nat) (block : Sealed) : Out :=
  let bits := sectorBits (codeword block target n)
  .sector g target n bits (launchRuns bits (sectorFrags (s.get (R.HEAD_CH_STATUS_ZONE g)) n)) (s.edges g)

/-- The conditions of R151 under which a write gate opens at a sector start: those of a resume field, the speed window, the duty cap, a
full FIFO; no sector starts while the supply is not NORMAL (R396), nor on a head that leaves at this boundary (R98). -/
def State.gateOpens (s : State) (g : Nat) : Bool :=
  s.gateResumes g && s.bit (R.SPIN_STATUS_IN_WINDOW (g / 20)) && s.get R.PWR_STATUS_SUPPLY = 0 && !s.isCut &&
    !(s.head g).capped && (s.head g).fifoFull && !(s.head g).leaving

/-- A sector is the one a stopped chunk write goes on at (R32, R41). -/
def HeadSt.resumes (h : HeadSt) (row n : Nat) : Bool :=
  match h.stop with
  | some (r, k) => r != row || k = n
  | none => true

/-- A head starts a sector of a row's chunk: its first one of the row begins its share (R101, R214), and so does the first one of a
reissued write, which goes on from the start of the chunk (R32). -/
def HeadSt.starts (h : HeadSt) (row n : Nat) : HeadSt :=
  if h.chunk.any (·.1 = row) then { h with stop := none, wrote := if h.stop.isSome && h.stop = h.chunk then 0 else h.wrote } else { h with stop := none, chunk := some (row, n), wrote := 0 }

/-- Background ladders on the sector a gate opens on end as abandoned (R201). -/
def State.abandonAt (g target n : Nat) (s : State) : State :=
  let hit := s.recs.filter fun e => e.2.bg && s.position e.2.place = some (g, target, n)
  (s.forAll hit fun e t => { t with recs := tdel e.1 t.recs }.count R.REC_BG_BG_ABANDONED 1)

/-- At a sector start the head's previous sector, if its last fragment is behind it, has been written. -/
def State.lastSector (g : Nat) (s : State) : State :=
  match (s.head g).sector with
  | some (_, _, 0) => s.sectorWritten g
  | _ => s

/-- SECTOR_WRITE (R147 to R151, R156): at a sector start the gate opens if every condition holds; the block is scrambled,
encoded, precompensated and launched. A head at its duty cap starts no sector until the next window; a chunk write that stopped goes
on at the sector where it did (R32, R41). -/
def sectorWrite (g n : Nat) (block : Sealed) (duty : Nat) (s0 : State) : State :=
  let m := g / 10
  let s1 := (s0.lastSector g).enterZone g
  let z := s1.get (R.HEAD_CH_STATUS_ZONE g)
  let cap := (s1.slot (g / 20)).dutyCap
  if (s1.actu m).writing && n < sectorsPerTrack z && (s1.head g).sector.isNone && (s1.head g).resumes block.row n then
    let s := s1.setHead g { s1.head g with fifoFull := true }
    if cap < 100 && cap ≤ duty then
      let t := s.setHead g { s.head g with capped := true }
      if (s.slot (g / 20)).dutyLogged then t
      else (t.setSlot (g / 20) { t.slot (g / 20) with dutyLogged := true }).event Ev.ASSIST_DUTY_LIMITED (origin 3 g)
        0 0 0 0
    else if s.gateOpens g then
      let target := (s.actu m).target
      let s2 := (s.abandonAt g target n).send (s1.launch g target n block)
      { s2.setHead g { (s2.head g).starts block.row n with sector := some (target, n, sectorSplits z n) } with
        gates := addId g s2.gates }
    else s
  else s0

/-- WRITE_FIFO_EMPTY (R41): the front-end stops at the end of the sector in progress and goes on at the next sector of the chunk on
the next revolution. -/
def writeFifoEmpty (g : Nat) (s : State) : State :=
  let h := s.head g
  if (s.actu (g / 10)).writing && s.get (R.ACT_STATUS_STATE (g / 10)) = 4 then
    let next := match h.chunk, h.sector with
      | some (row, _), some (_, n, _) => some (row, (n + 1) % max 1 (sectorsPerTrack (s.get (R.HEAD_CH_STATUS_ZONE g))))
      | _, _ => h.stop
    (s.setHead g { h with fifoFull := false, stop := next }).event Ev.WRITE_FIFO_UNDERRUN (origin 3 g) 0 0 0 0
  else s

/-! ## Assist (R153 to R156) -/

/-- T0 of the latest assist characteristic measurement, 0.125 °C (R153): kind 3's, or bring-up's. -/
def State.assistT0 (s : State) (g : Nat) : Int :=
  match (s.head g).assistT0 with
  | some t => t
  | none => match (s.slot (g / 20)).meas with | some m => m.temp * 8 / 10 | none => 0

/-- I_th0, T0 (0.125 °C), k_T and the offsets of zones 0 and 31 of a laser head, 0.01 mA (R153). -/
def State.laser (s : State) (g : Nat) : Int × Int × Int × Int × Int :=
  let i : Int := s.get (R.HEAD_MEAS_ASSIST_PRIMARY g)
  match s.headTrim g with
  | some t => (i, s.assistT0 g, trimField 404 2 t, ofBits 16 (trimField 406 2 t), ofBits 16 (trimField 408 2 t))
  | none => (i, s.assistT0 g, 600, roundAway i 10, roundAway i 10)

/-- Estimated threshold or nominal bias and set-point of a head at a preamp temperature, 0.01 mA (R153, R154). -/
def State.assistPoint (s : State) (g : Nat) (temp : Int) : Int × Int :=
  let c := match (s.slot (g / 20)).hda with
    | some h => h.factory.assist.getD (g % 20) ⟨0, 0, 0, 0⟩
    | none => ⟨0, 0, 0, 0⟩
  if s.get (R.SLOT_STATUS_ASSIST_KIND (g / 20)) = 0 then
    let (i0, t0, kt, a, b) := s.laser g
    let ith := roundAway (i0 * (800000 + kt * (temp - t0))) 800000
    let z : Int := s.get (R.HEAD_CH_STATUS_ZONE g)
    (ith, ith + roundAway (a * 31 + (b - a) * z) 31)
  else
    let scale : Int := match s.headTrim g with | some t => trimField 410 2 t | none => 4096
    (c.a, roundAway ((c.a : Int) * scale) 4096)

/-- Factory maximum assist current of a head, 0.01 mA (R51, R155). -/
def State.assistMax (s : State) (g : Nat) : Int :=
  match (s.slot (g / 20)).hda with
  | some h =>
    let c := h.factory.assist.getD (g % 20) ⟨0, 0, 0, 0⟩
    if h.factory.assistKind = 1 then c.d else c.c
  | none => 0

/-- ASSIST_SETPOINT_REWRITE (R153 to R155): the set-point is written while the pair is idle and read back, at a change of
recording zone or when a laser's preamp temperature has moved by 1 °C; a set-point above the factory maximum is limited
to it. -/
def assistSetpointRewrite (g : Nat) (temp : Int) (s : State) : State :=
  let h := s.head g
  let laser := s.get (R.SLOT_STATUS_ASSIST_KIND (g / 20)) = 0
  if !s.gates.contains g && s.get (R.SLOT_STATUS_STATE (g / 20)) = 4 &&
      (!h.assistSet || (laser && 8 ≤ mag (temp - h.assistTemp))) then
    let (ith, sp) := s.assistPoint g temp
    let hi := s.assistMax g
    let at_ := hi < sp
    let v := (clampI 0 8190 (min sp hi) / 2).toNat
    let s1 := ((s.set (R.HEAD_ASSIST_SETPOINT g) v).set (R.HEAD_ASSIST_ITH_EST g) (clampI 0 8190 ith / 2).toNat).setB
      (R.HEAD_ASSIST_AT_MAX g) at_
    let s2 := (((s1.setPreamp (g / 10) (0x30 + g % 10) v).send (.pser (g / 10) (preampWriteFrame (0x30 + g % 10) v))).send
      (.pser (g / 10) (128 + 0x30 + g % 10))).setHead g { h with assistSet := true, assistTemp := temp }
    if at_ then s2.event Ev.ASSIST_AT_MAX (origin 3 g) 0 0 0 0 else s2
  else s

/-- ASSIST_DUTY_WINDOW (R156): a 10 ms window ends; DUTY shows each head's share, and the heads held at the cap may start
sectors again. -/
def assistDutyWindow (m : Nat) (duty : List Nat) (s : State) : State :=
  s.forAll (headsOf m) fun g t =>
    (t.set (R.HEAD_ASSIST_DUTY g) (min 100 (duty.getD (g % 10) 0))).setHead g { t.head g with capped := false }

/-! ## Departed heads (R101, R215, R216) -/

/-- HEAD_REJOIN_BOUND (R101, R215, R216): a head that left the set during the write of a chunk has not rejoined within
55 ms plus a revolution: the blocks of its share it has not written, in sector order, are dealt to the heads still in the set, and
the rest is reported unwritten. -/
def headRejoinBound (g row col : Nat) (s : State) : State :=
  let m := g / 10
  if !s.inSet g && (s.actu m).writing && (s.actu m).transferring && s.colOf m row = some col then
    let heads := s.headSet m
    let dst := heads.filter fun h => s.inSet (10 * m + h)
    let r := dealBlocks heads dst (s.shareLeft g row) 0 (tgetD (32 * row + col) [] s.excs)
    let s1 := s.setHead g { s.head g with chunk := some (row, ((s.head g).chunk.getD (row, 0)).2), wrote := 256 }
    (s1.setException row col r.1).reportBlocks row col r.2
  else s

/-! ## The commands -/

def execSectorWrite (g : GHead) (n : Nat) (b : Sealed) (duty : Nat) (s : State) := act s (sectorWrite g.val n b duty)
def execWriteFifoEmpty (g : GHead) (s : State) := act s (writeFifoEmpty g.val)
def execAssistSetpointRewrite (g : GHead) (temp : Int) (s : State) := act s (assistSetpointRewrite g.val temp)
def execAssistDutyWindow (m : Member) (duty : List Nat) (s : State) := act s (assistDutyWindow m.val duty)
def execHeadRejoinBound (m : Member) (h : Head) (row col : Nat) (s : State) := act s (headRejoinBound (10 * m.val + h.val) row col)

end Sys2Proof.Machine
end

