-- ==== Sys2Proof/Machine/Ageing.lean ====
section
/-! DEFINITION. Zone margin and re-planning (R423 to R425), and head ageing after an assist calibration (R422). -/

namespace Sys2Proof.Machine

def State.age (s : State) (g : Nat) : Age := tgetD g {} s.cal.ages
def State.setAge (g : Nat) (x : Age) (s : State) : State := { s with cal := { s.cal with ages := tset g x s.cal.ages } }
def State.margin (s : State) (g rz : Nat) : Margin := tgetD (32 * g + rz) {} s.cal.margins
def State.setMargin (g rz : Nat) (x : Margin) (s : State) : State :=
  { s with cal := { s.cal with margins := tset (32 * g + rz) x s.cal.margins } }

/-! ## Declaring zones for re-plan (R251, R425) -/

/-- Shingled zones of a member index in a recording zone, ascending. -/
def State.zonesIn (s : State) (g q rz : Nat) : List Nat :=
  let st := s.store g q
  (List.range (zoneCount st.n st.share)).filter fun z =>
    match zoneAt st.n st.share z with
    | some (_, _, r) => r = rz
    | none => false

/-- The zone set a zone belongs to (R217). -/
def State.setOfZone (s : State) (g q z : Nat) : Option (Nat × ZoneSet) :=
  s.zsets.find? fun e => e.2.group = g && e.2.cols.contains (q, z)

/-- Whether a zone belongs to a zone set that is EVACUATING. -/
def State.evacuates (s : State) (g q z : Nat) : Bool := (s.setOfZone g q z).any fun e => e.2.st = .evacuating

/-- A re-plan batch is not complete: a zone of the recording zone is still declared (R425). -/
def State.batchOpen (s : State) (g q rz : Nat) : Bool :=
  (s.zonesIn g q rz).any fun z => (tgetD z {} (s.store g q).zones).replan

/-- The next batch (R425): zones at the highest tier present in the recording zone, neither EVACUATING nor retired. -/
def State.batch (s : State) (g q rz : Nat) : List Nat :=
  let st := s.store g q
  let zr (z : Nat) : ZoneRec := tgetD z {} st.zones
  let live := (s.zonesIn g q rz).filter fun z => (zr z).tier != 7 && !(zr z).replan && !s.evacuates g q z
  let best := live.foldl (fun t z => min t (zr z).tier) 7
  (live.filter fun z => (zr z).tier = best).take (s.get R.AGE_LIMITS_REPLAN_BATCH)

/-- A zone with no live chunk is lowered one tier, or retired at the lowest (R251 step 4). -/
def State.lowerZone (g q z : Nat) (s : State) : State :=
  let st := s.store g q
  let zr : ZoneRec := tgetD z {} st.zones
  let org := origin 2 ((s.memberOfIx g q).getD 0)
  let put (t : Nat) : State := s.setStore g q { st with zones := tset z ⟨t, false⟩ st.zones } |>.putHeader g q
  if 4 ≤ zr.tier then (put 7).event Ev.ZONE_RETIRED org 0 0 0 0 else (put (zr.tier + 1)).event Ev.ZONE_REPLANNED org 0 0 0 0

/-- A zone lowered for a recording zone of a member counts for the heads under re-plan there. -/
def State.countLowered (m rz : Nat) (s : State) : State :=
  s.forAll (headsOf m) fun h t =>
    let x := t.margin h rz
    if x.replanning then t.setMargin h rz { x with lowered := min 65535 (x.lowered + 1) } else t

/-- A zone is declared (R251 steps 1 and 2): its set is closed and EVACUATING; an empty zone is lowered at once. -/
def State.declareZone (m g q rz z : Nat) (s : State) : State :=
  let st := s.store g q
  let zr : ZoneRec := tgetD z {} st.zones
  match s.setOfZone g q z with
  | none => (s.lowerZone g q z).countLowered m rz
  | some (k, x) =>
    let s1 := s.setStore g q { st with zones := tset z { zr with replan := true } st.zones }
    { s1 with zsets := tset k { x with st := .evacuating } s1.zsets }.zsetRecord k

/-- A batch is declared for a head and recording zone (R425). -/
def State.declareBatch (h rz : Nat) (s : State) : State :=
  let m := h / 10
  match s.ixOf m with
  | none => s
  | some (g, q) =>
    let zs := s.batch g q rz
    if s.batchOpen g q rz || zs.isEmpty then s
    else
      let s1 := s.setMargin h rz { s.margin h rz with replanning := true }
      ((s1.forAll zs fun z => State.declareZone m g q rz z).count R.AGE_COUNT_BATCHES 1).event Ev.MARGIN_REPLAN
        (origin 3 h) h rz zs.length 0

/-- A re-plan whose run is empty ends once no zone of it is left (R425). -/
def State.endReplans (m : Nat) (s : State) : State :=
  match s.ixOf m with
  | none => s
  | some (g, q) =>
    s.forAll (s.cal.margins.filter fun e => e.1 / 32 / 10 = m && e.2.replanning && e.2.run = 0) fun e t =>
      if t.batchOpen g q (e.1 % 32) then t else t.setMargin (e.1 / 32) (e.1 % 32) { e.2 with replanning := false }

/-! ## Margin measurements (R423, R424) -/

/-- A margin measurement of a head and recording zone from bank 0 (R423), its run (R424) and what it declares (R425). -/
def State.measureMargin (g rz : Nat) (s : State) : State :=
  let d := tgetD (statKey 0 g rz) {} s.pool.stats
  if d.counted < 1024 then s
  else
    let s1 := s.modPool fun p => { p with stats := tdel (statKey 0 g rz) p.stats }
    let x : Margin := { s.margin g rz with headroom := d.headroom, snr := d.snr }
    if d.headroom ≤ s.get R.AGE_CTRL_HEADROOM_FLOOR || d.snr < s.get R.AGE_CTRL_SNR_FLOOR then
      let y : Margin := { x with run := min 255 (x.run + 1), start := if x.run = 0 then s.opSec else x.start, above := 0 }
      let s2 := (s1.setMargin g rz y).setAge g { s1.age g with mark := true }
      let s3 := if x.run = 0 then s2.event Ev.HEAD_MARGIN_LOW (origin 3 g) 0 0 0 0 else s2
      if 3 ≤ y.run && y.start + 3600 * s.get R.AGE_CTRL_QUALIFY_H ≤ s.opSec then s3.declareBatch g rz else s3
    else
      let y : Margin := { x with run := 0, start := 0, above := x.above + 1 }
      let a := s1.age g
      let s2 := (s1.setMargin g rz y).setAge g (if 2 ≤ y.above then { a with mark := false } else a)
      s2.endReplans (g / 10)

/-! ## Ageing (R422) -/

/-- Rounded change of a value from a baseline, %; 0 with no baseline. -/
def changePct (base now : Int) : Int := if base = 0 then 0 else (if base < 0 then -1 else 1) * roundAway (100 * (now - base)) base.natAbs

/-- The flag a change leaves: set at or above the limit, cleared below the limit less a margin. -/
def flagged (old : Bool) (change limit back : Nat) : Bool := if limit ≤ change then true else if change + back < limit then false else old

/-- R422: the assist element and the reader against the head's baselines, after an applied calibration of kind 3. A laser's
rise counts; an STO's change, and a reader's, count either way. -/
def State.judgeAge (g : Nat) (laser : Bool) (assist reader : Int) (s : State) : State :=
  let a := s.age g
  let ac := if laser then assist.toNat else assist.natAbs
  let af := flagged a.assistFlag ac (s.get R.AGE_LIMITS_ASSIST_FLAG) 5
  let rf := flagged a.readerFlag reader.natAbs (s.get R.AGE_LIMITS_READER_FLAG) 3
  let s1 := s.setAge g { a with assist := assist, reader := reader, assistFlag := af, readerFlag := rf }
  let s2 := if (af && !a.assistFlag) || (rf && !a.readerFlag) then s1.event Ev.HEAD_AGEING (origin 3 g) 0 0 0 0 else s1
  if s.get R.AGE_LIMITS_ASSIST_RETIRE ≤ ac || s.get R.AGE_LIMITS_READER_RETIRE ≤ reader.natAbs then
    s2.retireHead Ev.HEAD_AGEING_RETIRED Ev.HEAD_AGEING_RETIRED 0 0 0 0 g
  else s2

def execMarginMeasurement (g : GHead) (rz : RZone) (s : State) := act s (State.measureMargin g.val rz.val)

end Sys2Proof.Machine
end

