-- ==== Sys2Proof/Machine/Crypto.lean ====
section
/-! DEFINITION. XTS-AES-256 of IEEE 1619, which R314 and R315 name: encryption of a 4,096-byte data unit, and the key check
value (log entry 20). -/

namespace Sys2Proof.Machine

/-- Multiplication by x in the AES field. -/
def aesX (a : Nat) : Nat := if a < 128 then 2 * a else Nat.xor (2 * a % 256) 0x1B
/-- Product in the AES field. -/
def aesMul (a b : Nat) : Nat :=
  ((List.range 8).foldl (fun (acc : Nat × Nat) i =>
    (if b.testBit i then Nat.xor acc.1 acc.2 else acc.1, aesX acc.2)) (0, a % 256)).1
/-- a²⁵⁴: the inverse in the AES field, 0 for 0. -/
def aesInv (a : Nat) : Nat :=
  let a2 := aesMul a a
  let a4 := aesMul a2 a2
  let a8 := aesMul a4 a4
  let a16 := aesMul a8 a8
  let a32 := aesMul a16 a16
  let a64 := aesMul a32 a32
  let a128 := aesMul a64 a64
  aesMul a2 (aesMul a4 (aesMul a8 (aesMul a16 (aesMul a32 (aesMul a64 a128)))))
/-- Rotation of a byte to the left. -/
def rotByte (a n : Nat) : Nat := (a * 2 ^ n % 256) + a / 2 ^ (8 - n)
/-- The S-box. -/
def aesSub (a : Nat) : Nat :=
  let b := aesInv (a % 256)
  [1, 2, 3, 4].foldl (fun x n => Nat.xor x (rotByte b n)) (Nat.xor b 0x63)
/-- The inverse S-box. -/
def aesSubInv (a : Nat) : Nat :=
  let a := a % 256
  aesInv (Nat.xor (Nat.xor (rotByte a 1) (rotByte a 3)) (Nat.xor (rotByte a 6) 0x05))

/-- Exclusive-or of byte lists. -/
def xorBytes (a b : List Nat) : List Nat := (a.zip b).map fun x => Nat.xor x.1 x.2

/-- The 60 words of the AES-256 key schedule. -/
def aesSchedule (key : List Nat) : List (List Nat) :=
  (List.range 52).foldl (fun w n =>
    let i := n + 8
    let t := w.getD (i - 1) []
    let t' := if i % 8 = 0 then
        xorBytes ((t.drop 1 ++ t.take 1).map aesSub) [[1, 2, 4, 8, 16, 32, 64].getD (i / 8 - 1) 0, 0, 0, 0]
      else if i % 8 = 4 then t.map aesSub
      else t
    w ++ [xorBytes (w.getD (i - 8) []) t'])
    ((List.range 8).map fun i => (key.drop (4 * i)).take 4)

/-- Round key r, 16 bytes. -/
def roundKey (w : List (List Nat)) (r : Nat) : List Nat := (List.range 4).flatMap fun c => w.getD (4 * r + c) []

/-- ShiftRows of a 16-byte state in column order; `dir` is 1, or 3 for its inverse. -/
def shiftRows (dir : Nat) (s : List Nat) : List Nat :=
  (List.range 16).map fun i => s.getD ((4 * (i / 4 + dir * (i % 4)) + i % 4) % 16) 0

/-- A column multiplied by the circulant of four coefficients. -/
def mixColumns (c0 c1 c2 c3 : Nat) (s : List Nat) : List Nat :=
  (List.range 16).map fun i =>
    let b (k : Nat) := s.getD (4 * (i / 4) + (i + k) % 4) 0
    Nat.xor (Nat.xor (aesMul (b 0) c0) (aesMul (b 1) c1)) (Nat.xor (aesMul (b 2) c2) (aesMul (b 3) c3))

/-- AES-256 encryption of 16 bytes under a key schedule. -/
def aesEnc (w : List (List Nat)) (p : List Nat) : List Nat :=
  let s := (List.range 13).foldl (fun s r =>
    xorBytes (mixColumns 2 3 1 1 (shiftRows 1 (s.map aesSub))) (roundKey w (r + 1))) (xorBytes p (roundKey w 0))
  xorBytes (shiftRows 1 (s.map aesSub)) (roundKey w 14)

/-- AES-256 decryption of 16 bytes under a key schedule. -/
def aesDec (w : List (List Nat)) (c : List Nat) : List Nat :=
  let s := (List.range 13).foldl (fun s n =>
    mixColumns 14 11 13 9 (xorBytes ((shiftRows 3 s).map aesSubInv) (roundKey w (13 - n)))) (xorBytes c (roundKey w 14))
  xorBytes ((shiftRows 3 s).map aesSubInv) (roundKey w 0)

/-- The tweak multiplied by α: 16 little-endian bytes. -/
def tweakNext (t : Nat) : Nat := let d := 2 * t; if d < 2 ^ 128 then d else Nat.xor (d % 2 ^ 128) 0x87

/-- XTS over the 256 units of 16 bytes of a block, with the block cipher given (R314). -/
def xtsRun (f : List Nat → List Nat) (tweak : Nat) (b : Block) : Block :=
  BitVec.ofNat 32768 (((List.range 256).foldl (fun (acc : Nat × Nat) j =>
    let p := leBytes 16 (b.toNat >>> (128 * j))
    let t := leBytes 16 acc.2
    (acc.1 + leVal (xorBytes (f (xorBytes p t)) t) * 2 ^ (128 * j), tweakNext acc.2)) (0, tweak)).1)

/-- Schedules of Key1 and Key2 of a 64-byte key (R314). -/
def xtsKeys (key : BitVec 512) : List (List Nat) × List (List Nat) :=
  (aesSchedule (leBytes 32 key.toNat), aesSchedule (leBytes 32 (key.toNat >>> 256)))

/-- XTS-AES-256 encryption of a block with its data unit sequence number (R314). -/
def xtsEncrypt (key : BitVec 512) (unit : Nat) (b : Block) : Block :=
  let (w1, w2) := xtsKeys key
  xtsRun (aesEnc w1) (leVal (aesEnc w2 (leBytes 16 unit))) b

/-- XTS-AES-256 decryption (R314). -/
def xtsDecrypt (key : BitVec 512) (unit : Nat) (b : Block) : Block :=
  let (w1, w2) := xtsKeys key
  xtsRun (aesDec w1) (leVal (aesEnc w2 (leBytes 16 unit))) b

/-- R315: the key check value, bytes 0 to 7 big-endian. -/
def keyCheck (key : BitVec 512) : Nat :=
  leVal ((blockBytes (xtsEncrypt key (2 ^ 64 - 1) 0)).take 8).reverse

end Sys2Proof.Machine
end

