-- ==== Sys2Proof/Machine/Queues.lean ====
section
/-! DEFINITION. The queues of FE0 (ch11) and what every command shares (ch10): capsule fields, sending on a path, range
locks, completions with their queue freeze and error log, and admission. -/

namespace Sys2Proof.Machine

/-! ## Capsules (R302) -/

/-- Byte of a capsule. -/
def capB (c : Capsule) (i : Nat) : Nat := c.getD i 0 % 256
/-- Big-endian field of a capsule. -/
def capF (c : Capsule) (off n : Nat) : Nat := (List.range n).foldl (fun v i => 256 * v + capB c (off + i)) 0

def Cmd.op (c : Cmd) : Nat := capB c.cap 0
def Cmd.vol (c : Cmd) : Nat := capF c.cap 4 2
def Cmd.lba (c : Cmd) : Nat := capF c.cap 8 8
def Cmd.blocks (c : Cmd) : Nat := capF c.cap 16 4
def Cmd.refTag (c : Cmd) : Nat := capF c.cap 20 4
def Cmd.appTag (c : Cmd) : Nat := capF c.cap 24 2
def Cmd.appMask (c : Cmd) : Nat := capF c.cap 26 2
def Cmd.forceDurable (c : Cmd) : Bool := (capB c.cap 1).testBit 0
def Cmd.hint (c : Cmd) : Nat := capB c.cap 1 / 2 % 4
def Cmd.piAction (c : Cmd) : Nat := capB c.cap 1 / 8 % 4
def Cmd.checkRef (c : Cmd) : Bool := (capB c.cap 1).testBit 5
def Cmd.checkApp (c : Cmd) : Bool := (capB c.cap 1).testBit 6

/-- Opcodes that take a range lock (R324). -/
def opLocks (op : Nat) : Bool := [1, 2, 3, 4, 6].contains op
/-- Opcodes whose lock is exclusive (R324). -/
def opExclusive (op : Nat) : Bool := [2, 3, 4].contains op
/-- Opcodes never held by a frozen queue (R336). -/
def opNeverHeld (op : Nat) : Bool := op = 8 || op = 9
/-- Admin opcodes (R309). -/
def opAdmin (op : Nat) : Bool := 0x40 ≤ op && op ≤ 0x4E

/-! ## Statuses (R317) -/

abbrev St.success : Nat := 0x0000
abbrev St.invalidOpcode : Nat := 0x0001
abbrev St.invalidField : Nat := 0x0002
abbrev St.lbaRange : Nat := 0x0003
abbrev St.noVolume : Nat := 0x0004
abbrev St.queueOverflow : Nat := 0x0005
abbrev St.aborted : Nat := 0x0006
abbrev St.tooLate : Nat := 0x0007
abbrev St.notFound : Nat := 0x0008
abbrev St.discarded : Nat := 0x0009
abbrev St.dataTimeout : Nat := 0x000A
abbrev St.piGuard : Nat := 0x0010
abbrev St.piApp : Nat := 0x0011
abbrev St.piRef : Nat := 0x0012
abbrev St.unrecovered : Nat := 0x0020
abbrev St.noSpace : Nat := 0x0021
abbrev St.keyNeeded : Nat := 0x0022
abbrev St.keyMismatch : Nat := 0x0023
abbrev St.volumeBusy : Nat := 0x0024
abbrev St.notReady : Nat := 0x0025
abbrev St.refused : Nat := 0x0030
abbrev St.imageInvalid : Nat := 0x0031
abbrev St.internal : Nat := 0x003F

/-- The Freezes column of R317. -/
def freezes (status : Nat) : Bool := status != 0 && !(6 ≤ status && status ≤ 9)

/-! ## Sessions and paths -/

def State.session (s : State) (n : Nat) : Option Session := tget n s.sessions
def State.setSession (n : Nat) (x : Session) (s : State) : State := { s with sessions := tset n x s.sessions }

/-- Change one path of a session. -/
def State.modPath (n p : Nat) (f : PathSt → PathSt) (s : State) : State :=
  match s.session n with
  | some x => s.setSession n { x with paths := x.paths.mapIdx fun i y => if i = p then f y else y }
  | none => s

/-- A path of a session. -/
def State.path (s : State) (n p : Nat) : Option PathSt := (s.session n).bind fun x => x.paths[p]?

/-- Session numbers of MP (R291). -/
def isMp (n : Nat) : Bool := 0x100 ≤ n

/-- First SEQ not yet acknowledged by the peer. -/
def PathSt.ackPoint (p : PathSt) : Nat := match p.sent with | (q, _) :: _ => q | [] => p.tx

/-- R301: a frame may be sent now: within the peer's window, or a CTRL frame with fewer than 4 unacknowledged. -/
def PathSt.maySend (p : PathSt) (f : TxFrame) : Bool :=
  (p.tx + 2 ^ 32 - p.ackPoint) % 2 ^ 32 < min p.window 1024 ||
    (match f with
     | .ctrl .. => (p.sent.filter fun e => match e.2.1 with | .ctrl .. => true | _ => false).length < 4
     | _ => false)

/-- Whether a received priority flow control frame pauses what the module sends on a port (R283). -/
def State.isPaused (s : State) (port : Nat) : Bool :=
  port < 2 && s.bit (R.PORT_CFG_PFC_EN port) && (tget port s.que.paused).any fun t => s.now < t

/-- Transmit on a port: at once, or after the pause in force (R283). -/
def State.xmit (port : Nat) (o : Out) (s : State) : State :=
  if s.isPaused port then
    { s with que := { s.que with stalled := tset port (o :: tgetD port [] s.que.stalled) s.que.stalled } }
  else s.send o

/-- A pause ends: what waited for it is sent, oldest first. -/
def State.endPause (port : Nat) (s : State) : State :=
  { s with
    outs := tgetD port [] s.que.stalled ++ s.outs
    que := { s.que with paused := tdel port s.que.paused, stalled := tdel port s.que.stalled } }

/-- PFC_FRAME_RECEIVED (R283): while PFC_EN is 1 a frame for PFC_PRIO pauses the port's sending for the time it gives, or with
none resumes it. -/
def pfcFrameReceived (port prio us : Nat) (s : State) : State :=
  if s.bit (R.PORT_CFG_PFC_EN port) && s.get (R.PORT_CFG_PFC_PRIO port) = prio then
    if us = 0 then s.endPause port
    else { s with que := { s.que with paused := tset port (s.now + us) s.que.paused } }
  else s

/-- Pauses whose time is over, or that PFC_EN no longer allows, end. -/
def State.pausesEnd (s : State) : State :=
  s.forAll [0, 1] fun p t => if (tget p t.que.paused).isSome && !t.isPaused p then t.endPause p else t

/-- The 32 bytes of a completion entry (R305). -/
def cplBytes (e : Cpl) : List Nat :=
  beBytes 2 e.tag ++ [e.queue, e.cflags] ++ beBytes 2 e.status ++ [0, 0] ++ beBytes 8 e.result0 ++ beBytes 8 e.result1 ++
    beBytes 4 e.done ++ beBytes 4 e.arrival

/-- Count on a host port; MP has no counters. -/
def State.portCount (port i n : Nat) (s : State) : State := s.when (port < 2) (State.count (R.PORT_COUNT_COUNT port i) n)

/-! ## Frames sent (R285, R287 to R289) -/

/-- R301: the credit each session is given. -/
def State.credit (s : State) : Nat :=
  let free := 65536 - s.cmds.length
  if free = 0 || s.que.full then 0 else max 1 (free / max 1 s.sessions.length)

/-- SACK bits of a path: frame ACK + 1 + i is held (R288). -/
def PathSt.sackBits (p : PathSt) : Nat :=
  (List.range 32).foldl (fun w i => if (tget ((p.rx + 1 + i) % 2 ^ 32) p.held).isSome then w + 2 ^ i else w) 0

/-- A session has DATA frames in flight: a WRITE of it whose data is not all delivered (R42). -/
def State.intake (s : State) (n : Nat) : Bool := s.cmds.any fun c => c.ref.session = n && capB c.cap 0 = 2 && !c.last

/-- The WINDOW the module advertises to a session in a frame (R301): RX_WINDOW times the die zone's service level (R408). For a session
with DATA frames in flight it may be narrowed to any lower value, because the demand on DRAM that R42 paces against is not part of the
state (log entry 1). -/
def State.rxWindow (s : State) (n seq : Nat) : Nat :=
  let w := s.get R.LQP_TIMING_RX_WINDOW * (tgetD 0 ({} : ThermZone) s.thm.zones).level / 100
  if s.intake n then Config.paced n seq s.now % (w + 1) else w

/-- The headers around what is sent on a link (R285, R318): the DSCP of the port, DF in IPv4, the VLAN tag of the link or, with PFC, a
priority tag; MP sends no tag. -/
def State.ipHead (s : State) (a : PathAddr) : IpHead :=
  let vid := if a.link = 0 then s.get (R.PORT_VLAN_VLAN_ID0 a.port) else s.get (R.PORT_VLAN_VLAN_ID1 a.port)
  { hops := 64, ecn := 0, df := a.host < 2 ^ 32
    dscp := if a.port < 2 then s.get (R.PORT_CFG_DSCP a.port) else Config.mpDscp % 64
    tag := if a.port < 2 && (vid != 0 || s.bit (R.PORT_CFG_PFC_EN a.port)) then some (vid, s.get (R.PORT_CFG_PFC_PRIO a.port)) else none }

/-- Header fields of a frame sent on a path under a SEQ (R288, R299). -/
def State.frameHead (s : State) (n : Nat) (x : PathSt) (seq : Nat) (retx : Bool) : FrameHead :=
  ⟨seq, x.rx, s.rxWindow n seq, s.credit, x.sackBits, retx, s.ipHead x.addr⟩

/-- The bytes of a frame (R287, R288): header, payload, trailer. -/
def frameBytes (ty n q flags tag : Nat) (h : FrameHead) (payload : List Nat) : List Nat :=
  let a := beBytes 2 0x4C51 ++ [1, ty] ++ beBytes 2 n ++ [q, flags + h.retx.toNat] ++ beBytes 4 h.seq ++ beBytes 4 h.ack ++ beBytes 2 tag ++
    beBytes 2 payload.length ++ beBytes 2 h.window ++ beBytes 2 h.credit ++ beBytes 4 h.sack
  let b := a ++ beBytes 4 (crc32c a) ++ payload
  b ++ beBytes 4 (crc32c b)

/-- A CTRL body sent (R292). -/
def ctrlBytes (op reason hostId queues path depth window through : Nat) (serial : List Nat) : List Nat :=
  padTo 64 ([op, reason, 0, 0] ++ beBytes 16 hostId ++ [queues, path] ++ beBytes 2 depth ++ beBytes 2 window ++ [0, 0] ++ beBytes 4 through ++
    serial)

/-- The bytes of a frame that takes a sequence number (R289, R292, R305, R306): a completion entry for a queue the session does not hold
goes on queue 0 (R303). -/
def State.txBytes (s : State) (n : Nat) (h : FrameHead) (f : TxFrame) : List Nat :=
  let x := s.session n
  match f with
  | .blocks q tag off l last =>
    frameBytes 2 n q (2 * last.toNat) tag h (padTo 32 (beBytes 4 off ++ [l.length]) ++ l.flatMap fun b => parityBytes b.1 b.2)
  | .bytes tag off l last => frameBytes 2 n 0 (2 * last.toNat) tag h (padTo 32 (beBytes 4 off ++ [0, 0] ++ beBytes 2 l.length) ++ l)
  | .cpl e => frameBytes 3 n (if x.any fun y => e.queue ≤ y.queues then e.queue else 0) 0 0 h (cplBytes e)
  | .ctrl op reason queues path depth through => frameBytes 6 n 0 0 0 h (ctrlBytes op reason (match x with | some y => y.hostId | none => 0)
      queues path depth h.window through (if op = 3 then s.mySerial else []))

/-- A frame goes out on a port and counts as sent (R320). -/
def State.transmit (port : Nat) (o : Out) (s : State) : State := (s.xmit port o).portCount port 1 1

/-- Send a frame on a path that is up: with its SEQ when the window allows, or after the frames already waiting (R299,
R301). -/
def State.sendOn (n p : Nat) (f : TxFrame) (s : State) : State :=
  match s.path n p with
  | none => s
  | some x =>
    if x.maySend f && x.queue.isEmpty then
      ((s.modPath n p fun y => { y with
        sent := y.sent ++ [(y.tx, f, false, s.now)], tx := (y.tx + 1) % 2 ^ 32, frames := y.frames + 1, unacked := 0 }).transmit
        x.addr.port (let h := s.frameHead n x x.tx false; .frame n p h f (s.txBytes n h f)))
    else s.modPath n p fun y => { y with queue := y.queue ++ [f] }

/-- Send the frames waiting for the window of a path, as far as it allows. -/
def State.pump (n p : Nat) : Nat → State → State
  | 0, s => s
  | fuel + 1, s =>
    match s.path n p with
    | some x =>
      (match x.queue with
       | f :: fs =>
         if x.up && x.maySend f then
           State.pump n p fuel ((s.modPath n p fun y => { y with queue := [] }).sendOn n p f
             |>.modPath n p fun y => { y with queue := fs })
         else s
       | [] => s)
    | none => s

/-- The ASCII code of a hexadecimal digit. -/
def hexDigit (d : Nat) : Nat := if d < 10 then 48 + d else 55 + d

/-- Hexadecimal digits of bytes. -/
def hexBytes (l : List Nat) : List Nat := l.flatMap fun b => [hexDigit (b / 16 % 16), hexDigit (b % 16)]

/-- Send a reply line on the UART (R485): nothing while the management island is out of service (R27). -/
def State.uartLine (line : List Nat) (s : State) : State := if s.mgmtOk then s.send (.uart line) else s

/-- D lines of up to 128 digits (R485). -/
def State.uartBytes : Nat → List Nat → State → State
  | 0, _, s => s
  | n + 1, l, s =>
    if l.isEmpty then s else State.uartBytes n (l.drop 64) (s.uartLine ([68, 32] ++ hexBytes (l.take 64)))

/-- What the UART's own admin command sends: its data as D lines, and its completion entry after P (R485). Such a command
stands in flight under session 0. -/
def State.uartFrame (f : TxFrame) (s : State) : State :=
  match f with
  | .bytes _ _ l _ => State.uartBytes l.length l s
  | .cpl e => s.uartLine ([80, 32] ++ hexBytes (cplBytes e))
  | _ => s

/-- Send a frame for a command bound to a path: on it while it is up, else it is kept with the session, in order, until
the failover has ended (R294, R297, R298). -/
def State.sendFor (n p : Nat) (f : TxFrame) (s : State) : State :=
  if n = 0 then s.uartFrame f
  else match s.session n with
  | none => s
  | some x =>
    if (x.paths[p]?).any (·.up) then s.sendOn n p f else s.setSession n { x with parked := x.parked ++ [f] }

/-! ## Commands in flight -/

def State.cmdOf (s : State) (r : CmdRef) : Option Cmd := s.cmds.find? fun c => c.ref = r
def State.setCmd (c : Cmd) (s : State) : State :=
  { s with cmds := s.cmds.map fun d => if d.ref = c.ref then c else d }

/-- Commands of a queue in flight. -/
def State.queueCmds (s : State) (n q : Nat) : List Cmd := s.cmds.filter fun c => c.ref.session = n && c.ref.queue = q

/-- A queue's freeze and log. -/
def State.queueSt (s : State) (n q : Nat) : QueueSt := match s.session n with | some x => tgetD q {} x.qs | none => {}
def State.setQueueSt (n q : Nat) (y : QueueSt) (s : State) : State :=
  match s.session n with
  | some x => s.setSession n { x with qs := tset q y x.qs }
  | none => s

/-- The session holds a queue (R291). -/
def State.holdsQueue (s : State) (n q : Nat) : Bool :=
  match s.session n with
  | some x => q = 0 || q ≤ x.queues
  | none => false

/-! ## Range locks (R324 to R328) -/

/-- Two commands' ranges share a block of a volume. -/
def overlaps (a b : Cmd) : Bool :=
  a.vol = b.vol && a.lba < b.lba + b.blocks && b.lba < a.lba + a.blocks

/-- R325, R338: an earlier request, or a lock already granted, stands against a request. -/
def conflicts (a b : Cmd) : Bool :=
  a.ref != b.ref && a.lock != .none && (a.arrival < b.arrival || a.lock = .granted) && overlaps a b &&
    (opExclusive a.op || opExclusive b.op)

/-- Lock-table entries in use (R328). -/
def lockEntries (l : List Cmd) : Nat := (l.filter fun c => c.lock = .waiting || c.lock = .granted).length

/-- Free entries go to the requests that wait for one, in arrival order (R328). -/
def giveEntries : Nat → List Cmd → List Cmd
  | 0, l => l
  | _, [] => []
  | n + 1, c :: l => if c.lock = .entry then { c with lock := .waiting } :: giveEntries n l else c :: giveEntries (n + 1) l

/-- Grants are evaluated in arrival order (R325). -/
def grantAll (l : List Cmd) : List Cmd :=
  l.foldl (fun m c =>
    if c.lock = .waiting && !m.any (fun a => conflicts a c) then
      m.map fun d => if d.ref = c.ref then { d with lock := .granted } else d
    else m) l

/-- LOCK_GRANT (R325, R328): entries, then grants; a table-full episode is counted once and ends when no request waits
for an entry. PEAK follows. -/
def State.grantLocks (s : State) : State :=
  let l := giveEntries (16384 - lockEntries s.cmds) s.cmds
  let s1 := { s with cmds := grantAll l }
  let waiting := l.any fun c => c.lock = .entry
  let s2 := s1.set R.QUE_LOCK_COUNT_PEAK (max (s1.get R.QUE_LOCK_COUNT_PEAK) (min 65535 (lockEntries l)))
  if waiting && !s.que.full then
    (({ s2 with que := { s2.que with full := true } }.count R.QUE_LOCK_COUNT_FULL_EPISODES 1)).event Ev.LOCK_TABLE_FULL
      (origin 0 0) 0 0 0 0
  else { s2 with que := { s2.que with full := waiting } }

/-- Make the lock request of a command (R324). -/
def State.requestLock (r : CmdRef) (s : State) : State :=
  match s.cmdOf r with
  | some c => if opLocks c.op then (s.setCmd { c with lock := .entry }).grantLocks else s
  | none => s

/-! ## Completions (R305, R326, R334 to R337) -/

/-- A command of a queue is executing (R335). -/
def Cmd.executing (c : Cmd) : Bool := if opLocks c.op then c.lock = .granted else c.stage != .fresh

/-- Hold the commands of a queue that are not executing (R335). -/
def State.holdQueue (n q : Nat) (s : State) : State :=
  { s with cmds := s.cmds.map fun c =>
      if c.ref.session = n && c.ref.queue = q && !c.executing && !opNeverHeld c.op then
        { c with held := true, lock := .none } else c }

/-- Append an entry to a queue's error log, 16 kept (R337). -/
def QueueSt.append (y : QueueSt) (e : LogEntry) : QueueSt :=
  { y with log := (y.log ++ [e]).drop ((y.log.length + 1) - 16), errors := min (y.errors + 1) (2 ^ 32 - 1) }

/-- The session named in a CLOSE is freed once no command of it is in flight, and CLOSED is answered (R295). -/
def State.finishClose (n : Nat) (s : State) : State :=
  match s.session n with
  | some x =>
    if x.closing && !s.cmds.any (fun c => c.ref.session = n) then
      { s.sendFor n 0 (.ctrl 6 0 0 0 0 0) with sessions := tdel n s.sessions }
    else s
  | none => s

/-- What a FLUSH still waits for from a command that has completed: nothing, or the lines it left dirty (R333). -/
def State.uncover (c : Cmd) (ok : Bool) (s : State) : State :=
  { s with cmds := s.cmds.map fun d =>
      if d.covers.contains c.arrival then
        { d with covers := delId c.arrival d.covers, lines := if ok then d.lines ++ c.lines else d.lines }
      else d }

/-- Admin opcodes whose completion is recorded as an ADMIN_ACTION: those whose commit point is their first effect, and
REKINDLE (R339, R469). -/
def opRecorded (op : Nat) : Bool := op = 0x43 || (0x44 ≤ op && op ≤ 0x4A) || (0x4C ≤ op && op ≤ 0x4E)

/-- A value is recorded as 0 when it is written to VOL_KEY_DATA (R469). -/
def recordedWord (a w : Nat) : Nat := if 0x60C04 ≤ a && a < 0x60C44 then 0 else w

/-- Register values a REG-WRITE wrote, in order (R309, R469). -/
def Cmd.words (c : Cmd) : List Nat :=
  if c.op != 0x43 then []
  else
    let a := capF c.cap 8 4
    let n := capF c.cap 12 4
    if n = 1 then [recordedWord a (capF c.cap 16 4)]
    else (List.range n).map fun i => recordedWord (a + 4 * i) (leVal ((c.bytes.drop (4 * i)).take 4))

/-- The capsule as ADMIN_ACTION records it: a value a REG-WRITE of one word carries for VOL_KEY_DATA is recorded as 0
(R469). -/
def recordedCap (cap : Capsule) : List Nat :=
  (List.range 64).map fun i =>
    if capB cap 0 = 0x43 && 16 ≤ i && i < 20 && recordedWord (capF cap 8 4) 1 = 0 then 0 else capB cap i

/-- ADMIN_ACTION (R469). -/
def State.adminAction (session path op status tag : Nat) (cap : List Nat) (words : List Nat) (s : State) : State :=
  let ws := words.take 1000
  s.varEvent Ev.ADMIN_ACTION
    (leBytes 2 session ++ [path, op] ++ leBytes 2 status ++ leBytes 2 tag ++ recordedCap cap ++
      leBytes 4 (ws.length + if 1000 < words.length then 2 ^ 31 else 0) ++ ws.flatMap fun w => leBytes 4 w)

/-- The completion entry of a command enters the transmit queue (R305, R326, R329, R334 to R337): it carries its status,
results, BLOCKS_DONE and flags; a freezing status freezes its queue and is logged; the command leaves flight and its lock
is released. `q` is the queue it is posted on. -/
def State.post (c : Cmd) (q status r0 r1 done : Nat) (dup froze : Bool) (s : State) : State :=
  let n := c.ref.session
  let y := s.queueSt n q
  let fr := freezes status
  let isAdminQueue := c.ref.queue = 0
  let doesFreeze := fr && froze && y.frozen.isNone && (s.session n).isSome
  let flags := doesFreeze.toNat + (if c.asDurable && status = 0 then 2 else 0) + (if fr && (s.session n).isSome then 4 else 0) + 8 * dup.toNat
  let e : LogEntry := ⟨c.arrival, c.ref.tag, c.op, flags, status, if opAdmin c.op || c.op = 9 then 0xFFFF else c.vol, r0, r1,
    done, s.opSec, s.pcycle⟩
  let y1 := if fr then y.append e else y
  let y2 := if doesFreeze then { y1 with frozen := some (c.arrival, c.ref.tag) } else y1
  let s1 := { s with cmds := if dup then s.cmds else s.cmds.filter fun d => d.ref != c.ref }.setQueueSt n q y2
  let s2 := if doesFreeze then (s1.holdQueue n q).event Ev.QUEUE_FROZEN (origin 11 n) n q c.ref.tag status else s1
  let s3 := s2.sendFor n c.path (.cpl ⟨c.ref.tag, c.ref.queue, flags, status, r0, r1, done, c.arrival % 2 ^ 32⟩)
  let s4 := if opRecorded c.op && isAdminQueue then
      s3.adminAction n c.port c.op status c.ref.tag c.cap (if status = 0 || status = St.refused then c.words else [])
    else s3
  ((s4.uncover c (status = 0)).grantLocks).finishClose n

/-- Complete a command on its own queue. -/
def State.complete (c : Cmd) (status r0 r1 done : Nat) (s : State) : State := s.post c c.ref.queue status r0 r1 done false true

/-! ## Admission (R303, R321, R336) -/

/-- A rekindle is under way: no new capsule is admitted (R438). -/
def State.rekindling (s : State) : Bool := match s.knd.rekindle with | .none => false | .draining .. => true

/-- Opcodes defined for a queue (R308, R309, R318). -/
def opDefined (mp : Bool) (q op : Nat) : Bool :=
  if q = 0 then op = 9 || op = 8 || opAdmin op
  else !mp && ([1, 2, 3, 4, 5, 6, 8].contains op)

/-- A capsule is delivered to FE0: it takes the next arrival number, is checked in the order of R303, and is held on a
frozen queue or makes its lock request. -/
def State.admitCmd (n q path : Nat) (cap : Capsule) (s0 : State) : State :=
  if s0.rekindling then s0 else
  let s := s0
  let port := match s.path n path with | some x => x.addr.port | none => 0
  let c : Cmd := { ref := ⟨n, q, capF cap 2 2⟩, cap := cap, arrival := s.que.arrival, path := path, port := port, since := s.now }
  let s1 := { s with que := { s.que with arrival := s.que.arrival + 1 } }
  let depth := if q = 0 then 64 else match s.session n with | some x => x.depth | none => 0
  if !s.holdsQueue n q then s1.post c 0 St.invalidField 0 0 0 false false
  else if (s.cmdOf c.ref).isSome then s1.post c q St.invalidField 0 0 0 true true
  else if depth ≤ (s.queueCmds n q).length then s1.complete c St.queueOverflow 0 0 0
  else if !opDefined (isMp n) q c.op then s1.complete c St.invalidOpcode 0 0 0
  else
    let s2 := { s1 with cmds := s1.cmds ++ [c] }
    if (s.queueSt n q).frozen.isSome && !opNeverHeld c.op then s2.setCmd { c with held := true }
    else s2.requestLock c.ref

/-! ## Aborting and closing -/

/-- Take an OPEN command out: its lock, its data and its place, with one ABORTED completion (R340). -/
def State.abortCmd (c : Cmd) (done : Nat) (s : State) : State := s.complete c St.aborted 0 0 done

/-- The module stops serving a session (R298): uncommitted commands are aborted, their completions discarded with the
session's. -/
def State.dropSession (n : Nat) (s : State) : State :=
  { s with
    sessions := tdel n s.sessions
    cmds := s.cmds.filter fun c => c.ref.session != n || c.commit = Commit.committed }.grantLocks

end Sys2Proof.Machine
end

