-- ==== Sys2Proof/Machine/Cache.lean ====
section
/-! DEFINITION. DRAM and the buffer cache (ch12): lines, replacement, dirty space, staging commit, fills, the cache's
states, and the retirement of packages. -/

namespace Sys2Proof.Machine

/-! ## Geometry and tags (R347 to R350) -/

/-- Set of a line (R347). -/
def lineSet (v line : Nat) : Nat :=
  Nat.xor (Nat.xor line (line / 2 ^ 16)) (Nat.xor (line / 2 ^ 32) (v * 0x0F3B)) % 65536

def State.modCache (f : Cache → Cache) (s : State) : State := { s with cache := f s.cache }
def State.tag (s : State) (set w : Nat) : Tag := tgetD (16 * set + w) {} s.cache.tags
/-- Write a tag entry; an invalid one is not listed. The frame's header is rewritten with a change of KIND, PARTNER, DIRTY
or WRITTEN (R349). -/
def State.setTag (set w : Nat) (t : Tag) (s : State) : State :=
  let old := s.tag set w
  let t' := if t.kind != old.kind || t.partner != old.partner || t.dirty != old.dirty || t.written != old.written then
      { t with hdr := t.valid }
    else t
  s.modCache fun c => { c with tags := if t.kind = 0 then tdel (16 * set + w) c.tags else tset (16 * set + w) t' c.tags }

/-- The header of a line frame (R349). -/
def Tag.header (t : Tag) : List Nat :=
  let c := leBytes 2 t.vol ++ leBytes 6 t.line ++ [t.kind, t.partner, 0, 0] ++ leBytes 4 t.hdr ++ leBytes 4 t.dirty ++
    leBytes 4 t.written ++ [0, 0, 0, 0]
  c ++ leBytes 4 (crc32c c)

/-- A way is in service (R359, R362). -/
def State.wayOk (s : State) (w : Nat) : Bool := (s.get R.CACHE_STATUS_WAYS).testBit w

/-- The way that holds a line as a primary (R347). -/
def State.findLine (s : State) (v line : Nat) : Option Nat :=
  (List.range 16).find? fun w =>
    let t := s.tag (lineSet v line) w
    s.wayOk w && t.kind = 1 && t.vol = v && t.line = line

/-- The cache looks lines up: On or Draining (R355). -/
def State.cacheLooks (s : State) : Bool := let st := s.get R.CACHE_STATUS_STATE; st = 2 || st = 3

/-- touch of R350. -/
def plruTouch (bits w : Nat) : Nat :=
  ((List.range 4).foldl (fun (acc : Nat × Nat) lv =>
    let n := acc.2
    let b := w / 2 ^ (3 - lv) % 2
    let cur := acc.1 / 2 ^ (n - 1) % 2
    (acc.1 + (1 - b) * 2 ^ (n - 1) - cur * 2 ^ (n - 1), 2 * n + b)) (bits, 1)).1

/-- victim of R350. -/
def plruVictim (bits : Nat) : Nat :=
  ((List.range 4).foldl (fun n _ => 2 * n + bits / 2 ^ (n - 1) % 2) 1) - 16

/-- A hit or fill touches its way (R350). -/
def State.touch (set w : Nat) (s : State) : State :=
  (s.modCache fun c => { c with plru := tset set (plruTouch (tgetD set 0 c.plru) w) c.plru, touches := c.touches + 1 }).modCache
    fun c => match tget (16 * set + w) c.tags with
      | some t => { c with tags := tset (16 * set + w) { t with touched := c.touches } c.tags }
      | none => c

/-- R350: a way may be the victim. -/
def State.eligibleWay (s : State) (set w : Nat) : Bool :=
  let t := s.tag set w
  s.wayOk w && (t.kind = 0 || (t.kind = 1 && t.dirty = 0)) && !t.wb && !t.fill && !t.hold

/-- The way taken for a new line, with some ways left out (R350). -/
def State.victim (s : State) (set : Nat) (except : List Nat) : Option Nat :=
  let v := plruVictim (tgetD set 0 s.cache.plru)
  ((List.range 16).map fun i => (v + i) % 16).find? fun w => !except.contains w && s.eligibleWay set w

/-- Block of a frame. -/
def State.frame (s : State) (set w b : Nat) : Option (Block × Pi) := tget (32 * (16 * set + w) + b) s.cache.frames
def State.setFrame (set w b : Nat) (x : Block × Pi) (s : State) : State :=
  s.modCache fun c => { c with frames := tset (32 * (16 * set + w) + b) x c.frames }
/-- The blocks of a frame are gone. -/
def State.dropFrame (set w : Nat) (s : State) : State :=
  s.modCache fun c => { c with frames := c.frames.filter fun e => e.1 / 32 != 16 * set + w }

/-- Take a way for a new entry: an eviction of a clean line is counted. -/
def State.takeWay (set w : Nat) (t : Tag) (s : State) : State :=
  let s1 := if (s.tag set w).kind = 1 then s.count (R.CACHE_COUNT_COUNT 5) 1 else s
  ((s1.dropFrame set w).setTag set w t).touch set w

/-- Key of a block of a volume in acknowledged staging. -/
def stageKey (v lba : Nat) : Nat := 2 ^ 41 * v + lba

/-- The newest copy of a block held in DRAM: acknowledged staging, then a valid block of its line (R355). -/
def State.inDram (s : State) (v lba : Nat) : Option (Block × Pi) :=
  match tget (stageKey v lba) s.cache.staged with
  | some x => some x
  | none =>
    if s.cacheLooks then
      match s.findLine v (lba / 32) with
      | some w =>
        let set := lineSet v (lba / 32)
        if (s.tag set w).valid.testBit (lba % 32) then s.frame set w (lba % 32) else none
      | none => none
    else none

/-- A dirty copy of a block: its line's dirty block or acknowledged staging (R308, VERIFY). -/
def State.dirtyInDram (s : State) (v lba : Nat) : Option (Block × Pi) :=
  match tget (stageKey v lba) s.cache.staged with
  | some x => some x
  | none =>
    if s.cacheLooks then
      match s.findLine v (lba / 32) with
      | some w =>
        let set := lineSet v (lba / 32)
        if (s.tag set w).dirty.testBit (lba % 32) then s.frame set w (lba % 32) else none
      | none => none
    else none

/-! ## Dirty space (R352) -/

/-- Lines with a dirty block: set, way and entry of each dirty primary. -/
def State.dirtyTags (s : State) : List (Nat × Tag) := s.cache.tags.filter fun e => e.2.kind = 1 && e.2.dirty != 0

/-- The dirty limit in lines: DIRTY_LIMIT or the effective limit of R399, whichever is lower. -/
def State.dirtyLimit (s : State) : Nat := 1024 * min (s.get R.CACHE_CTRL_DIRTY_LIMIT) (s.get R.PWR_HOLDUP_HOLD_LIMIT)

/-- Dirty lines, reservations and acknowledged staging counted against the limit (R352). -/
def State.dirtyUsed (s : State) : Nat :=
  let dirty := s.dirtyTags.map fun e => (e.2.vol, e.2.line)
  dirty.length + (s.cache.reserved.filter fun x => !dirty.contains x).length + s.cache.staged.length / 32

/-- Lines of a range. -/
def linesOf (v lba n : Nat) : List (Nat × Nat) :=
  (List.range ((lba + n + 31) / 32 - lba / 32)).map fun i => (v, lba / 32 + i)

/-- Lines of a range for which a reservation has still to be made (R352). -/
def State.toReserve (s : State) (v lba n : Nat) : List (Nat × Nat) :=
  (linesOf v lba n).filter fun x => !s.cache.reserved.contains x &&
    !(s.dirtyTags.any fun e => e.2.vol = x.1 && e.2.line = x.2)

/-- Reserve dirty space for a range if the limit allows. -/
def State.reserve (v lba n : Nat) (s : State) : Option State :=
  let l := s.toReserve v lba n
  if s.dirtyUsed + l.length ≤ s.dirtyLimit then some (s.modCache fun c => { c with reserved := c.reserved ++ l }) else none

/-! ## Staging commit of a block (R351, R352) -/

/-- The twin of a primary holds its dirty blocks; a primary with none has no twin, and its PARTNER is 0 (R347, R348). -/
def State.syncTwin (set w : Nat) (s : State) : State :=
  let t := s.tag set w
  let u := s.tag set t.partner
  let mine := u.kind = 2 && u.partner = w && u.vol = t.vol && u.line = t.line
  if t.dirty = 0 then
    (if mine then (s.dropFrame set t.partner).setTag set t.partner { u with kind := 0 } else s).setTag set w { t with partner := 0 }
  else if mine then s.setTag set t.partner { u with dirty := t.dirty, valid := t.dirty }
  else s

/-- A cached copy of a block is invalidated. -/
def State.invalidateBlock (v lba : Nat) (s : State) : State :=
  let set := lineSet v (lba / 32)
  match s.findLine v (lba / 32) with
  | some w =>
    let t := s.tag set w
    let bit := 2 ^ (lba % 32)
    if t.valid.testBit (lba % 32) then
      (s.setTag set w { t with
        valid := t.valid - bit, dirty := if t.dirty.testBit (lba % 32) then t.dirty - bit else t.dirty }).syncTwin set w
    else s
  | none => s

/-- The staging pair of a block becomes acknowledged staging. -/
def State.stageBlock (v lba : Nat) (x : Block × Pi) (s : State) : State :=
  s.modCache fun c => { c with staged := tset (stageKey v lba) x c.staged }

/-- Write a block into a primary and its twin and mark it dirty; a write during write-back sets WRITTEN (R351, R353). -/
def State.writeLine (v lba w tw : Nat) (x : Block × Pi) (s : State) : State :=
  let set := lineSet v (lba / 32)
  let b := lba % 32
  let or1 (n : Nat) : Nat := if n.testBit b then n else n + 2 ^ b
  let t := s.tag set w
  let s1 := s.setTag set w { t with
    valid := or1 t.valid, dirty := or1 t.dirty, partner := tw, written := if t.wb then or1 t.written else t.written }
  let u := s1.tag set tw
  let s2 := s1.setTag set tw { u with valid := or1 u.valid, dirty := or1 u.dirty, partner := w }
  ((s2.setFrame set w b x).setFrame set tw b x).touch set w

/-- Staging commit of one block (R351): into the line and its twin, or into acknowledged staging. -/
def State.commitBlock (v lba : Nat) (x : Block × Pi) (s : State) : State :=
  let st := s.get R.CACHE_STATUS_STATE
  let line := lba / 32
  let set := lineSet v line
  let aside (t : State) : State := (t.invalidateBlock v lba).stageBlock v lba x
  let clean (t : State) : State := t.modCache fun c => { c with staged := tdel (stageKey v lba) c.staged }
  if st = 2 || st = 3 then
    match s.findLine v line with
    | some w =>
      let t := s.tag set w
      if t.dirty != 0 then clean (s.writeLine v lba w t.partner x)
      else if st = 3 then aside s
      else if s.get R.CACHE_CTRL_SET_DIRTY_MAX ≤ ((List.range 16).filter fun k =>
          (s.tag set k).kind = 1 && (s.tag set k).dirty != 0).length then aside s
      else match s.victim set [w] with
        | some tw => clean ((s.takeWay set tw { vol := v, line := line, kind := 2, partner := w }).writeLine v lba w tw x)
        | none => aside s
    | none =>
      if st = 3 then aside s
      else if s.get R.CACHE_CTRL_SET_DIRTY_MAX ≤ ((List.range 16).filter fun k =>
          (s.tag set k).kind = 1 && (s.tag set k).dirty != 0).length then aside s
      else match s.victim set [] with
        | some w =>
          (match s.victim set [w] with
           | some tw =>
             let s1 := s.takeWay set w { vol := v, line := line, kind := 1, partner := tw }
             clean ((s1.takeWay set tw { vol := v, line := line, kind := 2, partner := w }).writeLine v lba w tw x)
           | none => aside s)
        | none => aside s
  else s.stageBlock v lba x

/-- The block as stored: encrypted under the volume's key, the guard recomputed over the ciphertext (R314). -/
def State.storedForm (s : State) (v lba : Nat) (x : Block × Pi) : Block × Pi :=
  match tget v s.vols with
  | some vol => if vol.encrypt then
      (match vol.key with
       | some k => let c := xtsEncrypt k lba x.1; (c, { x.2 with guard := blockGuard c })
       | none => x) else x
  | none => x

/-- The block as a host sees it: decrypted, the guard recomputed over the plaintext (R314). -/
def State.hostForm (s : State) (v lba : Nat) (x : Block × Pi) : Block × Pi :=
  match tget v s.vols with
  | some vol => if vol.encrypt then
      (match vol.key with
       | some k => let p := xtsDecrypt k lba x.1; (p, { x.2 with guard := blockGuard p })
       | none => x) else x
  | none => x

/-- An UNMAPPED extent that a write touches becomes PENDING (R221). -/
def State.pendExtent (v e : Nat) (s : State) : State :=
  let x := s.ext v e
  if x.st = 0 then s.setExt v e { x with st := 1 } else s

/-- A granule of a PARTIAL extent that a write touches and that is UNMAPPED becomes PENDING (R222). -/
def State.pendGranule (v e g : Nat) (s : State) : State :=
  let x := s.ext v e
  if x.st = 4 && (x.fine.getD g baseGranule).st = 0 && !x.fine.isEmpty then
    s.setExt v e { x with fine := x.fine.set g { noGranule with st := 1 } }
  else s

/-- Some extent of the page of an extent has an entry, so the page is allocated (R219). -/
def State.pageThere (s : State) (v e : Nat) : Bool := s.exts.any fun x => x.1 / 4096 = extKey v e / 4096

/-- R229: heat decays by the epochs elapsed. -/
def State.decayed (s : State) (x : Extent) : Nat :=
  x.heat / 2 ^ min 12 ((s.get R.STK_CTRL_EPOCH + 256 - x.epoch) % 256)

/-- R229: a host read or write command updates the heat of an extent it touches. -/
def State.warm (v e : Nat) (s : State) : State :=
  if s.pageThere v e then
    let x := s.ext v e
    { s with exts := tset (extKey v e) { x with heat := min 4095 (s.decayed x + 16), epoch := s.get R.STK_CTRL_EPOCH } s.exts }
  else s

/-- R225: the hint of a command, its volume's default when it has none. -/
def State.hintOf (s : State) (c : Cmd) : Nat :=
  if c.hint != 0 then c.hint else match tget c.vol s.vols with | some v => v.hint | none => 0

/-- Extents of a range of blocks. -/
def extentsOf (lba n : Nat) : List Nat := (List.range ((lba + n + 255) / 256 - lba / 256)).map fun i => lba / 256 + i

/-- A granted host write marks a running copy of the extents it touches (R228). -/
def State.markCopied (v lba n : Nat) (s : State) : State :=
  { s with exts := s.exts.map fun e =>
      if e.1 / 2 ^ 33 = v && 256 * (e.1 % 2 ^ 33) < lba + n && lba < 256 * (e.1 % 2 ^ 33 + 1) then
        (e.1, { e.2 with copying := e.2.copying.map fun c => { c with written := true } })
      else e }

/-- Staging commit of a WRITE begins, and every block is placed (R327, R351): the write is COMMITTED. -/
def State.commitWrite (c : Cmd) (s : State) : State :=
  let v := c.vol
  let hint := s.hintOf c
  let s1 := s.forAll (extentsOf c.lba c.blocks) fun e t =>
    let u := (t.pendExtent v e).warm v e
    if hint = 0 || (u.ext v e).hint = hint then u else u.setExt v e { u.ext v e with hint := hint }
  let s2 := s1.forAll (linesOf v c.lba c.blocks) fun l t => t.pendGranule v (l.2 / 8) (l.2 % 8)
  let s3 := (s2.markCopied v c.lba c.blocks).unlose v c.lba c.blocks
  let s4 := s3.forAll (List.range c.blocks) fun i t =>
    t.commitBlock v (c.lba + i) (t.storedForm v (c.lba + i) (tgetD i (0, ⟨0, 0, 0⟩) c.data))
  { s4 with weak := s4.weak.filter fun w => !(w.vol = v && c.lba ≤ w.lba && w.lba < c.lba + c.blocks) }.setCmd
    { c with commit := .committed, stage := .commit, data := [], lines := linesOf v c.lba c.blocks }

/-- A WRITE meets the conditions of R327 but for its dirty space. -/
def Cmd.ready (c : Cmd) : Bool :=
  c.op = 2 && c.commit = .opened && !c.held && c.lock = .granted && (c.stage = .begun || c.stage = .space) &&
    c.data.length = c.blocks

/-- Begin a ready WRITE's staging commit, or leave it waiting for space in arrival order with AT_LIMIT set (R352). -/
def State.tryCommit (r : CmdRef) (s : State) : State :=
  match s.cmdOf r with
  | none => s
  | some c =>
    if !c.ready then s
    else
      let wait (t : State) : State := (t.setCmd { c with stage := .space }).set R.CACHE_STATUS_AT_LIMIT 1
      if s.cmds.any fun d => d.stage = .space && d.arrival < c.arrival then wait s
      else match s.reserve c.vol c.lba c.blocks with
        | some t => t.commitWrite c
        | none => wait s

/-- DIRTY_SPACE_FREED (R352): the writes waiting for space take it in arrival order; AT_LIMIT clears when none waits. -/
def State.spaceFreed (s : State) : State :=
  let s1 := s.forAll (s.cmds.filter fun c => c.stage = .space) fun c t => t.tryCommit c.ref
  if s1.cmds.any fun c => c.stage = .space then s1 else s1.set R.CACHE_STATUS_AT_LIMIT 0

/-! ## Completion points of writes (R329, R330) -/

/-- BUFFERED writes complete at the DURABLE point (R330): the cache does not serve writes, or the vault is faulted. -/
def State.durableForced (s : State) : Bool := s.get R.CACHE_STATUS_STATE != 2 || s.vault.faulted

/-- Blocks transferred good by a command that waits for its completion point: a WRITE's, none for WRITE-ZEROES and
DEALLOCATE (R305). -/
def Cmd.written (c : Cmd) : Nat := if c.op = 2 then c.blocks else 0

/-- Complete a command that waits only for lines and map changes, when nothing is left (R329). -/
def State.settleCmd (r : CmdRef) (s : State) : State :=
  match s.cmdOf r with
  | some c =>
    (match c.stage with
     | .durable => if c.lines.isEmpty then
         (if s.jn.seq ≤ s.jn.durable then s.complete c St.success 0 0 c.written else s.setCmd { c with stage := .journal s.jn.seq })
         else s
     | .journal q => if q ≤ s.jn.durable then s.complete c St.success 0 0 c.written else s
     | _ => s)
  | none => s

/-- FLUSH completes when the commands it covers have ended and its lines are on the medium (R333). -/
def State.settleFlush (r : CmdRef) (s : State) : State :=
  match s.cmdOf r with
  | some c => if c.op = 5 && c.stage = .begun && c.covers.isEmpty && c.lines.isEmpty then s.complete c St.success 0 0 0 else s
  | none => s

/-- STAGING_COMMIT_COMPLETE (R329, R351): every block is held in two packages. A BUFFERED write completes once its map
changes are durable; any other waits for the DURABLE point. -/
def stagingCommitComplete (r : CmdRef) (s : State) : State :=
  match s.cmdOf r with
  | some c =>
    if c.stage != .commit then s
    else
      let buffered := match tget c.vol s.vols with | some v => v.buffered | none => false
      if buffered && !c.forceDurable && !s.durableForced then
        if s.jn.seq ≤ s.jn.durable then s.complete c St.success 0 0 c.blocks else s.setCmd { c with stage := .journal s.jn.seq }
      else (s.setCmd { c with stage := .durable, asDurable := buffered && !c.forceDurable }).settleCmd r
  | none => s

/-! ## States of the cache (R354) -/

/-- A change of state is recorded with the new state and the old (R354, R505). -/
def State.cacheState (st : Nat) (inv : Bool) (s : State) : State :=
  let old := s.get R.CACHE_STATUS_STATE
  ((s.set R.CACHE_STATUS_STATE st).setB R.CACHE_STATUS_INV_DONE inv).event Ev.CACHE_STATE (origin 0 0) st old 0 0

/-- INVALIDATE-ALL (R354): every tag entry becomes KIND 0, and the cache Invalidating; nothing unless Off. -/
def State.invalidateAll (s : State) : State :=
  if s.get R.CACHE_STATUS_STATE = 0 then
    (s.modCache fun c => { c with tags := [], frames := [] }).cacheState 1 false
  else s

/-- Enable (R354): true when it was refused. -/
def State.cacheEnable (s : State) : Bool × State :=
  let st := s.get R.CACHE_STATUS_STATE
  if st = 3 then (false, s.cacheState 2 (s.bit R.CACHE_STATUS_INV_DONE))
  else if st = 2 then (false, s)
  else if st = 0 && s.bit R.CACHE_STATUS_INV_DONE then (false, s.cacheState 2 true)
  else (true, (s.set R.CACHE_STATUS_ENABLE_REFUSED 1).event Ev.CACHE_ENABLE_REFUSED (origin 0 0) 0 0 0 0)

/-- DRAINING_DONE (R354): with no dirty line and no acknowledged staging the cache goes Off, and the commands that wait for
that complete. -/
def State.drainingDone (s : State) : State :=
  if s.get R.CACHE_STATUS_STATE = 3 && s.dirtyTags.isEmpty && s.cache.staged.isEmpty then
    let s1 := s.cacheState 0 false
    s1.forAll (s1.cmds.filter fun c => c.op = 0x4A && capB c.cap 4 = 2 && c.stage = .begun) fun c t =>
      t.complete c St.success 0 0 0
  else s

/-- Disable (R354): an On cache drains. -/
def State.cacheDisable (s : State) : State :=
  if s.get R.CACHE_STATUS_STATE = 2 then (s.cacheState 3 (s.bit R.CACHE_STATUS_INV_DONE)).drainingDone else s

/-- INVALIDATE_ALL_DONE (R354): all entries are cleared: Off with INV_DONE = 1. -/
def invalidateAllDone (s : State) : State :=
  if s.get R.CACHE_STATUS_STATE = 1 then
    let s1 := s.cacheState 0 true
    s1.forAll (s1.cmds.filter fun c => c.op = 0x4A && (capB c.cap 4 = 0 || capB c.cap 4 = 2) && c.stage = .begun) fun c t =>
      t.complete c St.success 0 0 0
  else s

/-! ## Fills (R355) -/

/-- Set bits of a list of block numbers. -/
def bitsOf (l : List Nat) : Nat := l.foldl (fun w i => if w.testBit i then w else w + 2 ^ i) 0

/-- Start the fill of a line with the blocks read for it: an absent line takes a victim with FILL = 1 (R350, R355). -/
def State.startFill (v line : Nat) (blocks : Tbl (Block × Pi)) (s : State) : State :=
  let set := lineSet v line
  match s.findLine v line with
  | some w => (s.setTag set w { s.tag set w with fill := true }).modCache fun c => { c with fills := c.fills ++ [(v, line, blocks)] }
  | none =>
    match s.victim set [] with
    | some w => (s.takeWay set w { vol := v, line := line, kind := 1, fill := true }).modCache fun c =>
        { c with fills := c.fills ++ [(v, line, blocks)] }
    | none => s.count (R.CACHE_COUNT_COUNT 4) blocks.length

/-- The blocks of a fill land (R355) in the line, but for those already valid or held in acknowledged
staging. -/
def State.fillLands (v line : Nat) (s : State) : State :=
  match s.cache.fills.find? fun f => f.1 = v && f.2.1 = line with
  | none => s
  | some (_, _, blocks) =>
    let set := lineSet v line
    let s1 := s.modCache fun c => { c with fills := c.fills.filter fun f => !(f.1 = v && f.2.1 = line) }
    match s1.findLine v line with
    | none => s1
    | some w =>
      let t := s1.tag set w
      let put := blocks.filter fun e => !t.valid.testBit e.1 && (tget (stageKey v (32 * line + e.1)) s1.cache.staged).isNone
      let s2 := s1.forAll put fun e u => u.setFrame set w e.1 e.2
      ((s2.setTag set w { t with valid := t.valid + bitsOf (put.map (·.1)), fill := false }).touch set w).count
        (R.CACHE_COUNT_COUNT 2) put.length

/-! ## Write-back (R353) -/

/-- Start the write-back of a line: WB set, WRITTEN cleared, and its dirty blocks read (R353 step 1). -/
def State.startWb (v line : Nat) (s : State) : Tbl (Block × Pi) × State :=
  let set := lineSet v line
  let st := s.cache.staged.filter fun e => e.1 / 2 ^ 41 = v && e.1 % 2 ^ 41 / 32 = line
  let s0 := s.modCache fun c => { c with staging := st.foldl (fun t e => tset e.1 e.2 t) c.staging }
  let staged := st.map fun e => (e.1 % 32, e.2)
  match s0.findLine v line with
  | some w =>
    let t := s0.tag set w
    if t.dirty = 0 then (staged, s0)
    else
      let bl := (List.range 32).filterMap fun b => if t.dirty.testBit b then (s0.frame set w b).map fun x => (b, x) else none
      (staged.foldl (fun u e => tset e.1 e.2 u) bl, s0.setTag set w { t with wb := true, written := 0, wbDirty := t.dirty })
  | none => (staged, s0)

/-- The write-back of a line has reached the DURABLE point, or failed (R353 steps 3 and 4). -/
def State.endWb (v line : Nat) (ok : Bool) (s : State) : State :=
  let set := lineSet v line
  let mine (k : Nat) : Bool := k / 2 ^ 41 = v && k % 2 ^ 41 / 32 = line
  let s0 := s.modCache fun c => { c with
    durable := c.durable.filter (· != (v, line))
    staged := if ok then c.staged.filter fun e => !(mine e.1 && tget e.1 c.staging = some e.2) else c.staged
    staging := c.staging.filter fun e => !mine e.1 }
  let s1 := match s0.findLine v line with
    | some w =>
      let t := s0.tag set w
      if !t.wb then s0
      else if !ok then s0.setTag set w { t with wb := false, wbDirty := 0 }
      else
        let left := (List.range 32).filter fun b => t.dirty.testBit b && (t.written.testBit b || !t.wbDirty.testBit b)
        let t' := { t with dirty := bitsOf left, wb := false, wbDirty := 0 }
        ((s0.setTag set w t').count (R.CACHE_COUNT_COUNT 3) 1).syncTwin set w
    | none => s0
  let still := (s1.findLine v line).any (fun w => (s1.tag set w).dirty != 0) ||
    s1.cache.staged.any fun e => mine e.1
  if ok && !still then s1.modCache fun c => { c with reserved := c.reserved.filter (· != (v, line)) } else s1

/-- A step of a by-address operation at a line whose blocks of the range are clean or have been written back (R357, R358):
PURGE and DROP-CLEAN invalidate the blocks of the range that are not dirty. -/
def State.maintStep (c : Cmd) (v line : Nat) (s : State) : State :=
  let op := capB c.cap 4
  if op = 3 then s
  else match s.findLine v line with
    | some w =>
      let set := lineSet v line
      let t := s.tag set w
      let lo := c.lba
      let hi := c.lba + c.blocks
      let all := capF c.cap 5 2 = 0xFFFF
      let inR (b : Nat) : Bool := all || (lo ≤ 32 * line + b && 32 * line + b < hi)
      let keep := (List.range 32).filter fun b => t.valid.testBit b && (!inR b || t.dirty.testBit b)
      let held := s.cmds.any fun d => d.ref != c.ref && d.op = 0x4A && d.stage = .begun && capB d.cap 4 != 3 && d.todo.contains (v, line)
      let t' := { t with valid := bitsOf keep, hold := held }
      if keep.isEmpty && !t.fill && !t.wb then (s.dropFrame set w).setTag set w { t' with kind := 0 } else s.setTag set w t'
    | none => s

/-- A line that an operation waits at to invalidate its blocks carries HOLD (R358). -/
def State.holdLine (op : Nat) (l : Nat × Nat) (s : State) : State :=
  match s.findLine l.1 l.2 with
  | some w => if op = 3 then s else s.setTag (lineSet l.1 l.2) w { s.tag (lineSet l.1 l.2) w with hold := true }
  | none => s

/-- Operations of R357 that wait at a line take their step there; DROP-CLEAN alone does not wait for its dirty blocks. -/
def State.maintLine (v line : Nat) (clean : Bool) (s : State) : State :=
  let ops := s.cmds.filter fun c => c.op = 0x4A && c.stage = .begun && c.todo.contains (v, line) && (clean || capB c.cap 4 = 5)
  s.forAll ops fun c t =>
    let t1 := (t.maintStep c v line).set R.CACHE_MAINT_SET (lineSet v line)
    let c' : Cmd := { c with todo := c.todo.filter (· != (v, line)) }
    if c'.todo.isEmpty then (t1.set R.CACHE_MAINT_BUSY 0).complete c St.success 0 0 0 else t1.setCmd c'

/-- A line's write-back is over for the commands that wait on it: writes, flushes and operations of R357. -/
def State.lineDone (v line : Nat) (s : State) : State :=
  let s1 := { s with cmds := s.cmds.map fun (c : Cmd) => { c with lines := c.lines.filter (· != (v, line)) } }
  let s2 := s1.maintLine v line true
  let s3 := s2.forAll s2.cmds fun c t => t.settleCmd c.ref
  s3.forAll s3.cmds fun c t => t.settleFlush c.ref

/-- CACHE_FILL_COMPLETE (R355, R358): the fill lands, and the operations that waited for it take their step at the line. -/
def cacheFillComplete (v line : Nat) (s : State) : State :=
  if s.cache.fills.any fun f => f.1 = v && f.2.1 = line then
    let t := s.fillLands v line
    t.maintLine v line (match t.findLine v line with | some w => (t.tag (lineSet v line) w).dirty = 0 | none => true)
  else s

/-- CACHE_WRITEBACK_DONE (R353): a line's write-back has reached the DURABLE point and its dirty bits not rewritten are
cleared; a failed one leaves the line dirty. Freed space goes to waiting writes, and a draining cache may go Off. -/
def cacheWritebackDone (v line : Nat) (ok : Bool) (s : State) : State :=
  if ok && !s.cache.durable.contains (v, line) then s
  else
    let s1 := s.endWb v line ok
    if ok then ((s1.lineDone v line).spaceFreed).drainingDone else s1

/-- An entry of a set with a tag error as its frame's header gives it back (R349), VALID being that of the last rewrite (log entry 28). A
header that fails its CRC is read from the partner's, which holds the dirty blocks; a clean line has no partner, and is gone. -/
def State.rebuiltTag (s : State) (e : TagErr) (w : Nat) (t : Tag) : Option Tag :=
  if !e.bad.contains w || (t.dirty != 0 && e.bad.contains t.partner) then some { t with valid := t.hdr }
  else if t.dirty = 0 then none
  else let u := s.tag e.set t.partner; some { t with valid := u.dirty, dirty := u.dirty }

/-- CACHE_TAG_ERROR (R349): the 16 entries of a set are rebuilt from the headers of its frames. -/
def cacheTagError (e : TagErr) (s : State) : State :=
  let gone := s.cache.tags.filter fun x => x.1 / 16 = e.set && (s.rebuiltTag e (x.1 % 16) x.2).isNone
  (s.modCache fun c => { c with
    tags := c.tags.filterMap fun x =>
      if x.1 / 16 = e.set then (s.rebuiltTag e (x.1 % 16) x.2).map fun t => (x.1, t) else some x
    frames := c.frames.filter fun f => !gone.any fun x => x.1 = f.1 / 32 }).event Ev.CACHE_TAG_REBUILT (origin 0 0) 0 0 0 0

/-! ## Packages (R342, R345, R346, R359 to R361) -/

/-- The primary entry of a line whose way has gone is replaced by its twin (R359 step 2). -/
def State.promoteTwins (w : Nat) (s : State) : State :=
  let gone := s.cache.tags.filter fun e => e.1 % 16 = w
  s.forAll gone fun e t =>
    let set := e.1 / 16
    let x := e.2
    let p := t.tag set x.partner
    let t1 := (t.dropFrame set w).setTag set w { x with kind := 0 }
    if x.dirty = 0 && x.kind = 1 then t1
    else if s.wayOk x.partner then
      if x.kind = 1 then t1.setTag set x.partner { p with
          kind := 1, dirty := x.dirty, valid := x.dirty, wb := x.wb, wbDirty := x.wbDirty, written := x.written, partner := w }
      else t1
    else t1

/-- Dirty blocks whose two copies were in two lost packages (R361): written LOST to their placement and entered in the
ledger with cause 4. -/
def State.loseDirty (w : Nat) (s : State) : State :=
  let gone := s.cache.tags.filter fun e => e.1 % 16 = w && e.2.kind = 1 && e.2.dirty != 0 && !s.wayOk e.2.partner
  let n := gone.foldl (fun k e => k + ((List.range 32).filter fun b => e.2.dirty.testBit b).length) 0
  let s1 := s.forAll gone fun e t => t.forAll ((List.range 32).filter fun b => e.2.dirty.testBit b) fun b u =>
    let lba := 32 * e.2.line + b
    let pl := u.find e.2.vol lba
    let u1 := match pl with
      | some p => u.putMedium p (u.sealed p.row p.col (u.rowGen p.row) 0 (zeroTuple e.2.vol lba) false true)
      | none => u
    u1.loseBlocks e.2.vol lba 1 4 (pl.elim 0xFFFFFFFF (·.row)) (pl.elim 0 (·.col))
  let s2 := s1.forAll (s1.cmds.filter fun c => c.op = 5 && c.stage = .begun &&
      gone.any fun e => c.lines.contains (e.2.vol, e.2.line)) fun c t => t.complete c St.internal 0 0 0
  if n = 0 then s2 else s2.event Ev.CACHE_DATA_LOST (origin 0 0) 0 0 n 0

/-- Map segments held in a package (R219, R360). -/
def State.pkgSegments (s : State) (d : Nat) : List Nat :=
  ((List.range 256).map fun k => d + 16 * k).filter (fun k => (tget k s.cache.moved).isNone) ++
    (s.cache.moved.filter fun e => e.2 = d).map fun e => e.1

/-- A reloaded segment goes into the reserve of a package in service, taken in turn in ascending order (R360). -/
def State.placeSegment (seg : Nat) (s : State) : State :=
  if s.cache.capacityLost then s
  else match ((List.range 16).map fun i => (s.cache.placed + 1 + i) % 16).find? fun d => (s.get R.DRAM_STATUS_IN_SERVICE).testBit d with
  | some d => s.modCache fun c => { c with moved := tset seg d c.moved, placed := d }
  | none => s

/-- Ways in service have fallen to 1: as Disable (R354). -/
def State.waysCheck (s : State) : State :=
  if ((List.range 16).filter s.wayOk).length ≤ 1 then s.cacheDisable else s

/-- A package retires (R359 to R361): its way goes out of service, twins take over, its segments are to be reloaded, its
spill entries and handles are gone, and a fourth retirement leaves the map without a home. -/
def State.retirePkg (d reason : Nat) (s : State) : State :=
  if (s.get R.DRAM_STATUS_RETIRED).testBit d then s
  else
    let clr (f : Fld) (t : State) : State := if (t.get f).testBit d then t.set f (t.get f - 2 ^ d) else t
    let busy := !s.cache.retwin.isEmpty
    let s1 := clr R.DRAM_STATUS_IN_SERVICE (clr R.CACHE_STATUS_WAYS s)
    let s2 := (s1.loseDirty d).promoteTwins d
    let s3 := (s2.set R.DRAM_STATUS_RETIRED (s2.get R.DRAM_STATUS_RETIRED + 2 ^ d))
    let s4 := if busy then (s3.enterLedger 7 d reason false).event Ev.DRAM_PACKAGE_RETIRED (origin 7 d) 0 0 0 0
        |>.attention 7 d |>.replan 6 0
      else s3.retire 7 d reason Ev.DRAM_PACKAGE_RETIRED false 0 0 0 0
    let mine := s4.pkgSegments d
    let segs := mine ++ s4.cache.reload.filter fun x => !mine.contains x
    let s5 := (s4.modCache fun c => { c with lost := addId d c.lost, reload := segs, retwin := addId d c.retwin })
    let s6 := (s5.set R.DRAM_RELOAD_ACTIVE 1).set R.DRAM_RELOAD_LEFT (min 256 segs.length)
    let kept := s6.loseSpill d
    let s7 := { kept with
      pool := { kept.pool with retained := kept.pool.retained.filter fun e => e.1 % 16 != d }
      weak := kept.weak.filter fun w => w.lba % 16 != d }
    let s8 := if 4 ≤ s7.cache.lost.length && !s7.cache.capacityLost then
        (s7.modCache fun c => { c with capacityLost := true }).event Ev.DRAM_CAPACITY_LOST (origin 0 0) 0 0 0 0
      else s7
    s8.waysCheck

/-- DRAM_UNCORRECTABLE (R342, R346, R359): an uncorrectable burst is counted, recorded and retires the package. -/
def dramUncorrectable (d addr : Nat) (s : State) : State :=
  let s1 := ((s.set (R.DRAM_PKG0_UE d) (min 255 (s.get (R.DRAM_PKG0_UE d) + 1))).set (R.DRAM_PKG2_LAST_ADDR d) addr).event
    Ev.DRAM_UNCORRECTABLE (origin 7 d) 0 0 0 0
  s1.retirePkg d Ev.DRAM_UNCORRECTABLE

/-- Corrected bursts of a package are counted over a rolling 24 h (R346). -/
def State.countCe (d n addr : Nat) (s : State) : State :=
  let l := List.replicate n s.opSec ++ (tgetD d [] s.cache.ceAt).filter fun t => s.opSec < t + 86400
  let s1 := (s.modCache fun c => { c with ceAt := tset d l c.ceAt }).count (R.DRAM_PKG1_CE_TOTAL d) n
  let s2 := s1.set (R.DRAM_PKG0_CE_WINDOW d) (min 255 l.length)
  if n = 0 then s2 else s2.set (R.DRAM_PKG2_LAST_ADDR d) addr

/-- DRAM_CE_LIMIT (R346, R359): corrected errors found; at CE_LIMIT within 24 h the package retires. -/
def dramCeLimit (d n addr : Nat) (s : State) : State :=
  let s1 := s.countCe d n addr
  if s1.get R.DRAM_CTRL_CE_LIMIT ≤ (tgetD d [] s1.cache.ceAt).length then s1.retirePkg d Ev.DRAM_PACKAGE_RETIRED else s1

/-- DRAM_SCRUB_PASS (R345): a pass of a package ends with its corrected bursts. -/
def dramScrubPass (d n addr : Nat) (s : State) : State :=
  if s.bit R.DRAM_CTRL_SCRUB_EN && (s.get R.DRAM_STATUS_IN_SERVICE).testBit d then
    let s1 := (s.countCe d n addr).set (R.DRAM_PKG0_SCRUB_PCT d) 0
    if s1.get R.DRAM_CTRL_CE_LIMIT ≤ (tgetD d [] s1.cache.ceAt).length then s1.retirePkg d Ev.DRAM_PACKAGE_RETIRED
    else s1
  else s

/-- The new twins of R359 step 5 are written: every dirty line without a twin gets one, and CACHE_RETWIN_DONE is
recorded. -/
def State.retwinDone (s : State) : State :=
  if s.cache.retwin.isEmpty then s
  else
    let lone := s.cache.tags.filter fun e => e.2.kind = 1 && e.2.dirty != 0 && !s.wayOk e.2.partner
    let s1 := s.forAll lone fun e t =>
      let set := e.1 / 16
      let w := e.1 % 16
      match t.victim set [w] with
      | some tw =>
        let t1 := t.takeWay set tw { e.2 with kind := 2, partner := w, valid := e.2.dirty, wb := false }
        let t2 := t1.setTag set w { t1.tag set w with partner := tw }
        t2.forAll ((List.range 32).filter fun b => e.2.dirty.testBit b) fun b u =>
          match u.frame set w b with | some x => u.setFrame set tw b x | none => u
      | none => t
    (s1.modCache fun c => { c with retwin := [] }).event Ev.CACHE_RETWIN_DONE (origin 0 0) 0 0 0 0

/-- MAP_SEGMENT_RELOAD (R359, R360): a segment has been reloaded; by the last of them new twins stand, and MAP_RELOAD_DONE is
recorded. A segment with no readable copy has its blocks entered in the ledger (R245). -/
def mapSegmentReload (seg : Nat) (ok : Bool) (s : State) : State :=
  if s.cache.reload.contains seg then
    let s1 := if ok then s else
      (s.forAll (s.exts.filter fun e => e.1 % 4096 = seg && e.2.st != 0) fun e t =>
        t.loseBlocks (e.1 / 2 ^ 33) (256 * (e.1 % 2 ^ 33)) 256 2 e.2.row e.2.col).event Ev.MAP_SEGMENT_LOST (origin 0 0) 0 0 0 0
    let left := delId seg s1.cache.reload
    let s2 := ((s1.placeSegment seg).modCache fun c => { c with reload := left }).set R.DRAM_RELOAD_LEFT (min 256 left.length)
    if left.isEmpty then
      ((s2.retwinDone).set R.DRAM_RELOAD_ACTIVE 0).event Ev.MAP_RELOAD_DONE (origin 0 0) 0 0 0 0
    else s2
  else s

/-! ## The commands -/

/-- STAGING_COMMIT (R327, R351, R352). -/
def execStagingCommit (r : CmdRef) (s : State) := actHost s (State.tryCommit r)
def execStagingCommitComplete (r : CmdRef) (s : State) := act s (stagingCommitComplete r)
def execCacheFillComplete (v : Vol) (line : Nat) (s : State) := actHost s (cacheFillComplete v.val line)
def execCacheWritebackDone (v : Vol) (line : Nat) (ok : Bool) (s : State) := act s (cacheWritebackDone v.val line ok)
def execCacheTagError (e : TagErr) (s : State) := act s (cacheTagError e)
def execInvalidateAllDone (s : State) := act s invalidateAllDone
def execDramUncorrectable (d : Pkg) (addr : Nat) (s : State) := act s (dramUncorrectable d.val addr)
def execDramCeLimit (d : Pkg) (n addr : Nat) (s : State) := act s (dramCeLimit d.val n addr)
def execDramScrubPass (d : Pkg) (n addr : Nat) (s : State) := act s (dramScrubPass d.val n addr)

end Sys2Proof.Machine
end

