-- ==== Sys2Proof/Machine/Lqp.lean ====
section
/-! DEFINITION. LQP (ch10): links and addresses, frames and their delivery, sessions, paths, failover, and the timers of
the protocol. -/

namespace Sys2Proof.Machine

/-- Sequence distance from b up to a, modulo 2^32 (R299). -/
def seqDist (a b : Nat) : Nat := (a + 2 ^ 32 - b % 2 ^ 32) % 2 ^ 32

/-- Session and path index of an address (R290). -/
def State.findPath (s : State) (a : PathAddr) : Option (Nat × Nat) :=
  s.sessions.findSome? fun (n, x) => (x.paths.findIdx? fun p => p.addr = a && p.up).map fun i => (n, i)

/-- Host service is open on a port: the module serves, or is Unlit and the port is MP (R293, R319). -/
def State.serviceOn (s : State) (port : Nat) : Bool :=
  s.get R.GLB_STATUS_STATE = 0 || (s.get R.GLB_STATUS_STATE = 2 && port = 2)

/-- Send an ACK frame (R299). -/
def State.sendAck (n p : Nat) (s : State) : State :=
  match s.path n p with
  | some x =>
    let h := s.frameHead n x x.tx false
    (s.transmit x.addr.port (.ack n p h (frameBytes 4 n 0 0 0 h []))).modPath n p fun y => { y with unacked := 0, frames := y.frames + 1 }
  | none => s

/-- Send a NAK frame (R299). -/
def State.sendNak (n p reason : Nat) (s : State) : State :=
  match s.path n p with
  | some x =>
    let h := s.frameHead n x x.tx false
    (s.transmit x.addr.port (.nak n p reason h (frameBytes 5 n 0 (16 * reason) 0 h []))).modPath n p fun y => { y with naks := y.naks + 1 }
  | none => s

/-! ## Round trips and retransmission (R299, R300) -/

/-- SRTT and RTTVAR in 1/32 µs after a sample in µs (R300). -/
def rttSample (old : Option (Nat × Nat)) (us : Nat) : Nat × Nat :=
  let v := 32 * us
  match old with
  | none => (v, v / 2)
  | some (srtt, var) =>
    let d := if v ≤ srtt then srtt - v else v - srtt
    ((7 * srtt + v) / 8, (3 * var + d) / 4)

/-- RTO of R300, µs. -/
def rtoOf (min10 : Nat) (r : Option (Nat × Nat)) : Nat :=
  match r with
  | some (srtt, var) => max (10 * min10) ((srtt + 4 * var) / 32)
  | none => 1000

/-- ACK, WINDOW and SACK of a received frame (R299 to R301): what is acknowledged leaves; its samples go into the RTO,
which returns to its formula when the acknowledgement point advances; waiting frames are sent as the window allows. -/
def State.applyAck (n p : Nat) (f : Frame) (s : State) : State :=
  match s.path n p with
  | none => s
  | some x =>
    let done := x.sent.filter fun e => seqDist f.ack e.1 != 0 && seqDist f.ack e.1 < 2 ^ 31
    let rest := x.sent.filter fun e => !(seqDist f.ack e.1 != 0 && seqDist f.ack e.1 < 2 ^ 31)
    let rtt := done.foldl (fun r e => if e.2.2.1 then r else some (rttSample r (s.now - e.2.2.2))) x.srtt
    let x' := if done.isEmpty then { x with window := f.window, sack := f.sack }
      else { x with
        sent := rest, srtt := rtt, window := f.window, sack := f.sack, timeouts := 0
        rto := rtoOf (s.get R.LQP_TIMING_RTO_MIN) rtt }
    (s.modPath n p fun _ => x').pump n p x'.queue.length

/-- Resend frames already sent on a path, marked (R299, R300). -/
def State.resend (n p : Nat) (l : List (Nat × TxFrame × Bool × Nat)) (s : State) : State :=
  match s.path n p with
  | none => s
  | some x =>
    let s1 := s.forAll l fun e t => t.transmit x.addr.port (let h := t.frameHead n x e.1 true; .frame n p h e.2.1 (t.txBytes n h e.2.1))
    (s1.modPath n p fun y => { y with
      sent := y.sent.map fun e => if l.any (fun k => k.1 = e.1) then (e.1, e.2.1, true, e.2.2.2) else e
      retransmits := y.retransmits + l.length }).portCount x.addr.port 4 l.length

/-! ## Paths down and failover (R296 to R298) -/

/-- A path is found down (R296, R297): frames held out of order are discarded, PATH_DOWN is recorded with the path and
the cause, and one FAILOVER with THROUGH is sent on the surviving path. A running failover that loses its surviving path
leaves the session held. -/
def State.pathDown (n p cause : Nat) (s : State) : State :=
  match s.path n p with
  | none => s
  | some x =>
    if !x.up then s
    else
      let through := (x.rx + 2 ^ 32 - 1) % 2 ^ 32
      let s1 := (s.modPath n p fun y => { y with up := false, held := [], naked := false, through := through }).event
        Ev.PATH_DOWN (origin 11 n) p cause 0 0
      let s2 := if s1.domain 7 x.addr.port |>.active then s1.replan 7 x.addr.port else s1
      match (s2.session n).bind fun y => y.paths.findIdx? (·.up) with
      | some i => (s2.modPath n p fun y => { y with told := true }).sendOn n i (.ctrl 8 0 0 p 0 through)
      | none => s2

/-- Step 3 of R297: the peer's FAILOVER is delivered on a surviving path: every frame above its THROUGH, then the frames
that waited, go on that path in order, and the dead path's commands are bound to it. -/
def State.failover (n dead alive through : Nat) (s : State) : State :=
  match s.path n dead, s.session n with
  | some x, some y =>
    let again := (x.sent.filter fun e => let d := seqDist e.1 through; d != 0 && d < 2 ^ 31).map (·.2.1)
    let all := again ++ x.queue ++ y.parked
    let s1 := (s.setSession n { y with parked := [] }).modPath n dead fun z => { z with
      sent := [], queue := [], failovers := z.failovers + 1 }
    let s2 := s1.forAll all fun f t => t.sendOn n alive f
    { s2 with cmds := s2.cmds.map fun (c : Cmd) => if c.ref.session = n && c.path = dead then { c with path := alive } else c }.event
      Ev.PATH_FAILOVER (origin 11 n) dead 0 0 0
  | _, _ => s

/-- A FAILOVER is delivered (R297): one that names no path held, or the path it came on, is ignored. -/
def State.takeFailover (n p dead through : Nat) (s : State) : State :=
  match s.path n dead with
  | none => s
  | some _ =>
    if dead = p then s
    else
      let s1 := s.pathDown n dead 4
      s1.failover n dead p through

/-! ## Data (R306, R310) -/

/-- The first check of R310 that a delivered block fails: none when it passes, or PI_ACTION inserts. -/
def piFails (c : Cmd) (i : Nat) (b : Block) (t : Pi) : Option Nat :=
  if c.piAction != 0 then none
  else if t.guard != blockGuard b then some St.piGuard
  else if c.checkRef && t.ref != (c.refTag + i) % 2 ^ 32 then some St.piRef
  else if c.checkApp && Nat.land (Nat.xor t.app c.appTag) c.appMask != 0 then some St.piApp
  else none

/-- The tuple stored of a delivered block (R310). -/
def piStored (c : Cmd) (i : Nat) (b : Block) (t : Pi) : Pi :=
  if c.piAction = 1 then moduleTuple c.vol (c.lba + i) b else t

/-- Blocks of a WRITE are delivered into uncommitted staging, checked one by one (R310); the first failing block completes
the command with its LBA, held or not (R336). -/
def State.takeBlocks (n q tag offset : Nat) (l : List (Block × Pi)) (last : Bool) (s : State) : State :=
  match s.cmdOf ⟨n, q, tag⟩ with
  | none => s
  | some c =>
    if c.op != 2 || c.commit != .opened then s
    else if c.blocks < offset + l.length then s.complete c St.invalidField 0 0 0
    else
      let bad := (List.range l.length).findSome? fun i =>
        let x := l.getD i (0, ⟨0, 0, 0⟩)
        (piFails c (offset + i) x.1 x.2).map fun st => (st, c.lba + offset + i)
      match bad with
      | some (st, lba) => s.complete c st lba 0 0
      | none =>
        let data := (List.range l.length).foldl (fun t i =>
          let x := l.getD i (0, ⟨0, 0, 0⟩)
          tset (offset + i) (x.1, piStored c (offset + i) x.1 x.2) t) c.data
        s.setCmd { c with data := data, nextOff := offset + l.length, last := c.last || last }

/-- How many bytes of data an admin command takes from the host (R309, R316): none where its count or length is outside its
range. -/
def adminBytes (c : Cmd) : Nat :=
  match c.op with
  | 0x43 => if 1 < capF c.cap 12 4 && capF c.cap 12 4 ≤ 2048 then 4 * capF c.cap 12 4 else 0
  | 0x47 => if capB c.cap 6 = 2 then 0 else 64
  | 0x4D => if capF c.cap 12 4 ≤ 1048576 then capF c.cap 12 4 else 0
  | _ => 0

/-- Bytes of an admin command are delivered. -/
def State.takeBytes (n q tag offset : Nat) (l : List Nat) (last : Bool) (s : State) : State :=
  match s.cmdOf ⟨n, q, tag⟩ with
  | none => s
  | some c =>
    if adminBytes c < offset + l.length then s.complete c St.invalidField 0 0 0
    else s.setCmd { c with
      bytes := c.bytes.take offset ++ List.replicate (offset - c.bytes.length) 0 ++ l ++ c.bytes.drop (offset + l.length)
      nextOff := offset + l.length, last := c.last || last }

/-! ## Delivery (R290, R299) -/

/-- A CLOSE is received (R295): no new capsule is accepted, and the session is freed when no command is left. CLOSED frees
a session the module closed. -/
def State.takeClose (n op : Nat) (s : State) : State :=
  match s.session n with
  | some x => if op = 5 then (s.setSession n { x with closing := true }).finishClose n else s.dropSession n
  | none => s

/-- A frame is delivered to LQP processing. -/
def State.deliver (n p : Nat) (f : Frame) (s : State) : State :=
  match f.body with
  | .cmd caps =>
    if ((s.session n).any (·.closing)) then s else s.forAll caps fun c t => t.admitCmd n f.queue p c
  | .blocks off l =>
    if (s.cmdOf ⟨n, f.queue, f.tag⟩).isNone then s.portCount f.addr.port 5 1 else s.takeBlocks n f.queue f.tag off l f.last
  | .bytes off l =>
    if (s.cmdOf ⟨n, f.queue, f.tag⟩).isNone then s.portCount f.addr.port 5 1 else s.takeBytes n f.queue f.tag off l f.last
  | .ctrl c =>
    if c.op = 5 || c.op = 6 then s.takeClose n c.op
    else if c.op = 8 then s.takeFailover n p c.path c.through
    else s
  | .none => s

/-- Frames held out of order that now follow in order are delivered (R299). -/
def State.deliverHeld (n p : Nat) : Nat → State → State
  | 0, s => s
  | fuel + 1, s =>
    match s.path n p with
    | some x =>
      (match tget x.rx x.held with
       | some f => ((s.modPath n p fun y => { y with held := tdel x.rx y.held, rx := (x.rx + 1) % 2 ^ 32 }).deliver n p
           f).deliverHeld n p fuel
       | none => s)
    | none => s

/-- An acknowledgement is sent after 16 frames, or at once when solicited (R299). -/
def State.ackDue (n p : Nat) (solicit : Bool) (s : State) : State :=
  match s.path n p with
  | some x => if solicit || 16 ≤ x.unacked then s.sendAck n p else s
  | none => s

/-- A received frame (R290, R299): its path, its trailer, and for a frame that takes a sequence number its place in the
receive window; in order it is delivered with the frames that waited on it, out of order it is held and a gap answered
with one NAK. -/
def State.receive (f : Frame) (s0 : State) : State :=
  let s := s0.portCount f.addr.port 0 1
  match s.findPath f.addr with
  | none => s.portCount f.addr.port 6 1
  | some (n, p) =>
    if n != f.session then s.portCount f.addr.port 6 1
    else if !f.crcOk then (s.sendNak n p 2).portCount f.addr.port 3 1
    else
      let s1 := s.applyAck n p f
      match f.body with
      | .none => s1
      | _ =>
        match s1.path n p with
        | none => s1
        | some x =>
          let d := seqDist f.seq x.rx
          if s1.get R.LQP_TIMING_RX_WINDOW ≤ d then s1.sendNak n p 3
          else if d = 0 then
            let s2 := (s1.modPath n p fun y => { y with rx := (y.rx + 1) % 2 ^ 32, unacked := y.unacked + 1 }).deliver n p f
            let s3 := s2.deliverHeld n p x.held.length
            (s3.modPath n p fun y => if y.held.isEmpty then { y with naked := false } else y).ackDue n p f.solicit
          else
            let s2 := s1.modPath n p fun y => { y with held := tset f.seq f y.held, unacked := y.unacked + 1 }
            let s3 := if x.naked then s2 else (s2.sendNak n p 1).modPath n p fun y => { y with naked := true }
            s3.ackDue n p f.solicit

/-! ## Opening (R291, R293) -/

/-- Refuse an OPEN or ADD-PATH (R293). -/
def State.refuse (f : Frame) (reason : Nat) (s : State) : State :=
  let h : FrameHead := ⟨0, (f.seq + 1) % 2 ^ 32, s.rxWindow f.session 0, 0, 0, false, s.ipHead f.addr⟩
  let host := match f.body with | .ctrl c => c.hostId | _ => 0
  s.transmit f.addr.port (.refuse f.addr reason h (frameBytes 6 f.session 0 0 0 h (ctrlBytes 4 reason host 0 0 0 h.window 0 [])))

/-- A new path; the module's initial SEQ is a free value (R293, log entry 1). -/
def State.newPath (s : State) (f : Frame) (c : Ctrl) (op : Nat) : PathSt :=
  { addr := f.addr, opener := (op, c.hostId, f.seq), rx := (f.seq + 1) % 2 ^ 32, tx := s.freeNat (2 ^ 32)
    window := min c.window 1024 }

/-- Paths up on a host port. -/
def State.pathsOn (s : State) (port : Nat) : Nat :=
  s.sessions.foldl (fun k x => k + (x.2.paths.filter fun p => p.up && p.addr.port = port).length) 0

/-- ACCEPT is sent again in answer to a repeated OPEN: as the frame first sent, when it still waits for its
acknowledgement. -/
def State.acceptAgain (n p : Nat) (s : State) : State :=
  match s.path n p with
  | some x => (match x.sent.find? fun e => match e.2.1 with | .ctrl op .. => op = 3 | _ => false with
    | some e => s.resend n p [e]
    | none => s)
  | none => s

/-- OPEN (R291, R293): a session is opened with the lowest free number, or refused. -/
def openSession (f : Frame) (s0 : State) : State :=
  let s := s0.portCount f.addr.port 0 1
  match f.body with
  | .ctrl c =>
    if c.op != 1 then s0
    else if !f.crcOk then s.portCount f.addr.port 6 1
    else match s.findPath f.addr with
    | some (n, p) =>
      if (s.path n p).any fun x => x.opener = (1, c.hostId, f.seq) then s.acceptAgain n p else s.refuse f 4
    | none =>
      let mp := f.addr.port = 2
      let free := if mp then (List.range 4).map (0x100 + ·) else (List.range 128).map (1 + ·)
      if !s.serviceOn f.addr.port then s.refuse f 3
      else if !mp && (c.queues = 0 || c.depth = 0) then s.refuse f 4
      else match free.find? fun n => (s.session n).isNone with
      | none => s.refuse f 1
      | some n =>
        if !mp && 64 ≤ s.pathsOn f.addr.port then s.refuse f 2
        else
          let q := if mp then 0 else min 63 c.queues
          let d := if mp then 0 else min 1024 c.depth
          ((s.setSession n { hostId := c.hostId, queues := q, depth := d, paths := [s.newPath f c 1] }).bump).sendOn n 0
            (.ctrl 3 0 q 0 d 0)
  | _ => s0

/-- ADD-PATH (R293, R297, R298): a second path on the other host port, or the place of a dead one. -/
def addPath (f : Frame) (s0 : State) : State :=
  let s := s0.portCount f.addr.port 0 1
  match f.body with
  | .ctrl c =>
    if c.op != 2 then s0
    else if !f.crcOk then s.portCount f.addr.port 6 1
    else match s.findPath f.addr with
    | some (n, p) =>
      if (s.path n p).any fun x => x.opener = (2, c.hostId, f.seq) then s.acceptAgain n p else s.refuse f 4
    | none =>
      if !s.serviceOn f.addr.port then s.refuse f 3
      else if f.addr.port = 2 || isMp f.session then s.refuse f 4
      else match s.session f.session with
      | none => s.refuse f 5
      | some x =>
        if x.paths.any fun p => p.up && p.addr.port = f.addr.port then s.refuse f 6
        else if 64 ≤ s.pathsOn f.addr.port then s.refuse f 2
        else
          let n := f.session
          let fresh := s.newPath f c 2
          match x.paths.findIdx? fun p => !p.up with
          | some i =>
            if x.paths.length = 1 || x.paths.all (fun p => !p.up) then
              let j := if x.paths.length = 1 then 1 else 1 - i
              let ps := if x.paths.length = 1 then x.paths ++ [fresh] else x.paths.set j fresh
              let dead := x.paths.getD i fresh
              let s1 := ((s.setSession n { x with paths := ps }).bump).sendOn n j (.ctrl 3 0 x.queues j x.depth 0)
              if dead.told then s1
              else (s1.modPath n i fun y => { y with told := true }).sendOn n j (.ctrl 8 0 0 i 0 dead.through)
            else ((s.setSession n { x with paths := x.paths.set i fresh }).bump).sendOn n i (.ctrl 3 0 x.queues i x.depth 0)
          | none =>
            if 2 ≤ x.paths.length then s.refuse f 6
            else ((s.setSession n { x with paths := x.paths ++ [fresh] }).bump).sendOn n 1 (.ctrl 3 0 x.queues 1 x.depth 0)
  | _ => s0

/-- A frame of a kind is received; a frame of another kind is no such event. -/
def State.receiveIf (ok : Bool) (f : Frame) (s : State) : State := if ok then s.receive f else s

/-- The frame carries a CTRL body with an OP. -/
def frameCtrl (f : Frame) (op : Nat) : Bool := match f.body with | .ctrl c => c.op = op | _ => false

/-- NAK_FRAME (R299): every frame from ACK onward that SACK does not show held is sent again. -/
def nakFrame (f : Frame) (s : State) : State :=
  match s.findPath f.addr, f.body with
  | some (n, p), .none =>
    let s1 := s.receive f
    if f.crcOk && n = f.session then
      match s1.path n p with
      | some x => s1.resend n p (x.sent.filter fun e =>
          let d := seqDist e.1 f.ack
          d < 2 ^ 31 && !(1 ≤ d && d ≤ 32 && f.sack.testBit (d - 1)))
      | none => s1
    else s1
  | _, _ => s

/-! ## Timers (R296, R298 to R300, R306) -/

/-- ACK_DELAY_TIMER (R299): frames wait to be acknowledged and no other frame was sent. -/
def ackDelayTimer (n p : Nat) (s : State) : State :=
  match s.path n p with
  | some x => if x.up && x.unacked != 0 then s.sendAck n p else s
  | none => s

/-- RETRANSMISSION_TIMEOUT (R300, R296): the oldest unacknowledged frame that SACK does not show held is sent again and RTO
doubles; PATH_RETRIES of them in a row take the path down. -/
def retransmissionTimeout (n p : Nat) (s : State) : State :=
  match s.path n p with
  | some x =>
    if !x.up || x.sent.isEmpty then s
    else
      let ack := x.ackPoint
      let old := x.sent.find? fun e =>
        let d := seqDist e.1 ack
        !(1 ≤ d && d ≤ 32 && x.sack.testBit (d - 1))
      let s1 := match old with | some e => s.resend n p [e] | none => s
      let s2 := s1.modPath n p fun y => { y with
        rto := min 64000 (2 * y.rto), timeouts := y.timeouts + 1, naked := false }
      if s2.get R.LQP_TIMING_PATH_RETRIES ≤ x.timeouts + 1 then s2.pathDown n p 2 else s2
  | none => s

/-- KEEPALIVE_TIMER (R296): nothing was sent on the path for KEEPALIVE. -/
def keepaliveTimer (n p : Nat) (s : State) : State :=
  if (s.path n p).any (·.up) then s.sendOn n p (.ctrl 7 0 0 0 0 0) else s

/-- SESSION_HOLD_EXPIRY (R298): a session with no path up is closed and dropped. -/
def sessionHoldExpiry (n : Nat) (s : State) : State :=
  match s.session n with
  | some x => if x.paths.any (·.up) then s else (s.dropSession n).event Ev.SESSION_DROPPED (origin 11 n) 0 0 0 0
  | none => s

/-- DATA_TIMEOUT (R306): a WRITE whose data is not all delivered completes; a held command's timeout is suspended
(R335). -/
def dataTimeout (r : CmdRef) (s : State) : State :=
  match s.cmdOf r with
  | some c =>
    if c.op = 2 && c.commit = .opened && !c.held && c.data.length < c.blocks then s.complete c St.dataTimeout 0 0 0 else s
  | none => s

/-! ## Links (R283 to R286, R38, R500) -/

/-- LINK0 and LINK1 of a port. -/
def linkBit (port link : Nat) : Fld := if link = 0 then R.PORT_STATUS_LINK0 port else R.PORT_STATUS_LINK1 port

/-- The paths on a link of a port go down (R296). -/
def State.linkPathsDown (port : Nat) (on : PathSt → Bool) (s : State) : State :=
  s.forAll (s.sessions.flatMap fun (n, x) =>
      (List.range x.paths.length).filterMap fun i =>
        if (x.paths[i]?).any fun p => p.up && p.addr.port = port && on p then some (n, i) else none)
    fun e t => t.pathDown e.1 e.2 1

/-- Key of an address slot of a link. -/
def addrKey (port link slot : Nat) : Nat := 64 * port + 8 * link + slot

/-- Modified EUI-64 link-local address of a MAC (R284). -/
def linkLocal (mac : Nat) : Nat :=
  let hi := mac / 2 ^ 24
  let flip := Nat.xor (hi / 2 ^ 16) 2 * 2 ^ 16 + hi % 2 ^ 16
  0xFE80 * 2 ^ 112 + flip * 2 ^ 40 + 0xFFFE * 2 ^ 24 + mac % 2 ^ 24

/-- The MAC address of a link: the base address plus 2·p + l, plus 4 for MP (R284). -/
def State.linkMac (s : State) (port link : Nat) : Nat :=
  s.get R.ID_MAC_HI_MAC * 2 ^ 32 + s.get R.ID_MAC_LO_MAC + (if port < 2 then 2 * port + link else 4)

/-- A link starts to use its IPv6 addresses, the link-local one among them: duplicate address detection runs on each (R284). -/
def State.detect (port link : Nat) (s : State) : State :=
  let k := addrKey port link 0
  let s1 := if (tget k s.addrs).isSome then s
    else { s with addrs := tset k ⟨linkLocal (s.linkMac port link), 64, false, false⟩ s.addrs }
  s1.forAll (s1.addrs.filter fun e => e.1 / 8 = 8 * port + link && e.1 % 8 < 5) fun _ t => t.xmit port (.link port link 4)

/-- LINK_UP (R283): a link of a port that is neither retired, disabled nor held in low power comes up; L1 only in
breakout. -/
def linkUp (port link : Nat) (s : State) : State :=
  if s.bit (R.PORT_STATUS_RETIRED port) || s.bit (R.PORT_CFG_DISABLE port) || s.bit (R.PORT_STATUS_LOW_POWER port) ||
      (s.island port).state != 0 || (link = 1 && s.get (R.PORT_CFG_MODE port) != 1) then s
  else (s.set (linkBit port link) 1).detect port link

/-- A link goes down, with its paths (R283, R296). -/
def State.linkDown (port link : Nat) (s : State) : State :=
  (s.set (linkBit port link) 0).linkPathsDown port fun p => p.addr.link = link

/-- HOST_PORT_FAULT (R283, R454): the port retires; its paths fail over. -/
def State.retirePort (p reason : Nat) (s : State) : State :=
  if s.bit (R.PORT_STATUS_RETIRED p) then s
  else
    let s1 := (s.set (R.PORT_STATUS_RETIRED p) 1).retire 8 (2 * p) reason Ev.ELEMENT_RETIRED false 0 0 0 0
    ((s1.linkDown p 0).linkDown p 1).linkPathsDown p fun _ => true

/-- OSFP_MODULE_INSERTED (R38, R500): a module that declares more than 12 W is held in low power, its port down. -/
def osfpModuleInserted (p watts : Nat) (s : State) : State :=
  let s1 := s.set (R.PORT_STATUS_OSFP_W p) (min watts 31)
  if 12 < watts then
    (((s1.set (R.PORT_STATUS_LOW_POWER p) 1).linkDown p 0).linkDown p 1).event Ev.OSFP_POWER_REFUSED (origin 8 (2 * p)) 0 0
      0 0
  else s1.set (R.PORT_STATUS_LOW_POWER p) 0


/-- DAD_RESULT (R284, R320): an address found duplicate is not used and is recorded; another comes into use. -/
def dadResult (port link slot : Nat) (dup : Bool) (s : State) : State :=
  let k := addrKey port link slot
  match tget k s.addrs with
  | none => s
  | some a =>
    let s1 := { s with addrs := tset k { a with valid := !dup, dadFailed := dup } s.addrs }
    if dup then s1.event Ev.HOST_ADDR_DUPLICATE (origin 8 (2 * port + link)) 0 0 0 0 else s1

/-- ROUTER_ADVERTISEMENT (R284): while SLAAC_EN is 1 the lowest free IPv6 slot of the link is filled with the address formed
from the prefix, and detection runs on it. -/
def routerAdvertisement (port link addr prefixLen : Nat) (s : State) : State :=
  if port < 2 && s.bit (R.PORT_CFG_SLAAC_EN port) && !s.addrs.any (fun e => e.1 / 8 = 8 * port + link && e.2.addr = addr) then
    match [1, 2, 3, 4].find? fun k => (tget (addrKey port link k) s.addrs).isNone with
    | some k => { s with addrs := tset (addrKey port link k) ⟨addr, prefixLen, false, false⟩ s.addrs }.send (.link port link 4)
    | none => s
  else s

/-- An address of a link is answered (R284). -/
def State.answers (s : State) (port link addr : Nat) (v4 : Bool) : Bool :=
  s.addrs.any fun e => e.1 / 8 = 8 * port + link && e.2.valid && e.2.addr = addr && ((e.1 % 8 = 5) == v4) &&
    (!v4 || 2 ≤ port || s.bit (R.PORT_CFG_IPV4_EN port))

/-- NEIGHBOUR_DISCOVERY (R284). -/
def neighbourDiscovery (port link addr : Nat) (s : State) : State :=
  if s.answers port link addr false then s.xmit port (.link port link 0) else s
/-- ARP_REQUEST (R284). -/
def arpRequest (port link addr : Nat) (s : State) : State :=
  if s.answers port link addr true then s.xmit port (.link port link 1) else s
/-- ECHO_REQUEST (R284). -/
def echoRequest (port link addr : Nat) (v4 : Bool) (s : State) : State :=
  if s.answers port link addr v4 then s.xmit port (.link port link 2) else s

/-- A link hears what arrives on it: it is up, or it is MP's and the management island works (R27, R283). -/
def State.hears (s : State) (port link : Nat) : Bool := if port < 2 then s.bit (linkBit port link) else s.mgmtOk

/-- LLDP_TIMER (R286): a frame on every link, every 30 s. -/
def lldpTimer (s : State) : State :=
  s.forAll [(0, 0), (0, 1), (1, 0), (1, 1), (2, 0)] fun e t =>
    if t.hears e.1 e.2 then t.send (.link e.1 e.2 3) else t

/-- LLDP_RECEIVE (R286): the last frame of a link is kept; a change of the partner's chassis or port ID is recorded. -/
def lldpReceive (port link ident : Nat) (bytes : List Nat) (s : State) : State :=
  let k := 2 * port + link
  let s1 := { s with lldp := tset k (ident :: bytes) s.lldp }
  match (tgetD k [] s.lldp).head? with
  | some old => if old = ident then s1 else s1.event Ev.LINK_PARTNER_CHANGED (origin 8 k) 0 0 0 0
  | none => s1

/-- What arrives on a link is seen while the link is up. -/
def actLink (s : State) (port link : Nat) (f : State → State) : Host.Outcome State Fault Refusal :=
  act s fun t => if t.hears port link then f t else t

/-! ## The commands -/

/-- LINK_UP (R283). -/
def execLinkUp (p : Port) (l : Fin 2) (s : State) := act s (linkUp p.val l.val)
/-- LINK_DOWN (R296): cable, optics or partner; no retirement (R283). -/
def execLinkDown (p : Port) (l : Fin 2) (s : State) := act s (State.linkDown p.val l.val)
/-- HOST_PORT_FAULT (R283): the MAC or PCS reports an internal fault it cannot correct. -/
def execHostPortFault (p : Port) (s : State) := act s (State.retirePort p.val Ev.ELEMENT_RETIRED)
def execOsfpModuleInserted (p : Port) (w : Nat) (s : State) := act s (osfpModuleInserted p.val w)
def execDadResult (port : Fin 3) (l : Fin 2) (k : Fin 6) (dup : Bool) (s : State) :=
  actLink s port.val l.val (dadResult port.val l.val k.val dup)
def execRouterAdvertisement (port : Fin 3) (l : Fin 2) (addr len : Nat) (s : State) :=
  actLink s port.val l.val (routerAdvertisement port.val l.val addr len)
def execNeighbourDiscovery (port : Fin 3) (l : Fin 2) (addr : Nat) (s : State) :=
  actLink s port.val l.val (neighbourDiscovery port.val l.val addr)
def execArpRequest (port : Fin 3) (l : Fin 2) (addr : Nat) (s : State) := actLink s port.val l.val (arpRequest port.val l.val addr)
def execEchoRequest (port : Fin 3) (l : Fin 2) (addr : Nat) (v4 : Bool) (s : State) :=
  actLink s port.val l.val (echoRequest port.val l.val addr v4)
def execLldpTimer (s : State) := act s lldpTimer
def execLldpReceive (port : Fin 3) (l : Fin 2) (ident : Nat) (b : List Nat) (s : State) :=
  actLink s port.val l.val (lldpReceive port.val l.val ident b)
/-- CMD_FRAME (R303). -/
def execCmdFrame (f : Frame) (s : State) := actLink s f.addr.port f.addr.link (State.receiveIf (match f.body with | .cmd _ => true | _ => false) f)
/-- DATA_FRAME (R306). -/
def execDataFrame (f : Frame) (s : State) :=
  actLink s f.addr.port f.addr.link (State.receiveIf (match f.body with | .blocks .. => true | .bytes .. => true | _ => false) f)
/-- ACK_FRAME (R299). -/
def execAckFrame (f : Frame) (s : State) := actLink s f.addr.port f.addr.link (State.receiveIf (match f.body with | .none => true | _ => false) f)
def execNakFrame (f : Frame) (s : State) := actLink s f.addr.port f.addr.link (nakFrame f)
/-- OPEN (R293). -/
def execOpen (f : Frame) (s : State) := actLink s f.addr.port f.addr.link (openSession f)
def execAddPath (f : Frame) (s : State) := actLink s f.addr.port f.addr.link (addPath f)
/-- CLOSE (R295). -/
def execClose (f : Frame) (s : State) := actLink s f.addr.port f.addr.link (State.receiveIf (frameCtrl f 5) f)
/-- CLOSED (R295). -/
def execClosed (f : Frame) (s : State) := actLink s f.addr.port f.addr.link (State.receiveIf (frameCtrl f 6) f)
/-- KEEPALIVE (R296). -/
def execKeepalive (f : Frame) (s : State) := actLink s f.addr.port f.addr.link (State.receiveIf (frameCtrl f 7) f)
/-- FAILOVER (R297). -/
def execFailover (f : Frame) (s : State) := actLink s f.addr.port f.addr.link (State.receiveIf (frameCtrl f 8) f)
def execAckDelayTimer (n p : Nat) (s : State) := act s (ackDelayTimer n p)
def execRetransmissionTimeout (n p : Nat) (s : State) := act s (retransmissionTimeout n p)
def execKeepaliveTimer (n p : Nat) (s : State) := act s (keepaliveTimer n p)
/-- PATH_SILENCE_TIMEOUT (R296): nothing received for 3 × KEEPALIVE. -/
def execPathSilenceTimeout (n p : Nat) (s : State) := act s (State.pathDown n p 3)
def execSessionHoldExpiry (n : Nat) (s : State) := act s (sessionHoldExpiry n)
def execDataTimeout (r : CmdRef) (s : State) := act s (dataTimeout r)
/-- RECEIVED_PACKET_DROPPED (R285, R287, R290): a packet that fails a check before its session is looked at. -/
def execReceivedPacketDropped (p : Port) (hcrc : Bool) (s : State) :=
  act s fun t => (t.portCount p.val 0 1).portCount p.val (if hcrc then 2 else 6) 1
def execPfcFrameReceived (p : Port) (prio : Fin 8) (us : Nat) (s : State) := act s (pfcFrameReceived p.val prio.val us)

end Sys2Proof.Machine
end

