-- ==== Sys2Proof/Machine/IoCmd.lean ====
section
/-! DEFINITION. The I/O commands (R308): READ, WRITE, WRITE-ZEROES, DEALLOCATE, FLUSH, VERIFY and ABORT, and the RESUME of a
frozen queue (R338). -/

namespace Sys2Proof.Machine

/-! ## Checks on beginning to execute (R304, R316, R360) -/

/-- The status with which an I/O command fails as it begins, if it does: R304 in its order, then a locked volume (R316), and
a map without a home (R360). -/
def State.beginFails (s : State) (c : Cmd) : Option Nat :=
  if s.cache.capacityLost then some St.internal
  else match tget c.vol s.vols with
  | none => some St.noVolume
  | some v =>
    if c.op = 5 then none
    else if c.blocks = 0 || (c.op != 3 && c.op != 4 && 2048 < c.blocks) then some St.invalidField
    else if 256 * v.size < c.lba + c.blocks then some St.lbaRange
    else if v.encrypt && v.key.isNone && c.op != 4 then some St.keyNeeded
    else none

/-- An I/O command may begin now: not held, not begun, and its lock granted where it takes one (R335). -/
def Cmd.mayBegin (c : Cmd) (op : Nat) : Bool :=
  c.op = op && !c.held && c.commit = .opened && c.stage = .fresh && (!opLocks op || c.lock = .granted)

/-! ## Reading one block (R223, R264, R279, R355) -/

/-- What a read of one block finds. -/
inductive Found where
  /-- A block; whether it came from a cache line. -/
  | data (x : Block × Pi) (hit : Bool)
  /-- Never written: sent as zeros with the module's tuple (R311). -/
  | zeros
  /-- Not to be had (R198, R279): what the status of the command tells. -/
  | lost
  /-- Not to be had and not yet in the ledger (R264). -/
  | gone (pl : Place)
  /-- The block is in recovery, or waits for a member to return. -/
  | wait (pl : Place)

/-- A member index may still come back: it is neither retired nor has its rebuild started (R264). -/
def State.mayReturn (s : State) (g q : Nat) : Bool :=
  match s.memberOfIx g q with
  | some m => !(s.mem m).retired && !(s.mem m).rebuild
  | none => (s.store g q).lostAt != 0 && !(s.store g q).begun

/-- R264: an own column out of service and no k sources: the read waits while members can still return. -/
def State.mayWait (s : State) (pl : Place) : Bool :=
  match s.rowShape pl.row with
  | some (g, k, p, qs) =>
    s.mayReturn g (qs.getD pl.col 0) ||
      k ≤ ((List.range (k + p)).filter fun c => c != pl.col && (s.colGood pl.row c || s.mayReturn g (qs.getD c 0))).length
  | none => false

/-- A block at its place: from its own column, reconstructed at once where that column does not serve or a background ladder
runs on it (R202, R264), waiting while it is in recovery or its row has still to be resynced (R273). -/
def State.readPlace (s : State) (v lba : Nat) (pl : Place) : Found :=
  let back := match tget (placeKey pl) s.recs with | some r => r.bg | none => true
  let serve : Found := match s.onMedium pl with
    | some x => if x.lost then .lost else if sealGood (s.expected pl) pl.row x then .data (x.data, x.pi) false else .gone pl
    | none => .zeros
  if s.lostBlock v lba then .lost
  else if !back then .wait pl
  else if s.colGood pl.row pl.col then serve
  else if s.stripe.unsynced.contains pl.row then .wait pl
  else if s.redundant pl.row pl.col then serve
  else if s.mayWait pl then .wait pl
  else .gone pl

/-- A read of one block, in the order acknowledged staging, cache line, medium (R223, R355); a listed block is lost (R279). -/
def State.readBlock (s : State) (v lba : Nat) (bypass : Bool) : Found :=
  match tget (stageKey v lba) s.cache.staged with
  | some x => .data x false
  | none =>
    match (if bypass then s.dirtyInDram v lba else s.inDram v lba) with
    | some x => .data x true
    | none =>
      if s.lostBlock v lba then .lost
      else match s.find v lba with
        | some pl => s.readPlace v lba pl
        | none => .zeros

/-- A stored block whose user bytes are all zero under the zero tuple stands for a block never written (R311). -/
def isZeroBlock (v lba : Nat) (x : Block × Pi) : Bool := x.1 = 0 && x.2 = zeroTuple v lba

/-- A block as sent to a host (R311, R314). -/
def State.sentForm (s : State) (v lba : Nat) (x : Block × Pi) : Block × Pi :=
  if isZeroBlock v lba x then x else s.hostForm v lba x

/-- CHECK_REF and CHECK_APP of a read block (R310, R311). -/
def readCheck (c : Cmd) (i : Nat) (x : Block × Pi) : Option Nat :=
  if isZeroBlock c.vol (c.lba + i) x then none
  else if c.checkRef && x.2.ref != (c.refTag + i) % 2 ^ 32 then some St.piRef
  else if c.checkApp && Nat.land (Nat.xor x.2.app c.appTag) c.appMask != 0 then some St.piApp
  else none

/-- How the blocks of a READ or VERIFY come out, up to the first that stops it. -/
inductive Scan where
  /-- Every block is there. -/
  | all
  /-- A block fails with a status after this many good ones. -/
  | fails (done status : Nat) (gone : Option Place)
  /-- A block must be waited for. -/
  | waits (pl : Place)

/-- Go through the blocks of a command in order; `hostBad` is a block whose seal the host island finds bad twice (R263). -/
def State.scan (s : State) (c : Cmd) (hostBad : Option Nat) (bypass : Bool) : List Nat → Scan
  | [] => .all
  | i :: l =>
    if hostBad = some i then .fails i St.unrecovered none
    else
      let x := s.readBlock c.vol (c.lba + i) bypass
      match x with
      | .wait pl => .waits pl
      | .lost => .fails i St.unrecovered none
      | .gone pl => .fails i St.unrecovered (some pl)
      | .zeros => s.scan c hostBad bypass l
      | .data x _ =>
        match readCheck c i (s.sentForm c.vol (c.lba + i) x) with
        | some st => .fails i st none
        | none => s.scan c hostBad bypass l

/-- The block of a read command as it is sent. -/
def State.sendBlock (s : State) (c : Cmd) (i : Nat) : Block × Pi :=
  match s.readBlock c.vol (c.lba + i) false with
  | .data x _ => s.sentForm c.vol (c.lba + i) x
  | _ => (0, zeroTuple c.vol (c.lba + i))

/-- DATA frames of a READ: two blocks a frame, LAST on the one that ends the command (R306). -/
def State.sendData (c : Cmd) (l : List (Block × Pi)) : Nat → State → State
  | 0, s => s
  | fuel + 1, s =>
    let off := 2 * fuel
    let frame := (l.drop off).take 2
    let t := s.sendData c l fuel
    if frame.isEmpty then t
    else t.sendFor c.ref.session c.path (.blocks c.ref.queue c.ref.tag off frame (off + frame.length = c.blocks))

/-- A read hits a line: a block of the range is valid in it and not in acknowledged staging (R350, R355). -/
def State.hitsLine (s : State) (c : Cmd) (line : Nat) : Bool :=
  (List.range 32).any fun b =>
    let lba := 32 * line + b
    c.lba ≤ lba && lba < c.lba + c.blocks && (tget (stageKey c.vol lba) s.cache.staged).isNone && (s.inDram c.vol lba).isSome

/-- Every line a read hits touches its way (R350). -/
def State.touchHits (c : Cmd) (s : State) : State :=
  s.forAll ((linesOf c.vol c.lba c.blocks).filter fun l => s.hitsLine c l.2) fun l t =>
    match t.findLine l.1 l.2 with
    | some w => t.touch (lineSet l.1 l.2) w
    | none => t

/-- Hits and misses of the cache (R362), and fills of the lines missed: On, with no cold or stream hint (R355). A block that
lies nowhere (R223) is not decoded and fills nothing. -/
def State.countReads (c : Cmd) (s : State) : State :=
  let hits := ((List.range c.blocks).filter fun i => match s.readBlock c.vol (c.lba + i) false with
    | .data _ true => true | _ => false).length
  if !s.cacheLooks then s
  else
    let s1 := ((s.count (R.CACHE_COUNT_COUNT 0) hits).count (R.CACHE_COUNT_COUNT 1) (c.blocks - hits)).touchHits c
    let hint := s.hintOf c
    if s.get R.CACHE_STATUS_STATE != 2 || hint = 2 || hint = 3 then s1
    else s1.forAll (linesOf c.vol c.lba c.blocks) fun ln t =>
      let miss := (List.range 32).filterMap fun b =>
        let lba := 32 * ln.2 + b
        if lba < c.lba || c.lba + c.blocks ≤ lba then none
        else match s.readBlock c.vol lba false with
          | .data x false => if (tget (stageKey c.vol lba) s.cache.staged).isNone then some (b, x) else none
          | _ => none
      if miss.isEmpty then t else t.startFill c.vol ln.2 miss

/-- When a read must be served: its start plus its volume's latency budget, µs (R196). -/
def State.deadlineOf (s : State) (c : Cmd) : Nat :=
  c.since + 1000 * (match tget c.vol s.vols with | some v => v.budget | none => 0)

/-- A command waits on a block in recovery (R202). -/
def State.joinWait (c : Cmd) (pl : Place) (s : State) : State :=
  match tget (placeKey pl) s.recs with
  | some r => if r.waiting.any (·.1 = c.ref) then s
      else { s with recs := tset (placeKey pl) { r with waiting := r.waiting ++ [(c.ref, s.deadlineOf c)] } s.recs }
  | none => s

/-- READ_UNRECOVERED (R198, R505): REC_OUTCOME[9], the counts of the head, and the lost-block ledger with cause 1. -/
def State.unrecovered (v lba step : Nat) (pl : Place) (s : State) : State :=
  let g := match s.position pl with | some x => x.1 | none => 0
  let s1 := (s.count (R.REC_OUTCOME_COUNT 9) 1).event Ev.READ_UNRECOVERED (origin 3 g) v step (lba % 2 ^ 32) (lba / 2 ^ 32)
  s1.loseBlocks v lba 1 1 pl.row pl.col

/-- SEAL_HOST_MISMATCH (R263, R505). -/
def State.hostSeal (v lba : Nat) (s : State) : State :=
  let s1 := s.count R.RED_COUNT_HOST_SEAL 1
  match s.find v lba with
  | some pl => s1.event Ev.SEAL_HOST_MISMATCH (origin 2 ((s.colMember pl.row pl.col).getD 0)) pl.col pl.block pl.row
      (match s.onMedium pl with | some x => x.gen | none => 0)
  | none => s1.event Ev.SEAL_HOST_MISMATCH (origin 0 0) 0 0 0xFFFFFFFF 0

/-- READ (R308, R310, R311): its blocks are read, sent in DATA frames, and it completes; a block that fails completes it with
its LBA after the blocks before it. It waits while a block is in recovery (R197, R202) or its members are to return
(R264). -/
def readCmd (r : CmdRef) (hostBad : Option Nat) (s : State) : State :=
  match s.cmdOf r with
  | none => s
  | some c =>
    if !c.mayBegin 1 then s
    else match s.beginFails c with
    | some st => s.complete c st 0 0 0
    | none =>
      match s.scan c hostBad false (List.range c.blocks) with
      | .waits pl => s.joinWait c pl
      | .all =>
        let l := (List.range c.blocks).map (s.sendBlock c)
        let s1 := s.forAll (extentsOf c.lba c.blocks) fun e t => t.warm c.vol e
        ((s1.countReads c).sendData c l ((c.blocks + 1) / 2)).complete c St.success 0 0 c.blocks
      | .fails i st gone =>
        let l := (List.range i).map (s.sendBlock c)
        let lba := c.lba + i
        let s1 := s.forAll (extentsOf c.lba c.blocks) fun e t => t.warm c.vol e
        let s2 := match gone with | some pl => s1.unrecovered c.vol lba 0 pl | none => s1
        let s3 := if hostBad = some i then s2.hostSeal c.vol lba else s2
        (s3.sendData c l ((i + 1) / 2)).complete c st lba 0 i

/-- VERIFY (R308): every block is read from the medium, or from a newer dirty copy, and its seal and tags checked. -/
def verifyCmd (r : CmdRef) (hostBad : Option Nat) (s : State) : State :=
  match s.cmdOf r with
  | none => s
  | some c =>
    if !c.mayBegin 6 then s
    else match s.beginFails c with
    | some st => s.complete c st 0 0 0
    | none =>
      let s1 := s.forAll (extentsOf c.lba c.blocks) fun e t => t.warm c.vol e
      match s.scan c hostBad true (List.range c.blocks) with
      | .waits pl => s.joinWait c pl
      | .all => s1.complete c St.success 0 0 0
      | .fails i st gone =>
        let s2 := match gone with | some pl => s1.unrecovered c.vol (c.lba + i) 0 pl | none => s1
        (if hostBad = some i then s2.hostSeal c.vol (c.lba + i) else s2).complete c st (c.lba + i) 0 0

/-- A write needs storage for an UNMAPPED extent (R250). -/
def State.needsStorage (s : State) (c : Cmd) : Bool := (extentsOf c.lba c.blocks).any fun e => (s.ext c.vol e).st = 0

/-- WRITE begins (R304, R308): after its checks it receives its data and takes its staging commit when all is in place
(R327). -/
def writeCmd (r : CmdRef) (s : State) : State :=
  match s.cmdOf r with
  | none => s
  | some c =>
    if !c.mayBegin 2 then s
    else match s.beginFails c with
    | some st => s.complete c st 0 0 0
    | none =>
      if 2 ≤ c.piAction then s.complete c St.invalidField 0 0 0
      else
        let g := match tget c.vol s.vols with | some v => v.group | none => 0
        if s.needsStorage c && s.capFull g then (s.event Ev.CAP_FULL (origin 13 g) 0 0 0 0).complete c St.noSpace 0 0 0
        else s.setCmd { c with stage := .begun }

/-! ## WRITE-ZEROES and DEALLOCATE (R210) -/

/-- Blocks of a range that are written as zeros (R210): those of granules covered in part, and of covered granules of BAND
extents; an UNMAPPED extent reads as zeros already. -/
def State.zeroBlocks (s : State) (v lba n : Nat) : List Nat :=
  (s.exts.filter fun x => x.1 / 2 ^ 33 = v && x.2.st != 0).flatMap fun x =>
    let e := x.1 % 2 ^ 33
    let lo := 256 * e
    if lba ≤ lo && lo + 256 ≤ lba + n then []
    else (List.range 8).flatMap fun g =>
      let a := lo + 32 * g
      if lba ≤ a && a + 32 ≤ lba + n && x.2.st != 2 then []
      else (List.range 32).filterMap fun i => if lba ≤ a + i && a + i < lba + n then some (a + i) else none

/-- Unmap what a range covers whole (R210): extents, and granules of extents that are not BAND. A running copy of an extent
is discarded (R228). -/
def State.unmap (v lba n : Nat) (s : State) : State :=
  s.forAll (s.exts.filter fun x => x.1 / 2 ^ 33 = v && x.2.st != 0 && 256 * (x.1 % 2 ^ 33) < lba + n &&
      lba < 256 * (x.1 % 2 ^ 33 + 1)) fun y t =>
    let e := y.1 % 2 ^ 33
    let lo := 256 * e
    let x := t.ext v e
    let t1 := if x.copying.isSome then t.count R.STK_COUNT_ABANDONED 1 else t
    if lba ≤ lo && lo + 256 ≤ lba + n then
      t1.setExt v e { x with st := 0, col := 0, row := 0xFFFFFFFF, fine := [], fineIx := 0xFFFFFFFF, copying := none }
    else
      let gs := (List.range 8).filter fun g => lba ≤ lo + 32 * g && lo + 32 * g + 32 ≤ lba + n
      if x.st = 2 || gs.isEmpty then t
      else
        let fine := if x.fine.isEmpty then List.replicate 8 baseGranule else x.fine
        let ix := if x.fine.isEmpty then t1.freeNat (2 ^ 32 - 1) else x.fineIx
        (if x.fine.isEmpty then t1.bump else t1).setExt v e
          { x with st := 4, fine := gs.foldl (fun f g => f.set g noGranule) fine, fineIx := ix, copying := none }

/-- Cached and staged copies of a range are gone. -/
def State.uncache (v lba n : Nat) (s : State) : State :=
  let lines := (s.cache.tags.filter fun e => e.2.kind = 1 && e.2.vol = v && 32 * e.2.line < lba + n &&
    lba < 32 * e.2.line + 32).map fun e => e.2.line
  let s1 := s.forAll lines fun ln t => t.forAll ((List.range 32).filter fun b =>
    lba ≤ 32 * ln + b && 32 * ln + b < lba + n) fun b u => u.invalidateBlock v (32 * ln + b)
  s1.modCache fun c => { c with staged := c.staged.filter fun e =>
    !(e.1 / 2 ^ 41 = v && lba ≤ e.1 % 2 ^ 41 && e.1 % 2 ^ 41 < lba + n) }

/-- WRITE-ZEROES and DEALLOCATE (R210, R308, R329): they unmap or zero-write their range, and complete when their map changes
are durable and their zeros have reached the point of the volume's mode. -/
def zeroCmd (op : Nat) (r : CmdRef) (s : State) : State :=
  match s.cmdOf r with
  | none => s
  | some c =>
    if !c.mayBegin op then s
    else match s.beginFails c with
    | some st => s.complete c st 0 0 0
    | none =>
      let v := c.vol
      let zs := s.zeroBlocks v c.lba c.blocks
      let lines := (zs.map fun b => (v, b / 32)).eraseDups
      let need := lines.filter fun x => !s.cache.reserved.contains x && !(s.dirtyTags.any fun e =>
        e.2.vol = x.1 && e.2.line = x.2)
      if s.dirtyLimit < s.dirtyUsed + need.length then s
      else
        let s1 := s.modCache fun k => { k with reserved := k.reserved ++ need }
        let s2 := ((s1.uncache v c.lba c.blocks).unmap v c.lba c.blocks).unlose v c.lba c.blocks
        let s3 := (s2.markCopied v c.lba c.blocks).forAll zs fun b t =>
          ((t.pendExtent v (b / 256)).pendGranule v (b / 256) (b / 32 % 8)).commitBlock v b (0, zeroTuple v b)
        let s4 := { s3 with weak := s3.weak.filter fun w => !(w.vol = v && c.lba ≤ w.lba && w.lba < c.lba + c.blocks) }
        let buffered := match tget v s.vols with | some x => x.buffered | none => false
        let point := buffered && !c.forceDurable && !s.durableForced
        (s4.setCmd { c with
          commit := .committed, stage := .durable, lines := if point then [] else lines
          asDurable := buffered && !c.forceDurable && !point }).settleCmd r

/-! ## FLUSH (R333) -/

/-- FLUSH (R333): it covers the writes of its volume with lower arrival numbers and the lines dirty now, and completes once
they have all reached the DURABLE point. -/
def flushCmd (r : CmdRef) (s : State) : State :=
  match s.cmdOf r with
  | none => s
  | some c =>
    if !c.mayBegin 5 then s
    else
      let all := c.vol = 0xFFFF
      if !all && (tget c.vol s.vols).isNone then s.complete c St.noVolume 0 0 0
      else
        let covers := (s.cmds.filter fun d => opExclusive d.op && d.arrival < c.arrival && (all || d.vol = c.vol)).map (·.arrival)
        let dirty := (s.dirtyTags.filter fun e => all || e.2.vol = c.vol).map fun e => (e.2.vol, e.2.line)
        let staged := (s.cache.staged.filter fun e => all || e.1 / 2 ^ 41 = c.vol).map fun e =>
          (e.1 / 2 ^ 41, e.1 % 2 ^ 41 / 32)
        (s.setCmd { c with stage := .begun, covers := covers, lines := (dirty ++ staged).eraseDups }).settleFlush r

/-! ## ABORT (R340) -/

/-- R203: an aborted command stops waiting on the recoveries it waited for; one that nothing waits for ends its ladder and
reconstruction. -/
def State.leaveRecoveries (r : CmdRef) (s : State) : State :=
  s.forAll (s.recs.filter fun e => e.2.waiting.any (·.1 = r)) fun e t =>
    let x := { e.2 with waiting := e.2.waiting.filter (·.1 != r) }
    if x.waiting.isEmpty && !x.bg then
      let ids := (t.pool.sectors.filter fun p => p.2.req.budget.isSome && p.2.req.place = x.place).map (·.1)
      let u := t.forAll ids decCancel
      { u with recs := tdel e.1 u.recs }
    else { t with recs := tset e.1 x t.recs }

/-- ABORT (R308, R340): an OPEN target is taken out with one ABORTED completion, entered before the ABORT's own. -/
def abortOp (r : CmdRef) (s : State) : State :=
  match s.cmdOf r with
  | none => s
  | some c =>
    if c.op != 8 || c.stage != .fresh then s
    else
      let q := capB c.cap 32
      let tag := capF c.cap 34 2
      if !s.holdsQueue r.session q then s.complete c St.invalidField 0 0 0
      else match s.cmdOf ⟨r.session, q, tag⟩ with
        | none => s.complete c St.notFound 0 0 0
        | some d =>
          if d.ref = r || d.commit != .opened || opNeverHeld d.op || d.op = 0x4E then s.complete c St.tooLate 0 0 0
          else ((s.leaveRecoveries d.ref).abortCmd d 0).complete c St.aborted 0 0 0

/-! ## RESUME (R338) -/

/-- The held commands of a queue, in arrival order. -/
def State.heldCmds (s : State) (n q : Nat) : List Cmd := (s.queueCmds n q).filter (·.held)

/-- RESUME with CONTINUE of a frozen queue: its held commands make their lock requests in arrival order, with their times
from now. -/
def State.release1 (n q : Nat) (s : State) : State :=
  let y := s.queueSt n q
  let s1 := s.setQueueSt n q { y with frozen := none }
  { s1 with cmds := s1.cmds.map fun (c : Cmd) =>
      if c.ref.session = n && c.ref.queue = q && c.held then
        { c with held := false, since := s.now, lock := if opLocks c.op then .entry else .none } else c }.grantLocks

/-- RESUME with DISCARD of a frozen queue: each held command completes DISCARDED, in arrival order; then the queue runs. -/
def State.discard1 (n q : Nat) (s : State) : State :=
  let s1 := s.forAll (s.heldCmds n q) fun c t => t.complete c St.discarded 0 0 0
  s1.setQueueSt n q { s1.queueSt n q with frozen := none }

/-- R338: the result (1 done, 2 not frozen, 3 refused), how many commands were released or discarded, and the state. -/
def State.resume (n q action : Nat) (s : State) : Nat × Nat × State :=
  if !s.holdsQueue n q || 1 < action then (3, 0, s)
  else if (s.queueSt n q).frozen.isNone then (2, 0, s)
  else (1, (s.heldCmds n q).length, if action = 0 then s.release1 n q else s.discard1 n q)

/-- RESUME by capsule, for the action a row names; an action above 1 goes with CONTINUE. -/
def resumeCmd (discard : Bool) (r : CmdRef) (s : State) : State :=
  match s.cmdOf r with
  | none => s
  | some c =>
    if c.op != 9 || c.stage != .fresh || (capB c.cap 33 = 1) != discard then s
    else
      match s.resume r.session (capB c.cap 32) (capB c.cap 33) with
      | (3, _, _) => s.complete c St.invalidField 0 0 0
      | (2, _, t) => t.complete c St.success 0 1 0
      | (_, n, t) => t.complete c St.success n 0 0

/-! ## The commands -/

def execRead (r : CmdRef) (hostBad : Option Nat) (s : State) := actHost s (readCmd r hostBad)
def execWrite (r : CmdRef) (s : State) := actHost s (writeCmd r)
def execWriteZeroes (r : CmdRef) (s : State) := actHost s (zeroCmd 3 r)
def execDeallocate (r : CmdRef) (s : State) := actHost s (zeroCmd 4 r)
def execFlush (r : CmdRef) (s : State) := actHost s (flushCmd r)
def execVerify (r : CmdRef) (hostBad : Option Nat) (s : State) := actHost s (verifyCmd r hostBad)
def execAbort (r : CmdRef) (s : State) := actHost s (abortOp r)

end Sys2Proof.Machine
end

