-- ==== Sys2Proof/Machine/Recovery.lean ====
section
/-! DEFINITION. Read recovery (ch07): entry by cause, the eight steps of the ladder and their settings, the decision to read
around, background ladders, and the counts that feed ageing. -/

namespace Sys2Proof.Machine

/-! ## The ladder (R190 to R192) -/

/-- Reads of a step (R190); step 1 decodes the running sum again, step 8 has at most 8. -/
def stepReads (k : Nat) : Nat := [1, 1, 2, 9, 4, 3, 1, 2, 8].getD k 0

/-- The first enabled step from one on; 9 when there is none (R190). -/
def stepFrom (en k : Nat) : Nat := ((List.range' k (9 - k)).find? fun i => en.testBit (i - 1)).getD 9

/-- The step a recovery goes to, with its read index: past step 8 when its sum is already full or 27 revolutions are spent
(R190, R192). -/
def Recovery.goto (en k : Nat) (r : Recovery) : Recovery :=
  let n := stepFrom en k
  if n = 8 && (8 ≤ r.sumCount || 27 ≤ r.revs) then { r with step := 9, idx := 0 } else { r with step := n, idx := 0 }

/-- After a read that did not converge: the next read of the step, or the next enabled step (R190). -/
def Recovery.advance (en : Nat) (r : Recovery) : Recovery :=
  let more := if r.step = 8 then r.sumCount < 8 && r.revs < 27 else r.idx + 1 < stepReads r.step
  if more then { r with idx := r.idx + 1 } else r.goto en (r.step + 1)

/-- A recovery entered by the cause of its failure (R189). -/
def Recovery.enter (en : Nat) (p : Post) (v lba : Nat) (waiting : List (CmdRef × Nat)) : Recovery :=
  let r : Recovery := {
    head := p.req.head.val, rz := p.req.zone.val, place := p.req.place, vol := v, lba := lba, waiting := waiting, step := 1, idx := 0
    sum := p.handle, sumCount := if p.handle.isSome then 1 else 0, last := none, revs := 0, ra := .none, bg := false, recon := none
    noLadder := p.status = .sealBad }
  match p.status with
  | .budget => r.goto en 1
  | .hold => r.goto en 1
  | .sealBad => { r with step := 9 }
  | _ => r.goto en 2

/-- Whether a status is a failed read (R189). -/
def PoolStatus.failed (st : PoolStatus) : Bool :=
  match st with
  | .converged => false
  | .aborted => false
  | _ => true

/-- The frame shifts of step 3 in order (R190). -/
def ladderShift (i : Nat) : Int := [0, -1, 1, -2, 2, -3, 3, -4, 4].getD i 0

/-- OFFSET of step 4 on a track pitch in 1/1,024 ST (R191). -/
def ladderOffset (pitch i : Nat) : Int :=
  match i with
  | 0 => (roundDiv (4 * pitch) 100 : Nat)
  | 1 => -(roundDiv (4 * pitch) 100 : Nat)
  | 2 => (roundDiv (8 * pitch) 100 : Nat)
  | _ => -(roundDiv (8 * pitch) 100 : Nat)

/-- The engine keeps what a ladder read changes on its head (R191). -/
def State.saveHead (g : Nat) (s : State) : State :=
  let h := s.head g
  if h.ladder.isEmpty then
    s.setHead g { h with ladder :=
      [s.get (R.HEAD_CH_CTRL_SM2_ONLY g), s.get (R.HEAD_CH_CTRL_FRAME_SHIFT g), s.get (R.HEAD_OFFSET_OFFSET g),
       s.get (R.HEAD_CH_CTRL_FIR_SET g), s.get (R.HEAD_CH_CTRL_TARGET_SET g), s.get (R.HEAD_CH_CTRL_LOOP_MODE g),
       s.get (R.HEAD_CH_CTRL_ERASE_DEFECTS g), s.preampReg (g / 10) (0x10 + g % 10)] }
  else s

/-- Every changed field is restored (R191). -/
def State.restoreHead (g : Nat) (s : State) : State :=
  match (s.head g).ladder with
  | [a, b, c, d, e, f, k, bias] =>
    (((((((s.set (R.HEAD_CH_CTRL_SM2_ONLY g) a).set (R.HEAD_CH_CTRL_FRAME_SHIFT g) b).set (R.HEAD_OFFSET_OFFSET g) c).set
      (R.HEAD_CH_CTRL_FIR_SET g) d).set (R.HEAD_CH_CTRL_TARGET_SET g) e).set (R.HEAD_CH_CTRL_LOOP_MODE g) f).set
      (R.HEAD_CH_CTRL_ERASE_DEFECTS g) k).preampWrite (g / 10) (0x10 + g % 10) bias |>.setHead g
      { s.head g with ladder := [] }
  | _ => s

/-- The settings of a ladder read by its step and read index are written on its head, the old ones kept; a changed OFFSET makes the
head settle anew (R190, R191). -/
def State.applyKey (g : Nat) (key : Nat × Nat) (s : State) : State :=
  match key.1 with
  | 3 => ((s.saveHead g).set (R.HEAD_CH_CTRL_SM2_ONLY g) 1).setI (R.HEAD_CH_CTRL_FRAME_SHIFT g) (ladderShift key.2)
  | 4 =>
    let t := (s.saveHead g).setI (R.HEAD_OFFSET_OFFSET g) (ladderOffset (tierPitch (s.tierOf g)) key.2)
    (t.setHead g { t.head g with settleRun := 0 }).offsetWritten g
  | 5 => ((s.saveHead g).set (R.HEAD_CH_CTRL_FIR_SET g) (key.2 + 1)).set (R.HEAD_CH_CTRL_TARGET_SET g) (key.2 + 1)
  | 6 => ((s.saveHead g).set (R.HEAD_CH_CTRL_LOOP_MODE g) 2).set (R.HEAD_CH_CTRL_ERASE_DEFECTS g) 1
  | 7 =>
    let v := max 1 (min 1023 (roundDiv ((if key.2 = 0 then 92 else 108) * s.headField g 422 2) 100))
    (s.saveHead g).preampWrite (g / 10) (0x10 + g % 10) v
  | _ => s

/-! ## Which settings a revolution takes (R194) -/

/-- The settings the next ladder read of a recovery needs: those of its step and read; steps 2 and 8 share the default ones. -/
def Recovery.key (r : Recovery) : Nat × Nat := if r.step = 2 || r.step = 8 then (0, 0) else (r.step, r.idx)

/-- The earliest time a read waiting on a recovery must be served; a background ladder's comes last. -/
def Recovery.due (r : Recovery) : Nat := r.waiting.foldl (fun d w => min d w.2) (2 ^ 64)

/-- Recoveries whose next ladder read has still to pass a head. -/
def State.ladderPending (s : State) (g : Nat) : List Recovery :=
  (s.recs.filter fun e => e.2.head = g && !e.2.passed && !e.2.noLadder && 2 ≤ e.2.step && e.2.step ≤ 8).map (·.2)

/-- The settings of the pending recovery with the earliest deadline. -/
def State.ladderChoice (s : State) (g : Nat) : Option (Nat × Nat) :=
  ((s.ladderPending g).foldl (fun (b : Option Recovery) r => match b with
    | some x => if r.due < x.due then some r else b
    | none => some r) none).map Recovery.key

/-- At a wedge the engine restores what a ladder read that has ended had changed, and writes the settings of the next one. A
revolution, from index wedge to index wedge, keeps the settings it began with (R191, R194; log entry 89). -/
def State.ladderWedge (g : Nat) (s : State) : State :=
  let h := s.head g
  let fresh := h.ladderKey.isNone || h.wedge.isNone || h.wedge = some 1
  let key := if fresh then s.ladderChoice g else h.ladderKey
  let wanted := key.any fun k => (s.ladderPending g).any (·.key = k)
  let s1 := if h.ladderEnd || key != h.ladderKey || !wanted then s.restoreHead g else s
  let s2 := s1.setHead g { s1.head g with ladderKey := key, ladderEnd := false }
  match key with
  | some k => if wanted && (s2.head g).ladder.isEmpty then s2.applyKey g k else s2
  | none => s2

/-- Heads of an actuator that the ladder concerns. -/
def State.ladderHeads (s : State) (m : Nat) : List Nat :=
  (headsOf m).filter fun g => !(s.ladderPending g).isEmpty || !(s.head g).ladder.isEmpty || (s.head g).ladderKey.isSome

/-- A wedge of an actuator, with what its engine writes there. -/
def servoWedgeLadders (m : Nat) (obs : List WedgeObs) (s : State) : State :=
  let t := servoWedge m obs s
  if t.loaded m then t.forAll (t.ladderHeads m) State.ladderWedge else t

/-- The settings a ladder read needs are in force on its head, and a head whose OFFSET was changed meets read settle (R191). -/
def State.ladderSet (s : State) (g : Nat) (r : Recovery) : Bool :=
  let h := s.head g
  if r.key = (0, 0) then h.ladder.isEmpty
  else !h.ladder.isEmpty && h.ladderKey = some r.key && (r.step != 4 || 4 ≤ h.settleRun)

/-- The recovery a granted sector is the ladder read of. -/
def State.ladderOf (s : State) (x : PoolSector) : Option Recovery :=
  if x.req.budget.isNone then none else tget (placeKey x.req.place) s.recs

/-- SECTOR_READ with the ladder: a pass with the head out of the set, or its settings not in force, is waited out (R190, R191). -/
def sectorReadLadder (g n : Nat) (o : ReadObs) (s : State) : State :=
  match (s.grantedFor g n).bind fun e => s.ladderOf e.2 with
  | some r =>
    if !(s.ladderSet g r && s.inSet g && (s.enterZone g).readsNow g n) then s
    else
      let t := sectorRead g n o s
      let u := t.setHead g { t.head g with ladderEnd := true }
      { u with recs := tset (placeKey r.place) { r with passed := true } u.recs }
  | none => sectorRead g n o s

/-! ## Counts (R204, R206) -/

/-- EFFORT of a head and recording zone (R206): recoveries of the last 24 h; as it reaches 16, HEAD_EFFORT_HIGH and an
out-of-schedule margin measurement. -/
def State.effort (g rz : Nat) (f : HeadRec → HeadRec) (s : State) : State :=
  let h := f (tgetD (32 * g + rz) {} s.headRecs)
  let old := h.effort.filter fun t => s.opSec < t + 86400
  let s1 := { s with headRecs := tset (32 * g + rz) { h with effort := s.opSec :: old } s.headRecs }
  if old.length = 15 then (s1.event Ev.HEAD_EFFORT_HIGH (origin 3 g) 0 0 0 0).measureMargin g rz else s1

/-- A block goes on the weak list (R204); a full list takes none and counts it dropped. -/
def State.addWeak (pl : Place) (v lba : Nat) (x : Sealed) (s : State) : State :=
  if s.weak.any (·.place = pl) then s
  else if 4096 ≤ s.weak.length then s.count R.REC_WEAK_DROPPED 1
  else { s with weak := s.weak ++ [⟨pl, v, lba, x⟩] }

/-- The block a place holds, sealed. -/
def State.sealedAt (s : State) (pl : Place) : Sealed :=
  (s.onMedium pl).getD (s.sealed pl.row pl.col (s.rowGen pl.row) 0 ⟨0, 0, 0⟩ false false)

/-! ## Deciding (R196) -/

def State.setRec (r : Recovery) (s : State) : State := { s with recs := tset (placeKey r.place) r s.recs }
def State.delRec (r : Recovery) (s : State) : State := { s with recs := tdel (placeKey r.place) s.recs }

/-- Reconstructions in flight that were started under R196. -/
def State.raInFlight (s : State) : Nat := (s.recs.filter fun e => e.2.ra = .running && !e.2.noLadder).length
/-- Foreground recoveries. -/
def State.fgInFlight (s : State) : Nat := (s.recs.filter fun e => !e.2.bg).length
/-- Background ladders. -/
def State.bgInFlight (s : State) : Nat := (s.recs.filter fun e => e.2.bg).length

/-- The reads that waited for a block execute now (R197, R202). -/
def State.serveWaiting (l : List (CmdRef × Nat)) (s : State) : State := s.forAll l fun w t =>
  verifyCmd w.1 none (readCmd w.1 none t)

/-- A recovery ends unrecovered (R198): the ledger entry, the counts, and the reads that waited complete UNRECOVERED. A block no
volume maps, of parity, has no ledger entry. -/
def State.endUnrecovered (r : Recovery) (s : State) : State :=
  let s1 := s.delRec r
  let s2 := if r.vol = noVolume then
      (s1.count (R.REC_OUTCOME_COUNT 9) 1).event Ev.READ_UNRECOVERED (origin 3 r.head) r.vol (min r.step 8) 0 0
    else s1.unrecovered r.vol r.lba (min r.step 8) r.place
  (s2.effort r.head r.rz fun h => { h with unrecovered := h.unrecovered + 1 }).serveWaiting r.waiting

/-! ## How long a reconstruction takes (R195) -/

/-- t_ready of a source (R195), µs: its queue, seek and rotation, and the time its sector of 37,376 bits takes. -/
def State.readyAt (s : State) (z : Nat) (x : Ready) : Nat :=
  s.now + x.queue + x.seek + x.rotation + (37376 * 600 * 1000000 + s.rate600 (10 * x.member.val) z - 1) / max 1 (s.rate600 (10 * x.member.val) z)

/-- Sources of a reconstruction: members of the columns of a row, other than one, that serve (R195). -/
def State.sources (s : State) (row col : Nat) : List Nat :=
  match s.rowShape row with
  | some (_, k, p, _) => ((List.range (k + p)).filter fun c => c != col && s.colGood row c).filterMap (s.colMember row)
  | none => []

/-- A list of numbers in ascending order. -/
def ascending (l : List Nat) : List Nat :=
  l.foldl (fun a x => a.takeWhile (· ≤ x) ++ x :: a.dropWhile (· ≤ x)) []

/-- E_rc (R195), µs: the k-th smallest t_ready of the sources less the present time, plus 0.10 ms. -/
def State.eRc (s : State) (r : Recovery) (ready : List Ready) : Nat :=
  let k := match s.rowShape r.place.row with | some x => x.2.1 | none => 0
  let at_ := ascending ((ready.filter fun x => (s.sources r.place.row r.place.col).contains x.member.val).map (s.readyAt r.rz))
  at_.getD (k - 1) (at_.getLastD s.now) - s.now + 100

/-- Reading around after the next ladder read would still meet every deadline (R196): the read's pass ends `pass` µs from now and
its decode takes 40 iterations of 370 ns. -/
def State.stillMeets (s : State) (r : Recovery) (pass : Nat) (ready : List Ready) : Bool :=
  r.waiting.all fun w => 10 * (s.now + pass + s.eRc r ready + 1000 * s.get R.REC_CTRL_GUARD) + 148 ≤ 10 * w.2

/-- The decision of R196, made at a failure and before each ladder read. -/
def State.decideNext (r0 : Recovery) (pass : Nat) (ready : List Ready) (s : State) : State :=
  let r : Recovery := { r0 with passed := false }
  let red := s.redundant r.place.row r.place.col
  if r.bg then
    if r.step = 9 then
      (s.delRec r).event Ev.READ_UNRECOVERED (origin 3 r.head) r.vol 8 (r.lba % 2 ^ 32) (r.lba / 2 ^ 32)
    else s.setRec r
  else match r.ra with
  | .running => s.setRec r
  | .failed => if r.step = 9 then s.endUnrecovered r else s.setRec r
  | _ =>
    if r.step = 9 then
      if red then s.setRec { r with ra := .running } else s.endUnrecovered r
    else if !red || s.get R.REC_CTRL_RA_MAX ≤ s.raInFlight then s.setRec r
    else if s.stillMeets r pass ready then s.setRec r
    else s.setRec { r with ra := .running }

/-- A failed read in the background, of the block of a place (R189, R264, R277, R280): patrol scrub recovers it; a rebuild takes
another source, and climbs the ladder in the background where there is none. -/
def State.backgroundFailure (p : Post) (pass : Nat) (ready : List Ready) (s : State) : State :=
  let at_ := (s.lbaOf p.req.place).getD (noVolume, 0)
  let r := Recovery.enter (s.get R.REC_CTRL_STEP_EN) p at_.1 at_.2 []
  let order := match tget (r.head / 10) s.stk.bg with | some b => b.order | none => 0
  if order = 8 then s.decideNext { r with scrub := true } pass ready
  else if s.redundant r.place.row r.place.col && !r.noLadder then s
  else s.decideNext { r with bg := !r.noLadder } pass ready

/-- READ_FAILURE (R189): a failed sector read of a command, or of background work, enters recovery at the point its cause gives, or
joins the recovery of its block. -/
def readFailure (id : Nat) (c : CmdRef) (lba pass : Nat) (ready : List Ready) (s : State) : State :=
  match s.pool.posts.find? (fun p => p.id = id) with
  | none => s
  | some p =>
    let s1 := s.modPool fun q => { q with posts := q.posts.filter (·.id != id) }
    let again := (tget (placeKey p.req.place) s1.recs).isSome
    if !p.status.failed then s
    else if p.req.vol.isNone then (if again then s1 else s1.backgroundFailure p pass ready)
    else match s.cmdOf c with
    | none => s
    | some x =>
      if x.lba + x.blocks ≤ lba || lba < x.lba || s.find x.vol lba != some p.req.place then s
      else if again then s1.joinWait x p.req.place
      else
        s1.decideNext (Recovery.enter (s1.get R.REC_CTRL_STEP_EN) p x.vol lba [(c, s1.deadlineOf x)]) pass ready

/-- A block recovered by patrol scrub counts as repaired (R282). -/
def State.scrubRepaired (r : Recovery) (s : State) : State := s.when r.scrub fun t => t.count R.RED_SCRUB_COUNT_REPAIRED 1

/-- A recovered block goes on the weak list (R204); one no volume maps is not listed. -/
def State.listWeak (r : Recovery) (x : Sealed) (s : State) : State := s.when (r.vol != noVolume) (State.addWeak r.place r.vol r.lba x)

/-- A ladder read converged (R197, R200, R204): the recovery ends with its block. -/
def State.ladderGood (r : Recovery) (b : Sealed) (s : State) : State :=
  let s1 := (s.delRec r).scrubRepaired r
  let deep (h : HeadRec) : HeadRec := { h with deepest := max h.deepest r.step }
  if r.bg then
    let s2 := s1.event Ev.READ_RECOVERED (origin 3 r.head) r.vol r.step (r.lba % 2 ^ 32) (r.lba / 2 ^ 32)
    let s3 := if r.recon.any (· != b) then
        (s2.count R.REC_BG_RA_MISMATCH 1).event Ev.READ_RECOVERY_MISMATCH (origin 3 r.head) r.vol r.step (r.lba % 2 ^ 32)
          (r.lba / 2 ^ 32)
      else s2
    (s3.listWeak r b).effort r.head r.rz deep
  else
    let s2 := s1.count (R.REC_OUTCOME_COUNT r.step) 1
    let s3 := if r.step = 1 then s2 else s2.listWeak r b
    (s3.effort r.head r.rz deep).serveWaiting r.waiting

/-- What a ladder read that did not converge leaves of the handles: at most the running sum's and the latest uncombined read's
(R192). -/
def State.ladderHandles (r : Recovery) (h : Option Nat) (s : State) : Recovery × State :=
  let drop (o : Option Nat) (t : State) : State := match o with | some k => t.releaseHandle k | none => t
  match h with
  | none => (r, s)
  | some k =>
    if r.step = 1 then ({ r with sum := some k }, drop r.sum s)
    else if r.step = 2 || r.step = 8 then ({ r with sum := some k, sumCount := r.sumCount + 1 }, drop r.sum s)
    else ({ r with last := some k }, drop r.last s)

/-- A ladder whose running sum has been evicted starts a new one with its next combined read; step 1, with nothing to decode again,
gives way to the next step (R192; log entry 89). -/
def State.sumLost (r : Recovery) (s : State) : Recovery × State :=
  if (r.step = 1 || r.step = 2 || r.step = 8) && r.sum.any fun k => (tget k s.pool.retained).isNone then
    let x : Recovery := { r with sum := none, sumCount := 0 }
    (if r.step = 1 then x.goto (s.get R.REC_CTRL_STEP_EN) 2 else x, s.count R.REC_EVENTS_HANDLE_LOST 1)
  else (r, s)

/-- A recovery read is the next ladder read of a recovery (R190, R192): a budget of 40, on the head that failed; a combined read
names the running sum and nothing else. -/
def Recovery.takes (r : Recovery) (q : PoolReq) (newRead : Bool) : Bool :=
  q.budget = some 40 && q.head.val = r.head && !r.noLadder && !r.passed && 1 ≤ r.step && r.step ≤ 8 && newRead = (r.step != 1) &&
    q.handles = (if r.step = 1 || r.step = 2 || r.step = 8 then r.sum.toList else [])

/-- RECOVERY_READ_SUBMIT with the ladder: of a block in recovery only the next ladder read is taken (R190). -/
def ladderSubmit (q : PoolReq) (newRead : Bool) (s : State) : State :=
  match tget (placeKey q.place) s.recs with
  | none => recoveryReadSubmit q newRead s
  | some r =>
    let x := s.sumLost r
    if x.1.takes q newRead then recoveryReadSubmit q newRead (x.2.setRec x.1) else s

/-! ## Seals of reconstructed blocks (R29, R262, R263) -/

/-- A place's block passes the checks of R262 at the stripe unit; nothing stored passes as the zeros it stands for. -/
def State.placePasses (s : State) (pl : Place) : Bool :=
  match s.onMedium pl with
  | some x => sealGood (s.expected pl) pl.row x
  | none => true

/-- A reconstructed block whose own seal failed (R263): in the band it is written back in place at GEN = G, in a zone it goes on the
weak list. -/
def State.repairSeal (r : Recovery) (x : Sealed) (s : State) : State :=
  let t := (s.count R.RED_COUNT_SEAL_REPAIRED 1).event Ev.SEAL_REPAIRED
    (origin 2 ((s.colMember r.place.row r.place.col).getD 0)) r.place.col r.place.block r.place.row x.gen
  if isBand r.place.row then t.putMedium r.place { x with row := r.place.row, gen := s.rowGen r.place.row } else t.listWeak r x

/-- A ladder read ended SEAL (R193): the ladder stops and the block is handled as a failed seal; a background ladder's block has been
reconstructed already. -/
def State.ladderSeal (r : Recovery) (s : State) : State :=
  let stop : Recovery := { r with step := 9, noLadder := true, bg := false }
  match r.bg, r.recon with
  | true, some x =>
    ((s.delRec r).event Ev.READ_UNRECOVERED (origin 3 r.head) r.vol r.step (r.lba % 2 ^ 32) (r.lba / 2 ^ 32)).repairSeal r x
  | _, _ =>
    if r.ra = .running then s.setRec stop
    else if r.ra = .none && s.redundant r.place.row r.place.col then s.setRec { stop with ra := .running }
    else s.endUnrecovered r

/-- LADDER_READ_END (R190, R193): a ladder read's status is posted; the ladder stops, climbs or decides again. -/
def ladderReadEnd (id pass : Nat) (ready : List Ready) (s : State) : State :=
  match s.pool.posts.find? (fun p => p.id = id) with
  | none => s
  | some p =>
    match tget (placeKey p.req.place) s.recs with
    | none => s
    | some r =>
      if r.noLadder || r.step = 9 || p.req.budget != some 40 || p.req.head.val != r.head then s
      else
        let s1 := s.modPool fun q => { q with posts := q.posts.filter (·.id != id) }
        let r1 := if r.step = 1 then r else { r with revs := r.revs + 1 }
        match p.status, p.block with
        | .converged, some b => s1.ladderGood r1 b
        | .aborted, _ => s1.setRec { r with passed := false }
        | .sealBad, _ => s1.ladderSeal r1
        | _, _ =>
          let (r2, s2) := s1.ladderHandles r1 p.handle
          s2.decideNext (r2.advance (s2.get R.REC_CTRL_STEP_EN)) pass ready

/-- Background ladders running on an actuator. -/
def State.bgOn (s : State) (m : Nat) : Nat := (s.recs.filter fun e => e.2.bg && e.2.head / 10 = m).length

/-- A reconstruction's block is good (R197, R200, R263): the waiting reads are served, and the ladder goes on in the
background or ends. A block whose seal failed is written back in the band, or listed weak. -/
def State.reconGood (r : Recovery) (s : State) : State :=
  let x := s.sealedAt r.place
  let s1 := ((s.count (R.REC_OUTCOME_COUNT 0) 1).effort r.head r.rz fun h => { h with around := h.around + 1 }).scrubRepaired r
  let s2 := if r.noLadder then s1.repairSeal r x
    else (s1.event Ev.READ_AROUND (origin 3 r.head) r.vol 0 (r.lba % 2 ^ 32) (r.lba / 2 ^ 32)).listWeak r x
  let s3 :=
    if r.noLadder || r.step = 9 || !s2.bit R.REC_CTRL_BG_EN then s2.delRec r
    else if s2.get R.REC_CTRL_BG_PER_ACT ≤ s2.bgOn (r.head / 10) then
      (s2.delRec r).count R.REC_EVENTS_BG_SKIPPED 1
    else s2.setRec { r with bg := true, waiting := [], ra := .good, recon := some x }
  s3.serveWaiting r.waiting

/-- RECONSTRUCTION_RESULT (R197): a reconstruction posts its result, good where its sources sufficed and its block's seal passes at
the stripe unit (R29); the first good result is used. It comes after the row's resync (R273). -/
def reconstructionResult (pl : Place) (ok : Bool) (s : State) : State :=
  match tget (placeKey pl) s.recs with
  | none => s
  | some r =>
    if r.ra != .running || s.stripe.unsynced.contains pl.row then s
    else if ok && s.placePasses pl then s.reconGood r
    else
      let s1 := s.count R.RED_COUNT_RECON_FAILED 1
      if r.noLadder || r.step = 9 then s1.endUnrecovered r else s1.setRec { r with ra := .failed }

/-- Background ladders that a condition picks end as abandoned (R201, R203). -/
def State.abandonBg (f : Recovery → Bool) (s : State) : State :=
  s.forAll (s.recs.filter fun e => e.2.bg && f e.2) fun e t =>
    (t.delRec e.2).count R.REC_BG_BG_ABANDONED 1

/-- R201: background ladders whose block the map no longer finds at their place. -/
def State.abandonMoved (s : State) : State := s.abandonBg fun r => s.find r.vol r.lba != some r.place

/-- R203: a head or its member retired ends its ladders: redundant blocks are read around, the others are unrecovered. -/
def State.endLadders (f : Recovery → Bool) (s : State) : State :=
  let s0 := s.abandonBg f
  s0.forAll (s0.recs.filter fun e => !e.2.bg && f e.2) fun e t =>
    let r : Recovery := { e.2 with step := 9 }
    if r.ra = .running then t.setRec r
    else if r.ra = .none && t.redundant r.place.row r.place.col then t.setRec { r with ra := .running }
    else t.endUnrecovered r

/-- Whether the head of a recovery, its actuator or its HDA is retired. -/
def State.recGone (s : State) (r : Recovery) : Bool :=
  (s.head r.head).retired || (s.actu (r.head / 10)).retired || s.get (R.SLOT_STATUS_STATE (r.head / 20)) = 7

/-- Whether a ladder ends for its element's sake: retired, or in the background and fenced (R201, R203). -/
def State.recEnds (s : State) (r : Recovery) : Bool :=
  s.recGone r || (r.bg && ((s.head r.head).fenced || !(s.mem (r.head / 10)).fences.isEmpty))

/-- R201, R203: the ladders of what has been retired or fenced end, before the next recovery event is handled. -/
def State.sweepRetired (s : State) : State := s.endLadders s.recEnds

/-- R203: ladder state is lost; the reissued read of each recovery fails afresh. -/
def State.dropLadders (f : Recovery → Bool) (s : State) : State :=
  s.forAll (s.recs.filter fun e => f e.2) fun e t => t.delRec e.2

/-- WEAK_LIST_FULL (R204): recorded once a minute while the list is full. -/
def weakListFull (s : State) : State :=
  if 4096 ≤ s.weak.length then s.event Ev.WEAK_LIST_FULL (origin 0 0) 0 0 0 0 else s

/-- An unread sector of a departed head is to be read around (R199): D − GUARD has come, or falls before the departure plus 55 ms plus
one revolution at the spindle's speed. -/
def State.departedDue (s : State) (g : Nat) (c : Cmd) : Bool :=
  let d := s.deadlineOf c - 1000 * s.get R.REC_CTRL_GUARD
  d ≤ s.now || d < (s.head g).outAt - 1 + 55000 + 600000000 / max 1 (s.get (R.SPIN_SPEED_SPEED (g / 20)))

/-- DEPARTED_HEAD_READ_AROUND (R199): an unread sector of a departed head of a chunk read is read around when it is due and its row is
redundant; otherwise it waits for the head. -/
def departedHeadReadAround (g : Nat) (r : CmdRef) (i : Nat) (s : State) : State :=
  match s.cmdOf r with
  | none => s
  | some c =>
    let lba := c.lba + i
    match s.find c.vol lba with
    | some pl =>
      if c.op = 1 && i < c.blocks && (s.position pl).any (·.1 = g) && !s.bit (R.HEAD_PES_IN_SET g) &&
          s.redundant pl.row pl.col && s.departedDue g c then
        ((s.setHead g { s.head g with unread := (s.head g).unread.filter (· != pl) }).count (R.REC_OUTCOME_COUNT 0) 1).event
          Ev.READ_AROUND (origin 3 g) c.vol 0 (lba % 2 ^ 32) (lba / 2 ^ 32)
      else s
    | none => s

/-! ## The commands -/

def execServoWedge (m : Member) (obs : List WedgeObs) (s : State) := act s (servoWedgeLadders m.val obs)
def execSectorRead (g : GHead) (n : Nat) (o : ReadObs) (s : State) := act s (sectorReadLadder g.val n o)
def execRecoveryReadSubmit (q : PoolReq) (n : Bool) (s : State) := act s (ladderSubmit q n)
def execReadFailure (id : Nat) (r : CmdRef) (lba pass : Nat) (ready : List Ready) (s : State) :=
  actHost s fun t => readFailure id r lba pass ready t.sweepRetired
def execLadderReadEnd (id pass : Nat) (ready : List Ready) (s : State) :=
  actHost s fun t => ladderReadEnd id pass ready t.sweepRetired
def execReconstructionResult (pl : Place) (ok : Bool) (s : State) := actHost s fun t => reconstructionResult pl ok t.sweepRetired
def execWeakListFull (s : State) := act s weakListFull
def execDepartedHeadReadAround (g : GHead) (r : CmdRef) (i : Nat) (s : State) := act s (departedHeadReadAround g.val r i)

end Sys2Proof.Machine
end

