-- ==== Sys2Proof/Machine/Placement.lean ====
section
/-! DEFINITION. Placement (ch08, ch09): choosing generator rows, band rows and zone sets, writing them under the stripe
journal, and what a committed write changes in the map. -/

namespace Sys2Proof.Machine

/-! ## The map journal (R242 to R244) -/

/-- Records the journal still keeps. -/
def State.journalUsed (s : State) : Nat := s.jn.seq - s.jn.low
/-- The journal is 100 % full: no map change is made (R244). -/
def State.journalFull (s : State) : Bool := Config.journalCap ≤ s.journalUsed
/-- JOURNAL_FILL, %. -/
def State.journalFill (s : State) : Nat := min 100 (100 * s.journalUsed / Config.journalCap)

/-- A full journal stalls (R244): STALLED, with MAP_JOURNAL_STALL as it sets. -/
def State.stall (s : State) : State :=
  if s.bit R.STK_MAP_STALLED then s else (s.set R.STK_MAP_STALLED 1).event Ev.MAP_JOURNAL_STALL (origin 0 0) 0 0 0 0

/-! ## Choosing generator rows (R227, R231, R232, R258) -/

/-- A head of a member has shrinking margin (R232). -/
def State.shrinking (s : State) (m : Nat) : Bool := (headsOf m).any s.headShrinks

/-- Mean used fraction of a group, in 10⁻⁹. -/
def State.meanUsed (s : State) (g : Nat) : Nat :=
  let ms := s.formattedMembers g
  if ms.isEmpty then 0 else ms.foldl (fun n q => n + s.usedFrac g q) 0 / ms.length

/-- Members of a list that do not serve. -/
def State.missing (s : State) (g : Nat) (qs : List Nat) : Nat := (qs.filter fun q => !s.ixServes g q).length

/-- A generator row holds no member of shrinking margin. -/
def State.sound (s : State) (g : Nat) (qs : List Nat) : Bool :=
  qs.all fun q => match s.memberOfIx g q with | some m => !s.shrinking m | none => true

/-- A generator row holds no member whose used fraction exceeds the group mean by 2 points or more (R231). -/
def State.level (s : State) (g : Nat) (qs : List Nat) : Bool := qs.all fun q => s.usedFrac g q < s.meanUsed g + 20000000

/-- Generator rows looked at when a row is chosen (log entry 23). -/
def rowLook : Nat := 64

/-- The generator row a new row or set takes, from the next one of its group on, with its member indices (R227, R231, R232,
R258): the first that passes every rule, then without the margin rule, then without the level rule, then the one with the
fewest members out of service, when that is p or fewer. -/
def State.chooseRow (s : State) (g k p : Nat) (degraded : Bool) (ok : List Nat → Bool) : Option (Nat × List Nat) :=
  match tget g s.groups with
  | none => none
  | some gr =>
    let n := tgetD g 0 s.stk.nextRow
    let rows := (List.range rowLook).map fun i => (n + i, rowMembers (n + i) gr.seed gr.h (k + p))
    let whole := rows.filter fun r => r.2.length = k + p && s.missing g r.2 = 0 && ok r.2
    match whole.find? fun r => s.level g r.2 && s.sound g r.2 with
    | some r => some r
    | none =>
      match whole.find? fun r => s.level g r.2 with
      | some r => some r
      | none =>
        match whole.head? with
        | some r => some r
        | none =>
          if !degraded then none
          else (rows.filter fun r => r.2.length = k + p && s.missing g r.2 ≤ p && ok r.2).foldl
            (fun (b : Option (Nat × List Nat)) r => match b with
              | some x => if s.missing g r.2 < s.missing g x.2 then some r else b
              | none => some r) none

/-- Rows up to the one taken are not used later (R258). -/
def State.takeRow (g r : Nat) (s : State) : State := { s with stk := { s.stk with nextRow := tset g (r + 1) s.stk.nextRow } }

/-- The lowest number a list of used ones leaves out. -/
def lowestFree (used : List Nat) : Nat := ((List.range (used.length + 1)).find? fun i => !used.contains i).getD used.length

/-- Band slots of a member not to be taken: in use or out of use (R218). -/
def State.slotsTaken (s : State) (g q : Nat) : List Nat :=
  ((s.brows.filter fun r => r.2.group = g).flatMap fun r => (r.2.cols.filter fun c => c.1 = q).map (·.2)) ++ (s.store g q).bad

/-- The lowest free band slot of a member (R218). -/
def State.freeSlot (s : State) (g q : Nat) : Option Nat :=
  let i := lowestFree (s.slotsTaken g q)
  let st := s.store g q
  if i < bandSlots st.n st.share st.heads.length then some i else none

/-- Zones of a member in a set or retired. -/
def State.zonesTaken (s : State) (g q : Nat) : List Nat :=
  ((s.zsets.filter fun z => z.2.group = g).flatMap fun z =>
    ((z.2.cols ++ z.2.moving.map fun m => (m.q, m.zone)).filter fun c => c.1 = q).map (·.2)) ++
    ((s.store g q).zones.filter fun e => e.2.tier = 7).map (·.1)

/-- The lowest-numbered EMPTY zone of a member (R258). -/
def State.freeZone (s : State) (g q : Nat) : Option Nat :=
  let i := lowestFree (s.zonesTaken g q)
  let st := s.store g q
  if i < zoneCount st.n st.share then some i else none

/-- Capacity of a zone of a member in chunks. -/
def State.zoneCap (s : State) (g q z : Nat) : Nat :=
  let st := s.store g q
  zoneCapacity st.n st.share z (tgetD z {} st.zones).tier st.heads.length

/-- Capacity of a zone set: the smallest of its zones (R217). -/
def State.setCap (s : State) (z : ZoneSet) : Nat :=
  match z.cols.map fun c => s.zoneCap z.group c.1 c.2 with
  | [] => 0
  | x :: l => l.foldl min x

/-! ## Band rows -/

/-- A data column of a band row that no extent or write uses. -/
def State.freeColumn (s : State) (ix : Nat) (b : BandRow) : Option Nat :=
  let row := 2 ^ 31 + ix
  (List.range b.k).find? fun c =>
    !(s.exts.any fun x => x.2.st != 0 && x.2.row = row && x.2.col = c) && !(s.bops.any fun o => o.row = row && o.col = c)

/-- A data column for an extent entering the band (R218, R227, R232): in a row of its layout with no member out of service
or of shrinking margin, else in a new such row on the lowest free slots. -/
def State.allocBand (g k p : Nat) (s : State) : Option (Nat × Nat × State) :=
  let old := s.brows.findSome? fun (ix, b) =>
    let qs := b.cols.map (·.1)
    if b.group = g && b.k = k && b.p = p && (qs.all fun q => s.colServes g q (2 ^ 31 + ix)) && s.sound g qs then (s.freeColumn ix b).map fun c => (ix, c)
    else none
  match old with
  | some (ix, c) => some (2 ^ 31 + ix, c, s)
  | none =>
    match s.chooseRow g k p false (fun qs => s.sound g qs && qs.all fun q => (s.freeSlot g q).isSome) with
    | none => none
    | some (r, qs) =>
      let ix := lowestFree (s.brows.map (·.1))
      let row : BandRow := ⟨g, k, p, r, qs.map fun q => (q, (s.freeSlot g q).getD 0), 0⟩
      let s1 := s.takeRow g r
      some (2 ^ 31 + ix, 0, (({ s1 with brows := tset ix row s1.brows }).bandRecord ix).capCheck g)

/-- Something uses a band row: an extent, a write on its way, or a copy. -/
def State.bandRowBusy (s : State) (row : Nat) : Bool :=
  s.rowUsed row || (s.bops.any fun o => o.row = row) || s.exts.any fun x => x.2.copying.any fun c => c.dest.any (·.1 = row)

/-- Band rows that nothing uses are freed once the journal holds the change (R211, R242), with their exception records. -/
def State.freeBandRows (s : State) : State :=
  { s with
    brows := s.brows.filter fun r => s.bandRowBusy (2 ^ 31 + r.1)
    excs := s.excs.filter fun e => !isBand (e.1 / 32) || s.bandRowBusy (e.1 / 32) }

/-! ## Zone sets (R217, R225 to R227) -/

/-- Rows of a zone set on their way to the medium. -/
def State.rowsInFlight (s : State) (z : Nat) : Nat := (s.zrows.filter fun r => zsetIx r.row = z).length

/-- An OPEN set of a layout with room whose members all serve, of those a test admits. -/
def State.openSet (s : State) (g k p : Nat) (ok : Nat × ZoneSet → Bool) : Option Nat :=
  (s.zsets.find? fun z => z.2.st = .opened && z.2.group = g && z.2.k = k && z.2.p = p &&
    z.2.wp + s.rowsInFlight z.1 < s.setCap z.2 && (z.2.short || s.missing g (z.2.cols.map (·.1)) = 0) && ok z).map (·.1)

/-- A zone set includes no member of shrinking margin (R232). -/
def State.soundSet (s : State) (z : Nat × ZoneSet) : Bool := s.sound z.2.group (z.2.cols.map (·.1))

/-- OPEN sets a member index has a zone in (R217). -/
def State.openZones (s : State) (g q : Nat) : Nat :=
  (s.zsets.filter fun z => z.2.st = .opened && z.2.group = g && z.2.cols.any fun c => c.1 = q).length

/-- OPEN sets that gained a member out of service are closed at their next row boundary and marked FULL (R227). -/
def State.closeSets (s : State) : State :=
  { s with zsets := s.zsets.map fun z =>
      if z.2.st = .opened && !z.2.short && s.missing z.2.group (z.2.cols.map (·.1)) != 0 && s.rowsInFlight z.1 = 0 then
        (z.1, { z.2 with st := .full }) else z }

/-- Midnight HDAs with AUTO = 1 of a list of member indices are woken under R234, while the stoker writes set-points. -/
def State.wake (g : Nat) (qs : List Nat) (s : State) : State :=
  if !s.bit R.STK_CTRL_SPEED_EN then s
  else s.forAll ((qs.filterMap fun q => (s.memberOfIx g q).map (· / 2)).eraseDups.filter fun i =>
      s.bit (R.SPIN_CTRL_AUTO i) && s.get (R.SPIN_CTRL_SETPOINT i) = 0 &&
        !(tgetD (4 + i) ({} : ThermZone) s.thm.zones).shutdown) fun i t => t.setSetpoint i 2

/-- Open a zone set on a generator row (R217, R258, R261) whose members have a free zone and fewer than 4 open: the zone of each
column, and its generation. -/
def State.openOnRow (g k p : Nat) (degraded : Bool) (s : State) : Option (Nat × State) :=
  match s.chooseRow g k p degraded (fun qs => qs.all fun q => (s.freeZone g q).isSome && s.openZones g q < 4) with
  | none => none
  | some (r, qs) =>
    let ix := lowestFree (s.zsets.map (·.1))
    let zg := tgetD g 0 s.stk.zgen
    let z : ZoneSet := ⟨g, k, p, r, qs.map fun q => (q, (s.freeZone g q).getD 0), .opened, 0, zg, s.missing g qs != 0, []⟩
    let s1 := ({ s.takeRow g r with zsets := tset ix z s.zsets }).zsetRecord ix
    some (ix, { s1 with stk := { s1.stk with zgen := tset g ((zg + 1) % 2 ^ 24) s1.stk.zgen } })

/-- Open a zone set: on a row free of members out of service; where none passes, Midnight HDAs are woken first, and with still none it
is opened on a row with p or fewer such members (R227). -/
def State.openZoneSet (g k p : Nat) (s : State) : Option (Nat × State) :=
  match s.openOnRow g k p false with
  | some x => some x
  | none => (s.wake g (s.formattedMembers g)).openOnRow g k p true

/-! ## The stripe journal (R268, R269) -/

/-- The 64 bytes of a record (R269). -/
def OpenRec.bytes (r : OpenRec) : List Nat :=
  let b := padTo 60 (leBytes 8 r.seq ++ [r.kind, r.group, r.k, r.p] ++ leBytes 4 r.row ++ leBytes 3 r.g1 ++ [r.q] ++ leBytes 4 r.mask ++
    leBytes 2 r.first ++ leBytes 2 r.count ++ leBytes 8 r.closes)
  b ++ leBytes 4 (crc32c b)

/-- Append a record under the next sequence number (R268, R269). -/
def State.stripeAppend (r : OpenRec) (s : State) : State :=
  let x := { r with seq := s.stripe.seq }
  ({ s with stripe := { s.stripe with seq := s.stripe.seq + 1, recent := s.stripe.recent ++ [x] } }).send (.stripeRecord x.bytes)

/-- Append an OPEN record; none when the journal holds 16,384 of them (R268). -/
def State.openRecord (kind g k p row g1 mask first count : Nat) (s : State) : Option State :=
  if 16384 ≤ s.stripe.opened.length then none
  else
    let r : OpenRec := { seq := s.stripe.seq, kind := kind, group := g, k := k, p := p, row := row, g1 := g1 % 2 ^ 24, mask := mask, first := first, count := count }
    some ({ s with stripe := { s.stripe with opened := s.stripe.opened ++ [r] } }.stripeAppend r)

/-- Close the records of a row (R269 kind 4). -/
def State.closeRecord (row : Nat) (s : State) : State :=
  let mine := s.stripe.opened.filter fun o => o.row = row
  ({ s with stripe := { s.stripe with opened := s.stripe.opened.filter fun o => o.row != row } }).forAll mine fun o t => t.stripeAppend { o with kind := 4, closes := o.seq }

/-- A row's change on a member's stale-row list: kind 5 added, 6 removed (R267, R269). -/
def State.staleRecord (kind q row : Nat) (s : State) : State :=
  match s.rowShape row with
  | some (g, k, p, _) =>
    let r : OpenRec := { seq := 0, kind := kind, group := g, k := k, p := p, row := row, g1 := s.rowGen row, mask := 0, first := 0, count := 256, q := q }
    s.stripeAppend r
  | none => s

/-- The header block of a batch for a copy (R270). -/
def Stripe.header (x : Stripe) (copy records : Nat) : List Nat :=
  let on (i : Nat) : Nat := if x.intent.contains i || x.asked.contains i then 1 else 0
  let old := match x.opened.head? with | some o => o.seq | none => x.seq
  let c := padTo 4092 ([0x53, 0x4A, 0x52, 0x4E] ++ leBytes 2 1 ++ [copy, 0] ++ leBytes 8 x.batch ++ leBytes 8 old ++ leBytes 4 records ++
    leBytes 4 (1 + (records + 63) / 64) ++
    (List.range 1024).map fun i => (List.range 8).foldl (fun n b => n + 2 ^ b * on (8 * i + b)) 0)
  c ++ leBytes 4 (crc32c c)

/-- A batch of records goes to a copy member. -/
def State.sendBatch (m : Nat) (l : List OpenRec) (s : State) : State :=
  s.send (.stripeBatch m (s.stripe.header (if s.stripe.copies.head? = some m then 0 else 1) l.length) (l.map OpenRec.bytes))

/-- Intent region of a band row (R271), as 2,048·group + region. -/
def State.regionOf (s : State) (row : Nat) : Nat :=
  match tget (bandIx row) s.brows with
  | some b => 2048 * b.group + bandIx row / 16384
  | none => 0

/-! ## Stale rows (R267) -/

/-- A column not written is entered on its member's stale-row list; a list of 65,536 marks the member for rebuild. -/
def State.addStale (g q row : Nat) (s : State) : State :=
  let st := s.store g q
  let m := s.memberOfIx g q
  if st.stale.contains row || st.begun || m.any (fun i => (s.mem i).retired || (s.mem i).rebuild) then s
  else if 65536 ≤ st.stale.length then
    match m with
    | some i => (s.markRebuild i).event Ev.STALE_OVERFLOW (origin 2 i) 0 0 0 0
    | none => s
  else (s.setStore g q { st with stale := st.stale ++ [row] }).staleRecord 5 q row

/-- The columns of a row left unwritten go on the stale-row lists of their members. -/
def State.addStales (row : Nat) (cols : List Nat) (s : State) : State :=
  match s.rowShape row with
  | some (g, _, _, qs) => s.forAll cols fun c t => match qs[c]? with | some q => t.addStale g q row | none => t
  | none => s

/-! ## Data on its way (R226, R353) -/

/-- Lines of a volume with data of a chunk. -/
def Chunk.lines (c : Chunk) : List (Nat × Nat) :=
  c.pieces.flatMap fun (e, g) => if g = 8 then (List.range 8).map fun i => (c.vol, 8 * e + i) else [(c.vol, 8 * e + g)]

/-- Lines of an extent. -/
def extLines (v e : Nat) : List (Nat × Nat) := (List.range 8).map fun i => (v, 8 * e + i)

/-- A line still has data of its write-back on the way. -/
def State.lineMoving (s : State) (l : Nat × Nat) : Bool :=
  (s.stk.waiting.any fun c => !c.copy && c.lines.contains l) ||
  (s.zrows.any fun r => r.chunks.any fun c => !c.copy && c.lines.contains l) ||
  s.bops.any fun o => !o.copy && o.vol = l.1 && 8 * o.ext ≤ l.2 && l.2 < 8 * o.ext + 8

/-- The write-back of a line runs (R353). -/
def State.lineInWb (s : State) (l : Nat × Nat) : Bool :=
  (s.findLine l.1 l.2).any (fun w => (s.tag (lineSet l.1 l.2) w).wb) ||
    s.cache.staging.any fun e => e.1 / 2 ^ 41 = l.1 && e.1 % 2 ^ 41 / 32 = l.2

/-- Lines whose data has all reached its place are at the DURABLE point (R329, R353). -/
def State.linesDurable (ls : List (Nat × Nat)) (s : State) : State :=
  s.modCache fun c => { c with
    durable := c.durable ++ ls.filter fun l => s.lineInWb l && !s.lineMoving l && !c.durable.contains l }

/-! ## What a committed write changes in the map (R221, R222, R265, R266) -/

/-- A whole extent lies at a row and column. -/
def State.placeExtent (v e st row col : Nat) (s : State) : State :=
  let x := s.ext v e
  s.setExt v e { x with st := st, row := row, col := col, fine := [], fineIx := 0xFFFFFFFF, copying := none }

/-- A granule lies at a piece of a chunk; its extent becomes PARTIAL (R222). -/
def State.placeGranule (v e g row col slot : Nat) (s : State) : State :=
  let x := s.ext v e
  let fresh := x.fine.isEmpty
  let fine := if fresh then List.replicate 8 baseGranule else x.fine
  let ix := if fresh then s.freeNat (2 ^ 32 - 1) else x.fineIx
  (if fresh then s.bump else s).setExt v e
    { x with st := 4, fine := fine.set g ⟨3, col, slot, row⟩, fineIx := ix, copying := none }

/-- The pieces of a chunk at a row and column enter the map; a copy only learns where it lies (R228). -/
def State.mapChunk (row col : Nat) (c : Chunk) (s : State) : State :=
  s.forAll (List.range c.pieces.length) fun i t =>
    match c.pieces[i]? with
    | some (e, g) =>
      if c.shadow then
        { t with shadows := tset (extKey c.vol e) { st := 3, row := row, col := col } t.shadows }.mapRecord 0 c.vol e
          (.extent { st := 3, row := row, col := col })
      else if c.copy then
        let x := t.ext c.vol e
        { t with exts := tset (extKey c.vol e) { x with copying := x.copying.map fun y => { y with dest := some (row, col) } } t.exts }
      else if c.from_.any fun f => !(t.find c.vol (256 * e + 32 * (g % 8))).any fun pl => (pl.row, pl.col) = f then t
      else if g = 8 then t.placeExtent c.vol e 3 row col
      else t.placeGranule c.vol e g row col i
    | none => t

/-- Put the blocks of a row on the medium with their parity (R259, R260); a block the ledger lists carries LOST. -/
def State.sealRow (row : Nat) (chunks : List Chunk) (s : State) : State :=
  match s.rowShape row with
  | none => s
  | some (_, k, p, _) =>
    let gen := s.rowGen row
    let lbaAt (c : Chunk) (b : Nat) : Nat :=
      match c.pieces with
      | (e, g) :: _ => if g = 8 then 256 * e + b
        else match c.pieces[b / 32]? with | some (e', g') => 256 * e' + 32 * g' + b % 32 | none => 0
      | [] => 0
    let block (i b : Nat) : Block × Pi :=
      match chunks[i]? with
      | some c => tgetD b (0, zeroTuple c.vol (lbaAt c b)) c.blocks
      | none => (0, ⟨0, 0, 0⟩)
    s.forAll (List.range 256) fun b t =>
      let t1 := t.forAll (List.range k) fun i u =>
        let lost := match chunks[i]? with | some c => s.lostBlock c.vol (lbaAt c b) | none => false
        u.putMedium ⟨row, i, b⟩ (s.sealed row i gen (block i b).1 (block i b).2 false lost)
      t1.forAll (List.range p) fun j u =>
        let y := parityOf j ((List.range k).map fun i => block i b)
        u.putMedium ⟨row, k + j, b⟩ (s.sealed row (k + j) gen y.1 y.2 true false)

/-! ## Data of extents -/

/-- The newest copy of a block the module holds, as stored; zeros where it was never written or is lost. -/
def State.newest (s : State) (v lba : Nat) : Block × Pi :=
  match s.inDram v lba with
  | some x => x
  | none =>
    match (s.find v lba).bind s.onMedium with
    | some x => if x.lost then (0, zeroTuple v lba) else (x.data, x.pi)
    | none => (0, zeroTuple v lba)

/-- An extent's blocks: those being written back, the others as they are. -/
def State.wholeExtent (s : State) (v e : Nat) (d : Tbl (Block × Pi)) : Tbl (Block × Pi) :=
  (List.range 256).map fun i => (i, (tget i d).getD (s.newest v (256 * e + i)))

/-- A chunk of data waiting for a zone set row. -/
def chunkOf (v : Nat) (pieces : List (Nat × Nat)) (blocks : Tbl (Block × Pi)) (g k p : Nat) (durable stream : Bool)
    (cold : Bool := false) : Chunk :=
  { vol := v, pieces := pieces, blocks := blocks, group := g, k := k, p := p, durable := durable, stream := stream, cold := cold }

/-! ## Assembling zone set rows (R226, R265) -/

/-- Open sets until every member in service of a group has an open zone, as far as generator rows allow (R217). -/
def State.coverMembers (g k p : Nat) (s : State) : State :=
  s.forAll (s.formattedMembers g) fun q t =>
    if t.ixServes g q && t.openZones g q = 0 && (t.freeZone g q).isSome then
      match t.openZoneSet g k p with
      | some (_, u) => u
      | none => t
    else t

/-- The zone set a row of chunks goes to: the one its stream goes to; else an OPEN one with room, or a new one. Data that is
neither cold, stream nor copied keeps off members of shrinking margin while a row without them can be had (R225, R227,
R232). -/
def State.rowSet (g k p : Nat) (chunks : List Chunk) (s : State) : Option (Nat × State) :=
  let went := chunks.findSome? fun c => if c.stream then tget c.vol s.stk.streams else none
  let plain := chunks.any fun c => !(c.cold || c.stream || c.copy)
  match s.openSet g k p (fun z => went = some z.1 && (!plain || s.soundSet z)) with
  | some z => some (z, s)
  | none =>
    match s.openSet g k p (fun z => !plain || s.soundSet z) with
    | some z => some (z, s)
    | none =>
      match s.openSet g k p (fun _ => true), s.openZoneSet g k p with
      | some z, some (n, t) => match tget n t.zsets with
        | some x => if s.soundSet (n, x) then some (n, t.coverMembers g k p) else some (z, s)
        | none => some (z, s)
      | some z, none => some (z, s)
      | none, some (n, t) => some (n, t.coverMembers g k p)
      | none, none => none

/-- The volumes whose stream chunks a set takes go on in it (R225). -/
def State.keepStreams (z : Nat) (chunks : List Chunk) (s : State) : State :=
  { s with stk := { s.stk with
    streams := (chunks.filter (·.stream)).foldl (fun t c => tset c.vol z t) s.stk.streams } }

/-- Write a row of waiting chunks of a layout (R265 steps 1 and 2). Nothing when no set can be opened, or the stripe journal
is full; Midnight HDAs of the group are woken when only they stand in the way (R227). -/
def State.writeRow (g k p n : Nat) (s : State) : State :=
  let mine := s.stk.waiting.filter fun c => c.group = g && c.k = k && c.p = p
  let chunks := mine.take n
  if chunks.isEmpty then s
  else
    let s0 := s.closeSets
    match s0.rowSet g k p chunks with
    | none => s0.wake g (s0.formattedMembers g)
    | some (zi, s1) =>
      match tget zi s1.zsets with
      | none => s1
      | some z =>
        let row := 4096 * zi + z.wp + s1.rowsInFlight zi
        match s1.openRecord 2 g k p row z.zgen (2 ^ (k + p) - 1) 0 256 with
        | none => s1
        | some s2 => { s2.keepStreams zi chunks with
            zrows := s2.zrows ++ [(⟨row, chunks⟩ : ZoneRow)]
            stk := { (s2.keepStreams zi chunks).stk with waiting := s2.stk.waiting.filter fun c => !chunks.contains c } }

/-- A chunk waits for its row; k of them fill one (R226). -/
def State.pushChunk (c : Chunk) (s : State) : State :=
  let s1 := { s with stk := { s.stk with waiting := s.stk.waiting ++ [c] } }
  if c.k ≤ (s1.stk.waiting.filter fun d => d.group = c.group && d.k = c.k && d.p = c.p).length then
    s1.writeRow c.group c.k c.p c.k else s1

/-- ZONE_ROW_FILL_WAIT (R226): the wait of a layout's chunks expires and the row is written with zero chunks. -/
def zoneRowFillWait (g k p : Nat) (s : State) : State := s.writeRow g k p k

/-! ## Sectors reported unwritten and void positions (R103, R152, R215) -/

/-- Put an entry into a list of three-part entries once. -/
def addTriple (x : Nat × Nat × Nat) (l : List (Nat × Nat × Nat)) : List (Nat × Nat × Nat) :=
  if l.contains x then l else l ++ [x]

/-- The column of a row whose member a head belongs to, with the member's store. -/
def State.headColumn (s : State) (row g : Nat) : Option (Nat × Store) :=
  match s.rowShape row with
  | none => none
  | some (gr, _, _, qs) => (List.range qs.length).findSome? fun c =>
      if s.colMember row c = some (g / 10) then some (c, s.store gr (qs.getD c 0)) else none

/-- Sectors reported unwritten that hold blocks of a row are blocks of the row reported unwritten. -/
def State.takeUnwritten (row : Nat) (s : State) : State :=
  s.forAll s.unwritten fun u t =>
    match t.headColumn row u.1 with
    | none => t
    | some (c, _) =>
      match (List.range 256).find? fun b => t.position ⟨row, c, b⟩ = some u with
      | none => t
      | some b => { t with
          unwritten := t.unwritten.filter (· != u), stk := { t.stk with rewrites := addTriple (row, c, b) t.stk.rewrites } }

/-- A void run position of a head in a chunk's exception record: a SHIFT, with a MOVE of the head's last block when it no
longer fits. The second list is the blocks that six entries cannot place (R215). -/
def shiftRecord (heads : List Nat) (ex : List (Nat × Nat × Nat × Nat)) (h r : Nat) :
    List (Nat × Nat × Nat × Nat) × List Nat :=
  let f := max heads.length 1
  let own := ownBlocks heads h
  if ex.contains (2, 0, h, r) then (ex, [])
  else if 6 ≤ ex.length then (ex, (own.filter fun i => i / f = r))
  else
    let ex1 := ex ++ [(2, 0, h, r)]
    if own.length + (ex1.filter fun e => e.2.2.1 = h).length ≤ runLength heads.length then (ex1, [])
    else match own.getLast? with
      | some b => dealBlocks heads (heads.filter (· != h)) [b] 0 ex1
      | none => (ex1, [])

/-- Positions of a row's chunks marked void enter their exception records; one whose block is reported unwritten needs no
entry (R152, R215). -/
def State.takeVoids (row : Nat) (s : State) : State :=
  s.forAll s.voids fun v t =>
    match t.headColumn row v.1 with
    | none => t
    | some (c, st) =>
      match (List.range (runLength st.heads.length)).find? fun r => t.runAt st row c r = some v.2 with
      | none => t
      | some r =>
        let t1 := { t with voids := t.voids.filter (· != v) }
        let key := 32 * row + c
        let ex := tgetD key [] t.excs
        let here := (List.range 256).find? fun b => t.chunkPlace st ⟨row, c, b⟩ = (v.1 % 10, r)
        if here.any fun b => t.stk.rewrites.contains (row, c, b) then t1
        else
          let (ex', left) := shiftRecord st.heads ex (v.1 % 10) r
          let t2 := if ex' = ex then t1 else t1.setException row c ex'
          { t2 with stk := { t2.stk with rewrites := left.foldl (fun l b => addTriple (row, c, b) l) t2.stk.rewrites } }

/-- Blocks of a column of a row reported unwritten. -/
def State.unplaced (s : State) (row col : Nat) : List Nat :=
  (s.stk.rewrites.filter fun x => x.1 = row && x.2.1 = col).map (·.2.2)

/-- The granules of a committed chunk with blocks reported unwritten are written elsewhere (R215, R222). -/
def State.rewriteGranules (row col : Nat) (c : Chunk) (s : State) : State :=
  let gs := (List.range 8).filter fun g => (s.unplaced row col).any fun b => b / 32 = g
  let pieces := gs.filterMap fun g => match c.pieces with
    | [(e, 8)] => some ((e, g), g)
    | ps => (ps[g]?).map fun x => (x, g)
  if pieces.isEmpty || c.shadow then s
  else
    let blocks : Tbl (Block × Pi) := (List.range pieces.length).flatMap fun i =>
      (List.range 32).filterMap fun b => (tget (32 * (pieces.getD i ((0, 0), 0)).2 + b) c.blocks).map fun x => (32 * i + b, x)
    s.pushChunk { c with pieces := pieces.map (·.1), blocks := blocks, from_ := some (row, col) }

/-- Exception records of rows a test names are gone, with the rows (R215). -/
def State.dropExcs (gone : Nat → Bool) (s : State) : State := { s with excs := s.excs.filter fun e => !gone (e.1 / 32) }

/-- What is held of a row's unwritten sectors is done with. -/
def State.clearUnwritten (row : Nat) (s : State) : State :=
  { s with stk := { s.stk with rewrites := s.stk.rewrites.filter (·.1 != row) } }

/-- ZONE_ROW_COMMIT (R265): the chunks of a row on the medium commit it, or leave it void: its data is then written as a
new row and the set closed. -/
def zoneRowCommit (row : Nat) (written : List Nat) (s : State) : State :=
  match s.zrows.find? (fun r => r.row = row), tget (zsetIx row) s.zsets with
  | some r, some z =>
    let n := z.k + z.p
    let good := (List.range n).filter written.contains
    let commits := good.length = n || (if z.short then z.k else z.k + 1) ≤ good.length
    let s1 := ({ s with zrows := s.zrows.filter (·.row != row) }).closeRecord row
    let wp := max z.wp (chunkIx row + 1)
    let full := s1.setCap z ≤ wp
    if commits then
      let st := if z.st = .opened && full then ZState.full else z.st
      let s2 := { s1 with zsets := tset (zsetIx row) { z with wp := wp, st := st } s1.zsets }.zsetRecord (zsetIx row)
      let s3 := (s2.sealRow row r.chunks).addStales row ((List.range n).filter fun c => !good.contains c)
      let s4 := s3.forAll (List.range r.chunks.length) fun i t =>
        match r.chunks[i]? with | some c => t.mapChunk row i c | none => t
      let s5 := (s4.takeUnwritten row).takeVoids row
      let s6 := (s5.forAll (List.range r.chunks.length) fun i t =>
        match r.chunks[i]? with | some c => t.rewriteGranules row i c | none => t).clearUnwritten row
      ((s6.linesDurable (r.chunks.flatMap fun c => if c.copy then [] else c.lines)).capCheck z.group).abandonMoved
    else
      let s2 := { s1 with zsets := tset (zsetIx row) { z with wp := wp, st := .full } s1.zsets }.zsetRecord (zsetIx row)
      let s3 := (((s2.takeUnwritten row).takeVoids row).clearUnwritten row).dropExcs (· = row)
      s3.forAll r.chunks fun c t => t.pushChunk c
  | _, _ => s

/-! ## Band writes (R266, R267, R271) -/

/-- A band write waits for its row lock. -/
def State.pushBand (row v e col : Nat) (blocks : Tbl (Block × Pi)) (copy : Bool) (s : State) : State :=
  { s with bops := s.bops ++ [(⟨row, v, e, col, blocks, false, 0, copy⟩ : BandOp)] }

/-- Columns a band write leaves unwritten (R267). -/
def State.bandMissing (s : State) (row col : Nat) : List Nat :=
  match s.rowShape row with
  | some (g, k, p, qs) => ((List.range (k + p)).filter fun c => (c = col || k ≤ c) && !s.colServes g (qs.getD c 0) row)
  | none => []

/-- An extent with blocks its band row could not take is written whole elsewhere: to another band row, else to a zone set
(R103, R152, R215). -/
def State.moveBand (v e : Nat) (s : State) : State :=
  match tget v s.vols with
  | none => s
  | some vol =>
    let d := s.wholeExtent v e []
    match s.allocBand vol.group vol.k vol.p with
    | some (row, col, t) => t.pushBand row v e col d false
    | none => s.pushChunk (chunkOf v [(e, 8)] d vol.group vol.k vol.p (!vol.buffered) false)

/-- A block the cache holds goes to a new placement (R277): its granule to a zone set row, its extent to another band row. -/
def State.rehome (v lba : Nat) (pl : Place) (s : State) : State :=
  let e := lba / 256
  let g := lba / 32 % 8
  match tget v s.vols with
  | none => s
  | some vol =>
    if isBand pl.row then
      if s.bops.any fun o => o.vol = v && o.ext = e && o.row != pl.row then s else s.moveBand v e
    else if s.stk.waiting.any fun c => c.vol = v && c.pieces = [(e, g)] && c.from_ = some (pl.row, pl.col) then s
    else
      let blocks : Tbl (Block × Pi) := (List.range 32).map fun b => (b, s.newest v (256 * e + 32 * g + b))
      s.pushChunk { (chunkOf v [(e, g)] blocks vol.group vol.k vol.p false false) with from_ := some (pl.row, pl.col) }

/-- A block lost in a rebuild or resync is written with zeros and LOST = 1, and entered in the ledger; one of which the cache
holds a copy is not lost, and goes to a new placement (R277). -/
def State.losePlace (cause : Nat) (pl : Place) (s : State) : State :=
  match s.lbaOf pl with
  | some (v, lba) =>
    if (s.inDram v lba).isSome then s.rehome v lba pl
    else (s.putMedium pl (s.sealed pl.row pl.col (s.rowGen pl.row) 0 (zeroTuple v lba) false true)).loseBlocks v lba 1 cause
      pl.row pl.col
  | none => s

/-- A row's rewrite runs under an OPEN record of kind 3, for a resync or a catch-up, closed at its end (R268, R269). -/
def State.underRecord (row mask : Nat) (s : State) : State :=
  match s.rowShape row with
  | some (g, k, p, _) =>
    let r : OpenRec := { seq := s.stripe.seq, kind := 3, group := g, k := k, p := p, row := row, g1 := s.rowGen row, mask := mask, first := 0, count := 256 }
    (s.stripeAppend r).stripeAppend { r with kind := 4, closes := r.seq }
  | none => s

/-! ## Resync (R273, R274) -/

/-- One block index of an interrupted band row write (R274): `w` the columns its record names or, with no record, those at g1; `torn`
the blocks (row, column, index) it left on the medium at g1. -/
def State.resyncIndex (o : BandOp) (b : BandRow) (bare : Bool) (torn : List (Nat × Nat × Nat)) (i : Nat) (s : State) : State :=
  let q (c : Nat) : Nat := (b.cols.map (·.1)).getD c 0
  let at1 (c : Nat) : Bool := torn.contains (o.row, c, i)
  let all := o.col :: (List.range b.p).map (b.k + ·)
  let w := if bare then all.filter at1 else all
  let miss := (List.range (b.k + b.p)).filter fun c => !s.ixServes b.group (q c)
  let eNew := miss ++ w.filter fun c => !miss.contains c && !at1 c
  let eOld := miss ++ w.filter fun c => !miss.contains c && at1 c
  let g2 := (o.g1 + 1) % 2 ^ 24
  let old := s.blockAt ⟨o.row, o.col, i⟩
  let new := tgetD i old o.blocks
  if bare && w.isEmpty then s
  else if eNew.length ≤ b.p then
    let known := !bare || at1 o.col || miss.contains o.col
    let t := s.writeColumn o.row o.col i g2 (if known then new else old)
    if bare && miss.length < b.p && all.any (fun c => !miss.contains c && !at1 c) then t.count R.RED_COUNT_RESYNC_MISMATCH 1 else t
  else if eOld.length ≤ b.p then s.writeColumn o.row o.col i g2 old
  else
    (s.forAll (miss.filter (· < b.k)) fun c t => t.losePlace 3 ⟨o.row, c, i⟩).writeColumn o.row o.col i g2 new

/-- An interrupted band row write is resynced over a range of block indices: each block ends wholly old or wholly new, G becomes g1 + 1,
and columns of members not in service are left to catch-up. -/
def State.resyncOp (o : BandOp) (b : BandRow) (bare : Bool) (torn : List (Nat × Nat × Nat)) (ixs : List Nat) (s : State) : State :=
  let miss := s.bandMissing o.row o.col
  let s1 := s.forAll ixs (State.resyncIndex o b bare torn)
  ({ s1 with brows := tset (bandIx o.row) { b with g := (o.g1 + 1) % 2 ^ 24 } s1.brows }.bandRecord (bandIx o.row)).addStales o.row miss

/-- A band row with no record is resynced (R274): where its parity equations hold it needs nothing, else under an OPEN record of kind
3. -/
def State.resyncBare (ops : List BandOp) (torn : List (Nat × Nat × Nat)) (row : Nat) (s : State) : State :=
  let s1 := match ops.find? (fun o => o.row = row), tget (bandIx row) s.brows with
    | some o, some b =>
      if torn.any (·.1 = row) then
        (s.underRecord row (2 ^ o.col + (2 ^ b.p - 1) * 2 ^ b.k)).resyncOp o b true torn (List.range 256)
      else s
    | _, _ => s
  s1.count R.RED_RESYNCED_ROWS 1

/-- A band row a full resync has still to reach is resynced (R273). -/
def State.syncRow (row : Nat) (s : State) : State :=
  if !s.stripe.unsynced.contains row then s
  else
    let t := s.resyncBare s.stripe.cut s.stripe.torn row
    let left := t.stripe.unsynced.filter (· != row)
    let u := ({ t with stripe := { t.stripe with unsynced := left } }).set R.RED_STATUS_RESYNC_PCT
      (100 - 100 * left.length / max t.stripe.unsyncedOf 1)
    if left.isEmpty then u.set R.RED_STATUS_FULL_RESYNC 0 else u

/-- BAND_ROW_LOCK_GRANT (R266): the oldest write waiting on a row, with none granted there, gets the lock and g1 = G + 1; its OPEN
record is appended, and its region's intent bit asked for when it is clear (R271). A row a full resync has not reached is resynced
first (R273). -/
def bandRowLockGrant (row : Nat) (s0 : State) : State :=
  let s := s0.syncRow row
  if s.bops.any fun o => o.row = row && o.granted then s
  else match s.bops.find? (fun o => o.row = row), tget (bandIx row) s.brows with
  | some o, some b =>
    if b.p < (s.bandMissing row o.col).length then s
    else
      let first := match o.blocks.head? with | some x => x.1 | none => 0
      let last := match o.blocks.getLast? with | some x => x.1 | none => 0
      let mask := 2 ^ o.col + (2 ^ b.p - 1) * 2 ^ b.k
      match s.openRecord 1 b.group b.k b.p row (b.g + 1) mask first (last + 1 - first) with
      | none => s
      | some s1 =>
        let reg := s1.regionOf row
        { s1 with
          bops := s1.bops.map fun x => if x = o then { x with granted := true, g1 := (b.g + 1) % 2 ^ 24 } else x
          stripe := { s1.stripe with
            asked := if s1.stripe.intent.contains reg then s1.stripe.asked else addId reg s1.stripe.asked } }
  | _, _ => s

/-- BAND_ROW_WRITE_DONE (R266): data and parity are on the medium at GEN = g1: G is journalled, the record closed and the
lock released; columns of members not in service go stale (R267). It waits for the region's intent bit (R271). -/
def bandRowWriteDone (row : Nat) (s : State) : State :=
  match s.bops.find? (fun o => o.row = row && o.granted), tget (bandIx row) s.brows with
  | some o, some b =>
    if !s.stripe.intent.contains (s.regionOf row) then s
    else
      let missing := s.bandMissing row o.col
      let s1 := s.forAll o.blocks fun x t => t.writeColumn row o.col x.1 o.g1 x.2
      let s2 := { s1 with
        brows := tset (bandIx row) { b with g := o.g1 } s1.brows
        bops := s1.bops.filter fun x => x != o }.bandRecord (bandIx row)
      let s3 := (s2.closeRecord row).addStales row missing
      let s4 := if o.copy then
          let x := s3.ext o.vol o.ext
          { s3 with exts := tset (extKey o.vol o.ext) { x with copying := x.copying.map fun y =>
              { y with dest := some (row, o.col) } } s3.exts }
        else
          let x := s3.ext o.vol o.ext
          if x.st = 2 && x.row = row && x.col = o.col then s3 else s3.placeExtent o.vol o.ext 2 row o.col
      let s5 := s4.takeUnwritten row
      let bad := (s5.stk.rewrites.any fun x => x.1 = row && x.2.1 = o.col) && !o.copy
      let s6 := (if bad then s5.moveBand o.vol o.ext else s5).clearUnwritten row
      (s6.linesDurable (if o.copy then [] else extLines o.vol o.ext)).abandonMoved
  | _, _ => s

/-- INTENT_BIT_DURABLE (R271): a region's bit is in a batch on the medium of both copy members. -/
def intentBitDurable (reg : Nat) (s : State) : State :=
  if s.stripe.asked.contains reg then
    { s with stripe := { s.stripe with asked := delId reg s.stripe.asked, intent := addId reg s.stripe.intent } }
  else s

/-- JOURNAL_BATCH (R268, R270, R271): a batch of the records since the last one is formed and written to both copy members; bits of regions idle for 60 s, with no OPEN record, clear in
it. -/
def journalBatch (idle : List Nat) (s : State) : State :=
  let clear (r : Nat) : Bool := idle.contains r && !(s.stripe.opened.any fun o => isBand o.row && s.regionOf o.row = r)
  let l := s.stripe.recent
  { s with stripe := { s.stripe with
      batch := s.stripe.batch + 1, intent := s.stripe.intent.filter (fun r => !clear r), recent := [], held := s.stripe.opened } }.forAll
    s.stripe.copies fun m t => t.sendBatch m l

/-- COPY_MEMBER_LOST (R272): another copy member is chosen, of the lowest used fraction on an HDA other than the remaining
copy's, and given a batch of every OPEN record and the bitmap. -/
def copyMemberLost (m : Nat) (s : State) : State :=
  if !s.stripe.copies.contains m then s
  else
    let s1 := (s.event Ev.JOURNAL_COPY_LOST (origin 2 m) 0 0 0 0).replan 0 (m / 2)
    let rest := s.stripe.copies.filter (· != m)
    let used (i : Nat) : Nat := match s.ixOf i with | some (g, q) => s.usedFrac g q | none => 10 ^ 9
    let best := ((List.range 64).filter fun i => i != m && s.serves i && rest.all fun r => r / 2 != i / 2).foldl
      (fun (b : Option Nat) i => match b with | some x => if used i < used x then some i else b | none => some i) none
    match best with
    | some i => (({ s1 with stripe := { s1.stripe with copies := rest ++ [i] } }).sendBatch i s1.stripe.opened).event Ev.JOURNAL_COPY_RESTORED (origin 2 i) 0 0 0 0
    | none => { s1 with stripe := { s1.stripe with copies := rest, copyOwed := true } }

end Sys2Proof.Machine
end

