-- ==== Sys2Proof/Machine/Stoker.lean ====
section
/-! DEFINITION. The stoker (ch08) and rebuild (ch09): write-back of extents, copies, heat, draft, checkpoints, set-points,
relocation, zones re-planned, and members that return, are lost and are rebuilt. -/

namespace Sys2Proof.Machine

/-! ## EXTENT_WRITEBACK (R224 to R227) -/

/-- Where an extent's dirty data goes (R224). -/
inductive Dest where
  | inPlace | bandWhole | zoneWhole | zoneParts
  deriving DecidableEq, Repr

/-- R224: the first row of the table that applies. -/
def State.destination (s : State) (v e : Nat) (all : Bool) : Dest :=
  let x := s.ext v e
  let hot := s.get R.STK_HEAT_PROMOTE ≤ s.decayed x
  let cold := x.hint = 2 || x.hint = 3
  let new := x.st = 0 || x.st = 1
  let room := s.bandOccupancy < s.get R.STK_BAND_HIGH
  if x.st = 2 then .inPlace
  else if all && (cold || (x.hint = 0 && !hot)) then .zoneWhole
  else if new && !all && !cold && room then .bandWhole
  else if new && all && (x.hint = 1 || (x.hint = 0 && hot)) && room then .bandWhole
  else if (x.st = 3 || x.st = 4) && (x.hint = 1 || hot) && room then .bandWhole
  else if all then .zoneWhole else .zoneParts

/-- The whole extent goes to a zone set chunk. -/
def State.toZone (v e : Nat) (vol : Volume) (d : Tbl (Block × Pi)) (s : State) : State :=
  s.pushChunk (chunkOf v [(e, 8)] (s.wholeExtent v e d) vol.group vol.k vol.p (!vol.buffered) ((s.ext v e).hint = 3) ((s.ext v e).hint = 2))

/-- The dirty granules of an extent go to a zone set chunk, with their clean blocks (R224). -/
def State.partsToZone (v e : Nat) (vol : Volume) (d : Tbl (Block × Pi)) (s : State) : State :=
  let gs := (List.range 8).filter fun g => d.any fun x => x.1 / 32 = g
  let blocks : Tbl (Block × Pi) := (List.range gs.length).flatMap fun i =>
    let g := gs.getD i 0
    (List.range 32).map fun b => (32 * i + b, (tget (32 * g + b) d).getD (s.newest v (256 * e + 32 * g + b)))
  s.pushChunk (chunkOf v (gs.map fun g => (e, g)) blocks vol.group vol.k vol.p (!vol.buffered) ((s.ext v e).hint = 3)
    ((s.ext v e).hint = 2))

/-- The whole extent goes to a band row, to zones when none can be had (R227). -/
def State.toBand (v e : Nat) (vol : Volume) (d : Tbl (Block × Pi)) (s : State) : State :=
  match s.allocBand vol.group vol.k vol.p with
  | some (row, col, t) => t.pushBand row v e col (s.wholeExtent v e d) false
  | none => s.toZone v e vol d

/-- A write in place; one whose row holds a member out of service moves the extent to a row without, is written degraded, or
is not made, with the row's Midnight HDAs woken, when more than p columns would stay unwritten (R227). -/
def State.inPlace (v e : Nat) (vol : Volume) (d : Tbl (Block × Pi)) (s : State) : State :=
  let x := s.ext v e
  match s.rowShape x.row with
  | none => s
  | some (g, _, p, qs) =>
    if s.missing g qs = 0 then s.pushBand x.row v e x.col d false
    else match s.allocBand vol.group vol.k vol.p with
      | some (row, col, t) => t.pushBand row v e col (s.wholeExtent v e d) false
      | none =>
        if (s.bandMissing x.row x.col).length ≤ p then s.pushBand x.row v e x.col d false
        else (s.forAll (extLines v e) fun l t => t.endWb l.1 l.2 false).wake g qs

/-- A running copy of an extent is discarded: the extent returns to its previous state (R228). -/
def State.dropCopy (v e : Nat) (s : State) : State :=
  let x := s.ext v e
  match x.copying with
  | some c => (s.setExt v e { x with st := c.before, copying := none }).count R.STK_COUNT_ABANDONED 1
  | none => s

/-- EXTENT_WRITEBACK (R224, R353): the dirty data of an extent starts on its way; an extent below the cursor of a reshape goes
to both placements (R281). A copy of the extent under way is discarded (R228). A full map journal makes it wait (R244). -/
def extentWriteback (v e : Nat) (s : State) : State :=
  match tget v s.vols with
  | none => s
  | some vol =>
    if (extLines v e).any s.lineInWb then s
    else if s.journalFull then s.stall
    else
      let (d, s0) := (List.range 8).foldl (fun (acc : Tbl (Block × Pi) × State) i =>
        let (bl, t) := acc.2.startWb v (8 * e + i)
        (acc.1 ++ bl.map fun x => (32 * i + x.1, x.2), t)) ([], s)
      if d.isEmpty then s
      else
        let s1 := s0.dropCopy v e
        let s2 := match s1.destination v e (d.length = 256) with
          | .inPlace => s1.inPlace v e vol d
          | .bandWhole => s1.toBand v e vol d
          | .zoneWhole => s1.toZone v e vol d
          | .zoneParts => s1.partsToZone v e vol d
        match vol.reshape with
        | some r => if r.st = 1 && e < r.cursor then
            s2.pushChunk { (chunkOf v [(e, 8)] (s1.wholeExtent v e d) r.group r.k r.p (!vol.buffered) false) with
        shadow := true }
          else s2
        | none => s2

/-- Members of two HDAs that serve, lowest numbers first, for the journal's fallback regions; those it has are kept while they serve
(R28; log entry 90). -/
def State.fallbackPair (s : State) : List Nat :=
  let kept := s.jn.fallback.filter s.serves
  (List.range 64).foldl (fun (l : List Nat) m =>
    if l.length < 2 && s.serves m && l.all (· / 2 != m / 2) then l ++ [m] else l) kept

/-- Where an append goes (R28, R242): the vault, or after a vault fault the fallback regions of two members of different HDAs; with
fewer the append waits. Records are 64 bytes, 64 to a block, in a region used as a ring. -/
def State.appendTo (s : State) (upto : Nat) : Option State :=
  if !s.vault.faulted then some s
  else
    let ms := s.fallbackPair
    if ms.length < 2 then none
    else
      let first := s.jn.durable / 64
      let n := (min upto s.jn.seq + 63) / 64 - first
      some ({ s with jn := { s.jn with fallback := ms } }.forAll ms fun m t =>
        t.send (.hearth m (hearthFallback + first % hearthFallbackBlocks) n))

/-- JOURNAL_APPEND_DURABLE (R242): records below a number are durable: commands that waited complete, and what their changes
freed may be used again. -/
def journalAppendDurable (upto : Nat) (s0 : State) : State :=
  match s0.appendTo upto with
  | none => s0
  | some s =>
  let new := s.jn.records.filter fun r => s.jn.durable ≤ r.seq && r.seq < upto
  let s1 := { s with jn := { s.jn with durable := max s.jn.durable (min upto s.jn.seq) } }.send (.mapRecords (new.map MapRec.bytes))
  let s2 := (s1.forAll s1.cmds fun c t => t.settleCmd c.ref).abandonMoved
  if s2.jn.seq ≤ s2.jn.durable then s2.freeBandRows else s2

/-- A change of the map waits while its journal is full (R244). -/
def State.mapWaits (f : State → State) (s : State) : State := if s.journalFull then s.stall else f s

/-! ## Copies (R228, R281) -/

/-- The next mapped extent of a volume from one on. -/
def State.nextMapped (s : State) (v e : Nat) : Option Nat :=
  ((s.exts.filter fun x => x.1 / 2 ^ 33 = v && e ≤ x.1 % 2 ^ 33 && x.2.st != 0).head?).map fun x => x.1 % 2 ^ 33

/-- Step 1 of R228: an extent is marked MOVING and its copy sent to the band, to zones, or to the target layout of a reshape
at whose cursor it lies. -/
def State.startCopy (v e : Nat) (band : Bool) (s : State) : State :=
  match tget v s.vols with
  | none => s
  | some vol =>
    let x := s.ext v e
    if x.copying.isSome || !(x.st = 2 || x.st = 3 || x.st = 4) then s
    else if s.journalFull then s.stall
    else
      let re := match vol.reshape with | some r => r.st = 1 && s.nextMapped v r.cursor = some e | none => false
      let data := s.wholeExtent v e []
      let x' : Extent := { x with st := 5, copying := some ⟨x.st, false, none, re⟩ }
      let mark (t : State) : State := t.setExt v e x'
      let (g, k, p) := match vol.reshape with
        | some r => if re then (r.group, r.k, r.p) else (vol.group, vol.k, vol.p)
        | none => (vol.group, vol.k, vol.p)
      if band && !re then
        if s.get R.STK_BAND_HIGH ≤ s.bandOccupancy then s
        else match s.allocBand g k p with
          | some (row, col, t) => (mark t).pushBand row v e col data true
          | none => s
      else (mark s).pushChunk { (chunkOf v [(e, 8)] data g k p (false) false) with
        copy := true }

/-- The cursor of a reshape moves on; past the last extent one record switches the directory and the layout (R281 step 4). -/
def State.moveCursor (v e : Nat) (s : State) : State :=
  match tget v s.vols with
  | none => s
  | some vol =>
    match vol.reshape with
    | none => s
    | some r =>
      match s.nextMapped v e with
      | some _ => ({ s with vols := tset v { vol with reshape := some { r with cursor := e } } s.vols }).volRecord v
      | none =>
        let s1 := { s with
          vols := tset v { vol with group := r.group, k := r.k, p := r.p, reshape := none } s.vols
          exts := s.exts.map fun (x : Nat × Extent) => match tget x.1 s.shadows with
            | some y => if x.1 / 2 ^ 33 = v && x.2.st != 0 then
                (x.1, { x.2 with st := 3, row := y.row, col := y.col, fine := [], fineIx := 0xFFFFFFFF }) else x
            | none => x
          shadows := s.shadows.filter fun x => x.1 / 2 ^ 33 != v }
        ((s1.volRecord v).setB R.RED_STATUS_RESHAPE (s1.vols.any fun w => w.2.reshape.isSome)).event Ev.RESHAPE_DONE
          (origin 10 v) 0 0 0 0

/-- EXTENT_COPY (R228, R281): a copy is on the medium: its entry replaces the old one unless a host write to the extent was
granted since, which discards it. -/
def extentCopy (v e : Nat) (s : State) : State :=
  let x := s.ext v e
  match x.copying with
  | none => s
  | some c =>
    match c.dest with
    | none => s
    | some (row, col) =>
      if c.written then s.dropCopy v e
      else if c.reshape then
        let y : Extent := { st := 3, row := row, col := col }
        let s1 := s.setExt v e { x with st := c.before, copying := none }
        let s2 := { s1 with shadows := tset (extKey v e) y s1.shadows }
        ((s2.mapRecord 0 v e (.extent y)).count R.STK_COUNT_MIGRATIONS 1).moveCursor v (e + 1)
      else ((s.placeExtent v e (if isBand row then 2 else 3) row col).count R.STK_COUNT_MIGRATIONS 1).abandonMoved

/-! ## Heat (R229) -/

/-- The epoch advances by one and its period starts from now. -/
def State.nextEpoch (s : State) : State :=
  { s with stk := { s.stk with epochAt := s.opSec } }.set R.STK_CTRL_EPOCH ((s.get R.STK_CTRL_EPOCH + 1) % 256)

/-- The period of HEAT_HALF hours has passed since the last advance. -/
def State.epochDue (s : State) : Bool := s.stk.epochAt + 3600 * s.get R.STK_CTRL_HEAT_HALF ≤ s.opSec

def heatEpochAdvance (s : State) : State := if s.epochDue then s.nextEpoch else s

/-- HEAT_SWEEP: the decay without the increment, for every extent entry. -/
def heatSweep (s : State) : State :=
  { s with exts := s.exts.map fun (x : Nat × Extent) => (x.1, { x.2 with heat := s.decayed x.2, epoch := s.get R.STK_CTRL_EPOCH }) }

/-! ## Draft (R240, R241) -/

/-- A rebuild, catch-up or resync is active in a group. -/
def State.rebuilding (s : State) (g : Nat) : Bool :=
  (s.stores.any fun e => e.1 / 64 = g && (e.2.rebuild = 2 || e.2.rebuild = 4)) || s.bit R.RED_STATUS_RESYNC ||
    s.bit R.RED_STATUS_FULL_RESYNC

/-- Draft credit of an actuator after foreground time, µs (R240): at most 100 ms. -/
def State.creditAfter (s : State) (m fgUs : Nat) : Int :=
  let pct := match s.ixOf m with
    | some (g, _) => if s.rebuilding g then s.get R.STK_DRAFT_DRAFT_REBUILD else s.get R.STK_DRAFT_DRAFT
    | none => s.get R.STK_DRAFT_DRAFT
  min 100000 (tgetD m 0 s.stk.credit + (fgUs * pct / 100 : Nat))

/-- A block whose seal scrub finds bad is repaired from its row, or is unrecovered (R263). -/
def State.scrubBad (pl : Place) (s : State) : State :=
  let mine := s.exts.find? fun x => x.2.st != 0 && (x.2.row = pl.row && x.2.col = pl.col)
  let v := match mine with | some x => x.1 / 2 ^ 33 | none => 0
  let lba := match mine with | some x => 256 * (x.1 % 2 ^ 33) + pl.block | none => pl.block
  if s.redundant pl.row pl.col then
    let x := s.sealedAt pl
    let t := ((s.count R.RED_COUNT_SEAL_REPAIRED 1).count R.RED_SCRUB_COUNT_REPAIRED 1).event Ev.SEAL_REPAIRED
      (origin 2 ((s.colMember pl.row pl.col).getD 0)) pl.col pl.block pl.row x.gen
    if isBand pl.row then t.putMedium pl { x with row := pl.row, gen := s.rowGen pl.row } else t.addWeak pl v lba x
  else if mine.isSome then s.unrecovered v lba 0 pl else s

/-- Parity of a band row is computed again from its data and written at GEN = G (R280). -/
def State.reparity (row : Nat) (s : State) : State :=
  match s.rowShape row with
  | none => s
  | some (_, k, p, _) =>
    s.forAll (List.range 256) fun b t => t.forAll (List.range p) fun j u =>
      let y := parityOf j ((List.range k).map fun c => s.blockAt ⟨row, c, b⟩)
      u.putMedium ⟨row, k + j, b⟩ (s.sealed row (k + j) (s.rowGen row) y.1 y.2 true false)

/-- Rows of a group: its band rows, and the rows its zone sets hold. -/
def State.groupRows (s : State) (g : Nat) : Nat :=
  (s.brows.filter fun b => b.2.group = g).length + (s.zsets.filter fun z => z.2.group = g).foldl (fun n z => n + z.2.wp) 0

/-- Progress of the slowest group's scrub pass, % (R282). -/
def State.scrubProgress (s : State) : Nat :=
  (s.groups.filter fun g => s.groupRows g.1 != 0).foldl (fun n g => min n (min 100 (100 *
    (s.stk.scrubbed.filter fun r => (s.rowShape r).any fun x => x.1 = g.1).length / s.groupRows g.1))) 100

/-- Patrol scrub of a row (R280), with the decay of R229 for the extents it reads. -/
def State.scrubRow (row : Nat) (bad : List (Nat × Nat)) (parity done late : Bool) (s : State) : State :=
  let g := match s.rowShape row with | some x => x.1 | none => 0
  let s1 := { s with exts := s.exts.map fun (x : Nat × Extent) =>
      if x.2.st != 0 && x.2.row = row then (x.1, { x.2 with heat := s.decayed x.2, epoch := s.get R.STK_CTRL_EPOCH }) else x }
  let s2 := s1.forAll bad fun b t => t.scrubBad ⟨row, b.1, b.2⟩
  let s3 := if parity && bad.isEmpty then
      let t := (s2.count R.RED_SCRUB_COUNT_PARITY_MISMATCH 1).event Ev.SCRUB_PARITY_MISMATCH (origin 13 g) 0 0 0 0
      if isBand row then t.reparity row
      else t.forAll (t.exts.filter fun x => x.2.st != 0 && x.2.row = row) fun x u => u.startCopy (x.1 / 2 ^ 33) (x.1 % 2 ^ 33) false
    else s2
  let s4 := if late && !s3.bit R.RED_SCRUB_LATE then (s3.set R.RED_SCRUB_LATE 1).event Ev.SCRUB_LATE (origin 13 g) 0 0 0 0 else s3
  let read := addId row s4.stk.scrubbed
  let left := if done then read.filter fun r => !(s4.rowShape r).any fun x => x.1 = g else read
  let s5 := { s4 with stk := { s4.stk with scrubbed := left } }
  let s6 := s5.set R.RED_SCRUB_PROGRESS s5.scrubProgress
  if done then
    ({ s6.set R.RED_SCRUB_LATE 0 with stk := { s6.stk with scrubAt := s6.opSec } }).event Ev.SCRUB_COMPLETE (origin 13 g) 0 0 0 0
  else s6

/-! ## What is copied (R222, R230, R231, R233, R251) -/

/-- A zone set holds an extent's own row or a granule of it. -/
def Extent.inSet (x : Extent) (z : Nat) : Bool :=
  let here (row : Nat) : Bool := !isBand row && row != 0xFFFFFFFF && zsetIx row = z
  (x.st != 0 && here x.row) || x.fine.any fun g => (g.st = 2 || g.st = 3) && here g.row

/-- A FULL zone set whose live chunks are at or below RECLAIM_AT of its capacity (R233). -/
def State.reclaimable (s : State) (z : Nat × ZoneSet) : Bool :=
  z.2.st = .full && 100 * s.liveChunks z.1 ≤ s.get R.STK_ZONE_RECLAIM_AT * s.setCap z.2

/-- Reclaim copies an extent: a reclaimable set holds it, and no other of the group has fewer live chunks (R233). -/
def State.reclaims (s : State) (x : Extent) : Bool :=
  s.zsets.any fun z => x.inSet z.1 && s.reclaimable z &&
    s.zsets.all fun y => y.2.group != z.2.group || !s.reclaimable y || s.liveChunks y.1 = 0 || s.liveChunks z.1 ≤ s.liveChunks y.1

/-- A PARTIAL extent is due for consolidation (R222). -/
def Extent.scattered (x : Extent) : Bool :=
  x.st = 4 && (5 ≤ (x.fine.filter (·.st != 15)).length || (x.row = 0xFFFFFFFF && x.fine.all fun g => g.st = 2 || g.st = 3))

/-- BAND extents are migrated down: from TARGET until occupancy is 5 points below it (R230). -/
def State.demotes (s : State) : Bool :=
  s.get R.STK_BAND_TARGET ≤ s.bandOccupancy || (s.stk.demoting && s.get R.STK_BAND_TARGET ≤ s.bandOccupancy + 5)

/-- Used fractions of a group are 10 points or more apart, and a zone set that holds the fullest member holds the extent
(R231). -/
def State.balances (s : State) (x : Extent) : Bool :=
  s.bit R.STK_CTRL_BALANCE_EN && x.st = 3 && s.zsets.any fun z => x.inSet z.1 &&
    (let used := (s.formattedMembers z.2.group).map fun q => (q, s.usedFrac z.2.group q)
     let hi := used.foldl (fun n u => max n u.2) 0
     let lo := used.foldl (fun n u => min n u.2) (10 ^ 9)
     lo + 10 ^ 8 ≤ hi && used.any fun u => u.2 = hi && z.2.cols.any fun c => c.1 = u.1)

/-- An extent is copied in an order of the draft (R241): 4 re-plan evacuation, 5 reclaim, 7 consolidation, migration and
balance; a reshape copies the extent at its cursor in any. -/
def State.copyDue (s : State) (order v e : Nat) (band : Bool) : Bool :=
  let x := s.ext v e
  let heat := s.decayed x
  let here := match (tget v s.vols).bind (·.reshape) with
    | some r => r.st = 1 && s.nextMapped v r.cursor = some e
    | none => false
  if here then true
  else if order = 4 then !band && s.zsets.any fun z => z.2.st = .evacuating && x.inSet z.1
  else if order = 5 then !band && s.reclaims x
  else if order = 7 then
    if band then s.bit R.STK_CTRL_MIGRATE_EN && (x.st = 3 || x.st = 4) && s.get R.STK_HEAT_PROMOTE ≤ heat
    else x.scattered || s.balances x || (s.bit R.STK_CTRL_MIGRATE_EN && x.st = 2 && heat < s.get R.STK_HEAT_DEMOTE && s.demotes &&
      s.exts.all fun y => y.2.st != 2 || heat ≤ s.decayed y.2)
  else false

/-- No extent, granule, shadow or copy uses a row of a zone set. -/
def State.noLive (s : State) (z : Nat) : Bool :=
  let here (row : Nat) : Bool := !isBand row && row != 0xFFFFFFFF && zsetIx row = z
  !(s.exts.any fun x => (x.2.st != 0 && here x.2.row) || (x.2.fine.any fun g => (g.st = 2 || g.st = 3) && here g.row) ||
    x.2.copying.any fun c => c.dest.any fun d => here d.1) && !(s.shadows.any fun x => here x.2.row) && s.rowsInFlight z = 0

/-- BACKGROUND_OP_END (R240): the media time of an operation is charged; zone sets that reclaim emptied return to EMPTY
(R233). -/
def backgroundOpEnd (m us : Nat) (s : State) : State :=
  match tget m s.stk.bg with
  | none => s
  | some b =>
    let c := tgetD m 0 s.stk.credit
    let s1 := { s with stk := { s.stk with
      bg := tdel m s.stk.bg
      credit := if b.counted then tset m (c - us) s.stk.credit else s.stk.credit } }.count (R.STK_BG_TIME_MS (b.order - 1)) (us / 1000)
    if b.order = 5 then
      let gone := (s1.zsets.filter fun z => z.2.st = .full && s1.noLive z.1).map (·.1)
      s1.forAll gone fun z t => (({ t with zsets := tdel z t.zsets }.zsetRecord z).dropExcs (fun row => !isBand row && zsetIx row = z)).count R.STK_COUNT_RECLAIMED 1
    else s1

/-! ## Map checkpoints (R243, R244) -/

/-- The lowest record some segment still needs. -/
def State.journalLow (s : State) : Nat :=
  let segs := (s.jn.dirty ++ s.jn.ckpt.map (·.1)).eraseDups
  segs.foldl (fun n i => min n (tgetD i (0, 0) s.jn.ckpt).2) s.jn.seq

/-- The default home of copy j of segment i (R243): member and home pair. -/
def ckptHome (i j : Nat) : Nat × Nat := (2 * ((i + 11 * j) % 32) + i / 32 % 2, 64 * j + i / 64)

/-- The member that replaces a home (R243): on the next HDA present that is not a home of the segment, the same actuator if
it is in service, else the other. -/
def State.spareHome (s : State) (m : Nat) (homes : List Nat) : Option Nat :=
  ((List.range 31).map fun n => (m / 2 + 1 + n) % 32).findSome? fun i =>
    if (s.slot i).hda.isNone || homes.any (· / 2 = i) then none
    else [2 * i + m % 2, 2 * i + (1 - m % 2)].find? s.serves

/-- The lowest spare pair of a member no other segment's checkpoint takes (R243, R246). -/
def State.sparePair (s : State) (seg m : Nat) : Nat :=
  192 + lowestFree ((s.jn.homes.filter (·.1 != seg)).flatMap fun e =>
    (e.2.filter fun h => h.1 = m && 192 ≤ h.2.1).map fun h => h.2.1 - 192)

/-- Homes of a segment's three copies (R243): the default ones whose member is in service, and for the others a spare pair
of the member that replaces them; copies alternate between the slots of a pair. -/
def State.segmentHomes (s : State) (seg : Nat) : List (Nat × Nat × Nat) :=
  let was := tgetD seg [] s.jn.homes
  let dflt := (List.range 3).map (ckptHome seg)
  let kept := (dflt.filter fun h => s.serves h.1).map (·.1)
  let chosen := dflt.foldl (fun (acc : List (Nat × Nat)) h =>
    if s.serves h.1 then acc ++ [h]
    else match s.spareHome h.1 (kept ++ acc.map (·.1)) with
      | some m => acc ++ [(m, s.sparePair seg m)]
      | none => acc) []
  chosen.map fun h => (h.1, h.2, match was.find? fun w => w.1 = h.1 && w.2.1 = h.2 with | some w => 1 - w.2.2 | none => 0)

/-- MAP_CHECKPOINT (R243, R244): a segment's three copies are complete; journal space is freed, and a stalled journal with room
goes on. -/
def mapCheckpoint (seg : Nat) (s : State) : State :=
  let (newest, _) := tgetD seg (0, 0) s.jn.ckpt
  let homes := s.segmentHomes seg
  let s1 := { s with jn := { s.jn with
    ckpt := tset seg (s.jn.seq, newest) s.jn.ckpt, homes := tset seg homes s.jn.homes
    dirty := delId seg s.jn.dirty } }.forAll homes fun h t => t.send (.hearth h.1 (hearthSlot h.2.1 h.2.2) (256 * 13))
  let low := max s1.jn.low s1.journalLow
  let s2 := { s1 with jn := { s1.jn with low := low, records := s1.jn.records.filter fun r => low ≤ r.seq } }
  if s2.journalFull then s2 else s2.set R.STK_MAP_STALLED 0

/-! ## Spindle speed (R234 to R236) -/

/-- An HDA is absent for its group (R235). -/
def State.hdaAbsent (s : State) (i : Nat) : Bool := !s.serves (2 * i) || !s.serves (2 * i + 1)

/-- The smallest p of any layout in use in a group (R235). -/
def State.pMin (s : State) (g : Nat) : Nat :=
  ((s.vols.filter fun v => v.2.group = g).map (·.2.p) ++ (s.zsets.filter fun z => z.2.group = g).map (·.2.p) ++
    (s.brows.filter fun b => b.2.group = g).map (·.2.p)).foldl min (match tget g s.groups with | some x => x.p | none => 1)

/-- R235 holds with one HDA counted absent: every group keeps at most p_min − 1 absent, and the module at most MID_MAX at
Midnight. -/
def State.mayIdle (s : State) (i : Nat) : Bool :=
  let absent (g : Nat) := (List.range 32).filter fun j => (s.slot j).pos.any (·.1 = g) && (j = i || s.hdaAbsent j)
  let mids := (List.range 32).filter fun j => s.get (R.SLOT_STATUS_STATE j) = 4 && (s.get (R.SPIN_CTRL_SETPOINT j) = 0 || j = i)
  (s.groups.all fun e => (absent e.1).length < s.pMin e.1) && mids.length ≤ s.get R.STK_SPEED_MID_MAX

/-- STOKER_SETPOINT (R234): the set-point of an HDA with AUTO = 1, from its busy share of the last 10 s, whether it stayed at
or below DUSK_BELOW for 120 s, whether it has been idle for IDLE_MIN with no background work due, and whether it is needed
at Midnight. -/
def stokerSetpoint (i busy : Nat) (quiet idle needed : Bool) (s : State) : State :=
  match (s.slot i).pos with
  | none => s
  | some (g, _) =>
    if !s.bit (R.SPIN_CTRL_AUTO i) || !s.bit R.STK_CTRL_SPEED_EN || (tgetD (4 + i) ({} : ThermZone) s.thm.zones).shutdown then s
    else
      let sp := s.get (R.SPIN_CTRL_SETPOINT i)
      let copy := s.stripe.copies.contains (2 * i) || s.stripe.copies.contains (2 * i + 1)
      if sp = 0 then
        if needed || !s.mayIdle i || s.rebuilding g || copy then s.setSetpoint i 2 else s
      else if idle && !copy && 0 < s.get R.STK_SPEED_IDLE_MIN && s.mayIdle i && !s.rebuilding g then s.setSetpoint i 0
      else if sp = 2 then
        if quiet && 0 < s.get R.STK_SPEED_DUSK_BELOW && !s.rebuilding g then s.setSetpoint i 1 else s
      else if s.get R.STK_SPEED_NOON_ABOVE ≤ busy || s.rebuilding g then s.setSetpoint i 2
      else s

/-! ## Re-planned zones (R251) and relocation (R205) -/

/-- ZONE_EVACUATED (R251 step 4): the declared zones of an empty EVACUATING set are lowered one tier, or retired at the
lowest; the others return to EMPTY. -/
def zoneEvacuated (z : Nat) (s : State) : State :=
  match tget z s.zsets with
  | none => s
  | some zs =>
    if zs.st != .evacuating || !s.noLive z then s
    else
      let s1 := s.forAll zs.cols fun c t =>
        let st := t.store zs.group c.1
        let m := (t.memberOfIx zs.group c.1).getD 0
        if (tgetD c.2 {} st.zones).replan then
          let t1 := t.lowerZone zs.group c.1 c.2
          (match zoneAt st.n st.share c.2 with
            | some (_, _, rz) => t1.countLowered m rz
            | none => t1).endReplans m
        else t
      (({ s1 with zsets := tdel z s1.zsets }.zsetRecord z).dropExcs (fun row => !isBand row && zsetIx row = z)).capCheck zs.group

/-- WEAK_RELOCATION (R205): a listed block in the band is rewritten in place and kept when its read-back converges; otherwise,
and in a shingled zone, its data goes to a new placement. -/
def weakRelocation (pl : Place) (readBack : Bool) (s : State) : State :=
  match s.weak.find? (fun w => w.place = pl) with
  | none => s
  | some w =>
    let s1 := { s with weak := s.weak.filter fun x => x.place != pl }
    if s.find w.vol w.lba != some pl then s1
    else
      let e := w.lba / 256
      match tget w.vol s.vols with
      | none => s1
      | some vol =>
        let s2 := s1.count R.REC_RELOC_RELOCATED 1
        if isBand pl.row then
          if readBack then s2.putMedium pl { w.block with gen := s.rowGen pl.row }
          else
            let bad := match tget (bandIx pl.row) s.brows with | some b => b.cols[pl.col]? | none => none
            let s3 := match bad with
              | some (q, slot) => ((s2.setStore vol.group q { s2.store vol.group q with
                  bad := addId slot (s2.store vol.group q).bad }).putHeader vol.group q).mapRecord 0 0 slot .free
              | none => s2
            match s3.allocBand vol.group vol.k vol.p with
            | some (row, col, t) =>
              let x := t.ext w.vol e
              if x.copying.isSome then t
              else
                let x' : Extent := { x with st := 5, copying := some ⟨x.st, false, none, false⟩ }
                (t.setExt w.vol e x').pushBand row w.vol e col (t.wholeExtent w.vol e []) true
            | none => s3.startCopy w.vol e false
        else
          let g := w.lba / 32 % 8
          let blocks : Tbl (Block × Pi) := (List.range 32).map fun b => (b, s.newest w.vol (256 * e + 32 * g + b))
          s2.pushChunk { (chunkOf w.vol [(e, g)] blocks vol.group vol.k vol.p (false) false) with
        from_ := some (pl.row, pl.col) }

/-! ## Members that return (R255, R267) -/

/-- Heads of a member that are not retired, by number within it. -/
def State.goodHeads (s : State) (m : Nat) : List Nat := (List.range 10).filter fun h => !(s.head (10 * m + h)).retired

/-- Units of rebuild a member index holds: its band rows, and its zone sets by their first row (R276). -/
def State.unitsOf (s : State) (g q : Nat) : List Nat :=
  ((s.brows.filter fun b => b.2.group = g && b.2.cols.any fun c => c.1 = q).map fun b => 2 ^ 31 + b.1) ++
    (s.zsets.filter fun z => z.2.group = g && z.2.cols.any fun c => c.1 = q).map fun z => 4096 * z.1

/-- A member's hearthstone area is rewritten over its heads that are not retired, its header first (R248, R457). -/
def State.rewriteArea (m g q : Nat) (s : State) : State :=
  (s.setStore g q { s.store g q with area := s.goodHeads m }).putHeader g q

/-- A member is formatted: it starts empty, with the band share in force (R212, R247). Units its index still held are owed
to it by rebuild (R276). -/
def State.format (m g q : Nat) (s : State) : State :=
  let n := match (s.slot (m / 2)).hda with | some h => h.factory.cyl | none => 0
  let st := s.store g q
  let left := s.unitsOf g q
  let x : Store := {
    n := n, share := s.get R.STK_BAND_SHARE, heads := s.goodHeads m, area := s.goodHeads m, seq := st.seq
    rebuild := if left.isEmpty then 0 else 2, total := if left.isEmpty then 0 else max st.total (s.memberUsed g q)
    done := if left.isEmpty then 0 else st.done, owed := left, anew := !left.isEmpty }
  ((s.setStore g q x).putHeader g q).setMem m
    { s.mem m with empty := false, rebuild := false }

/-- Blocks of a column carry the row's present generation. -/
def State.resealColumn (row col : Nat) (s : State) : State :=
  let g := s.rowGen row
  { s with media := s.media.map fun e => if e.1 / 256 = 32 * row + col then (e.1, { e.2 with gen := g }) else e }

/-! ## Rebuild (R275 to R278) -/

/-- Columns of band rows and chunks of zone sets a member index holds. -/
def State.heldChunks (s : State) (g q : Nat) : Nat := s.memberUsed g q

/-- R276: the member index a unit of a lost member index goes to: of those with room in service on an HDA not in the row, or the
index itself where the unit is owed to it, the one of lowest used fraction. -/
def State.substitute (s : State) (g : Nat) (qs : List Nat) (own : Option Nat) (has : Nat → Bool) : Option Nat :=
  ((s.formattedMembers g).filter fun q => s.ixServes g q && (own = some q || !(qs.any fun x => x / 2 = q / 2)) && has q).foldl
    (fun (b : Option Nat) q => match b with
      | some x => if s.usedFrac g q < s.usedFrac g x then some q else b
      | none => some q) none

/-- The index a unit may go back to: its own, when it is owed to it (R276). -/
def State.ownOf (s : State) (g q unit : Nat) : Option Nat := if (s.store g q).owed.contains unit then some q else none

/-- The lowest of n zones that fits, of those that are of the same kind where there is one. -/
def pickZone (n : Nat) (same fits : Nat → Bool) : Option Nat :=
  match (List.range n).find? fun i => same i && fits i with
  | some i => some i
  | none => (List.range n).find? fits

/-- The EMPTY zone of a member index that takes a column of a set: the lowest with capacity at or above the set's, one in the
recording zone of the zone it replaces where there is one (R276). -/
def State.zoneFor (s : State) (g : Nat) (z : ZoneSet) (col r : Nat) : Option Nat :=
  let st := s.store g r
  let rz (x : Store) (n : Nat) : Option Nat := (zoneAt x.n x.share n).map fun y => y.2.2
  let old := z.cols.getD col (0, 0)
  let used := s.zonesTaken g r
  let cap := s.setCap z
  pickZone (zoneCount st.n st.share) (fun n => rz st n = rz (s.store g old.1) old.2)
    fun n => !used.contains n && cap ≤ s.zoneCap g r n

/-- A member index has an EMPTY zone for a column of a set (R276). -/
def State.zoneFits (s : State) (g : Nat) (z : ZoneSet) (col r : Nat) : Bool := (s.zoneFor g z col r).isSome

/-- The index a unit of a member index goes to. -/
def State.unitTo (s : State) (g q unit : Nat) : Option Nat :=
  if isBand unit then (tget (bandIx unit) s.brows).bind fun b =>
    s.substitute g (b.cols.map (·.1)) (s.ownOf g q unit) fun r => (s.freeSlot g r).isSome
  else (tget (zsetIx unit) s.zsets).bind fun z =>
    let qs := z.cols.map (·.1)
    (qs.findIdx? (· = q)).bind fun col => s.substitute g qs (s.ownOf g q unit) (s.zoneFits g z col)

/-- Rebuilds of which every unit left waits are paused (R276): judged when a member comes or goes and when a unit completes. -/
def State.judgePaused (s : State) : State :=
  s.forAll (s.stores.filter fun e => e.2.rebuild = 2) fun e t =>
    let g := e.1 / 64
    let q := e.1 % 64
    let units := t.unitsOf g q
    let idle := !units.isEmpty && units.all fun u => (t.unitTo g q u).isNone
    if (t.store g q).paused = idle then t else t.setStore g q { t.store g q with paused := idle }

/-- MEMBER_RETURN (R255, R267, R276): a member serves again: a new or overflowed one is formatted, another catches up the rows of
its stale list, each under an OPEN record; waiting units are judged again, and a second copy of the stripe journal is made if
one is owed. -/
def memberReturn (m : Nat) (s : State) : State :=
  match s.ixOf m with
  | none => s
  | some (g, q) =>
    if !s.serves m then s
    else
      let s0 := if (s.mem m).empty || (s.mem m).rebuild || (tget (storeKey g q) s.stores).isNone then s.format m g q
        else
          let st := s.store g q
          let t := s.forAll st.stale fun row u =>
            match u.rowShape row with
            | some (_, _, _, qs) =>
              let mine := (List.range qs.length).filter fun c => qs[c]? = some q
              (((u.underRecord row (maskOf mine)).forAll mine fun c w => w.resealColumn row c)).staleRecord 6 q row
            | none => u
          t.setStore g q { t.store g q with stale := [], rebuild := if st.rebuild = 4 || st.rebuild = 1 then 0 else st.rebuild }
      let s1 := s0.judgePaused
      if s1.stripe.copies.length < 2 && s1.stripe.copies.all (fun c => c / 2 != m / 2) && !s1.stripe.copies.contains m then
        let owed := s1.stripe.copyOwed
        let s2 := { s1 with stripe := { s1.stripe with copies := s1.stripe.copies ++ [m], copyOwed := false } }.sendBatch m s1.stripe.opened
        if owed then s2.event Ev.JOURNAL_COPY_RESTORED (origin 2 m) 0 0 0 0 else s2
      else s1

/-- A member index holds no column any more, or the HDA that took its position owes none: its rebuild is complete, and its
position vacant when both members' are and no HDA serves there (R255, R276). -/
def State.rebuildDone (g q : Nat) (s : State) : State :=
  let taken := (s.store g q).anew
  let left := if taken then (s.store g q).owed.length else s.heldChunks g q
  if left != 0 || (s.store g q).rebuild != 2 then s
  else
    let s1 := (s.setStore g q { s.store g q with rebuild := 5, paused := false }).event Ev.REBUILD_COMPLETE
      (origin 2 (s.memberNamed g q)) 0 0 0 0
    let s2 := s1.setB R.RED_STATUS_REBUILD (s1.stores.any fun e => e.2.rebuild = 2 || e.2.rebuild = 4)
    let other := if q % 2 = 0 then q + 1 else q - 1
    if (s2.store g other).begun && (s2.store g other).rebuild = 5 && !taken then
      match tget g s2.groups with
      | some gr =>
        (s2.soleSlot g (q / 2) 32).putGroup g { gr with serials := tdel (q / 2) gr.serials }
      | none => s2
    else s2

/-- A member index's rebuild starts: its stale list is discarded; a rebuild already running in the group is planned again
(R275, R278). -/
def State.beginRebuild (g q m : Nat) (s : State) : State :=
  let busy := s.stores.any fun e => e.1 / 64 = g && e.1 != storeKey g q && e.2.rebuild = 2
  let s1 := s.setStore g q { s.store g q with
    rebuild := 2, stale := [], total := s.heldChunks g q, done := 0, owed := [], running := [], anew := false }
  let s2 := (if s1.ixOf m = some (g, q) then s1.setMem m { s1.mem m with rebuild := true } else s1).set R.RED_STATUS_REBUILD 1
  (((if busy then (s2.event Ev.REBUILD_REPLANNED (origin 2 m) 0 0 0 0).replan 0 (m / 2) else s2)).rebuildDone g q).judgePaused

/-- REBUILD_START (R275, R278): at retirement, REBUILD_DELAY after the loss, or at a stale overflow, a member's rebuild starts.
A lost member whose slot holds no HDA, or another one, is known by its position. -/
def rebuildStart (m : Nat) (s : State) : State :=
  let late (n : Nat) : Bool := n != 0 && n - 1 + s.get R.RED_CTRL_REBUILD_DELAY ≤ s.opSec
  let fresh (g q : Nat) : Bool := !(s.store g q).begun
  let gone : State := match s.lostIx m with
    | some (g, q) => if fresh g q && ((s.store g q).marked || late (s.store g q).lostAt) then s.beginRebuild g q m else s
    | none => s
  match s.ixOf m with
  | some (g, q) =>
    let x := s.mem m
    if fresh g q && (x.retired || x.rebuild || late x.lostAt) then s.beginRebuild g q m else gone
  | none => gone

/-- Blocks of a column carry the substitute's member index and the row's generation (R276). -/
def State.movedColumn (row col q : Nat) (s : State) : State :=
  let g := s.rowGen row
  { s with media := s.media.map fun e => if e.1 / 256 = 32 * row + col then (e.1, { e.2 with q := q, gen := g }) else e }

/-- A unit counts as done, and is owed no longer. -/
def State.unitDone (g q unit n : Nat) (s : State) : State :=
  s.setStore g q { s.store g q with done := (s.store g q).done + n, owed := delId unit (s.store g q).owed, running := delId unit (s.store g q).running }

/-- Remaining redundancy of a unit: p minus the row's columns that are neither in service nor caught up (R276). -/
def State.unitSpare (s : State) (unit : Nat) : Nat :=
  match s.rowShape unit with
  | some (_, _, p, qs) => p - ((List.range qs.length).filter fun c => !s.colGood unit c).length
  | none => 0

/-- The order of units: ascending remaining redundancy, band units first, ascending ROW (R276). -/
def State.unitRank (s : State) (unit : Nat) : Nat :=
  2 ^ 33 * s.unitSpare unit + (if isBand unit then 0 else 2 ^ 32) + unit

/-- The unit of a member index's rebuild that is next to start: of those with a substitute that have not started (R276). -/
def State.nextUnit (s : State) (g q : Nat) : Option Nat :=
  ((s.unitsOf g q).filter fun u => !(s.store g q).running.contains u && (s.unitTo g q u).isSome).foldl
    (fun (b : Option Nat) u => match b with
      | some x => if s.unitRank u < s.unitRank x then some u else b
      | none => some u) none

/-- A unit in its turn starts, with REBUILD_EN (R276, R282): a zone unit's column gets its substitute, zone and rebuild pointer. -/
def State.startUnit (g q unit : Nat) (s : State) : State :=
  if !s.bit R.RED_CTRL_REBUILD_EN || (s.store g q).rebuild != 2 || s.nextUnit g q != some unit then s
  else
    let t := s.setStore g q { s.store g q with running := addId unit (s.store g q).running }
    if isBand unit then t
    else match tget (zsetIx unit) s.zsets, s.unitTo g q unit with
      | some z, some r =>
        let col := ((z.cols.map (·.1)).findIdx? (· = q)).getD 0
        let to_ : ZoneMove := ⟨col, r, (s.zoneFor g z col r).getD 0, 0⟩
        let z' : ZoneSet := { z with moving := (z.moving.filter fun m => m.col != col) ++ [to_] }
        { t with zsets := tset (zsetIx unit) z' t.zsets }.zsetRecord (zsetIx unit)
      | _, _ => t

/-- The column a zone unit rebuilds, with its pointer. -/
def ZoneSet.mover (z : ZoneSet) (q : Nat) : Option ZoneMove :=
  (z.moving.find? fun m => (z.cols.getD m.col (0, 0)).1 = q)

/-- A zone unit's chunks below a number are on the substitute: the pointer moves on. With the substitute out of service the unit starts
again (R276, R278). -/
def State.stepUnit (g q unit upto : Nat) (s : State) : State :=
  match tget (zsetIx unit) s.zsets with
  | none => s
  | some z =>
    match z.mover q with
    | none => s
    | some m =>
      if !s.ixServes g m.q then
        ({ s with zsets := tset (zsetIx unit) { z with moving := z.moving.filter (· != m) } s.zsets }.zsetRecord (zsetIx unit)).setStore g q
          { s.store g q with running := delId unit (s.store g q).running }
      else
        let stop := max m.upto (min upto z.wp)
        let s1 := { s with zsets := tset (zsetIx unit) { z with
          moving := z.moving.map fun x => if x = m then { m with upto := stop } else x } s.zsets }.zsetRecord (zsetIx unit)
        let s2 := s1.forAll ((List.range (stop - m.upto)).map (m.upto + ·)) fun c t => t.movedColumn (unit + c) m.col m.q
        s2.setStore g q { s2.store g q with done := (s2.store g q).done + (stop - m.upto) }

/-- Rebuild work on a unit (R276). -/
def State.rebuildWork (g q unit upto : Nat) (s : State) : State :=
  if (s.store g q).running.contains unit then (if isBand unit then s else s.stepUnit g q unit upto) else s.startUnit g q unit

/-- REBUILD_UNIT_COMPLETE (R276, R277): a band-row or zone-set column of a member under rebuild moves to its substitute, with
the blocks that could not be rebuilt lost. -/
def State.moveUnit (g q : Nat) (band : Bool) (ix : Nat) (lost : List (Nat × Nat)) (s : State) : State :=
  if band then
    match tget ix s.brows with
    | none => s
    | some b =>
      let row := 2 ^ 31 + ix
      let qs := b.cols.map (·.1)
      match qs.findIdx? (· = q), s.substitute g qs (s.ownOf g q row) (fun r => (s.freeSlot g r).isSome) with
      | some col, some r =>
        let b' := { b with cols := b.cols.set col (r, (s.freeSlot g r).getD 0) }
        let s1 := ({ s with brows := tset ix b' s.brows }.bandRecord ix).movedColumn row col r
        (((s1.forAll lost fun l t => t.losePlace 0 ⟨row, l.1, l.2⟩).unitDone g q row 1).rebuildDone g q).judgePaused
      | _, _ => s
  else
    match tget ix s.zsets with
    | none => s
    | some z =>
      let qs := z.cols.map (·.1)
      match qs.findIdx? (· = q) with
      | none => s
      | some col =>
        let goal : Option (Nat × Nat × Nat) := match (z.mover q).filter fun x => s.ixServes g x.q with
          | some x => some (x.q, x.zone, x.upto)
          | none => (s.substitute g qs (s.ownOf g q (4096 * ix)) (s.zoneFits g z col)).map fun r => (r, (s.zoneFor g z col r).getD 0, 0)
        match goal with
        | none => s
        | some (r, zone, upto) =>
          let z' := { z with cols := z.cols.set col (r, zone), moving := z.moving.filter fun x => x.col != col }
          let s1 := { s with zsets := tset ix z' s.zsets }.zsetRecord ix
          let s2 := s1.forAll (List.range z.wp) fun c t => t.movedColumn (4096 * ix + c) col r
          (((s2.forAll lost fun l t => t.losePlace 0 ⟨4096 * ix + l.1 / 256, col, l.2⟩).unitDone g q (4096 * ix) (z.wp - upto)).rebuildDone
            g q).judgePaused

/-- A unit may complete: it has started, or units may start (R282). -/
def State.unitMay (s : State) (g q : Nat) (band : Bool) (ix : Nat) : Bool :=
  s.bit R.RED_CTRL_REBUILD_EN || (s.store g q).running.contains (if band then 2 ^ 31 + ix else 4096 * ix)

/-- REBUILD_UNIT_COMPLETE, of the member in the slot if its rebuild runs, else of the one lost from it. -/
def rebuildUnitComplete (m : Nat) (band : Bool) (ix : Nat) (lost : List (Nat × Nat)) (s : State) : State :=
  let gone : State := match s.lostIx m with
    | some (g, q) => if (s.store g q).rebuild = 2 && s.unitMay g q band ix then s.moveUnit g q band ix lost else s
    | none => s
  match s.ixOf m with
  | some (g, q) => if (s.store g q).rebuild = 2 && s.unitMay g q band ix then s.moveUnit g q band ix lost else gone
  | none => gone

/-- LEDGER_COPY (R279): the ledger is copied to the ledger region of every member in service. -/
def ledgerCopy (s : State) : State :=
  let t := s.forAll ((List.range 64).filter s.serves) fun m t => t.send (.hearth m hearthLedgers hearthLedgersBlocks)
  { t with stores := s.stores.map fun e => if s.ixServes (e.1 / 64) (e.1 % 64) then (e.1, { e.2 with ledger := s.lost }) else e }

/-! ## The draft order (R241) -/

/-- A column of a rebuild unit lies on a member index. -/
def State.unitHolds (s : State) (u q : Nat) : Bool := match s.rowShape u with | some (_, _, _, qs) => qs.contains q | none => false

/-- Work of a class of R241 that is due on an actuator, as far as State tells: a rebuild unit with a destination and a column there; a
hearthstone area over a retired head, or a changed segment's home there while the journal is 75 % full; a weak block there; an
evacuating or a reclaimable zone set, a background ladder, or an extent to copy that lies there (log entry 92). -/
def State.workDue (s : State) (m n : Nat) : Bool :=
  match s.ixOf m with
  | none => false
  | some (g, q) =>
    let sets (f : Nat × ZoneSet → Bool) : Bool := s.zsets.any fun z => z.2.group = g && z.2.cols.any (·.1 = q) && f z
    match n with
    | 1 => (s.stores.any fun e => e.1 / 64 = g && e.2.rebuild = 2 &&
        (s.unitsOf g (e.1 % 64)).any fun u => s.unitHolds u q && (s.unitTo g (e.1 % 64) u).isSome) ||
        s.stripe.unsynced.any fun r => s.unitHolds r q
    | 2 => ((s.store g q).area.any fun h => (s.head (10 * m + h)).retired) ||
        (75 ≤ s.journalFill && s.jn.dirty.any fun i => (s.segmentHomes i).any (·.1 = m))
    | 3 => s.weak.any fun w => s.colMember w.place.row w.place.col = some m && s.find w.vol w.lba = some w.place
    | 4 => sets fun z => z.2.st = .evacuating && !s.noLive z.1
    | 5 => sets s.reclaimable
    | 6 => s.recs.any fun e => e.2.bg && e.2.head / 10 = m
    | 7 => s.exts.any fun x => s.unitHolds x.2.row q &&
        (s.copyDue 7 (x.1 / 2 ^ 33) (x.1 % 2 ^ 33) true || s.copyDue 7 (x.1 / 2 ^ 33) (x.1 % 2 ^ 33) false)
    | _ => false

/-- EMPTY zones of a group are below 1 % of its zones: reclaim runs ahead of relocation (R233). -/
def State.zonesShort (s : State) (g : Nat) : Bool :=
  let l := s.formattedMembers g
  100 * l.foldl (fun n q => n + s.emptyZones g q) 0 < l.foldl (fun n q => n + zoneCount (s.store g q).n (s.store g q).share) 0

/-- Work of a class ahead of one is due on an actuator (R233, R241). -/
def State.workAhead (s : State) (m n : Nat) : Bool :=
  let short := match s.ixOf m with | some (g, _) => s.zonesShort g | none => false
  ((if short then [1, 2, 5, 3, 4, 6, 7] else [1, 2, 3, 4, 5, 6, 7]).takeWhile (· != n)).any (s.workDue m)

/-- BACKGROUND_OP_START (R240, R241): the credit takes the foreground time passed; an operation starts when nothing in the
background runs on the actuator, no work of a class ahead is due there and, with foreground work queued, the credit is not below 0;
checkpoint writes ignore it while the journal is 75 % full. -/
def backgroundOpStart (m order fgUs : Nat) (queued : Bool) (w : BgWork) (s : State) : State :=
  let c := s.creditAfter m fgUs
  let s1 := { s with stk := { s.stk with credit := tset m c s.stk.credit } }
  if (tget m s1.stk.bg).isSome || order = 0 || 8 < order || s.workAhead m order then s1
  else if queued && c < 0 && !(order = 2 && 75 ≤ s1.journalFill) then s1
  else
    let s2 := { s1 with stk := { s1.stk with bg := tset m (⟨order, queued⟩ : BgOp) s1.stk.bg } }
    match w with
    | .media => s2
    | .copy v e band =>
      let s3 := { s2 with stk := { s2.stk with demoting := s2.demotes } }
      if s2.copyDue order v e band then s3.startCopy v e band else s3
    | .scrub row bad parity done late => if s2.bit R.RED_CTRL_SCRUB_EN then s2.scrubRow row bad parity done late else s2
    | .resync row => if order = 1 then s2.syncRow row else s2
    | .rebuild g q unit upto => if order = 1 then s2.rebuildWork g q unit upto else s2
    | .hearthstone => match s2.ixOf m with
      | some (g, q) => s2.rewriteArea m g q
      | none => s2

/-! ## The commands -/

def execWeakRelocation (pl : Place) (ok : Bool) (s : State) := actHost s (State.mapWaits (weakRelocation pl ok))
def execExtentWriteback (v : Vol) (e : Nat) (s : State) := actHost s (extentWriteback v.val e)
def execJournalAppendDurable (upto : Nat) (s : State) := actHost s (journalAppendDurable upto)
def execZoneRowFillWait (g k p : Nat) (s : State) := actHost s (zoneRowFillWait g k p)
def execExtentCopy (v : Vol) (e : Nat) (s : State) := actHost s (State.mapWaits (extentCopy v.val e))
def execHeatEpochAdvance (s : State) := actHost s heatEpochAdvance
def execHeatSweep (s : State) := actHost s heatSweep
def execBackgroundOpStart (m : Member) (order fgUs : Nat) (queued : Bool) (w : BgWork) (s : State) :=
  actHost s (backgroundOpStart m.val order fgUs queued w)
def execBackgroundOpEnd (m : Member) (us : Nat) (s : State) := actHost s (backgroundOpEnd m.val us)
def execMapCheckpoint (seg : Fin 4096) (s : State) := actHost s (mapCheckpoint seg.val)
def execStokerSetpoint (i : Slot) (busy : Nat) (quiet idle needed : Bool) (s : State) :=
  actHost s (stokerSetpoint i.val busy quiet idle needed)
def execZoneEvacuated (z : Nat) (s : State) := actHost s (State.mapWaits (zoneEvacuated z))
def execZoneRowCommit (row : Nat) (written : List Nat) (s : State) := actHost s (State.mapWaits (zoneRowCommit row written))
def execBandRowLockGrant (row : Nat) (s : State) := actHost s (bandRowLockGrant row)
def execBandRowWriteDone (row : Nat) (s : State) := actHost s (State.mapWaits (bandRowWriteDone row))
def execIntentBitDurable (reg : Nat) (s : State) := actHost s (intentBitDurable reg)
def execJournalBatch (idle : List Nat) (s : State) := actHost s (journalBatch idle)
def execCopyMemberLost (m : Member) (s : State) := actHost s (copyMemberLost m.val)
def execMemberReturn (m : Member) (s : State) := actHost s (memberReturn m.val)
def execRebuildStart (m : Member) (s : State) := actHost s (rebuildStart m.val)
def execRebuildUnitComplete (m : Member) (band : Bool) (ix : Nat) (lost : List (Nat × Nat)) (s : State) :=
  actHost s (State.mapWaits (rebuildUnitComplete m.val band ix lost))
def execLedgerCopy (s : State) := actHost s ledgerCopy

end Sys2Proof.Machine
end

