-- ==== Sys2Proof/Machine/Calib.lean ====
section
/-! DEFINITION. Calibration (R413 to R421): when one is due and may start, how its runs are compared, and what it sets. -/

namespace Sys2Proof.Machine

/-! ## Trim records (R420, R421) -/

/-- A trim record with a little-endian field written. -/
def putTrim (off n v : Nat) (t : Trim) : Trim :=
  ((List.range n).zip (leBytes n v)).foldl (fun t e => tset (off + e.1) e.2 t) t

/-- Slot and record of an element: a head for kinds 0 to 5, a member for kind 6. -/
def calRec (kind elem : Nat) : Nat × Nat := if kind = 6 then (elem / 2, 20 + elem % 2) else (elem / 20, elem % 20)

def State.calTrim (s : State) (kind elem : Nat) : Trim := s.trimRec (calRec kind elem).1 (calRec kind elem).2

/-- Change an element's trim record; it is written to the ID memory later (R419). -/
def State.modTrim (kind elem : Nat) (f : Trim → Trim) (s : State) : State :=
  let (i, k) := calRec kind elem
  { s with trims := tset (24 * i + k) (f (s.trimRec i k)) s.trims }

/-- Offset of a kind's history in its record. -/
def histAt (kind : Nat) : Nat := if kind = 6 then 4 else 4 + 8 * kind

/-- Count, consecutive suspects, last result and operating seconds of a kind's history, and its suspect flag. -/
def State.calHist (s : State) (kind elem : Nat) : Nat × Nat × Nat × Nat × Bool :=
  let t := s.calTrim kind elem
  let o := histAt kind
  (trimField o 2 t, trimField (o + 2) 1 t, trimField (o + 3) 1 t, trimField (o + 4) 4 t, (trimField 1 1 t).testBit kind)

/-- The history after an outcome: 1 applied, 2 applied after a third run, 3 suspect. -/
def State.histRecord (kind elem result : Nat) (s : State) : State :=
  let (n, sus, _, _, _) := s.calHist kind elem
  let sus' := if result = 3 then sus + 1 else 0
  s.modTrim kind elem fun t =>
    let t1 := putTrim (histAt kind) 2 (min 65535 (n + 1)) t
    let t2 := putTrim (histAt kind + 2) 1 (min 255 sus') t1
    let t3 := putTrim (histAt kind + 4) 4 s.opSec (putTrim (histAt kind + 3) 1 result t2)
    let fl := trimField 1 1 t3
    tset 1 (if result = 3 then (if fl.testBit kind then fl else fl + 2 ^ kind)
      else if fl.testBit kind then fl - 2 ^ kind else fl) t3

/-! ## Due and start (R417) -/

/-- A kind has set no trim of the element yet (R417, R420, R421). -/
def State.noTrim (s : State) (kind elem : Nat) : Bool :=
  tgetD 0 0 (s.calTrim kind elem) != 0xA5 || (s.calHist kind elem).1 = 0

/-- The element of a calibration serves: its slot is ready and it is not retired. -/
def State.calAlive (s : State) (kind elem : Nat) : Bool :=
  let i := (calRec kind elem).1
  s.get (R.SLOT_STATUS_STATE i) = 4 &&
    (if kind = 6 then elem < 64 && !(s.actu elem).retired
     else elem < 640 && !(s.head elem).retired && !(s.actu (elem / 10)).retired)

/-- The calibrations in progress whose element still serves; one whose element is retired or removed has ended (R418). -/
def State.liveCals (s : State) : List CalRun := s.cal.running.filter fun c => s.calAlive c.kind c.elem

/-- Whether a kind may fall due: enabled, or kind 6 under R116. -/
def State.kindOn (s : State) (kind elem : Nat) : Bool :=
  (s.get R.CAL_CTRL_KIND_EN).testBit kind || (kind = 6 && s.bit (R.ACT_STATUS_REID_PENDING elem))

/-- Operating second of the last run. -/
def State.calLast (s : State) (kind elem rz : Nat) : Nat :=
  if kind = 5 then tgetD (32 * elem + rz) 1 s.cal.zoneAt - 1 else (s.calHist kind elem).2.2.2.1

/-- A calibration is entered as due, once. -/
def State.addDue (kind elem rz : Nat) (s : State) : State :=
  if s.cal.due.contains (kind, elem, rz) then s else { s with cal := { s.cal with due := s.cal.due ++ [(kind, elem, rz)] } }

/-- CALIBRATION_DUE (R417): the interval has elapsed, the temperature has moved, the element has no trim, a suspect retry
has come round, or re-identification is pending. `moved` is the move of the kind's zone temperature, °C. -/
def calibrationDue (kind elem rz moved : Nat) (s : State) : State :=
  let temp := s.get (R.CAL_INTERVAL_TEMP kind)
  let (_, _, _, at_, sus) := s.calHist kind elem
  let due := s.calLast kind elem rz + 3600 * s.get (R.CAL_INTERVAL_HOURS kind) ≤ s.opSec ||
    (temp != 0 && temp ≤ moved) || s.noTrim kind elem ||
    (sus && at_ + 60 * s.get R.CAL_CTRL_SUSPECT_RETRY ≤ s.opSec) || (kind = 6 && s.bit (R.ACT_STATUS_REID_PENDING elem))
  if due && s.kindOn kind elem && s.calAlive kind elem then s.addDue kind elem (if kind = 5 then rz else 0) else s

/-- CAL_SUSPECT_RETRY (R414): a suspect element is due again SUSPECT_RETRY after its last run. -/
def calSuspectRetry (kind elem : Nat) (s : State) : State :=
  let (_, _, _, at_, sus) := s.calHist kind elem
  if sus && at_ + 60 * s.get R.CAL_CTRL_SUSPECT_RETRY ≤ s.opSec && s.kindOn kind elem && s.calAlive kind elem then
    s.addDue kind elem 0
  else s

/-- The place of a due calibration in the order of R417, and its last run. -/
def State.calRank (s : State) (d : Nat × Nat × Nat) : Nat × Nat :=
  let (kind, elem, rz) := d
  if kind = 6 && s.bit (R.ACT_STATUS_REID_PENDING elem) then (1, 0)
  else if s.noTrim kind elem then (2, 0)
  else if (s.calHist kind elem).2.2.2.2 then (3, 0)
  else (4, s.calLast kind elem rz)

/-- The member of a calibration's element. -/
def calMember (kind elem : Nat) : Nat := if kind = 6 then elem else elem / 10

/-- Whether the limits of R417 let a due calibration start. -/
def State.calMay (s : State) (d : Nat × Nat × Nat) : Bool :=
  let (kind, elem, rz) := d
  let m := calMember kind elem
  let i := m / 2
  let run := s.liveCals
  let reid := kind = 6 && s.bit (R.ACT_STATUS_REID_PENDING elem)
  let heads := run.filter fun c => c.kind ≤ 4
  s.calAlive kind elem && s.get R.PWR_CAP_ACTIONS = 0 && s.get R.PWR_STATUS_SUPPLY = 0 &&
    !(run.any fun c => c.kind = kind && c.elem = elem && c.rz = rz) &&
    (4 < kind || (!(heads.any fun c => c.elem / 10 = m) && heads.length < s.get R.CAL_CTRL_CAL_HEADS)) &&
    (!([3, 4, 6].contains kind) || (s.get (R.SPIN_CTRL_SETPOINT i) = 2 && s.loaded m)) &&
    (!([3, 4].contains kind) || (tgetD (4 + i) {} s.thm.zones).level = 100) &&
    (kind != 6 || reid ||
      match s.ixOf m with
      | none => true
      | some (g, _) =>
        !(run.any fun c => c.kind = 6 && (s.ixOf c.elem).any (·.1 = g)) && !s.rebuilding g &&
          ((List.range 32).filter fun j => (s.slot j).pos.any (·.1 = g) && (j = i || s.hdaAbsent j)).length < s.pMin g)

/-- Fence a head, and let it go again once neither calibration nor self-test holds it. -/
def State.fenceHead (g : Nat) (s : State) : State :=
  ((s.leaveTorn g).setHead g { (s.leaveTorn g).head g with fenced := true }).fitSet (g / 10)
def State.unfenceHead (g : Nat) (s : State) : State :=
  let held := s.cal.running.any (fun c => c.kind ≤ 4 && c.elem = g) || s.tst.running.any fun t => t.kind = 5 && t.index = g
  (s.setHead g { s.head g with fenced := held }).fitSet (g / 10)

/-- The end of a calibration: it stops running and what it fenced returns (R417). -/
def State.endCal (c : CalRun) (s : State) : State :=
  let s1 := { s with cal := { s.cal with running := s.cal.running.filter fun x => x != c } }
  if c.kind ≤ 4 then s1.unfenceHead c.elem
  else if c.kind = 6 then s1.unfence c.elem .calibration
  else s1

/-- Supply warning (R418): runs end at once, nothing is applied, and what ran is due again. -/
def State.endCals (s : State) : State :=
  s.forAll s.cal.running fun c t => (t.endCal c).addDue c.kind c.elem c.rz

/-- CALIBRATION_START (R417): a due calibration that the limits let start, with none before it in the order, starts. -/
def calibrationStart (kind elem rz : Nat) (s : State) : State :=
  let d := (kind, elem, if kind = 5 then rz else 0)
  let s0 := s.forAll (s.cal.running.filter fun c => !s.calAlive c.kind c.elem) State.endCal
  let mine := s0.calRank d
  let first := s0.cal.due.all fun x => !s0.calMay x || (let r := s0.calRank x
    mine.1 < r.1 || (mine.1 = r.1 && mine.2 ≤ r.2))
  if s0.cal.due.contains d && s0.calMay d && first then
    let s1 := { s0 with cal := { s0.cal with
                  due := s0.cal.due.filter fun x => x != d
                  running := s0.cal.running ++ [⟨kind, elem, d.2.2, [], false⟩] } }
    if kind ≤ 4 then s1.fenceHead elem else if kind = 6 then s1.fence elem .calibration else s1
  else s0

/-! ## Comparing runs (R413, R414) -/

/-- How far two runs may differ on a value: by so many units, by so many per cent, or any. -/
inductive Tol where
  | units (n : Nat) | pct (n : Nat) | any
  deriving DecidableEq, Repr

/-- Agreement tolerance of a kind's value (R413). The values of a run, in order: kind 0, offsets of C0 to C78 in 1/32 LSB;
kind 1, departures of 20 CTF and 36 VGA segments from nominal in 0.1 %; kind 2, the 20 anchor delays in 0.1 ps
and the falling edge's offset in 0.1 ps; kind 3,
reader resistance in 0.1 Ω, I_th0 in 0.01 mA (STO: voltage at nominal bias in mV), T0 in 0.125 °C, the optimum at the
tested recording zone (laser: offset in 0.01 mA; STO: scale in 1/4,096), that zone, and at first service the optimum at a
second recording zone and that zone; kind 4, WR_TRIM in ps, and at first service PC1_OUTER, PC1_INNER, PC2_OUTER,
PC2_INNER; kind 5, VGA code, asymmetry, ten FIR taps in 1/64, and at first service base boost and CTF_CUT; kind 6, plant
gain, KE, KX, R_meas, T_meas, peak deceleration, coil thermal resistance and time constant in the units of R421, and G_h
of heads 0 to 9. -/
def calTol (kind i : Nat) : Tol :=
  match kind with
  | 0 => .units 32
  | 1 => .units 20
  | 2 => if i < 20 then .units 5 else .any
  | 3 => if i = 1 || i = 3 || i = 5 then .pct 2 else .any
  | 4 => if i = 0 then .units 10 else .units 1
  | 5 => if i < 2 then .units 4 else if i < 12 then .units 2 else .any
  | _ => if i = 4 then .any else .pct 5

/-- Difference of two runs on a value, in % of its tolerance. -/
def calDiff (kind i : Nat) (a b : Int) : Nat :=
  let d := (a - b).natAbs
  match calTol kind i with
  | .units n => d * 100 / n
  | .pct n => if d = 0 then 0 else if a = 0 then 255 else d * 10000 / (n * a.natAbs)
  | .any => 0

/-- Whether two runs agree on a value. -/
def calAgrees (kind i : Nat) (a b : Int) : Bool :=
  let d := (a - b).natAbs
  match calTol kind i with
  | .units n => d ≤ n
  | .pct n => d * 100 ≤ n * a.natAbs
  | .any => true

/-- Whether two runs agree on every value. -/
def runsAgree (kind : Nat) (a b : List Int) : Bool :=
  (List.range (max a.length b.length)).all fun i => calAgrees kind i (a.getD i 0) (b.getD i 0)

/-- Largest difference of two runs, % of tolerance, and the value that shows it. -/
def worstDiff (kind : Nat) (a b : List Int) : Nat × Nat :=
  (List.range (max a.length b.length)).foldl (fun w i =>
    let d := calDiff kind i (a.getD i 0) (b.getD i 0)
    if w.1 < d then (d, i) else w) (0, 0)

/-- Mean of two runs, value by value. -/
def meanRun (a b : List Int) : List Int :=
  (List.range (max a.length b.length)).map fun i => roundAway (a.getD i 0 + b.getD i 0) 2

/-! ## Applying a result -/

/-- Comparators whose offset the record can hold pass offset calibration (log entry 26). -/
def compUsable (offs : List Int) : List Nat :=
  (List.range 79).filter fun i => -128 ≤ offs.getD i 0 && offs.getD i 0 ≤ 127

/-- Whether a list is an assignment of R136. -/
def compsOk (offs : List Int) (l : List Nat) : Bool :=
  l.length = 63 && (List.range 63).all fun j =>
    (compUsable offs).contains (l.getD j 79) && compFits offs (l.getD j 79) (j + 1) && (j = 0 || l.getD (j - 1) 0 < l.getD j 0)

/-- The segments nearest nominal, so many of them, none more than 10 % off (R413 kind 1). -/
def nearest (devs : List Int) (n : Nat) : List Nat :=
  let good := (List.range devs.length).filter fun i => (devs.getD i 0).natAbs ≤ 100
  let ord := good.foldl (fun l i =>
    (l.filter fun j => (devs.getD j 0).natAbs ≤ (devs.getD i 0).natAbs) ++ i ::
      l.filter fun j => (devs.getD i 0).natAbs < (devs.getD j 0).natAbs) []
  ord.take n

/-- Good segments left over, as the spare fields show them. -/
def segSpares (devs : List Int) (n : Nat) : Nat := min 4 ((devs.filter fun d => d.natAbs ≤ 100).length - n)

/-- Kind 0 (R136, R413): offsets, usable comparators and their assignment; a head with none is retired. -/
def State.applyAdc (g : Nat) (v : List Int) (pick : List Nat) (s : State) : State :=
  let l := if compsOk v pick then pick else lowestComps (compUsable v) v
  let s1 := (s.modTrim 0 g fun t =>
    putTrim 144 10 (maskOf (compUsable v)) ((List.range 79).foldl (fun t i => putTrim (64 + i) 1 (toBits 8 (v.getD i 0)) t) t))
  let s2 := s1.setHead g { s1.head g with comps := l }
  if l.isEmpty then s2.retireHead Ev.ADC_NO_SELECTION Ev.ADC_NO_SELECTION 0 0 0 0 g else s2

/-- Kind 1: the segments in use. -/
def State.applySegments (g : Nat) (v : List Int) (s : State) : State :=
  let ctf := v.take 20
  let vga := (v.drop 20).take 36
  ((s.modTrim 1 g fun t => putTrim 157 5 (maskOf (nearest vga 32)) (putTrim 154 3 (maskOf (nearest ctf 16)) t)).set
    (R.HEAD_AFE_TRIM_CTF_SPARES g) (segSpares ctf 16)).set (R.HEAD_AFE_TRIM_VGA_SPARES g) (segSpares vga 32)

/-- Kind 2: anchor delays, usable taps and the falling edge's offset (R150). -/
def State.applyTaps (g : Nat) (v : List Int) (pick : List Nat) (s : State) : State :=
  (s.setHead g { s.head g with fallEdge := v.getD 20 0 }).modTrim 2 g fun t =>
    putTrim 162 20 (maskOf (pick.filter (· < 160)))
      ((List.range 20).foldl (fun t i => putTrim (182 + 2 * i) 2 (v.getD i 0).toNat t) t)

/-- Kind 3 (R415): assist light curve and reader. At first service two optima give both stored offsets; otherwise both
shift by the difference at the tested recording zone. Then the head's age is judged (R422). -/
def State.applyAssist (g : Nat) (v : List Int) (s : State) : State :=
  let x (i : Nat) : Int := v.getD i 0
  let laser := s.get (R.SLOT_STATUS_ASSIST_KIND (g / 20)) = 0
  let t := s.calTrim 3 g
  let s0 := s.set (R.HEAD_MEAS_RDR_RES g) (x 0).toNat
  let s1 := if laser then
      let a := ofBits 16 (trimField 406 2 t)
      let b := ofBits 16 (trimField 408 2 t)
      let (na, nb) :=
        if 7 ≤ v.length && x 6 != x 4 then
          let d := x 6 - x 4
          (roundAway ((x 3) * d - (x 5 - x 3) * x 4) d.natAbs * (if d < 0 then -1 else 1),
           roundAway ((x 3) * d + (x 5 - x 3) * (31 - x 4)) d.natAbs * (if d < 0 then -1 else 1))
        else
          let shift := x 3 - roundAway (a * 31 + (b - a) * x 4) 31
          (a + shift, b + shift)
      (s0.modTrim 3 g fun t => putTrim 408 2 (toBits 16 nb) (putTrim 406 2 (toBits 16 na)
        (putTrim 402 2 (toBits 16 (x 2)) (putTrim 400 2 (x 1).toNat t)))).set (R.HEAD_MEAS_ASSIST_PRIMARY g) (x 1).toNat
    else
      (s0.modTrim 3 g fun t => putTrim 410 2 (x 3).toNat (putTrim 402 2 (toBits 16 (x 2)) t)).set
        (R.HEAD_MEAS_ASSIST_SECONDARY g) (x 1).toNat
  s1.setHead g { s1.head g with assistSet := false, assistT0 := some (x 2) }

/-- The baselines of a head, written once, at its first applied calibration (R421). -/
def State.writeBaselines (g : Nat) (s : State) : State :=
  let t := s.calTrim 0 g
  if trimField 424 6 t != 0 then s
  else
    let s1 := s.modTrim 0 g fun t =>
      putTrim 428 2 (s.get (R.HEAD_MEAS_ASSIST_SECONDARY g)) (putTrim 426 2 (s.get (R.HEAD_MEAS_ASSIST_PRIMARY g))
        (putTrim 424 2 (s.get (R.HEAD_MEAS_RDR_RES g)) t))
    s1.setAge g { s1.age g with baseT := some (ofBits 16 (trimField 402 2 t)) }

/-- Ageing after an applied kind 3 (R422): the threshold is corrected to the baseline temperature, which is a free value
where this module did not take the baseline (log entry 27). -/
def State.ageHead (g : Nat) (v : List Int) (s : State) : State :=
  let t := s.calTrim 3 g
  let laser := s.get (R.SLOT_STATUS_ASSIST_KIND (g / 20)) = 0
  let (tb, s1) := match (s.age g).baseT with
    | some b => (b, s)
    | none => (ofBits 16 (s.freeNat 65536), s.bump)
  let kt : Int := trimField 404 2 t
  let den := 800000 + kt * (v.getD 2 0 - tb)
  let now := if laser then roundAway (v.getD 1 0 * 800000) den.natAbs else v.getD 1 0
  s1.judgeAge g laser (changePct (trimField (if laser then 426 else 428) 2 t) now)
    (changePct (trimField 424 2 t) (v.getD 0 0))

/-- Kind 4 (R416): WR_TRIM, and at first service the precompensation codes. -/
def State.applyTiming (g : Nat) (v : List Int) (s : State) : State :=
  let old := ofBits 16 (trimField 412 2 (s.calTrim 4 g))
  let x (i : Nat) : Nat := (v.getD i 0).toNat
  let s1 := (s.modTrim 4 g (putTrim 412 2 (toBits 16 (v.getD 0 0)))).setI (R.HEAD_WRITE_TIMING_LAUNCH_PS g)
    (s.getI (R.HEAD_WRITE_TIMING_LAUNCH_PS g) + v.getD 0 0 - old)
  if v.length < 5 then s1
  else
    ((((s1.modTrim 4 g fun t => putTrim 414 4 (x 1 % 256 + 256 * (x 2 % 256) + 65536 * (x 3 % 256) + 16777216 * (x 4 % 256)) t).set
      (R.HEAD_WRITE_TIMING_PC1_OUTER g) (x 1)).set (R.HEAD_WRITE_TIMING_PC1_INNER g) (x 2)).set
      (R.HEAD_WRITE_TIMING_PC2_OUTER g) (x 3)).set (R.HEAD_WRITE_TIMING_PC2_INNER g) (x 4)

/-- Anchor recording zones of the FIR weights (R420). -/
def firAnchors : List Nat := [0, 4, 9, 13, 18, 22, 27, 31]

/-- Kind 5 (R416): the defaults of a recording zone. -/
def State.applyZone (g rz : Nat) (v : List Int) (s : State) : State :=
  let o := 224 + 3 * rz
  let s1 := s.modTrim 5 g fun t =>
    let t1 := putTrim (o + 2) 1 (toBits 8 (v.getD 1 0)) (putTrim o 1 (v.getD 0 0).toNat t)
    let t2 := if v.length < 14 then t1
      else putTrim (o + 1) 1 ((v.getD 12 0).toNat % 16 + 16 * ((v.getD 13 0).toNat % 16)) t1
    match firAnchors.findIdx? (· = rz) with
    | some a => (List.range 10).foldl (fun t i => putTrim (320 + 10 * a + i) 1 (toBits 8 (v.getD (2 + i) 0)) t) t2
    | none => t2
  { s1 with cal := { s1.cal with zoneAt := tset (32 * g + rz) (s.opSec + 1) s1.cal.zoneAt } }

/-- Loops of an actuator: its micro-positioners, its VCM and its coil model (R120). -/
def loopsOf (m : Nat) : List Nat := (List.range 10).map (fun h => 10 * m + h) ++ [640 + m, 704 + m]

/-- Kind 6 (R415): the plant of an actuator. -/
def State.applyPlant (m : Nat) (v : List Int) (s : State) : State :=
  let x (i : Nat) : Int := v.getD i 0
  let s1 := s.modTrim 6 m fun t =>
    putTrim 32 2 (x 7).toNat (putTrim 30 2 (x 6).toNat (putTrim 28 2 (x 5).toNat (putTrim 26 2 (toBits 16 (x 4))
      (putTrim 24 2 (x 3).toNat (putTrim 22 2 (toBits 16 (x 2)) (putTrim 20 2 (x 1).toNat
        (putTrim 16 4 (x 0).toNat t)))))))
  let s2 := s1.forAll (headsOf m) fun g t => t.modTrim 0 g (putTrim 418 2 (x (8 + g % 10)).toNat)
  let s3 := (s2.set (R.ACT_COIL_KE m) (x 1).toNat).setActu m
    { s2.actu m with kx := 4 * x 2, rMeas := (x 3).toNat, tMeas := x 4 * 125 / 100 }
  s3.forAll (loopsOf m) State.deriveLoop

/-- A trim record becomes valid. The fields of a head that no calibration has set yet start from what was in force without
a trim: the ROM class defaults, or the defaults R96, R149, R153 and R154 state (log entry 76). -/
def State.validTrim (kind elem : Nat) (s : State) : State :=
  s.modTrim kind elem fun t =>
    if kind = 6 || tgetD 0 0 t = 0xA5 then tset 0 0xA5 t
    else
      let (i0, t0, kt, a, b) := s.laser elem
      let rom := (List.range' 64 336).map fun i => (i, Config.classTrim i % 256)
      let pc := [414, 415, 416, 417, 420, 421, 422, 423].map fun i => (i, Config.classTrim i % 256)
      let fields := [(400, i0.toNat), (402, toBits 16 t0), (404, kt.toNat), (406, toBits 16 a), (408, toBits 16 b), (410, 4096),
        (412, 0), (418, if trimField 418 2 t = 0 then s.upGain elem else trimField 418 2 t)]
      fields.foldl (fun t e => putTrim e.1 2 e.2 t)
        ((rom ++ pc).foldl (fun t e => tset e.1 e.2 t) (tset 0 0xA5 t))

/-- The values of a calibration take effect at once (R419) and its trim is valid from now on (R420, R421). -/
def State.applyCal (c : CalRun) (v : List Int) (pick : List Nat) (s : State) : State :=
  let s0 := s.validTrim c.kind c.elem
  match c.kind with
  | 0 => (s0.writeBaselines c.elem).applyAdc c.elem v pick
  | 1 => (s0.writeBaselines c.elem).applySegments c.elem v
  | 2 => (s0.writeBaselines c.elem).applyTaps c.elem v pick
  | 3 => ((s0.applyAssist c.elem v).writeBaselines c.elem).ageHead c.elem v
  | 4 => (s0.writeBaselines c.elem).applyTiming c.elem v
  | 5 => (s0.writeBaselines c.elem).applyZone c.elem c.rz v
  | _ => s0.applyPlant c.elem v

/-- Re-identification is over: IDENTIFYING goes to SETTLING (R119). -/
def State.identified (m : Nat) (s : State) : State :=
  let s1 := s.set (R.ACT_STATUS_REID_PENDING m) 0
  if s1.get (R.ACT_STATUS_STATE m) = 6 then s1.set (R.ACT_STATUS_STATE m) 3 else s1

/-- ORIGIN of a calibration's element. -/
def calOrigin (kind elem : Nat) : Nat := if kind = 6 then origin 2 elem else origin 3 elem

/-- A suspect outcome (R414): the old trim is kept; SUSPECT_LIMIT of them in a row retire the element. -/
def State.suspect (c : CalRun) (worst : Nat) (s : State) : State :=
  let s1 := (((s.histRecord c.kind c.elem 3).count R.AGE_COUNT_SUSPECTS 1).event Ev.CAL_SUSPECT
    (calOrigin c.kind c.elem) c.kind c.elem worst 0)
  if s1.get R.CAL_CTRL_SUSPECT_LIMIT ≤ (s1.calHist c.kind c.elem).2.1 then
    if c.kind = 6 then s1.retireActuator Ev.CAL_RETIRED Ev.CAL_RETIRED 0 0 0 0 c.elem
    else s1.retireHead Ev.CAL_RETIRED Ev.CAL_RETIRED 0 0 0 0 c.elem
  else s1

/-- The pair of runs whose mean is applied, and the result code; none for another run or a suspect outcome (R414). -/
def calPair (kind : Nat) (runs : List (List Int)) : Option (List Int × List Int × Nat) :=
  match runs with
  | [a, b] => if runsAgree kind a b then some (a, b, 1) else none
  | [a, b, c] => if runsAgree kind b c then some (b, c, 2) else if runsAgree kind a c then some (a, c, 2) else none
  | _ => none

/-- CALIBRATION_RUN_END (R414, R418): a run ends, discarded or with its values; two agreeing runs apply their mean, a third
is made when they disagree, and three that disagree are suspect. `pick` is the module's own choice of comparators (kind 0)
or the usable taps (kind 2). -/
def calibrationRunEnd (kind elem rz : Nat) (v : List Int) (pick : List Nat) (discarded : Bool) (s : State) : State :=
  match s.cal.running.find? fun c => c.kind = kind && c.elem = elem && c.rz = (if kind = 5 then rz else 0) with
  | none => s
  | some c =>
    if !s.calAlive kind elem then s.endCal c
    else
      let put (x : CalRun) : State :=
        { s with cal := { s.cal with running := s.cal.running.map fun y => if y = c then x else y } }
      if discarded then if c.discarded then s.endCal c else put { c with discarded := true }
      else
        let runs := c.runs ++ [v]
        if runs.length < 2 then put { c with runs := runs }
        else
          let spread (d : Nat) (t : State) : State :=
            { t with cal := { t.cal with spread := tset (1024 * kind + elem) (min 255 d) t.cal.spread } }
          match calPair kind runs with
          | some (a, b, res) =>
            let s1 := ((s.endCal c).histRecord kind elem res).applyCal c (meanRun a b) pick
            spread (worstDiff kind a b).1 (if kind = 6 then s1.identified elem else s1)
          | none =>
            if runs.length < 3 then put { c with runs := runs }
            else
              let w := worstDiff kind (runs.getD 1 []) v
              let s1 := (s.endCal c).suspect c w.2
              spread w.1 (if kind = 6 then s1.identified elem else s1)

/-- CAL_REQ.GO (R418, R426): the named calibration falls due now, unless its element is retired or its kind disabled. -/
def State.calGo (kind elem : Nat) (s : State) : State :=
  if !s.calAlive kind elem || !s.kindOn kind elem then s.set R.CAL_REQ_RESULT 2
  else
    let s1 := s.set R.CAL_REQ_RESULT 1
    if s1.liveCals.any fun c => c.kind = kind && c.elem = elem then s1
    else if kind = 5 then s1.forAll (List.range 32) fun z => State.addDue 5 elem z
    else s1.addDue kind elem 0

def execCalibrationDue (kind : Fin 7) (elem : Nat) (rz : RZone) (moved : Nat) (s : State) :=
  act s (calibrationDue kind.val elem rz.val moved)
def execCalibrationStart (kind : Fin 7) (elem : Nat) (rz : RZone) (s : State) := act s (calibrationStart kind.val elem rz.val)
def execCalibrationRunEnd (kind : Fin 7) (elem : Nat) (rz : RZone) (v : List Int) (pick : List Nat) (discarded : Bool)
    (s : State) := act s (calibrationRunEnd kind.val elem rz.val v pick discarded)
def execCalSuspectRetry (kind : Fin 7) (elem : Nat) (s : State) := act s (calSuspectRetry kind.val elem)

end Sys2Proof.Machine
end

