-- ==== Sys2Proof/Machine/Engine.lean ====
section
/-! DEFINITION. Hob and flue engines (ch13) apart from what a microword does: slot and role ownership, fence, halt and
reset, the debug and control-store windows, timers and doorbells. -/

namespace Sys2Proof.Machine

def State.eng (s : State) (n : Nat) : Engine := tgetD n {} s.engs
def State.setEng (n : Nat) (x : Engine) (s : State) : State := { s with engs := tset n x s.engs }

/-- STATE of an engine: 0 reset, 1 running, 2 fenced, 3 halted, 4 retired (R389). -/
def State.engState (s : State) (n : Nat) : Nat := s.get (R.ENG_STATUS_STATE n)

/-- An engine in service: it runs and is not being fenced. -/
def State.engServes (s : State) (n : Nat) : Bool := s.engState n = 1 && !s.bit (R.ENG_CTRL_FENCE n)

/-- Whether an engine is a hob engine. -/
def isHob (n : Nat) : Bool := n < 16

/-- The partner of a hob engine (R9). -/
def partner (n : Nat) : Nat := if n % 2 = 0 then n + 1 else n - 1

/-- A word with a bit set or cleared. -/
def withBit (w k : Nat) (b : Bool) : Nat :=
  if w.testBit k = b then w else if b then w + 2 ^ k else w - 2 ^ k

/-! ## Slots (R9, R33, R387) -/

/-- The hob engine that owns a slot (R387). -/
def State.owner (s : State) (i : Nat) : Nat := s.get (R.ENG_SLOT_OWNER i)

/-- Slots a hob engine owns, ascending. -/
def State.owned (s : State) (n : Nat) : List Nat := (List.range 32).filter fun i => s.owner i = n

/-- Slots it will own once the moves under way have taken effect. -/
def State.willOwn (s : State) (n : Nat) : Nat :=
  ((List.range 32).filter fun i =>
    match s.stk.moves.find? fun e => e.1 = i with
    | some e => e.2 = n
    | none => s.owner i = n).length

/-- OWNER_CHANGED or ROLE_CHANGED is set. -/
def State.markChanged (n : Nat) (s : State) : State := s.setEng n { s.eng n with changed := true }

/-- A slot changes owner in one fabric handshake (R387). -/
def State.giveSlot (i n : Nat) (s : State) : State :=
  (((s.set (R.ENG_SLOT_OWNER i) n).set R.ENG_SLOT_ADOPTED_SLOT
    (withBit (s.get R.ENG_SLOT_ADOPTED_SLOT) i (n != i / 2))).markChanged (s.owner i)).markChanged n

/-- A slot is to move to an engine at its next chunk boundary (R33). -/
def State.planMove (i n : Nat) (s : State) : State :=
  { s with stk := { s.stk with moves := (s.stk.moves.filter fun e => e.1 != i) ++ [(i, n)] } }

/-- SLOT_OWNER_MOVE (R33): a planned move takes effect at a chunk boundary and is recorded. -/
def slotOwnerMove (i : Nat) (s : State) : State :=
  match s.stk.moves.find? fun e => e.1 = i with
  | none => s
  | some (_, n) =>
    let s1 : State := { s with stk := { s.stk with moves := s.stk.moves.filter fun e => e.1 != i } }
    if s.owner i = n || s.engState n = 4 || 4 ≤ (s.owned n).length then s1
    else (s1.giveSlot i n).event Ev.SLOT_OWNER_MOVED (origin 1 i) 0 0 0 0

/-- A hob engine a slot may go to: in service, its partner not retired, owning at most so many slots (R33, R34, R237). -/
def State.mayTake (s : State) (most n : Nat) : Bool :=
  s.engServes n && s.engState (partner n) != 4 && s.willOwn n ≤ most

/-- The engine R237 chooses: fewest slots owned, then lowest media load, then lowest number. -/
def State.chooseEngine (s : State) (load : List Nat) (ok : Nat → Bool) : Option Nat :=
  ((List.range 16).filter ok).foldl (fun best n =>
    match best with
    | none => some n
    | some b =>
      let kn := (s.willOwn n, load.getD n 0)
      let kb := (s.willOwn b, load.getD b 0)
      if kn.1 < kb.1 || (kn.1 = kb.1 && kn.2 < kb.2) then some n else some b) none

/-- One slot's part of SLOT_REASSIGN: the slot of a failed pair, or past the four-slot limit, gets a live owner at once
(R34); a slot its home's partner adopted is to move to an engine owning two or fewer whose partner is in service (R237). -/
def State.reassign (load : List Nat) (i : Nat) (s : State) : State :=
  if s.engState (s.owner i) = 4 then
    match s.chooseEngine load fun n => s.mayTake 3 n with
    | some n => s.giveSlot i n
    | none => s
  else if s.owner i = partner (i / 2) && s.engState (i / 2) = 4 && !s.stk.moves.any (fun e => e.1 = i) then
    match s.chooseEngine load fun n => n != s.owner i && s.mayTake 2 n && s.engServes (partner n) with
    | some n => s.planMove i n
    | none => s
  else s

/-- SLOT_REASSIGN (R33, R34, R237). `load` is the media load of each hob engine over the last 10 s. -/
def slotReassign (load : List Nat) (s : State) : State := s.forAll (List.range 32) (State.reassign load)

/-! ## Flue roles (R10, R36) -/

/-- The register field of a role. -/
def roleFld (r : Nat) : Fld := ⟨A.ENG_FLUE_ROLES, 2 * (r % 4), 2, r % 4⟩

/-- Roles a flue engine (0 to 3) holds. -/
def State.roles (s : State) (f : Nat) : List Nat := (List.range 4).filter fun r => s.get (roleFld r) = f

/-- The next flue engine in service after one (R36, R460). -/
def State.nextFlue (s : State) (f : Nat) : Option Nat :=
  ([1, 2, 3].map fun k => (f + k) % 4).find? fun x => s.engServes (16 + x)

/-- A role moves to a flue engine. -/
def State.giveRole (r f : Nat) (s : State) : State :=
  ((s.set (roleFld r) f).markChanged (16 + s.get (roleFld r))).markChanged (16 + f)

/-- The roles of a flue engine move to the next in service (R36). -/
def State.moveRoles (f : Nat) (s : State) : State :=
  match s.nextFlue f with
  | none => s
  | some x => s.forAll (s.roles f) fun r => State.giveRole r x

/-! ## Fence, halt and reset (R384 to R386) -/

/-- R35: a hob engine's partner is fenced, retired or holds adopted slots. -/
def State.partnerBusy (s : State) (n : Nat) : Bool :=
  let p := partner n
  s.bit (R.ENG_CTRL_FENCE p) || s.engState p = 2 || s.engState p = 3 || s.engState p = 4 ||
    (s.owned p).any (fun i => i / 2 != p)

/-- Whether R385 refuses a fence. -/
def State.fenceRefused (s : State) (n : Nat) : Bool :=
  isHob n && (s.partnerBusy n || 4 < s.willOwn (partner n) + s.willOwn n)

/-- FENCE 1 of an engine the rules let fence (R385): slots move at their chunk boundaries, roles at once. -/
def State.fenceEngine (n : Nat) (s : State) : State :=
  if s.bit (R.ENG_CTRL_FENCE n) then s
  else if isHob n then
    let mine := s.owned n
    let s1 := (s.set (R.ENG_CTRL_FENCE n) 1).setEng n { s.eng n with lent := mine }
    s1.forAll mine fun i => State.planMove i (partner n)
  else
    let mine := s.roles (n - 16)
    ((s.set (R.ENG_CTRL_FENCE n) 1).setEng n { s.eng n with lent := mine }).moveRoles (n - 16)

/-- ENGINE_FENCE_COMPLETE (R385): no work remains on a fencing engine. -/
def engineFenceComplete (n : Nat) (s : State) : State :=
  let none_ := if isHob n then (s.owned n).isEmpty else (s.roles (n - 16)).isEmpty
  if s.bit (R.ENG_CTRL_FENCE n) && s.engState n = 1 && none_ then s.set (R.ENG_STATUS_STATE n) 2 else s

/-- FENCE 0 (R384, R385): the work returns, slots at chunk boundaries, and heartbeat supervision starts again. -/
def State.unfenceEngine (n : Nat) (s : State) : State :=
  if !s.bit (R.ENG_CTRL_FENCE n) then s
  else
    let mine := (s.eng n).lent
    let s1 := (((s.set (R.ENG_CTRL_FENCE n) 0).set (R.ENG_CTRL_HALT n) 0).set (R.ENG_STATUS_STATE n)
      (if s.engState n = 4 then 4 else 1)).setEng n { s.eng n with lent := [], hbAt := s.now }
    if isHob n then
      s1.forAll mine fun i t =>
        let t1 : State := { t with stk := { t.stk with moves := t.stk.moves.filter fun e => e.1 != i } }
        if t1.owner i = n then t1 else t1.planMove i n
    else s1.forAll mine fun r => State.giveRole r (n - 16)

/-- Whether an engine is fenced, halted or not (R385): what HALT, STEP and RESET ask for. -/
def State.engFenced (s : State) (n : Nat) : Bool :=
  s.engState n = 2 || (s.engState n = 3 && s.bit (R.ENG_CTRL_FENCE n))

/-- HALT 1 (R386). -/
def State.haltEngine (n : Nat) (s : State) : State := (s.set (R.ENG_CTRL_HALT n) 1).set (R.ENG_STATUS_STATE n) 3

/-- HALT 0 (R386): execution resumes at PC. -/
def State.runEngine (n : Nat) (s : State) : State :=
  (s.set (R.ENG_CTRL_HALT n) 0).set (R.ENG_STATUS_STATE n) (if s.engState n = 3 then 2 else s.engState n)

/-- Engine reset (R386): everything but patch RAM and match registers is cleared and PC is 0. -/
def State.resetEngine (n : Nat) (s : State) : State :=
  let e := s.eng n
  let x : Engine := { patch := e.patch, matches_ := e.matches_, lent := e.lent, ceSeen := e.ceSeen, changed := e.changed,
                      hbAt := s.now }
  ((s.setEng n x).set (R.ENG_PC_PC n) 0).set (R.ENG_STATUS_DEPTH n) 0

/-- RESET 1 of a fenced engine (R386): after the reset it runs its ROM start code. -/
def State.resetFenced (n : Nat) (s : State) : State := (s.resetEngine n).runEngine n

/-! ## Debug windows (R386, R389) -/

/-- Data memory words of an engine (R363). -/
def dmWords (n : Nat) : Nat := if isHob n then 32768 else 131072

/-- The flags and CR as ITEM 64 shows them. -/
def Engine.flagWord (e : Engine) : Nat :=
  e.z.toNat + 2 * e.n.toNat + 4 * e.c.toNat + 8 * e.v.toNat + 256 * e.cr

/-- What DBG_SEL's ITEM names (R389). Stack entry 0 is the oldest. -/
def Engine.dbg (e : Engine) (n item : Nat) : BitVec 64 :=
  if item < 64 then tgetD item 0 e.regs
  else if item = 64 then BitVec.ofNat 64 e.flagWord
  else if item < 81 then BitVec.ofNat 64 (e.stack.reverse.getD (item - 65) 0)
  else if 0x80000 ≤ item && item < 0x80000 + dmWords n then tgetD (item - 0x80000) 0 e.dm
  else 0

/-- A write to ITEM (R389). A stack entry above the depth is not held. -/
def Engine.dbgSet (e : Engine) (n item : Nat) (v : BitVec 64) : Engine :=
  if item < 64 then { e with regs := tset item v e.regs }
  else if item = 64 then
    { e with
      z := v.toNat.testBit 0, n := v.toNat.testBit 1, c := v.toNat.testBit 2, v := v.toNat.testBit 3
      cr := v.toNat / 256 % 256 }
  else if item < 81 then
    { e with stack := (e.stack.reverse.set (item - 65) (v.toNat % 65536)).reverse }
  else if 0x80000 ≤ item && item < 0x80000 + dmWords n then { e with dm := putWord (item - 0x80000) v e.dm }
  else e

/-- A control store word by address (R364): ROM, patch RAM, or none where nothing is mapped. -/
def Engine.store (e : Engine) (n a : Nat) : Option (BitVec 128) :=
  if a < (if isHob n then 0x4000 else 0x8000) then some (Config.rom (if isHob n then 0 else 1) a)
  else if 0xF800 ≤ a && a < 0x10000 then some (tgetD (a - 0xF800) 0 e.patch)
  else none

/-- The first write of patch RAM or a match register while halted (R383). -/
def State.patchModified (n : Nat) (s : State) : State :=
  if s.bit (R.ENG_STATUS_PATCH_MODIFIED n) then s
  else (((s.set (R.ENG_STATUS_PATCH_VERIFIED n) 0).set (R.ENG_STATUS_PATCH_MODIFIED n) 1).event Ev.PATCH_MODIFIED
    (origin 4 n) 0 0 0 0)

/-- A patch RAM write through CS_SEL (R383). -/
def State.csWrite (n a : Nat) (w : BitVec 128) (s : State) : State :=
  (s.patchModified n).setEng n { s.eng n with patch := putWord (a - 0xF800) w (s.eng n).patch }

/-- A match register write through MATCH_SEL (R377, R383). -/
def State.matchWrite (n i w : Nat) (s : State) : State :=
  (s.patchModified n).setEng n { s.eng n with matches_ := tset i w (s.eng n).matches_ }

/-! ## Timers and doorbells (R371) -/

/-- What a timer still has to run, µs. -/
def remaining (now : Nat) (t : Option (Nat × Nat)) : Nat :=
  match t with
  | none => 0
  | some (c, at_) => c - (now - at_)

/-- ENGINE_TIMER_EXPIRY (R371): a running timer reaches 0; its bit stays set until it is loaded again. -/
def engineTimerExpiry (n t : Nat) (s : State) : State :=
  let e := s.eng n
  if t = 0 then
    (if e.t0.isSome then s.setEng n { e with t0 := none, exp0 := true } else s)
  else if e.t1.isSome then s.setEng n { e with t1 := none, exp1 := true } else s

/-- DOORBELL_SET (R371). -/
def doorbellSet (n k : Nat) (s : State) : State :=
  s.setEng n { s.eng n with doorbell := withBit (s.eng n).doorbell k true }

def execSlotReassign (load : List Nat) (s : State) := act s (slotReassign load)
def execSlotOwnerMove (i : Slot) (s : State) := act s (slotOwnerMove i.val)
def execEngineFenceComplete (n : EngineIx) (s : State) := act s (engineFenceComplete n.val)
def execEngineTimerExpiry (n : EngineIx) (t : Fin 2) (s : State) := act s (engineTimerExpiry n.val t.val)
def execDoorbellSet (n : EngineIx) (k : Fin 8) (s : State) := act s (doorbellSet n.val k.val)

end Sys2Proof.Machine
end

