-- ==== Sys2Proof/Machine/VolCmd.lean ====
section
/-! DEFINITION. Admin commands on volumes, keys, layouts and the cache (R309, R311, R312, R316, R281, R354, R357). -/

namespace Sys2Proof.Machine

/-- An admin command of an opcode that may begin: on queue 0, not held, with all its data delivered (R306, R309). -/
def State.adminCmd (s : State) (op : Nat) (r : CmdRef) : Option Cmd :=
  match s.cmdOf r with
  | some c => if c.op = op && c.ref.queue = 0 && !c.held && c.stage = .fresh && adminBytes c ≤ c.bytes.length then some c else none
  | none => none

/-- Opcodes that complete NOT-READY while the module is Unlit (R319). -/
def opUnlit (op : Nat) : Bool := op = 0x44 || op = 0x45 || op = 0x46 || op = 0x47 || op = 0x48 || op = 0x49 || op = 0x4A

/-- Run an admin command that completes at once, with its status and results. -/
def State.runAdmin (op : Nat) (r : CmdRef) (f : Cmd → State → (Nat × Nat × Nat) × State) (s : State) : State :=
  match s.adminCmd op r with
  | none => s
  | some c =>
    if opUnlit op && s.get R.GLB_STATUS_STATE = 2 then s.complete c St.notReady 0 0 0
    else
      let x := f c s
      x.2.complete c x.1.1 x.1.2.1 x.1.2.2 0

/-- A status and no result. -/
def noResult (st : Nat) : Nat × Nat × Nat := (st, 0, 0)

/-! ## Volumes (R208, R211, R311, R312) -/

/-- A layout is valid for a group (R254). -/
def State.validLayout (s : State) (g k p : Nat) : Bool :=
  match tget g s.groups with
  | some x => 4 ≤ k && k ≤ 24 && 1 ≤ p && p ≤ 3 && k + p ≤ x.h
  | none => false

/-- The class default of the read latency budget, ms (R208). -/
def classBudget (latency : Nat) : Nat := if latency = 0 then 15 else if latency = 1 then 50 else 500

/-- The volume of an attribute block at bytes 32 to 63 of a capsule (R311); none where a field is outside its range. -/
def State.attributes (s : State) (cap : Capsule) : Option Volume :=
  let size := capF cap 32 8
  let g := capB cap 40
  let mode := capB cap 43
  let latency := mode / 2 % 4
  let budget := capF cap 44 2
  match tget g s.groups with
  | none => none
  | some gr =>
    let k := if capB cap 41 = 0 then gr.k else capB cap 41
    let p := if capB cap 42 = 0 then gr.p else capB cap 42
    if size = 0 || 2 ^ 33 ≤ size || 3 < g || 64 ≤ mode || latency = 3 || 60000 < budget || !s.validLayout g k p then none
    else some (Volume.mk size g k p (mode.testBit 0) latency (if budget = 0 then classBudget latency else budget) (mode / 8 % 4)
      (mode.testBit 5) none none none)

/-- Provisioning an extra number of extents would exceed 4 × U (R249). -/
def State.overProvisioned (s : State) (g more : Nat) : Bool := 4 * s.usable g < s.provisioned g + more

/-- VOLUME-CREATE (R209, R311, R312). -/
def volumeCreate (r : CmdRef) (s : State) : State :=
  s.runAdmin 0x44 r fun c t =>
    let asked := capF c.cap 4 2
    let free := (List.range 1024).find? fun v => (tget v t.vols).isNone
    if asked != 0xFFFF && (1023 < asked || (tget asked t.vols).isSome) then (noResult St.invalidField, t)
    else if asked = 0xFFFF && free.isNone then (noResult St.noSpace, t)
    else
      let v := if asked = 0xFFFF then free.getD 0 else asked
      match t.attributes c.cap with
      | none => (noResult St.invalidField, t)
      | some x =>
        if t.overProvisioned x.group x.size then (noResult St.noSpace, t)
        else ((St.success, v, 0), { t with vols := tset v x t.vols }.volRecord v)

/-- A volume has commands in flight or a reshape running (R312). -/
def State.volumeBusy (s : State) (v : Nat) (x : Volume) : Bool :=
  x.reshape.isSome || s.cmds.any fun c => c.ref.queue != 0 && c.op ≤ 6 && (c.vol = v || (c.op = 5 && c.vol = 0xFFFF))

/-- Everything of a volume is taken out of the map, the caches and the writes on their way (R211). -/
def State.dropVolume (v : Nat) (s : State) : State :=
  let s1 := (s.uncache v 0 (2 ^ 41)).abandonBg fun r => r.vol = v
  let bare (c : Chunk) : Chunk := if c.vol = v then { c with pieces := [] } else c
  let s2 := { s1 with
    exts := s1.exts.filter fun x => x.1 / 2 ^ 33 != v
    shadows := s1.shadows.filter fun x => x.1 / 2 ^ 33 != v
    lost := s1.lost.filter (·.vol != v)
    weak := s1.weak.filter (·.vol != v)
    vols := tdel v s1.vols }
  { s2 with
    stk := { s2.stk with waiting := s2.stk.waiting.filter (·.vol != v) }
    zrows := s2.zrows.map fun (r : ZoneRow) => { r with chunks := r.chunks.map bare }
    bops := (s2.bops.filter fun (o : BandOp) => o.vol != v || o.granted).map fun (o : BandOp) =>
      if o.vol = v then { o with copy := true } else o
    cache := { s2.cache with
      reserved := s2.cache.reserved.filter (·.1 != v), fills := s2.cache.fills.filter (·.1 != v)
      durable := s2.cache.durable.filter (·.1 != v), staging := s2.cache.staging.filter fun e => e.1 / 2 ^ 41 != v } }.volRecord v

/-- VOLUME-DELETE (R211, R312). -/
def volumeDelete (r : CmdRef) (s : State) : State :=
  s.runAdmin 0x45 r fun c t =>
    match tget c.vol t.vols with
    | none => (noResult St.noVolume, t)
    | some x => if t.volumeBusy c.vol x then (noResult St.volumeBusy, t) else (noResult St.success, t.dropVolume c.vol)

/-- VOLUME-SET (R311, R312): the attributes its change mask names. -/
def volumeSet (r : CmdRef) (s : State) : State :=
  s.runAdmin 0x46 r fun c t =>
    match tget c.vol t.vols with
    | none => (noResult St.noVolume, t)
    | some x =>
      let mask := capF c.cap 6 2
      let mode := capB c.cap 43
      let size := if mask.testBit 0 then capF c.cap 32 8 else x.size
      let latency := if mask.testBit 2 then mode / 2 % 4 else x.latency
      let asked := capF c.cap 44 2
      let budget := if mask.testBit 4 then (if asked = 0 then classBudget latency else asked) else x.budget
      let encrypt := if mask.testBit 5 then mode.testBit 5 else x.encrypt
      let beyond := t.exts.any fun e => e.1 / 2 ^ 33 = c.vol && e.2.st != 0 && size ≤ e.1 % 2 ^ 33
      if t.volumeBusy c.vol x then (noResult St.volumeBusy, t)
      else if 64 ≤ mask || size = 0 || 2 ^ 33 ≤ size || latency = 3 || 60000 < budget || beyond ||
          (encrypt != x.encrypt && t.mapped c.vol != 0) then (noResult St.invalidField, t)
      else if x.size < size && t.overProvisioned x.group (size - x.size) then (noResult St.noSpace, t)
      else
        let y := { x with
          size := size, latency := latency, budget := budget, encrypt := encrypt
          buffered := if mask.testBit 1 then mode.testBit 0 else x.buffered
          hint := if mask.testBit 3 then mode / 8 % 4 else x.hint }
        (noResult St.success, { t with vols := tset c.vol y t.vols }.volRecord c.vol)

/-! ## Keys (R315, R316) -/

/-- A key of 64 bytes. -/
def keyOf (b : List Nat) : BitVec 512 := BitVec.ofNat 512 (leVal (b.take 64))

/-- SET-KEY and the same operation by VOL_KEY_SEL (R316): status, key check value, and the state. -/
def State.keyOp (v op : Nat) (key : BitVec 512) (s : State) : (Nat × Nat × Nat) × State :=
  match tget v s.vols with
  | none => (noResult St.noVolume, s)
  | some x =>
    let load (y : Volume) : State := { s with vols := tset v y s.vols }
    match op with
    | 0 =>
      (match x.kcv with
       | none => (noResult St.invalidField, s)
       | some k =>
         if keyCheck key = k then ((St.success, k, 0), load { x with key := some key })
         else (noResult St.keyMismatch, s.event Ev.KEY_MISMATCH (origin 10 v) 0 0 0 0))
    | 1 =>
      if x.encrypt && x.kcv.isNone then
        ((St.success, keyCheck key, 0), (load { x with key := some key, kcv := some (keyCheck key) }).volRecord v)
      else (noResult St.invalidField, s)
    | 2 => (noResult St.success, load { x with key := none })
    | _ => (noResult St.invalidField, s)

/-- SET-KEY by command, for the operation a row names; an operation above 2 goes with UNLOCK. -/
def setKeyCmd (op : Nat) (r : CmdRef) (s : State) : State :=
  match s.adminCmd 0x47 r with
  | none => s
  | some c =>
    if (if 2 < capB c.cap 6 then 0 else capB c.cap 6) != op then s
    else s.runAdmin 0x47 r fun d t => t.keyOp d.vol (capB d.cap 6) (keyOf d.bytes)

/-! ## Reshape (R281) -/

/-- LAYOUT-RESHAPE without CANCEL (R281, R312). -/
def layoutReshape (r : CmdRef) (s : State) : State :=
  match s.adminCmd 0x48 r with
  | none => s
  | some c =>
    if (capB c.cap 11).testBit 0 then s
    else s.runAdmin 0x48 r fun d t =>
      match tget d.vol t.vols with
      | none => (noResult St.noVolume, t)
      | some x =>
        let k := capB d.cap 8
        let p := capB d.cap 9
        let g := capB d.cap 10
        if x.reshape.isSome || !t.validLayout g k p then (noResult St.invalidField, t)
        else if t.outside g < (t.capacity g).2.2.2 + ceilDiv (t.mapped d.vol * (k + p)) k then (noResult St.noSpace, t)
        else
          let t1 := ({ t with vols := tset d.vol { x with reshape := some ⟨k, p, g, 0, 1⟩ } t.vols }.volRecord d.vol).set
            R.RED_STATUS_RESHAPE 1
          (noResult St.success, if (t1.nextMapped d.vol 0).isNone then t1.moveCursor d.vol 0 else t1)

/-- LAYOUT-RESHAPE with CANCEL before the flip (R281): the shadow directory and its rows are freed. With no reshape running
there is nothing to cancel: INVALID-FIELD (log entry 24). -/
def layoutReshapeCancel (r : CmdRef) (s : State) : State :=
  match s.adminCmd 0x48 r with
  | none => s
  | some c =>
    if !(capB c.cap 11).testBit 0 then s
    else s.runAdmin 0x48 r fun d t =>
      match tget d.vol t.vols with
      | none => (noResult St.noVolume, t)
      | some x =>
        if x.reshape.isNone then (noResult St.invalidField, t)
        else
          let v := d.vol
          let t1 := { t with
            vols := tset v { x with reshape := none } t.vols
            shadows := t.shadows.filter fun e => e.1 / 2 ^ 33 != v
            exts := t.exts.map fun (e : Nat × Extent) =>
              if e.1 / 2 ^ 33 = v then
                (match e.2.copying with
                 | some y => if y.reshape then (e.1, { e.2 with st := y.before, copying := none }) else e
                 | none => e)
              else e
            stk := { t.stk with waiting := t.stk.waiting.filter fun w => !(w.vol = v && w.shadow) } }
          (noResult St.success, (t1.volRecord v).setB R.RED_STATUS_RESHAPE (t1.vols.any fun w => w.2.reshape.isSome))

/-! ## Cache operations (R354, R357) -/

/-- A CACHE-MAINT command of an operation that may begin. -/
def State.maintCmd (s : State) (op : Nat) (r : CmdRef) : Option Cmd :=
  match s.adminCmd 0x4A r with
  | some c => if capB c.cap 4 = op then some c else none
  | none => none

/-- INVALIDATE-ALL by CACHE-MAINT (R354, R357). -/
def invalidateAllCmd (r : CmdRef) (s : State) : State :=
  match s.maintCmd 0 r with
  | none => s
  | some c =>
    if s.get R.GLB_STATUS_STATE = 2 then s.complete c St.notReady 0 0 0
    else if s.get R.CACHE_STATUS_STATE != 0 then s.complete c St.refused 0 0 0
    else (s.setCmd { c with stage := .begun, commit := .committed }).invalidateAll

/-- ENABLE by CACHE-MAINT (R354, R357). -/
def cacheEnableCmd (r : CmdRef) (s : State) : State :=
  match s.maintCmd 1 r with
  | none => s
  | some c =>
    if s.get R.GLB_STATUS_STATE = 2 then s.complete c St.notReady 0 0 0
    else
      let (refused, t) := s.cacheEnable
      t.complete c (if refused then St.refused else St.success) 0 0 0

/-- DISABLE by CACHE-MAINT (R354, R357): it completes when Off is reached. -/
def cacheDisableCmd (r : CmdRef) (s : State) : State :=
  match s.maintCmd 2 r with
  | none => s
  | some c =>
    if s.get R.GLB_STATUS_STATE = 2 then s.complete c St.notReady 0 0 0
    else if s.get R.CACHE_STATUS_STATE = 0 then s.complete c St.success 0 0 0
    else (s.setCmd { c with stage := .begun, commit := .committed }).cacheDisable

/-- Insert a line in a list of lines in ascending order, once. -/
def insertLine (x : Nat × Nat) : List (Nat × Nat) → List (Nat × Nat)
  | [] => [x]
  | y :: l => if x = y then y :: l else if x.1 < y.1 || (x.1 = y.1 && x.2 < y.2) then x :: y :: l else y :: insertLine x l

/-- Lines of the cache or of acknowledged staging in the range of a by-address operation, in ascending order (R357). -/
def State.maintLines (s : State) (c : Cmd) : List (Nat × Nat) :=
  let all := capF c.cap 5 2 = 0xFFFF
  let hit (v lo hi : Nat) : Bool := all || (v = capF c.cap 5 2 && lo < c.lba + c.blocks && c.lba < hi)
  let tags := (s.cache.tags.filter fun e => e.2.kind = 1 && hit e.2.vol (32 * e.2.line) (32 * e.2.line + 32)).map fun e =>
    (e.2.vol, e.2.line)
  let staged := (s.cache.staged.filter fun e => hit (e.1 / 2 ^ 41) (e.1 % 2 ^ 41) (e.1 % 2 ^ 41 + 1)).map fun e =>
    (e.1 / 2 ^ 41, e.1 % 2 ^ 41 / 32)
  (tags ++ staged).foldl (fun l x => insertLine x l) []

/-- A line is dirty, in its entry or in acknowledged staging. -/
def State.lineDirty (s : State) (l : Nat × Nat) : Bool :=
  (s.findLine l.1 l.2).any (fun w => (s.tag (lineSet l.1 l.2) w).dirty != 0) ||
    s.cache.staged.any fun e => e.1 / 2 ^ 41 = l.1 && e.1 % 2 ^ 41 / 32 = l.2

/-- WRITEBACK, PURGE and DROP-CLEAN (R357, R358): lines that are clean take their step now; a line being filled, and a dirty
line of WRITEBACK or PURGE, is waited for. Codes above 5 complete INVALID-FIELD, with WRITEBACK. -/
def maintOp (op : Nat) (r : CmdRef) (s : State) : State :=
  match s.adminCmd 0x4A r with
  | none => s
  | some c =>
    let code := capB c.cap 4
    if code != op && !(op = 3 && 5 < code) then s
    else if s.get R.GLB_STATUS_STATE = 2 then s.complete c St.notReady 0 0 0
    else if 5 < code then s.complete c St.invalidField 0 0 0
    else
      let v := capF c.cap 5 2
      let bad := if v = 0xFFFF then none else
        match tget v s.vols with
        | none => some St.noVolume
        | some x => if c.blocks = 0 then some St.invalidField
          else if 256 * x.size < c.lba + c.blocks then some St.lbaRange else none
      match bad with
      | some st => s.complete c st 0 0 0
      | none =>
        let ls := s.maintLines c
        let filling (l : Nat × Nat) : Bool := (s.findLine l.1 l.2).any fun w => (s.tag (lineSet l.1 l.2) w).fill
        let waits (l : Nat × Nat) : Bool := filling l || (op != 5 && s.lineDirty l)
        let c' : Cmd := { c with stage := .begun, commit := .committed, todo := ls.filter waits }
        let s1 := (((s.setCmd c').set R.CACHE_MAINT_BUSY 1).set R.CACHE_MAINT_OP op).forAll (ls.filter fun l => !waits l)
          fun l t => (t.maintStep c l.1 l.2).set R.CACHE_MAINT_SET (lineSet l.1 l.2)
        if c'.todo.isEmpty then (s1.set R.CACHE_MAINT_BUSY 0).complete c' St.success 0 0 0 else s1.forAll c'.todo (State.holdLine op)

/-! ## The commands -/

def execVolumeCreate (r : CmdRef) (s : State) := actHost s (volumeCreate r)
def execVolumeDelete (r : CmdRef) (s : State) := actHost s (volumeDelete r)
def execVolumeSet (r : CmdRef) (s : State) := actHost s (volumeSet r)
def execLayoutReshape (r : CmdRef) (s : State) := actHost s (layoutReshape r)
def execLayoutReshapeCancel (r : CmdRef) (s : State) := actHost s (layoutReshapeCancel r)
def execWriteback (r : CmdRef) (s : State) := actHost s (maintOp 3 r)
def execPurge (r : CmdRef) (s : State) := actHost s (maintOp 4 r)
def execDropClean (r : CmdRef) (s : State) := actHost s (maintOp 5 r)

end Sys2Proof.Machine
end

