-- ==== Sys2Proof/Machine/SelfTest.lean ====
section
/-! DEFINITION. Self-tests (R442 to R447): requests and their refusals, the power budget, and how a test ends. -/

namespace Sys2Proof.Machine

/-- Extra power of a test kind, 0.1 W (R442). -/
def testPower (kind : Nat) : Nat := [15, 3, 8, 12, 10, 0].getD kind 0

/-- Blocks of a test kind (R446). -/
def testBlocks (kind : Nat) : Nat := [96, 16, 16, 4, 32, 640].getD kind 0

/-- The order in which waiting tests start: the rows of R442 (R443). -/
def testRank (kind : Nat) : Nat := [4, 5, 0, 1, 2, 3].getD kind 6

/-- Extra power of the tests running, 0.1 W. -/
def State.testPowerUsed (s : State) : Nat := s.tst.running.foldl (fun n t => n + testPower t.kind) 0

def State.modTst (f : Tests → Tests) (s : State) : State := { s with tst := f s.tst }

/-- The element of R466 a block under test is. -/
def testOrigin (kind i : Nat) : Nat :=
  match kind with
  | 0 => origin 5 i
  | 1 => origin 6 i
  | 2 => origin 4 i
  | 3 => origin 4 (16 + i)
  | 4 => origin 1 i
  | _ => origin 3 i

/-- Whether a block is retired. -/
def State.testRetired (s : State) (kind i : Nat) : Bool :=
  match kind with
  | 0 => s.coreBit R.DEC_RETIRED_RETIRED i
  | 1 => (s.get R.DAMP_LANES_RETIRED).testBit i
  | 2 => s.engState i = 4
  | 3 => s.engState (16 + i) = 4
  | 4 => (s.slot i).frontRetired
  | _ => (s.head i).retired

/-- The slot's members, counted absent, leave a group short under R235, or a rebuild runs there (R446, kind 4). -/
def State.slotNeeded (s : State) (i : Nat) : Bool :=
  match (s.slot i).pos with
  | none => false
  | some (g, _) =>
    s.rebuilding g ||
      s.pMin g ≤ ((List.range 32).filter fun j => (s.slot j).pos.any (·.1 = g) && (j = i || s.hdaAbsent j)).length

/-- The case of R446 for a kind. -/
def State.testCase (s : State) (kind i : Nat) : Bool :=
  match kind with
  | 0 => s.get R.DEC_WATER_DEFER ≤ s.pool.occupancy || !s.pool.fenced.isEmpty
  | 1 => !s.damper.fenced.isEmpty || ((List.range 16).filter s.laneOk).length < 9
  | 2 => s.partnerBusy i || s.fenceRefused i
  | 3 => (List.range 4).any (fun f => s.bit (R.ENG_CTRL_FENCE (16 + f))) ||
      ((List.range 4).filter fun f => s.engServes (16 + f)).length < 4
  | 4 => s.slotNeeded i
  | _ => ((s.setOf (i / 10)).filter (· != i)).isEmpty

/-- A self-test request is refused (R446), as is one of a block already under test. -/
def State.testRefused (s : State) (kind i : Nat) : Bool :=
  s.testRetired kind i || s.get R.PWR_STATUS_SUPPLY != 0 || s.isCut || s.get R.PWR_CAP_ACTIONS != 0 || s.testCase kind i ||
    s.tst.running.any (fun t => t.kind = kind && t.index = i) || s.tst.waiting.any fun t => t.kind = kind && t.index = i

/-- A block's work is moved away as its test starts (R447). -/
def State.fenceBlock (kind i : Nat) (s : State) : State :=
  match kind with
  | 0 => s.fenceCore i
  | 1 => ({ s with damper := { s.damper with fenced := addId i s.damper.fenced } }).laneRefresh
  | 2 => s.fenceEngine i
  | 3 => s.fenceEngine (16 + i)
  | 4 =>
    let s1 := s.forAll [2 * i, 2 * i + 1] fun m t => (t.fence m .selfTest).unload false Torn.unload m
    if s1.spState i = Sp.stopped then s1 else s1.enterSp i Sp.stopped
  | _ => s.fenceHead i

/-- A block returns to service after its test (R447). -/
def State.returnBlock (kind i : Nat) (s : State) : State :=
  match kind with
  | 0 => (s.modPool fun p => { p with fenced := delId i p.fenced }).coreRefresh
  | 1 => ({ s with damper := { s.damper with fenced := delId i s.damper.fenced } }).laneRefresh
  | 2 => s.unfenceEngine i
  | 3 => s.unfenceEngine (16 + i)
  | 4 =>
    let s1 := s.forAll [2 * i, 2 * i + 1] fun m t => t.setActu m { t.actu m with reloadDue := true }
    if s1.get (R.SLOT_STATUS_STATE i) = 4 && s1.get (R.SPIN_CTRL_SETPOINT i) != 0 then
      let s2 := s1.startSense i
      s2.setSpin i { s2.spin i with origin := .selfTest }
    else s1.forAll [2 * i, 2 * i + 1] fun m t => t.unfence m .selfTest
  | _ => s.unfenceHead i

/-- A slot front-end retires (R25, R447): its members are lost and its rails fall. -/
def State.retireFront (reason i : Nat) (s : State) : State :=
  if (s.slot i).frontRetired then s
  else
    let s1 := s.forAll [2 * i, 2 * i + 1] fun m t => (t.unload true Torn.unload m).loseMember m
    let s2 := (s1.setSlot i { s1.slot i with frontRetired := true }).retire 1 i reason Ev.ELEMENT_RETIRED false 0 0 0 0
    ((((if s2.spState i = Sp.stopped then s2 else s2.enterSp i Sp.stopped).driveEn12 i 0).driveEn5 i 0).drives i false).set
      (R.SLOT_STATUS_STATE i) 7

/-- An engine retires (R378, R384): it stops for good, its work already being elsewhere. -/
def State.retireEngine (reason n : Nat) (s : State) : State :=
  if s.engState n = 4 then s
  else ((s.setIsland (53 + n) { s.island (53 + n) with state := 2 }).set (R.ENG_STATUS_STATE n) 4).retire 4 n reason Ev.ELEMENT_RETIRED false 0 0 0 0

/-- A block whose test ends FAIL retires (R445). -/
def State.failBlock (kind i : Nat) (s : State) : State :=
  let s1 := (s.event Ev.SELFTEST_FAIL (testOrigin kind i)).count R.ST_STATUS_FAILS 1
  match kind with
  | 0 => s1.retireCoreFor Ev.SELFTEST_FAIL i
  | 1 => ({ s1 with damper := { s1.damper with fenced := delId i s1.damper.fenced } }).retireLaneFor Ev.SELFTEST_FAIL i
  | 2 => s1.retireEngine Ev.SELFTEST_FAIL i
  | 3 => s1.retireEngine Ev.SELFTEST_FAIL (16 + i)
  | 4 => s1.retireFront Ev.SELFTEST_FAIL i
  | _ => s1.retireHead Ev.SELFTEST_FAIL Ev.ELEMENT_RETIRED 0 0 0 0 i

/-- A test starts: its block is fenced (R447). -/
def State.beginTest (x : Test) (s : State) : State :=
  (s.fenceBlock x.kind x.index).modTst fun t => { t with
    running := t.running ++ [x]
    retest := t.retest.filter fun y => !(y.1 = x.kind && y.2.1 = x.index) }

/-- Whether the power budget lets a test start (R443). -/
def State.testFits (s : State) (kind : Nat) : Bool := s.testPowerUsed + testPower kind ≤ 10 * s.get R.ST_CTRL_BUDGET

/-- Start a test, or let it wait for the budget (R443). -/
def State.startTest (x : Test) (s : State) : State :=
  if s.tst.waiting.isEmpty && s.testFits x.kind then s.beginTest x else s.modTst fun t => { t with waiting := t.waiting ++ [x] }

/-- The waiting test that starts next: the first of the lowest row of R442. -/
def State.nextTest (s : State) : Option Test :=
  (List.range 7).findSome? fun r => s.tst.waiting.find? fun t => testRank t.kind = r

/-- Waiting tests start as far as the budget goes (R443). -/
def State.pumpTests : Nat → State → State
  | 0, s => s
  | n + 1, s =>
    match s.nextTest with
    | none => s
    | some x =>
      if s.testFits x.kind then
        State.pumpTests n ((s.modTst fun t => { t with waiting := t.waiting.filter fun y => y != x }).beginTest x)
      else s

/-- Results of R444. -/
def testResult (reached ok : Bool) : Nat := if !reached then 3 else if ok then 1 else 2

/-- Whoever asked for a test learns its end (R446). -/
def State.tellTest (x : Test) (res ms : Nat) (s : State) : State :=
  match x.by_ with
  | .module_ => s
  | .reg => s.set R.ST_REQ_RESULT 3
  | .cmd r => match s.cmdOf r with
    | some c => s.complete c St.success (res + ms % 65536 * 65536) 0 0
    | none => s

/-- Heads that fail steps 6 or 7 of R58 in the slot path check of kind 4; four or more retire the cable path (R59). -/
def State.pathCheck (i : Nat) (meas : Option Meas) (s : State) : State :=
  match meas, (s.slot i).hda with
  | some m, some h =>
    let bad6 := (List.range 20).filter fun k => !tdrOk m k
    let bad7 := (List.range 20).filter fun k => tdrOk m k && !loopOk h.factory m k
    if 4 ≤ bad6.length + bad7.length then
      (s.forAll (bad6 ++ bad7) fun k t => t.measFail i (if bad6.contains k then 6 else 7) k
        (if bad6.contains k then m.tdr.getD k 0 else m.loop.getD k 0)).retireCable i
    else
      (s.measHeads i 6 (fun k => bad6.contains k) (m.tdr.getD · 0)).measHeads i 7 (fun k => bad7.contains k) (m.loop.getD · 0)
  | _, _ => s

/-- A test ends (R444 to R446): its result is kept; PASS returns the block, FAIL retires it, and INCOMPLETE returns it after a
request and keeps it fenced, to be tested again, otherwise. -/
def State.finishTest (x : Test) (reached ok : Bool) (ms : Nat) (meas : Option Meas) (s : State) : State :=
  let k := 1024 * x.kind + x.index
  let res := testResult reached ok
  let s1 := s.modTst fun t => { t with
    running := t.running.filter fun y => y != x
    results := tset k { result := res, reached := reached, match_ := ok, runs := min 255 ((tgetD k {} t.results).runs + 1),
                        ms := min ms 65535, opSec := s.opSec } t.results }
  let s2 :=
    if res = 1 then ((if x.kind = 4 then s1.pathCheck x.index meas else s1)).returnBlock x.kind x.index
    else if res = 2 then s1.failBlock x.kind x.index
    else
      let t := s1.event Ev.SELFTEST_INCOMPLETE (testOrigin x.kind x.index)
      if x.by_ = .module_ then t.modTst fun y => { y with retest := y.retest ++ [(x.kind, x.index, s.opSec)] }
      else t.returnBlock x.kind x.index
  (s2.tellTest x res ms).pumpTests 6

/-- Every running test is cut short (R444): the supply has left NORMAL, or a thermal module shutdown begins. Waiting tests are
not started. -/
def State.endTests (s : State) : State :=
  let s1 := s.forAll s.tst.waiting fun x t => (t.modTst fun y => { y with waiting := y.waiting.filter fun z => z != x }).tellTest x 3 0
  s1.forAll s1.tst.running fun x t => t.finishTest x false false 0 none

/-- SELF_TEST_END (R444): of a running test, or of a core or lane fenced because a fault was suspected (R123, R184). -/
def selfTestEnd (kind i : Nat) (reached ok : Bool) (ms : Nat) (meas : Option Meas) (s : State) : State :=
  match s.tst.running.find? fun t => t.kind = kind && t.index = i with
  | some x => s.finishTest x reached ok ms meas
  | none =>
    let suspected := (kind = 0 && s.pool.fenced.contains i) || (kind = 1 && s.damper.fenced.contains i)
    let again := s.tst.retest.any fun t => t.1 = kind && t.2.1 = i
    if suspected && !again then s.finishTest ⟨kind, i, .module_⟩ reached ok ms meas else s

/-- SELF_TEST_RETEST (R444): a block kept fenced is tested again, every RETEST. -/
def selfTestRetest (kind i : Nat) (s : State) : State :=
  if s.tst.retest.any fun t => t.1 = kind && t.2.1 = i then
    let s1 := s.modTst fun t => { t with retest := t.retest.filter fun y => !(y.1 = kind && y.2.1 = i) }
    s1.startTest ⟨kind, i, .module_⟩
  else s

/-- SELF-TEST of an admin command (R446): it completes when the test ends, unless it is invalid or refused. -/
def selfTestCmd (r : CmdRef) (s : State) : State :=
  match s.adminCmd 0x49 r with
  | none => s
  | some c =>
    let kind := capB c.cap 4
    let i := capF c.cap 5 2
    if s.get R.GLB_STATUS_STATE = 2 then s.complete c St.notReady 0 0 0
    else if 6 ≤ kind || testBlocks kind ≤ i then s.complete c St.invalidField 0 0 0
    else if s.testRefused kind i then s.complete c St.refused 0 0 0
    else (s.setCmd { c with stage := .begun }).startTest ⟨kind, i, .cmd r⟩

/-- ST_REQ.GO (R446, R450). -/
def State.testRequest (s : State) : State :=
  let kind := s.get R.ST_REQ_KIND
  let i := s.get R.ST_REQ_INDEX
  if s.get R.GLB_STATUS_STATE = 2 || testBlocks kind ≤ i || s.testRefused kind i then s.set R.ST_REQ_RESULT 2
  else (s.set R.ST_REQ_RESULT 1).startTest ⟨kind, i, .reg⟩

/-! ## The commands -/

def execSelfTestEnd (kind : Fin 6) (i : Nat) (reached ok : Bool) (ms : Nat) (meas : Option Meas) (s : State) :=
  act s (selfTestEnd kind.val i reached ok ms meas)
def execSelfTestRetest (kind : Fin 6) (i : Nat) (s : State) := act s (selfTestRetest kind.val i)

end Sys2Proof.Machine
end

