-- ==== Sys2Proof/Machine/Power.lean ====
section
/-! DEFINITION. Power and supply (ch14): feeds, converter halves, the power cap, the supply states, the cut, banking and the
recovery from a cut. -/

namespace Sys2Proof.Machine

def State.modPow (f : Power → Power) (s : State) : State := { s with pow := f s.pow }
def State.modPins (f : Pins → Pins) (s : State) : State := { s with pins := f s.pins }

/-- PWR_STATUS.SUPPLY. -/
abbrev Sup.normal : Nat := 0
abbrev Sup.warning : Nat := 1
abbrev Sup.rideQualify : Nat := 2
abbrev Sup.cut : Nat := 3
abbrev Sup.cutQualify : Nat := 4
abbrev Sup.banked : Nat := 5

def State.supply (s : State) : Nat := s.get R.PWR_STATUS_SUPPLY

/-! ## Feeds and converters (R390 to R392) -/

def feedFld (f : Nat) : Fld := if f = 0 then R.PWR_STATUS_FEED_A else R.PWR_STATUS_FEED_B
def lostFld (f : Nat) : Fld := if f = 0 then R.PWR_STATUS_FEED_A_LOST else R.PWR_STATUS_FEED_B_LOST

/-- A feed is judged absent (R391, R392): FEED_LOST, the LOST bit and ATTN_MOD_N. -/
def feedAbsent (f : Nat) (s : State) : State :=
  if s.bit (feedFld f) then
    (((s.set (feedFld f) 0).set (lostFld f) 1).event Ev.FEED_LOST (origin 9 f)).modPins (fun p =>
      { p with attnFeed := addId f p.attnFeed }) |>.modPow (fun p => { p with lostFeeds := addId f p.lostFeeds })
      |>.plan 8 0 Ev.FEED_LOST
  else s

/-- FEED_PRESENT (R391): a feed retired with its PFC stage stays absent (R392). -/
def feedPresent (f : Nat) (s : State) : State := if s.pow.feedRetired.contains f then s else s.set (feedFld f) 1

/-- FEED_OUT_OF_RANGE (R391): the module goes on using the feed. -/
def feedOutOfRange (f : Nat) (s : State) : State :=
  if s.bit (feedFld f) then s.event Ev.FEED_OUT_OF_RANGE (origin 9 f) else s

/-- FEED_RESTORED (R392): a lost feed has been present for 10 s; ATTN_MOD_N is held by it no longer. -/
def feedRestored (f : Nat) (s : State) : State :=
  if s.bit (feedFld f) && s.pow.lostFeeds.contains f then
    ((s.event Ev.FEED_RESTORED (origin 9 f)).modPins fun p => { p with attnFeed := delId f p.attnFeed }).modPow fun p =>
      { p with lostFeeds := delId f p.lostFeeds }
  else s

/-- PFC_FAULT (R392): the stage retires together with its feed, which counts as absent until the next cold start. -/
def pfcFault (f : Nat) (s : State) : State :=
  if s.pow.feedRetired.contains f then s
  else
    let s1 := (feedAbsent f s).modPow fun p => { p with feedRetired := addId f p.feedRetired }
    s1.retire 9 f Ev.ELEMENT_RETIRED Ev.ELEMENT_RETIRED false 0 0 0 0

/-- DCDC_FAULT (R390): the half is switched out and service goes on. -/
def dcdcFault (half : Nat) (s : State) : State :=
  (s.event Ev.DCDC_FAULT (origin 9 (2 + half))).set R.PWR_STATUS_DCDC_DEGRADED 1

/-! ## The power cap (R394) -/

/-- The cap in force: CAP_LIMIT, or 240 W + 4 W for each percent of the PSU zone's service level. -/
def State.capW (s : State) : Nat := min (s.get R.PWR_CTRL_CAP_LIMIT) (240 + 4 * (tgetD 2 {} s.thm.zones).level)

/-- Every actuator's set limit is worked out again (R98). -/
def State.fitAll (s : State) : State := s.forAll (List.range 64) State.fitSet

/-- Slots action 2 writes to Dusk: AUTO = 1, at Noon, busy share below NOON_ABOVE (`busy`, % by slot). -/
def State.duskSlots (s : State) (busy : List Nat) : List Nat :=
  (List.range 32).filter fun i => s.bit (R.SPIN_CTRL_AUTO i) && s.get (R.SLOT_STATUS_STATE i) = 4 &&
    s.get (R.SPIN_CTRL_SETPOINT i) = 2 && busy.getD i 0 < s.get R.STK_SPEED_NOON_ABOVE

/-- Take action n of R394. Actions 1 and 4 act through ACTIONS itself (R89, R417, R446, R42). -/
def State.capAction (n : Nat) (busy : List Nat) (s : State) : State :=
  match n with
  | 1 => s.event Ev.POWER_CAPPED (origin 0 0)
  | 2 =>
    let l := s.duskSlots busy
    (s.forAll l fun i => State.setSetpoint i 1).modPow fun p => { p with dusked := l }
  | 3 => (s.modPow fun p => { p with lowerSets := true }).fitAll
  | _ => s

/-- POWER_CAP_CHECK (R394): the 1 s average of the mains input; at or above the cap the next action is taken. -/
def powerCapCheck (watts : Nat) (busy : List Nat) (s : State) : State :=
  let s1 := s.set R.PWR_BUS_INPUT_W (min watts 1023)
  if watts < s.capW then s1.set R.PWR_CAP_CAPPED 0
  else
    let n := s.get R.PWR_CAP_ACTIONS
    let s2 := s1.set R.PWR_CAP_CAPPED 1
    if 4 ≤ n then s2 else (s2.set R.PWR_CAP_ACTIONS (n + 1)).capAction (n + 1) busy

/-- Undo action n of R394. -/
def State.capUndo (n : Nat) (s : State) : State :=
  match n with
  | 1 => s.startWaiting
  | 2 =>
    (s.forAll s.pow.dusked fun i t =>
      if t.bit (R.SPIN_CTRL_AUTO i) && t.get (R.SPIN_CTRL_SETPOINT i) = 1 then t.setSetpoint i 2 else t).modPow fun p =>
        { p with dusked := [] }
  | 3 => (s.modPow fun p => { p with lowerSets := false }).fitAll
  | _ => s

/-- POWER_CAP_UNDO (R394): while the input is below the cap minus 20 W the last action in force is undone. -/
def powerCapUndo (watts : Nat) (s : State) : State :=
  let n := s.get R.PWR_CAP_ACTIONS
  let s1 := s.set R.PWR_BUS_INPUT_W (min watts 1023)
  let s2 := if watts < s.capW then s1.set R.PWR_CAP_CAPPED 0 else s1
  if n = 0 || s.capW ≤ watts + 20 then s2 else (s2.set R.PWR_CAP_ACTIONS (n - 1)).capUndo n

/-! ## The ride timer and supply states (R395, R396) -/

/-- The ride timer, µs: it counts only in WARNING. -/
def State.rideUs (s : State) : Nat := match s.pow.rideAt with | some t => s.pow.ride + (s.now - t) | none => s.pow.ride

/-- The ride timer holds. -/
def State.rideHold (s : State) : State := s.modPow fun p => { p with ride := s.rideUs, rideAt := none }

/-- Entry to WARNING: counted and recorded, and calibrations and self-tests end (R396, R418, R444). -/
def State.enterWarning (s : State) : State :=
  ((((s.set R.PWR_STATUS_SUPPLY Sup.warning).modPow fun p => { p with rideAt := some s.now }).count R.PWR_COUNT_WARNINGS 1).event
    Ev.SUPPLY_WARNING (origin 0 0)).endCals.endTests

/-- SUPPLY_WARNING (R395, R396): the bulk bus is below 340 V with both feeds absent. -/
def supplyWarning (s : State) : State :=
  if s.supply = Sup.normal && !s.bit R.PWR_STATUS_FEED_A && !s.bit R.PWR_STATUS_FEED_B then
    (s.modPow fun p => { p with ride := 0 }).enterWarning
  else s

/-- SUPPLY_QUALIFIES (R395). -/
def supplyQualifies (s : State) : State :=
  if !s.bit R.PWR_STATUS_FEED_A && !s.bit R.PWR_STATUS_FEED_B then s
  else if s.supply = Sup.warning then s.rideHold.set R.PWR_STATUS_SUPPLY Sup.rideQualify
  else if s.supply = Sup.cut then s.set R.PWR_STATUS_SUPPLY Sup.cutQualify
  else s

/-- SUPPLY_STOPS_QUALIFYING (R395): the ride timer resumes from its held value. -/
def supplyStopsQualifying (s : State) : State :=
  if s.supply = Sup.rideQualify then s.enterWarning
  else if s.supply = Sup.cutQualify then s.set R.PWR_STATUS_SUPPLY Sup.cut
  else s

/-! ## The cut and banking (R397, R398) -/

/-- Dirty blocks of the cache and acknowledged staging, by volume and block (R398 item 2). -/
def State.bankBlocks (s : State) : Tbl (Block × Pi) :=
  let dirty := s.dirtyTags.foldl (fun t e =>
    (List.range 32).foldl (fun u b =>
      if e.2.dirty.testBit b then
        match s.frame (e.1 / 16) (e.1 % 16) b with
        | some x => tset (stageKey e.2.vol (32 * e.2.line + b)) x u
        | none => u
      else u) t) []
  s.cache.staged.foldl (fun t e => tset e.1 e.2 t) dirty

/-- The bank index (R398 item 1): every dirty line, copied from its primary's package, then every staging pair. -/
def State.bankIndex (s : State) : List BankLine :=
  (s.dirtyTags.map fun e => { vol := e.2.vol, line := e.2.line, mask := e.2.dirty, pkg := some (e.1 % 16), header := e.2.header }) ++
    s.cache.staged.map fun e =>
      { vol := e.1 / 2 ^ 41, line := e.1 % 2 ^ 41 / 32, mask := 2 ^ (e.1 % 32), pkg := none, header := [] }

/-- A block is listed in the bank index (R404). -/
def Bank.lists (b : Bank) (key : Nat) : Bool :=
  b.index.any fun x => x.vol = key / 2 ^ 41 && x.line = key % 2 ^ 41 / 32 && x.mask.testBit (key % 32)

/-- MiB of a bank: blocks with their tuples, in units of 1 MiB (R398). -/
def bankMib (blocks : Tbl (Block × Pi)) : Nat := ceilDiv (4104 * blocks.length) 1048576

/-- Whether a cut is banked: host service has begun, and the vault is not faulted (R402, R28). -/
def State.banks (s : State) : Bool := s.bit R.GLB_STATUS_SERVICE && !s.vault.faulted

/-- Banking starts (R398): the bank is WRITING and holds what DRAM held at the cut. -/
def State.startBank (s : State) : State :=
  let l := s.bankBlocks
  let t := ((s.set R.PWR_BANK_STATE 1).set R.PWR_BANK_MIB (bankMib l)).modPow fun p =>
    { p with bank := { index := s.bankIndex, blocks := l, stripe := some s.stripe, fix := s.rcd.fixBuf, var := s.rcd.varBuf } }
  { t with rcd := { t.rcd with bankAppended := false } }

/-- The cut of R397. Staging commits in progress complete first (R398). -/
def State.makeCut (why : CutFor) (s : State) : State :=
  let s1 := s.forAll (s.cmds.filter fun c => c.stage = .commit) fun c => stagingCommitComplete c.ref
  let served := (List.range 32).filter fun i => s1.serves (2 * i) || s1.serves (2 * i + 1)
  let s2 := s1.tearAll Torn.supplyCut (List.range 640)
  let s3 := s2.forAll ((List.range 32).filter fun i => s2.spState i != Sp.stopped) fun i => State.enterSp i Sp.stopped
  let s4 := s3.forAll (List.range 64) (State.unload true Torn.supplyCut)
  let s5 := s4.forAll ((List.range 32).filter fun i => s4.bit (R.SLOT_STATUS_EN12 i) || s4.bit (R.SLOT_STATUS_EN5 i))
    fun i t => (t.driveEn12 i 0).driveEn5 i 0
  let s6 := (s5.abortPool).abandonBg fun _ => true
  let s7 := s6.forAll [0, 1] fun p t => (((t.linkDown p 0).linkDown p 1).set (R.PORT_STATUS_LOW_POWER p) 1)
  let s8 := ((s7.count R.PWR_COUNT_CUTS 1).event Ev.SUPPLY_CUT (origin 0 0)).modPins fun p => { p with fanReleased := true }
  let s9 := (s8.modPow fun p => { p with cut := some why, served := served, recovering := false }).endTests
  if s.banks then s9.startBank else s9

/-- The outputs take their states of R62. -/
def State.outputsReset (s : State) : State :=
  let s1 := s.forAll (List.range 32) fun i t => (t.driveEn12 i 2).driveEn5 i 2
  { s1.modPins fun p => { p with phases := [], drives := [], linksReleased := true, attnReleased := true, fanReleased := true } with
    gates := [] }

/-- What follows once the cut's banking is done, or none is made: the supply state BANKED, module reset, or scan state
(R395, R410, R437, R449). -/
def State.cutDone (s : State) : State :=
  match s.pow.cut with
  | none => s
  | some .supply => { s.set R.PWR_STATUS_SUPPLY Sup.banked with run := .held }
  | some .thermal => { s.set R.PWR_STATUS_SUPPLY Sup.banked with run := .held }
  | some .pin => { s.outputsReset with run := .held }
  | some .register => { s.outputsReset with run := .held }
  | some (.scan code) => { (s.set R.GLB_STATUS_SCAN 0).outputsReset with run := .scan, knd := { s.knd with tapIr := code } }

/-- A cut made for another reason than the supply goes on at once when nothing is banked (R437, R449). A supply cut with no
banking waits for the supply. A reset without banking keeps the recorder's buffers by a flush (R440). -/
def State.cutFor (why : CutFor) (s : State) : State :=
  if s.isCut then s
  else
    let t := s.makeCut why
    if s.banks || why = .supply then t else t.flush.cutDone

/-- SUPPLY_CUT (R395, R397): the ride timer reaches 40 ms. A cut already made for another reason serves this one too
(R402, R437). -/
def supplyCut (s : State) : State :=
  if s.supply = Sup.warning then
    ((s.modPow fun p => { p with ride := 40000, rideAt := none }).set R.PWR_STATUS_SUPPLY Sup.cut).cutFor .supply
  else s

/-- POWER_DOWN_BLOCKS (R397 step 5): every actuator has parked, or 100 ms have passed. -/
def powerDownBlocks (s : State) : State :=
  if s.isCut && !s.pow.blocksDown then
    let isl := [0, 1, 51, 52] ++ ((List.range 32).map (19 + ·)) ++ (List.range 20).map (53 + ·)
    let s1 := s.forAll isl fun i t => if (t.island i).state = 2 then t else t.setIsland i { t.island i with state := 3 }
    let s2 := s1.forAll ((List.range 64).filter fun m => s1.get (R.ACT_STATUS_STATE m) = 5) fun m t =>
      t.set (R.ACT_STATUS_STATE m) 0
    s2.modPow fun p => { p with blocksDown := true }
  else s

/-- BANK_COMPLETE (R398): the commit record is on the flash after `ms`; the recorder's buffers are copied with the rest, and
sequence number and operating seconds are saved (R470). -/
def bankComplete (ms : Nat) (s : State) : State :=
  if s.isCut && s.get R.PWR_BANK_STATE = 1 then
    let s1 := (((s.set R.PWR_BANK_STATE 2).set R.PWR_BANK_INCOMPLETE 0).set R.PWR_BANK_TIME_BANK_MS (min ms 65535)).event
      Ev.BANK_COMPLETE (origin 0 0)
    let s2 := { s1.modPow fun p => { p with bank := { p.bank with fix := s1.rcd.fixBuf, var := s1.rcd.varBuf } } with
      rcd := { s1.rcd with savedSeq := s1.rcd.seq, bankAppended := false }
      vault := { s1.vault with savedOpSec := s1.opSec } }
    s2.cutDone
  else s

/-! ## Return of the supply (R395, R400) -/

/-- Recovery from CUT_QUALIFY (R400): banking is aborted and the bank STALE, the blocks are powered again, the rails rise, and
every spindle that is to turn is started from STOPPED through the sense. -/
def State.recoverCut (s : State) : State :=
  let banked := s.get R.PWR_BANK_STATE = 1
  let s1 := if banked then (s.set R.PWR_BANK_STATE 3).event Ev.BANK_ABORTED (origin 0 0) else s
  let s2 := (s1.count R.PWR_COUNT_CUT_RECOVERED 1).set R.PWR_STATUS_SUPPLY Sup.normal
  let s3 := s2.forAll (s2.islands.filter fun e => e.2.state = 3) fun e t => t.setIsland e.1 { e.2 with state := 0 }
  let s4 := s3.forAll [0, 1] fun p t => t.set (R.PORT_STATUS_LOW_POWER p) 0
  let s5 := s4.modPow fun p => { p with
    ride := 0, rideAt := none, cut := none, blocksDown := false, recovering := !p.served.isEmpty }
  let up := (List.range 32).filter fun i => s5.bit (R.SLOT_STATUS_PRESENT i) && s5.get (R.SLOT_STATUS_STATE i) = 4
  let s6 := s5.forAll up fun i t => ((((t.driveEn5 i 1).driveEn12 i 1).resetPreamp (2 * i)).resetPreamp (2 * i + 1))
  let s7 := s6.forAll (List.range 64) fun m t =>
    if t.get (R.ACT_STATUS_STATE m) = 7 then t else (t.set (R.ACT_STATUS_STATE m) 0).setActu m { t.actu m with reloadDue := true }
  let s8 := s7.forAll (up.filter fun i => s7.get (R.SPIN_CTRL_SETPOINT i) != 0) fun i t =>
    let u := t.startSense i
    u.setSpin i { u.spin i with recoverSense := true }
  let s9 := s8.modPins fun p => { p with fanReleased := false }
  if s9.pow.served.isEmpty then s9.event Ev.SUPPLY_RECOVERED (origin 0 0) else s9

/-- The supply has qualified for 50 ms in RIDE_QUALIFY (R395): media writes resume. -/
def State.rideRecovered (s : State) : State :=
  (((s.modPow fun p => { p with ride := 0, rideAt := none }).set R.PWR_STATUS_SUPPLY Sup.normal).count
    R.PWR_COUNT_RIDE_RECOVERED 1).event Ev.SUPPLY_RECOVERED (origin 0 0)

/-- BULK_BUS_BELOW_230V (R395, R401): the always-on island holds the module in reset, whatever it was doing; a bank being
written stays WRITING (R402). -/
def bulkBusBelow230v (s : State) : State := { s.outputsReset with run := .held }

/-- HANDLE_LATCH_RELEASE (R496): the bulk bus is no longer above 60 V, with both feeds absent. -/
def handleLatchRelease (s : State) : State :=
  if s.bit R.PWR_STATUS_FEED_A || s.bit R.PWR_STATUS_FEED_B then s else s.modPins fun p => { p with latchReleased := true }

/-! ## The commands -/

/-- Feeds and the latch are judged whether or not the module runs. -/
def actPower (s : State) (down f : State → State) : Host.Outcome State Fault Refusal :=
  if s.run = .up then done s (f s) else if s.run = .failed then .next s else done s (down s)

def execFeedAbsent (f : Feed) (s : State) := actPower s (State.set (feedFld f.val) 0) (feedAbsent f.val)
def execFeedPresent (f : Feed) (s : State) := actPower s (feedPresent f.val) (feedPresent f.val)
def execFeedOutOfRange (f : Feed) (s : State) := act s (feedOutOfRange f.val)
def execFeedRestored (f : Feed) (s : State) := act s (feedRestored f.val)
def execPfcFault (f : Feed) (s : State) := act s (pfcFault f.val)
def execDcdcFault (half : Nat) (s : State) := act s (dcdcFault half)
def execPowerCapCheck (watts : Nat) (busy : List Nat) (s : State) := act s (powerCapCheck watts busy)
def execPowerCapUndo (watts : Nat) (s : State) := act s (powerCapUndo watts)
def execSupplyWarning (s : State) := act s supplyWarning
def execSupplyQualifies (s : State) := act s supplyQualifies
def execSupplyStopsQualifying (s : State) := act s supplyStopsQualifying
def execSupplyCut (s : State) := act s supplyCut
def execPowerDownBlocks (s : State) := act s fun t => (powerDownBlocks t).keysCheck
def execBankComplete (ms : Nat) (s : State) := act s (bankComplete ms)
/-- BULK_BUS_BELOW_230V holds in every state of the module. -/
def execBulkBusBelow230v (s : State) : Host.Outcome State Fault Refusal := done s (bulkBusBelow230v s)
def execHandleLatchRelease (s : State) : Host.Outcome State Fault Refusal := done s (handleLatchRelease s)

end Sys2Proof.Machine
end

