-- ==== Sys2Proof/Machine/Thermal.lean ====
section
/-! DEFINITION. Temperature (ch14): sensors, zones, service levels, thermal shutdowns and the fan; and the vault fault of
R28. -/

namespace Sys2Proof.Machine

/-! ## The vault fault (R28) -/

/-- The vault is faulted until the next cold start: writes complete as DURABLE (R330), the journals go to members, the
recorder keeps what it has, and no cut is banked. -/
def State.vaultFault (s : State) : State :=
  if s.vault.faulted then s
  else (({ s with vault := { s.vault with faulted := true } }).event Ev.VAULT_FAULT (origin 0 0)).plan 9 0 Ev.VAULT_FAULT

/-! ## Sensors (R405, R409) -/

def State.modThm (f : Thermal → Thermal) (s : State) : State := { s with thm := f s.thm }
def State.sensor (s : State) (n : Nat) : SensorSt := tgetD n {} s.thm.sensors
def State.zone (s : State) (z : Nat) : ThermZone := tgetD z {} s.thm.zones
def State.setZone (z : Nat) (x : ThermZone) (s : State) : State := s.modThm fun t => { t with zones := tset z x t.zones }

/-- Sensors of a zone, zones numbered as in THM_ZONE_SEL (R405, R412). -/
def zoneSensors (z : Nat) : List Nat :=
  match z with
  | 0 => List.range 16
  | 1 => (List.range 16).map (16 + ·)
  | 2 => [32, 33, 34, 35]
  | 3 => [36]
  | _ => [37 + 2 * (z - 4), 38 + 2 * (z - 4)]

/-- THM_LIMIT class of a zone. -/
def zoneClass (z : Nat) : Nat := [0, 1, 3, 4].getD z 2

/-- A sensor is there to be read: a preamp's while its slot's 5 V rail is up. -/
def State.sensorThere (s : State) (n : Nat) : Bool := n < 37 || s.bit (R.SLOT_STATUS_EN5 ((n - 37) / 2))

/-- A sensor after a period of 100 ms (R409), readings in 0.5 °C. -/
def SensorSt.read (x : SensorSt) (r : Reading) : SensorSt :=
  if x.cause != 0 then x
  else match r with
    | none => if 10 ≤ x.silent + 1 then { x with silent := 10, cause := 2 } else { x with silent := x.silent + 1 }
    | some t =>
      let y : SensorSt := { temp := t, seen := true, silent := 0, cause := 0 }
      if t < -80 || 300 < t then { y with cause := 1 }
      else if x.seen && x.silent = 0 && 20 < (t - x.temp).natAbs then { y with cause := 3 }
      else y

/-- Read one sensor; as it breaks THERMAL_SENSOR_BROKEN is recorded. -/
def State.readSensor (n : Nat) (r : Reading) (s : State) : State :=
  if s.sensorThere n then
    let x := s.sensor n
    let y := x.read r
    let s1 := s.modThm fun t => { t with sensors := tset n y t.sensors }
    if x.cause = 0 && y.cause != 0 then s1.event Ev.THERMAL_SENSOR_BROKEN (origin 12 n) else s1
  else { s with thm := { s.thm with sensors := tdel n s.thm.sensors } }

/-- Broken sensors of a zone. -/
def State.broken (s : State) (z : Nat) : Nat := ((zoneSensors z).filter fun n => (s.sensor n).cause != 0).length

/-- Temperature of a zone: the highest reading among its working sensors (R405). -/
def State.zoneTemp (s : State) (z : Nat) : Option Int :=
  ((zoneSensors z).filter fun n => (s.sensor n).seen && (s.sensor n).cause = 0).foldl (fun t n =>
    some (match t with | some v => max v (s.sensor n).temp | none => (s.sensor n).temp)) none

/-! ## Service levels (R406, R407) -/

/-- The four thresholds of a class, whole °C. -/
structure Limits where
  warn : Int
  throttle : Int
  shut : Int
  hyst : Int

def State.limits (s : State) (c : Nat) : Limits :=
  ⟨s.get (R.THM_LIMIT_WARN c), s.get (R.THM_LIMIT_THROTTLE c), s.get (R.THM_LIMIT_SHUTDOWN c), s.get (R.THM_LIMIT_HYST c)⟩

/-- f(T) of R407 at a temperature in 0.5 °C: limited to 25 to 100, rounded down. -/
def Limits.f (l : Limits) (t : Int) : Nat :=
  let den := 2 * (l.shut - l.throttle)
  (clampI 25 100 (100 - (75 * (t - 2 * l.throttle) + den - 1) / den)).toNat

/-- Warning and throttling hold, with hysteresis (R406). -/
def holds (old : Bool) (t at_ hyst : Int) : Bool := 2 * at_ ≤ t || (old && 2 * (at_ - hyst) ≤ t)

/-- A zone after a reading (R406, R407, R409): `t` its temperature, `nb` its broken sensors. -/
def ThermZone.next (z : ThermZone) (l : Limits) (t : Option Int) (nb : Nat) : ThermZone :=
  let y := match t with
    | none => z
    | some v =>
      let thr := holds z.throttle v l.throttle l.hyst
      { z with
        temp := v, warn := holds z.warn v l.warn l.hyst, throttle := thr
        level := if thr then min (l.f v) (max z.level (l.f (v + 2 * l.hyst))) else 100 }
  if nb = 0 then y else { y with warn := true, level := 25 }

/-- Set limit of an HDA zone's service level (R408). -/
def levelLimit (level : Nat) : Nat := 3 + 7 * (level - 25) / 75

/-- The HDA zone's level acts on the set limit and the assist duty cap (R408). -/
def State.applyLevel (i level : Nat) (s : State) : State :=
  let x := s.slot i
  let s1 := s.setSlot i { x with
    setLimit := levelLimit level, dutyCap := level, dutyLogged := if level = 100 then false else x.dutyLogged }
  (s1.fitSet (2 * i)).fitSet (2 * i + 1)

/-! ## Shutdowns (R410) -/

/-- HDA thermal shutdown: the members are fenced, the actuators unload, the spindle is braked to Midnight; the third within
24 h retires the HDA. -/
def State.hdaShutdown (i : Nat) (s : State) : State :=
  let z := s.zone (4 + i)
  let l := s.within 86400 z.shutAt
  let s1 := (s.setZone (4 + i) { z with shutdown := true, shutAt := l }).event Ev.HDA_THERMAL_SHUTDOWN (origin 1 i)
  let s2 := s1.forAll [2 * i, 2 * i + 1] fun m t => (t.fence m .thermal).unload false Torn.unload m
  let s3 := s2.setSetpoint i 0
  if 3 ≤ l.length then s3.retireHda Ev.HDA_THERMAL_SHUTDOWN Ev.ELEMENT_RETIRED 0 0 0 0 i else s3

/-- The HDA returns to service after a thermal shutdown. -/
def State.hdaCool (i : Nat) (s : State) : State :=
  let s1 := s.setZone (4 + i) { s.zone (4 + i) with shutdown := false }
  ((s1.unfence (2 * i) .thermal).unfence (2 * i + 1) .thermal).setSetpoint i 2

/-- Thermal module shutdown: as at the cut, without the ride-through. -/
def State.moduleShutdown (s : State) : State :=
  if s.bit R.THM_STATUS_SHUTDOWN then s
  else ((s.set R.THM_STATUS_SHUTDOWN 1).event Ev.THERMAL_SHUTDOWN (origin 0 0)).cutFor .thermal

/-- What a zone's temperature and broken sensors bring beyond its level (R410). -/
def State.zoneShutdown (z : Nat) (s : State) : State :=
  let l := s.limits (zoneClass z)
  let nb := s.broken z
  let t := s.zoneTemp z
  let hot := t.any (fun v => 2 * l.shut ≤ v) || 2 ≤ nb
  if hot && !(s.zone z).shutdown then
    if 4 ≤ z then
      if s.get (R.SLOT_STATUS_STATE (z - 4)) = 4 then s.hdaShutdown (z - 4) else s
    else
      let s1 := s.setZone z { s.zone z with shutdown := true }
      if z = 3 then s1.vaultFault else s1.moduleShutdown
  else if 4 ≤ z && (s.zone z).shutdown && nb = 0 && t.any (fun v => v < 2 * (l.throttle - l.hyst)) &&
      s.get (R.SLOT_STATUS_STATE (z - 4)) = 4 then s.hdaCool (z - 4)
  else if z < 4 && (s.zone z).shutdown && !hot && !s.bit R.THM_STATUS_SHUTDOWN then
    s.setZone z { s.zone z with shutdown := false }
  else s

/-- A zone at a reading: its state, the events of its entries, and what follows. -/
def State.readZone (z : Nat) (s : State) : State :=
  let old := s.zone z
  let there := (zoneSensors z).any s.sensorThere
  if !there then
    let s1 := s.setZone z { old with level := 100, warn := false, throttle := false }
    if old.level = 100 then s1 else s1.applyLevel (z - 4) 100
  else
    let new := old.next (s.limits (zoneClass z)) (s.zoneTemp z) (s.broken z)
    let org := if 4 ≤ z then origin 1 (z - 4) else origin 0 0
    let s1 := s.setZone z new
    let s2 := if new.warn && !old.warn then s1.event Ev.THERMAL_WARNING org else s1
    let s3 := if new.throttle && !old.throttle then s2.event Ev.THERMAL_THROTTLE org else s2
    let s4 := if 4 ≤ z && new.level != old.level then s3.applyLevel (z - 4) new.level else s3
    s4.zoneShutdown z

/-! ## The fan (R411) -/

/-- Demand of a zone, %. -/
def State.fanDemand (s : State) (z : Nat) : Nat :=
  match s.zoneTemp z with
  | none => 0
  | some t =>
    let fm : Int := s.get R.THM_CTRL_FAN_MIN
    let l := s.limits (zoneClass z)
    (clampI fm 100 (fm + (100 - fm) * (t - 2 * l.warn + 40) / 40)).toNat

/-- FAN_DUTY and the summary bits of THM_STATUS follow the zones (R411, R412). -/
def State.fan (s : State) : State :=
  let zs := List.range 36
  let anyBroken := (List.range 101).any fun n => (s.sensor n).cause != 0
  let full := s.bit R.THM_CTRL_FAN_FULL || anyBroken
  let duty := if full then 100 else zs.foldl (fun d z => max d (s.fanDemand z)) (s.get R.THM_CTRL_FAN_MIN)
  (((s.set R.THM_STATUS_FAN_DUTY duty).setB R.THM_STATUS_ANY_WARNING (zs.any fun z => (s.zone z).warn)).setB
    R.THM_STATUS_ANY_THROTTLE (zs.any fun z => (s.zone z).level < 100)).setB R.THM_STATUS_ANY_BROKEN anyBroken

/-- THERMAL_SENSOR_READ (R405 to R411): every sensor is read, then every zone is judged. -/
def thermalSensorRead (l : List Reading) (s : State) : State :=
  let s1 := s.forAll (List.range 101) fun n => State.readSensor n (l.getD n none)
  (s1.forAll (List.range 36) State.readZone).fan

/-! ## Snapshots (R412) -/

/-- THM_ZONE_DATA of a zone. -/
def State.zoneWord (s : State) (z : Nat) : Nat :=
  let x := s.zone z
  let shuts := (x.shutAt.filter fun t => s.opSec < t + 86400).length
  toBits 10 x.temp + 1024 * x.level + 2 ^ 17 * x.warn.toNat + 2 ^ 18 * x.throttle.toNat + 2 ^ 19 * x.shutdown.toNat +
    2 ^ 20 * min 2 (s.broken z) + 2 ^ 22 * min 3 shuts

/-- THM_SENSOR_DATA of a sensor. -/
def State.sensorWord (s : State) (n : Nat) : Nat :=
  let x := s.sensor n
  toBits 10 x.temp + 1024 * (x.cause != 0).toNat + 2048 * x.cause

/-! ## The commands -/

def execThermalSensorRead (l : List Reading) (s : State) := act s (thermalSensorRead l)
def execVaultFault (s : State) := act s State.vaultFault

end Sys2Proof.Machine
end

