-- ==== Sys2Proof/Machine/Adoption.lean ====
section
/-! DEFINITION. Engine failures (R31 to R36, R378, R384): the engine retires, its slots are adopted or its roles move. -/

namespace Sys2Proof.Machine

/-- A hob engine under self-test whose partner has failed: the test ends INCOMPLETE, the engine is reset without the logic
self-test of its start code, and serves (R444). -/
def State.recallEngine (p : Nat) (s : State) : State :=
  match s.tst.running.find? fun t => t.kind = 2 && t.index = p with
  | none => s
  | some x =>
    let s1 := (s.finishTest x false false 0 none).resetEngine p
    let s2 := s1.modTst fun t => { t with retest := t.retest.filter fun y => !(y.1 = 2 && y.2.1 = p) }
    s2.unfenceEngine p

/-- The partner of a failed hob engine adopts its slots in ascending order, up to four in all (R31, R33); what it cannot take
waits for SLOT_REASSIGN (R34). -/
def State.adopt (n : Nat) (s : State) : State :=
  let p := partner n
  if s.engServes p then
    s.forAll ((s.owned n).take (4 - s.willOwn p)) fun i t => t.giveSlot i p
  else s

/-- The commands in flight on a slot are reissued (R32): a chunk write goes on from the first sector of each head's share, at the same
placement and generation; a read is made again from its first sector. -/
def State.reissue (i : Nat) (s : State) : State :=
  s.forAll ((List.range 20).map fun h => 20 * i + h) fun g t => t.setHead g { t.head g with stop := (t.head g).chunk, held := none }

/-- The island of a lost engine is held in reset (R31); its element is retired. -/
def State.holdEngine (n : Nat) (s : State) : State :=
  if s.islandUp (53 + n) then s.setIsland (53 + n) { s.island (53 + n) with state := 2 } else s

/-- An engine is lost: its island is held in reset, it retires, its self-test ends, its ladders are lost (R203), the commands in flight
on its slots are reissued, and its slots or roles move. -/
def State.loseEngine (reason n : Nat) (s : State) : State :=
  if s.engState n = 4 then s
  else
    let dom := domainOf 4 n
    let busy := (s.domain dom.1 dom.2).active
    let s1 := ((s.holdEngine n).set (R.ENG_STATUS_STATE n) 4).retire 4 n reason Ev.ELEMENT_RETIRED false 0 0 0 0
    let s2 := if busy then s1.replan dom.1 dom.2 else s1
    let s3 : State := { s2 with stk := { s2.stk with moves := s2.stk.moves.filter fun e => e.2 != n } }
    let mine (t : Test) : Bool := (t.kind = 2 && t.index = n) || (t.kind = 3 && t.index + 16 = n)
    let s4 := s3.forAll (s3.tst.running.filter mine) fun x t =>
      (t.modTst fun y => { y with running := y.running.filter fun z => z != x }).tellTest x 3 0
    if isHob n then
      let slots := s4.owned n
      let s5 := (s4.dropLadders fun r => slots.contains (r.head / 20)).forAll slots State.reissue
      (s5.recallEngine (partner n)).adopt n
    else s4.moveRoles (n - 16)

/-- An engine fault (R378): the engine stops at once, CAUSE and FAULT_PC are kept, and the engine is lost. An uncorrectable
ECC error makes the engine's channel permanent at once (R452). -/
def State.faultEngine (n cause : Nat) (s : State) : State :=
  if s.engState n = 4 then s
  else
    let s1 := ((s.set (R.ENG_STATUS_CAUSE n) cause).set (R.ENG_PC_FAULT_PC n) (s.get (R.ENG_PC_PC n))).event Ev.ENGINE_FAULT
      (origin 4 n)
    let s2 := if cause = 1 || cause = 2 then
        let t := s1.chanCount 3 n false
        if (t.channel 3 n).permanent then t else t.chanPermanent 3 n (origin 4 n)
      else s1
    s2.loseEngine Ev.ENGINE_FAULT n

/-- HOB_ENGINE_FAIL and FLUE_ENGINE_FAIL (R31, R36): a heartbeat (cause 7) is missed only by an engine whose supervision runs
(R384). -/
def engineFail (n cause : Nat) (s : State) : State :=
  if cause = 7 then
    (if s.engState n = 1 || (s.engState n = 3 && !s.bit (R.ENG_CTRL_FENCE n)) then s.faultEngine n 7 else s)
  else if s.engState n = 0 then s
  else s.faultEngine n cause

/-- A corrected error in control store or data memory (R378, R369, R452): counted, and CE_SEEN is set; the bucket may retire
the engine. -/
def State.engineCe (f : Nat → Fld) (n : Nat) (s : State) : State :=
  let s1 := (((s.count (f n) 1).setEng n { s.eng n with ceSeen := true }).chanCount 3 n true)
  if s1.chanDue 3 n then (s1.chanPermanent 3 n (origin 4 n)).loseEngine Ev.CHANNEL_PERMANENT n else s1

/-! ## The commands -/

def execHobEngineFail (n : Hob) (cause : Nat) (s : State) := act s (engineFail n.val cause)
def execFlueEngineFail (n : Flue) (cause : Nat) (s : State) := act s (engineFail (16 + n.val) cause)
/-- ENGINE_FAULT (R378). -/
def execEngineFault (n : EngineIx) (cause : Nat) (s : State) := act s (engineFail n.val cause)

end Sys2Proof.Machine
end

