-- ==== Sys2Proof/Machine/Fault.lean ====
section
/-! DEFINITION. Clock islands and bridges (R25 to R27), and the timers of error channels, recovery domains, the retirement
ledger and the event recorder (ch17). -/

namespace Sys2Proof.Machine

/-! ## Islands (R25 to R27, R488) -/

/-- The element of an island as an ORIGIN (R20, R466, R488). -/
def islandOrigin (i : Nat) : Nat :=
  if i < 2 then origin 8 (2 * i)
  else if 3 ≤ i && i < 19 then origin 7 (i - 3)
  else if 19 ≤ i && i < 51 then origin 1 (i - 19)
  else if 53 ≤ i && i < 73 then origin 4 (i - 53)
  else origin 0 0

/-- The MP paths of every session go down. -/
def State.mpPathsDown (s : State) : State := s.linkPathsDown 2 fun _ => true

/-- The management island faults (R27): MP, UART, TAP and card access are out of service until the next cold start. -/
def State.mgmtFault (s : State) : State :=
  if s.mgmtOk then
    ((s.setIsland 73 { s.island 73 with state := 1 }).event Ev.MGMT_ISLAND_FAULT (origin 0 0)).mpPathsDown
  else s

/-- An island is held in reset, and its element retires (R25): causes 1 loss of lock, 2 incomplete handshake. An incomplete
handshake makes the bridge's channel permanent (R452 kind 5). -/
def State.islandReset (i cause : Nat) (s : State) : State :=
  if s.islandUp i then
    let state := if (3 ≤ i && i < 51) || i < 2 || (53 ≤ i && i < 73) then 2 else 1
    let s1 := if cause = 2 then (s.chanCount 5 i false).chanPermanent 5 i (islandOrigin i) else s
    let s2 := s1.event Ev.ISLAND_RESET (islandOrigin i) i cause
    let hold (t : State) : State :=
      t.setIsland i { t.island i with state := state, locked := (t.island i).locked && cause != 1, cause := cause - 1 }
    if i < 2 then (hold s2).retirePort i Ev.ISLAND_RESET
    else if i = 2 || i = 74 then { (hold s2).outputsReset with run := .failed }
    else if i < 19 then (hold s2).retirePkg (i - 3) Ev.ISLAND_RESET
    else if i < 51 then (hold s2).retireFront Ev.ISLAND_RESET (i - 19)
    else if i = 51 then ((hold s2).abortPool).coreRefresh
    else if i = 52 then (hold s2).laneRefresh
    else if i < 73 then (hold s2).loseEngine Ev.ISLAND_RESET (i - 53)
    else s2.mgmtFault.setIsland 73 { s2.mgmtFault.island 73 with cause := cause - 1 }
  else s

/-- The decoder or the damper island goes on with its standby synthesiser or its second bridge (R26). -/
def State.islandSpare (i cause : Nat) (s : State) : State :=
  let x := s.island i
  (s.setIsland i (if cause = 1 then { x with synSpent := true, cause := 0 } else { x with bridgeSpent := true, cause := 1 })).event
    Ev.ISLAND_SPARE_USED (origin 0 0) i cause

/-- ISLAND_LOSS_OF_LOCK and BRIDGE_STALL (R25, R26). -/
def islandFault (i cause : Nat) (s : State) : State :=
  let x := s.island i
  if (i = 51 || i = 52) && s.islandUp i && !(if cause = 1 then x.synSpent else x.bridgeSpent) then s.islandSpare i cause
  else s.islandReset i cause

/-! ## Error channels and recovery domains (R451, R459) -/

/-- CHANNEL_BUCKET_LEAK (R451): B falls by 1 while it is above 0. -/
def channelBucketLeak (kind i : Nat) (s : State) : State :=
  let c := s.channel kind i
  if chanBucket kind = 0 || c.b = 0 then s else s.setChannel kind i { c with b := c.b - 1 }

/-- RECOVERY_COMPLETE (R459, R460): the recovery running in a domain is complete, and the next one queued there starts. -/
def recoveryComplete (row i : Nat) (s : State) : State :=
  let d := s.domain row i
  if d.active then
    let s1 := s.event Ev.RECOVERY_COMPLETE (origin 0 0) row i
    match d.queue with
    | [] => s1.setDomain row i {}
    | t :: ts => s1.setDomain row i { active := true, trigger := t, replans := 0, queue := ts }
  else s

/-- RETIREMENT_LEDGER_COPY (R455): the ledger is copied to every member in service. -/
def retirementLedgerCopy (s : State) : State :=
  { s with stores := s.stores.map fun e =>
      if s.ixServes (e.1 / 64) (e.1 % 64) then (e.1, { e.2 with rets := s.ledger }) else e }

/-! ## The recorder (R470 to R473) -/

/-- EVENT_TOKEN_ADD (R471): a token while the bucket is below BURST. -/
def eventTokenAdd (code : Nat) (s : State) : State :=
  match tget code s.rcd.tokens with
  | none => s
  | some k =>
    { s with rcd := { s.rcd with
        tokens := if s.get R.EVT_CTRL_BURST ≤ k + 1 then tdel code s.rcd.tokens else tset code (k + 1) s.rcd.tokens } }

/-- OPERATING_SECONDS_SAVE (R470); the vault takes none while it is faulted (R28). -/
def operatingSecondsSave (s : State) : State :=
  if s.vault.faulted then s else { s with vault := { s.vault with savedOpSec := s.opSec } }

/-! ## The commands -/

def execIslandLossOfLock (i : Island) (s : State) := act s fun t => (islandFault i.val 1 t).keysCheck
def execBridgeStall (i : Island) (s : State) := act s fun t => (islandFault i.val 2 t).keysCheck
def execMgmtIslandFault (s : State) := act s fun t => t.mgmtFault.keysCheck
def execChannelBucketLeak (kind : Fin 6) (i : Nat) (s : State) := act s (channelBucketLeak kind.val i)
def execRecoveryComplete (row : Fin 10) (i : Nat) (s : State) := act s (recoveryComplete row.val i)
def execRetirementLedgerCopy (s : State) := actHost s retirementLedgerCopy
def execEventFlush (s : State) := act s State.flush
def execEventTokenAdd (code : Nat) (s : State) := act s (eventTokenAdd code)
def execOperatingSecondsSave (s : State) := act s operatingSecondsSave

end Sys2Proof.Machine
end

