-- ==== Sys2Proof/Machine/RegView.lean ====
section
/-! DEFINITION. What a register read shows (R13 to R17, R479 to R484, R488): fields that show the state of their block, DATA
words of snapshots, latched pairs, and registers of an island out of service. -/

namespace Sys2Proof.Machine

/-! ## Registers of the blocks -/

/-- The island that holds a register, where its block has one of its own (log entry 29). The engine registers are the fabric's: those of
a retired engine show STATE 4 and its CAUSE (R389). -/
def regIsland (a : Nat) : Option Nat :=
  if 0x40000 ≤ a && a < 0x50000 then some 73
  else if 0x60100 ≤ a && a < 0x60300 then some ((a - 0x60100) / 0x100)
  else if 0x90100 ≤ a && a < 0x90200 then some (3 + (a - 0x90100) / 0x10)
  else if 0xC0000 ≤ a && a < 0xD0000 then some 51
  else if 0xD0000 ≤ a && a < 0xE0000 then some 52
  else if 0x100000 ≤ a && a < 0x120000 then some (19 + (a - 0x100000) / 0x1000)
  else none

/-- The register's island is held in reset or retired (R484). -/
def State.regOut (s : State) (a : Nat) : Bool := (regIsland a).any fun i => !s.islandUp i

/-- Comparator assigned to INDEX, comparators that pass calibration, and the largest assignment error in 1/64 LSB (R136,
R157). -/
def State.adcView (s : State) (g : Nat) : Nat × Nat × Nat :=
  let l := (s.head g).comps
  let err (j : Nat) : Nat :=
    (compThreshold (l.getD j 0) (ofBits 8 (s.headField g (64 + l.getD j 0) 1)) - ((j : Int) - 31) * 160).natAbs
  let usable := ((List.range 79).filter fun i => (s.headField g (144 + i / 8) 1).testBit (i % 8)).length
  if l.isEmpty then
    if (s.slot (g / 20)).meas.isNone then (0, 0, 0)
    else (Config.classTrim (512 + s.get (R.HEAD_ADC_INDEX g)) % 79, usable, Config.classTrim 576 % 33)
  else (l.getD (s.get (R.HEAD_ADC_INDEX g) - 1) 0, usable, (roundAway (2 * (((List.range l.length).map err).foldl max 0)) 5).toNat)

/-- FULL RESYNC, rebuilds and the like are in force somewhere (R240, R252). -/
def State.anyRebuilding (s : State) : Bool := (List.range 4).any s.rebuilding

/-- Groups with a member fenced for kind 6, bit per group (R426). -/
def State.calGroups (s : State) : Nat :=
  maskOf ((s.liveCals.filter fun c => c.kind = 6).filterMap fun c => (s.ixOf c.elem).map (·.1))

/-- Paths up on a port. -/
def State.portPaths (s : State) (port : Nat) : Nat := min 127 (s.pathsOn port)

/-- An island's clock, MHz (R21, R408). -/
def State.islandMhz (s : State) (i : Nat) : Nat :=
  if i < 2 then 1600 else if i = 2 then 1200 else if i < 19 then 1067 else if i < 51 then 625
  else if i = 51 then 1100 * (tgetD 0 ({} : ThermZone) s.thm.zones).level / 100
  else if i = 52 then 400 else if i < 69 then 1000 else if i < 73 then 1500 else if i = 73 then 200 else 25

/-- Decoder cores in service as DEC_IN_SERVICE shows them (R188). -/
def State.coresShown (s : State) : Nat :=
  ((List.range 96).filter fun c => (s.get (R.DEC_IN_SERVICE_LIVE (c / 32))).testBit (c % 32)).length

/-- CH_STATUS.MODE of a head (R157): it writes a sector, reads one that the pool has granted, or is idle. -/
def State.channelMode (s : State) (g : Nat) : Nat :=
  if (s.head g).sector.isSome then 2
  else if s.pool.sectors.any fun e => e.2.st = .granted && e.2.req.head = g then 1 else 0

/-! ## Fields that show the state of their block -/

/-- Global, power, islands, host and queue registers. -/
def State.liveA (s : State) (a : Nat) : List (Fld × Nat) :=
  if a = A.PWR_STATUS then [(R.PWR_STATUS_RIDE_MS, s.rideUs / 1000)]
  else if a = A.PWR_CAP then [(R.PWR_CAP_CAP_W, s.capW)]
  else if a = A.ISL_SUMMARY then
    [(R.ISL_SUMMARY_RUNNING, ((List.range 75).filter fun i => (s.island i).state = 0).length),
     (R.ISL_SUMMARY_RETIRED, ((List.range 75).filter fun i => !s.islandUp i).length)]
  else if a = A.LQP_STATUS then
    [(R.LQP_STATUS_SESSIONS, s.sessions.length), (R.LQP_STATUS_IN_FLIGHT, s.cmds.length)]
  else if a = A.PORT_STATUS 0 then [(R.PORT_STATUS_PATHS 0, s.portPaths 0)]
  else if a = A.PORT_STATUS 1 then [(R.PORT_STATUS_PATHS 1, s.portPaths 1)]
  else if a = A.VOL_KEY_STATUS then
    match tget (s.get R.VOL_KEY_SEL_VOLUME) s.vols with
    | some v => [(R.VOL_KEY_STATUS_LOCKED, (v.encrypt && v.key.isNone).toNat), (R.VOL_KEY_STATUS_KCV_SET, v.kcv.isSome.toNat)]
    | none => []
  else if a = A.QUE_LOCK_STATUS then
    [(R.QUE_LOCK_STATUS_IN_USE, lockEntries s.cmds),
     (R.QUE_LOCK_STATUS_WAITING_ENTRY, (s.cmds.filter fun c => c.lock = .entry).length)]
  else if a = A.QUE_ARRIVAL_LO then [(R.QUE_ARRIVAL_LO_NEXT_LO, s.que.arrival % 2 ^ 32)]
  else if a = A.QUE_ARRIVAL_HI then [(R.QUE_ARRIVAL_HI_NEXT_HI, s.que.arrival / 2 ^ 32 % 2 ^ 32)]
  else if a = A.QUE_FLUSH then [(R.QUE_FLUSH_PENDING, (s.cmds.filter fun c => c.op = 5).length)]
  else []

/-- Cache, stoker, recovery, redundancy and decoder registers. -/
def State.liveB (s : State) (a : Nat) : List (Fld × Nat) :=
  if a = A.CACHE_FILL then
    [(R.CACHE_FILL_DIRTY_LINES, s.dirtyTags.length),
     (R.CACHE_FILL_STAGED_MIB, ceilDiv (4104 * s.cache.staged.length) 1048576)]
  else if a = A.STK_DRAFT then [(R.STK_DRAFT_REBUILD, s.anyRebuilding.toNat)]
  else if a = A.STK_BAND then [(R.STK_BAND_OCCUPANCY, s.bandOccupancy)]
  else if a = A.STK_MAP then [(R.STK_MAP_JOURNAL_FILL, s.journalFill)]
  else if a = A.REC_STATUS then
    [(R.REC_STATUS_FG_IN_FLIGHT, s.fgInFlight), (R.REC_STATUS_RA_IN_FLIGHT, s.raInFlight),
     (R.REC_STATUS_BG_IN_FLIGHT, s.bgInFlight)]
  else if a = A.REC_WEAK then [(R.REC_WEAK_ENTRIES, s.weak.length)]
  else if a = A.RED_STATUS then
    [(R.RED_STATUS_COPIES, if s.stripe.copyOwed then s.stripe.copies.length - 1 else s.stripe.copies.length)]
  else if a = A.RED_JOURNAL then
    [(R.RED_JOURNAL_OPEN, s.stripe.opened.length), (R.RED_JOURNAL_COPY0, s.stripe.copies.getD 0 0),
     (R.RED_JOURNAL_COPY1, s.stripe.copies.getD 1 0)]
  else if a = A.RED_SCRUB then [(R.RED_SCRUB_DAYS_SINCE, min 65535 ((s.opSec - s.stk.scrubAt) / 86400))]
  else if a = A.RED_LEDGER then [(R.RED_LEDGER_ENTRIES, s.lost.length)]
  else if a = A.DEC_STATUS then
    [(R.DEC_STATUS_CORES, s.coresShown), (R.DEC_STATUS_OCCUPANCY, s.pool.occupancy), (R.DEC_STATUS_PRESSURE, s.pressure),
     (R.DEC_STATUS_FENCED, (!s.pool.fenced.isEmpty).toNat)]
  else if a = A.DEC_SPILL then
    [(R.DEC_SPILL_DEFERRED, s.pool.deferred), (R.DEC_SPILL_RETAINED, s.pool.retained.length)]
  else if a = A.DEC_CORE_INFO then
    let c := s.get R.DEC_CORE_SEL_CORE
    let recent := (tgetD c [] s.pool.suspects).filter fun t => s.opSec < t + 3600
    [(R.DEC_CORE_INFO_SEAL_SUSPECT, min 255 recent.length), (R.DEC_CORE_INFO_KAT_FAILS, min 255 (tgetD c 0 s.pool.katFails)),
     (R.DEC_CORE_INFO_CONTEXTS, s.pool.contexts c), (R.DEC_CORE_INFO_FENCED, (s.pool.fenced.contains c).toNat)]
  else if 0x90100 ≤ a && a < 0x90200 && a % 16 = 0 then
    let d := (a - 0x90100) / 16
    [(R.DRAM_PKG0_CE_WINDOW d, min 255 ((tgetD d [] s.cache.ceAt).filter fun t => s.opSec < t + 86400).length)]
  else if a = A.DAMP_COMMIT then
    [(R.DAMP_COMMIT_PENDING, (s.loop (s.get R.DAMP_COMMIT_LOOP)).pending.toNat)]
  else []

/-- Recorder, ledger, self-test and calibration registers. -/
def State.liveC (s : State) (a : Nat) : List (Fld × Nat) :=
  if a = A.EVT_STATUS then
    [(R.EVT_STATUS_FIXED_FULL, s.rcd.fixFull.toNat), (R.EVT_STATUS_VAR_FULL, s.rcd.varFull.toNat),
     (R.EVT_STATUS_FLUSHING, s.rcd.flushing.toNat),
     (R.EVT_STATUS_BUFFERED, min 16384 (s.rcd.fixBuf.length + s.rcd.varBuf.length))]
  else if a = A.EVT_FIXED then [(R.EVT_FIXED_RECORDS, s.rcd.fixReg.length)]
  else if a = A.EVT_VAR then [(R.EVT_VAR_KIB, ceilDiv (varSize s.rcd.varReg) 1024)]
  else if a = A.EVT_DROPPED_FIXED then [(R.EVT_DROPPED_FIXED_COUNT, min (2 ^ 32 - 1) s.rcd.fixDropped)]
  else if a = A.EVT_DROPPED_VAR then [(R.EVT_DROPPED_VAR_COUNT, min (2 ^ 32 - 1) s.rcd.varDropped)]
  else if a = A.EVT_SEQ then [(R.EVT_SEQ_NEXT, s.rcd.seq % 2 ^ 32)]
  else if a = A.EVT_OPSEC then [(R.EVT_OPSEC_SECONDS, s.opSec % 2 ^ 32)]
  else if a = A.EVT_PCYCLE then [(R.EVT_PCYCLE_COUNT, s.pcycle % 2 ^ 32)]
  else if a = A.RET_STATUS then
    [(R.RET_STATUS_ENTRIES, s.ledger.length), (R.RET_STATUS_ACTIVE, (s.ledger.filter (·.active)).length),
     (R.RET_STATUS_FULL, s.ledgerFull.toNat)]
  else if a = A.ST_STATUS then
    [(R.ST_STATUS_POWER_W, min 127 (ceilDiv s.testPowerUsed 10)), (R.ST_STATUS_RUNNING, min 127 s.tst.running.length)]
  else if a = A.CAL_STATUS then
    [(R.CAL_STATUS_RUNNING, s.liveCals.length), (R.CAL_STATUS_GROUPS, s.calGroups),
     (R.CAL_STATUS_HELD, (s.get R.PWR_CAP_ACTIONS != 0 || s.supply != Sup.normal).toNat)]
  else []

/-- Registers of slots, heads and engines. -/
def State.liveD (s : State) (a : Nat) : List (Fld × Nat) :=
  if 0x100000 ≤ a && a < 0x120000 then
    let i := (a - 0x100000) / 0x1000
    let o := a % 0x1000
    if o = 0 then
      [(R.SLOT_STATUS_PSFLT0 i, s.preampReg (2 * i) 1 % 2), (R.SLOT_STATUS_PSFLT1 i, s.preampReg (2 * i + 1) 1 % 2)]
    else if o = 0x8C then [(R.SPIN_REF_REF i, if s.spState i = Sp.blind then s.blindRef i else s.get (R.SPIN_REF_REF i))]
    else if 0x100 ≤ o && o < 0x600 then
      let g := 20 * i + (o - 0x100) / 0x40
      if a = A.HEAD_CH_STATUS g then
        [(R.HEAD_CH_STATUS_GATE g, (s.gates.contains g).toNat), (R.HEAD_CH_STATUS_MODE g, s.channelMode g)]
      else if a = A.HEAD_ADC g then
        let (c, u, e) := s.adcView g
        [(R.HEAD_ADC_COMP g, c), (R.HEAD_ADC_USABLE g, u), (R.HEAD_ADC_WORST_ERR g, min 63 e)]
      else []
    else []
  else if 0x50100 ≤ a && a < 0x50600 then
    let n := (a - 0x50100) / 0x40
    if a = A.ENG_MATCH_DATA n then
      [(R.ENG_MATCH_DATA_MATCH n, tgetD (s.get (R.ENG_MATCH_SEL_INDEX n)) 0 (s.eng n).matches_)]
    else []
  else []

/-- The fields of a register that show the state of their block, with what they show. -/
def State.live (s : State) (a : Nat) : List (Fld × Nat) := s.liveA a ++ s.liveB a ++ s.liveC a ++ s.liveD a

/-- The value of a field as a read sees it. -/
def State.fieldNow (s : State) (f : Fld) : Nat :=
  match (s.live f.addr).find? fun e => e.1 = f with
  | some e => e.2 % 2 ^ f.w
  | none => s.get f

/-- Fields measured outside the model, whose value no rule gives: a read takes free values, one for
each field (log entry 1). -/
def measured : List Fld :=
  [R.PWR_FEED_VRMS 0, R.PWR_FEED_FREQ 0, R.PWR_FEED_POWER 0, R.PWR_FEED_VRMS 1, R.PWR_FEED_FREQ 1, R.PWR_FEED_POWER 1,
   R.PWR_BUS_BULK_V, R.PWR_BUS_INT_V, R.STK_DRAFT_USED] ++
  (List.range 8).flatMap fun i => [R.PWR_RSV_V0 i, R.PWR_RSV_V1 i, R.PWR_RSV_V2 i, R.PWR_RSV_V3 i]

/-! ## Reading -/

/-- The _HI partner of an RO register named _LO (R483). -/
def hiOf (a : Nat) : Option Nat :=
  if a = A.ID_MAC_LO then some A.ID_MAC_HI else if a = A.QUE_ARRIVAL_LO then some A.QUE_ARRIVAL_HI else none

/-- The word a path reads at an address of the map, with nothing cleared or latched: fields read as 0 where write-only, DATA
words from the path's own snapshot. -/
def State.readWord (s : State) (p : Path) (a : Nat) : Nat :=
  match tget (pathKey p a) s.latches with
  | some v => v
  | none =>
    if isSnap a then tgetD (pathKey p a) 0 s.snaps
    else (layout a).foldl (fun w f =>
      if f.acc = .wo then w
      else if measured.contains f.fld then w + Config.free (s.fresh + f.fld.lo) % 2 ^ f.fld.w * 2 ^ f.fld.lo
      else w + s.fieldNow f.fld * 2 ^ f.fld.lo) 0

/-- A read of a register by a path (R15, R479, R483, R484): the word, and whether its island was out of service. RC fields
are cleared in the same access, a _LO read latches its partner, and a latched word is returned once. -/
def State.readReg (p : Path) (a : Nat) (s : State) : (Nat × Bool) × State :=
  if s.regOut a then ((0, true), s)
  else
    let w := s.readWord p a
    let s1 := match hiOf a with
      | some h => { s with latches := tset (pathKey p h) (s.readWord p h) (tdel (pathKey p h) s.latches) }
      | none => { s with latches := tdel (pathKey p a) s.latches }
    let s2 := if (layout a).any fun f => measured.contains f.fld then { s1 with fresh := s1.fresh + 32 } else s1
    ((w, false), s2.forAll ((layout a).filter fun f => f.acc = .rc) fun f t => t.set f.fld 0)

/-! ## Snapshots (R483) -/

/-- ISL_DATA of an island (R488). -/
def State.islandWord (s : State) (i : Nat) : Nat :=
  let x := s.island i
  x.state + 4 * x.locked.toNat + 8 * s.islandMhz i + 2 ^ 14 * min 255 x.stalls + 2 ^ 22 * x.cause +
    2 ^ 23 * (x.synSpent || x.bridgeSpent).toNat

/-- PORT_ADDR_DATA of an address slot (R320). -/
def State.addrWords (s : State) (port link slot : Nat) : List Nat :=
  match tget (addrKey port link slot) s.addrs with
  | some x => ((List.range 4).map fun k => x.addr / 2 ^ (32 * k) % 2 ^ 32) ++
      [x.prefix4 % 256 + 256 * x.valid.toNat + 512 * x.dadFailed.toNat]
  | none => [0, 0, 0, 0, 0]

/-- LQP_SESS_DATA of a session (R320). -/
def State.sessionWords (s : State) (n : Nat) : List Nat :=
  match s.session n with
  | none => [0, 0, 0]
  | some x =>
    let up (i : Nat) : Bool := (x.paths[i]?).any (·.up)
    let rto (i : Nat) : Nat := match x.paths[i]? with | some y => min 65535 y.rto | none => 0
    [1 + 2 * (up 0).toNat + 4 * (up 1).toNat + 8 * (!up 0 && !up 1).toNat + 16 * x.queues + 1024 * x.depth,
     (s.cmds.filter fun c => c.ref.session = n).length, rto 0 + 65536 * rto 1]

/-- QUE_DATA of a queue (R341). -/
def State.queueWords (s : State) (n q : Nat) : List Nat :=
  match s.session n with
  | none => [0, 0, 0]
  | some x =>
    if x.queues < q then [0, 0, 0]
    else
      let y := s.queueSt n q
      let l := s.queueCmds n q
      [1 + 2 * y.frozen.isSome.toNat + 4 * min 2047 l.length + 8192 * min 2047 (l.filter (·.held)).length,
       (match y.frozen with | some f => f.2 | none => 0) + 65536 * min 65535 y.errors,
       match y.frozen with | some f => f.1 % 2 ^ 32 | none => 0]

/-- A tag entry of R348. -/
def Tag.entry (t : Tag) : Nat :=
  t.valid + 2 ^ 32 * t.dirty + 2 ^ 64 * t.vol + 2 ^ 74 * t.line + 2 ^ 110 * t.kind + 2 ^ 112 * t.partner +
    2 ^ 116 * t.wb.toNat + 2 ^ 117 * t.fill.toNat + 2 ^ 118 * t.hold.toNat

/-- Four 32-bit words of a 128-bit value. -/
def words4 (v : Nat) : List Nat := (List.range 4).map fun k => v / 2 ^ (32 * k) % 2 ^ 32

/-- CACHE_PROBE_DATA of the line that holds a block (R362). -/
def State.probeWords (s : State) (v lba : Nat) : List Nat :=
  let set := lineSet v (lba / 32)
  match s.findLine v (lba / 32) with
  | some w => words4 (s.tag set w).entry ++ [set + 65536 * w]
  | none => [0, 0, 0, 0, 0]

/-- STK_VOL_DATA of a volume (R252). -/
def State.volumeWords (s : State) (v : Nat) : List Nat :=
  match tget v s.vols with
  | none => [0, 0, 0, 0, 0]
  | some x =>
    let n := s.mapped v
    [1 + 2 * x.latency + 8 * x.buffered.toNat + 16 * x.encrypt.toNat + 32 * x.k + 1024 * x.p + 4096 * x.group +
      16384 * x.hint + 65536 * x.budget, x.size % 2 ^ 32, x.size / 2 ^ 32 % 2, n % 2 ^ 32, n / 2 ^ 32 % 2]

/-- STATE of a member in STK_MEMBER_DATA (R252). -/
def State.memberState (s : State) (m : Nat) : Nat :=
  let x := s.mem m
  if x.retired || (s.actu m).retired then 3
  else if x.lostAt != 0 then 4
  else if s.get (R.SPIN_CTRL_SETPOINT (m / 2)) = 0 then 2
  else if x.fences.isEmpty then 0 else 1

/-- STK_MEMBER_DATA of a member (R252). -/
def State.memberWords (s : State) (m : Nat) : List Nat :=
  let st := s.memberState m
  let marg := 8 * (s.shrinking m).toNat
  match (s.ixOf m).or (s.lostIx m) with
  | none => [st + marg, 0, 0]
  | some (g, q) =>
    let x := s.store g q
    let evac := (s.zsets.filter fun z => z.2.group = g && z.2.st = .evacuating && z.2.cols.any fun c => c.1 = q).length
    [st + marg + 16 * min 127 (s.usedPct g q) + 65536 * min 65535 (s.emptyZones g q),
     min 65535 (zoneCount x.n x.share - (x.zones.filter fun e => e.2.tier = 7).length) +
       65536 * min 4095 (x.zones.filter fun e => e.2.tier != 0 && e.2.tier != 7).length + 2 ^ 28 * min 15 evac,
     s.bandFree g q]

/-- STK_CAP_DATA of a group (R252). -/
def State.capWords (s : State) (g : Nat) : List Nat :=
  let (f, _, _, a) := s.capacity g
  let p := s.provisioned g
  [f % 2 ^ 32, s.usable g % 2 ^ 32, a % 2 ^ 32, p % 2 ^ 32, p / 2 ^ 32 % 4]

/-- REC_HEAD_DATA of a head and recording zone (R206, R207). -/
def State.recHeadWords (s : State) (g rz : Nat) : List Nat :=
  let x := tgetD (32 * g + rz) {} s.headRecs
  [min 65535 (x.effort.filter fun t => s.opSec < t + 86400).length + 65536 * min 65535 x.around,
   min 65535 x.unrecovered + 65536 * x.deepest]

/-- Zone sets and band rows of a group with no remaining redundancy (R282). -/
def State.criticalUnits (s : State) (g : Nat) : Nat :=
  let bad (row : Nat) (cols : List (Nat × Nat)) : Nat := (cols.filter fun c => !s.colServes g c.1 row).length
  (s.zsets.filter fun z => z.2.group = g && z.2.p ≤ bad (4096 * z.1) z.2.cols && 0 < z.2.wp).length +
    (s.brows.filter fun r => r.2.group = g && r.2.p ≤ bad (2 ^ 31 + r.1) r.2.cols).length

/-- RED_GROUP_DATA of a group (R282). -/
def State.groupWords (s : State) (g : Nat) : List Nat :=
  match tget g s.groups with
  | none => [0, 0, 0]
  | some x =>
    [x.h + 64 * x.k + 2048 * x.p + 8192 * (s.vacants g x).length + 2 ^ 19 * min 8191 (s.criticalUnits g), x.seed % 2 ^ 32,
     tgetD g 0 s.stk.zgen % 2 ^ 24]

/-- RED_REBUILD_DATA of a member (R282); no rule gives the estimate (log entry 1). -/
def State.rebuildWords (s : State) (m : Nat) : List Nat :=
  match (s.ixOf m).or (s.lostIx m) with
  | none => [0, 0, 0, 0]
  | some (g, q) =>
    let x := s.store g q
    let st := if x.rebuild = 0 && (s.mem m).lostAt != 0 then 1 else if x.rebuild = 2 && x.paused then 3 else x.rebuild
    [st + 8 * min 65536 x.stale.length, x.total, x.done, s.freeNat (2 ^ 32)]

/-- RED_RESHAPE_DATA of a volume (R282). -/
def State.reshapeWords (s : State) (v : Nat) : List Nat :=
  match (tget v s.vols).bind (·.reshape) with
  | some r => [r.st + 4 * r.k + 128 * r.p + 512 * r.group, r.cursor % 2 ^ 32, r.cursor / 2 ^ 32 % 2]
  | none => [0, 0, 0]

/-- FLT_DATA of an error channel (R477). -/
def State.channelWord (s : State) (kind i : Nat) : Nat :=
  let c := s.channel kind i
  min 255 c.c + 256 * min 255 c.b + 65536 * c.permanent.toNat

/-- RMGR_DATA of a recovery domain (R477). -/
def State.domainWord (s : State) (row i : Nat) : Nat :=
  let d := s.domain row i
  d.active.toNat + 2 * min 127 d.queue.length + 256 * min 255 d.replans + 65536 * d.trigger

/-- ST_DATA of a block (R450). -/
def State.testWords (s : State) (kind i : Nat) : List Nat :=
  let x := tgetD (1024 * kind + i) ({} : TestRes) s.tst.results
  let res := if s.tst.running.any fun t => t.kind = kind && t.index = i then 4 else x.result
  [res + 8 * x.reached.toNat + 16 * x.match_.toNat + 256 * x.runs + 65536 * x.ms, x.opSec % 2 ^ 32]

/-- CAL_ELEM_DATA of an element (R426). -/
def State.calWords (s : State) (kind elem : Nat) : List Nat :=
  let (n, sus, last, at_, flag) := s.calHist kind elem
  let run := s.liveCals.any fun c => c.kind = kind && c.elem = elem
  let due := s.cal.due.any fun d => d.1 = kind && d.2.1 = elem
  [n + 65536 * (last % 4) + 2 ^ 18 * min 15 sus + 2 ^ 22 * flag.toNat + 2 ^ 23 * run.toNat + 2 ^ 24 * due.toNat, at_,
   min 255 (tgetD (1024 * kind + elem) 0 s.cal.spread)]

/-- AGE_DATA of a head and recording zone, and AGE_HEAD_DATA of the head (R426). -/
def State.ageWords (s : State) (g rz : Nat) : List Nat :=
  let x := s.margin g rz
  let h := s.age g
  [x.headroom + 64 * x.snr + 65536 * min 255 x.run + 2 ^ 24 * x.replanning.toNat + 2 ^ 25 * h.mark.toNat, x.start,
   min 65535 x.lowered, toBits 8 (clampI (-128) 127 h.assist) + 256 * toBits 8 (clampI (-128) 127 h.reader) +
     65536 * (h.assistFlag || h.readerFlag).toNat]

/-- The snapshot a write to a SEL register takes: where its DATA words begin, and the words (R483). -/
def State.snapshotOf (s : State) (a : Nat) : Option (Nat × List Nat) :=
  if a = A.THM_ZONE_SEL then some (A.THM_ZONE_DATA, [s.zoneWord (s.get R.THM_ZONE_SEL_ZONE)])
  else if a = A.THM_SENSOR_SEL then some (A.THM_SENSOR_DATA, [s.sensorWord (s.get R.THM_SENSOR_SEL_SENSOR)])
  else if a = A.ISL_SEL then some (A.ISL_DATA, [s.islandWord (s.get R.ISL_SEL_ISLAND)])
  else if a = A.LQP_SESS_SEL then some (A.LQP_SESS_DATA 0, s.sessionWords (s.get R.LQP_SESS_SEL_SESSION))
  else if a = A.QUE_SEL then some (A.QUE_DATA 0, s.queueWords (s.get R.QUE_SEL_SESSION) (s.get R.QUE_SEL_QUEUE))
  else if a = A.STK_VOL_SEL then some (A.STK_VOL_DATA 0, s.volumeWords (s.get R.STK_VOL_SEL_VOL))
  else if a = A.STK_MEMBER_SEL then some (A.STK_MEMBER_DATA 0, s.memberWords (s.get R.STK_MEMBER_SEL_M))
  else if a = A.STK_CAP_SEL then some (A.STK_CAP_DATA 0, s.capWords (s.get R.STK_CAP_SEL_GROUP))
  else if a = A.REC_HEAD_SEL then
    some (A.REC_HEAD_DATA 0, s.recHeadWords (s.get R.REC_HEAD_SEL_G) (s.get R.REC_HEAD_SEL_RZONE))
  else if a = A.RED_GROUP_SEL then some (A.RED_GROUP_DATA 0, s.groupWords (s.get R.RED_GROUP_SEL_GROUP))
  else if a = A.RED_REBUILD_SEL then some (A.RED_REBUILD_DATA 0, s.rebuildWords (s.get R.RED_REBUILD_SEL_M))
  else if a = A.RED_RESHAPE_SEL then some (A.RED_RESHAPE_DATA 0, s.reshapeWords (s.get R.RED_RESHAPE_SEL_VOL))
  else if a = A.DAMP_STATE_SEL then some (A.DAMP_STATE_DATA 0, loopWords (s.loop (s.get R.DAMP_STATE_SEL_LOOP)))
  else if a = A.FLT_SEL then some (A.FLT_DATA, [s.channelWord (s.get R.FLT_SEL_KIND) (s.get R.FLT_SEL_INDEX)])
  else if a = A.RMGR_SEL then some (A.RMGR_DATA, [s.domainWord (s.get R.RMGR_SEL_DOMAIN) (s.get R.RMGR_SEL_INDEX)])
  else if a = A.ST_SEL then some (A.ST_DATA 0, s.testWords (s.get R.ST_SEL_KIND) (s.get R.ST_SEL_INDEX))
  else if a = A.CAL_ELEM_SEL then
    some (A.CAL_ELEM_DATA 0, s.calWords (s.get R.CAL_ELEM_SEL_KIND) (s.get R.CAL_ELEM_SEL_ELEM))
  else if a = A.AGE_SEL then some (A.AGE_DATA 0, s.ageWords (s.get R.AGE_SEL_G) (s.get R.AGE_SEL_RZONE))
  else none

/-- Take the snapshot of a SEL register for a path (R483). -/
def State.takeSnapshot (p : Path) (a : Nat) (s : State) : State :=
  match s.snapshotOf a with
  | some (d, ws) => (s.capture p d ws).when (a = A.RED_REBUILD_SEL) State.bump
  | none => s

end Sys2Proof.Machine
end

