-- ==== Sys2Proof/Machine/Microcode.lean ====
section
/-! DEFINITION. The microword (R364 to R376): fetch, operands, ALU, memory, ports, flags and sequencing of one word of an
engine. -/

namespace Sys2Proof.Machine

/-! ## The word (R366) -/

/-- A field of a microword: lowest bit and width. -/
def mfield (w : BitVec 128) (lo n : Nat) : Nat := w.toNat / 2 ^ lo % 2 ^ n

abbrev Micro.cyc (w : BitVec 128) : Nat := mfield w 126 2
abbrev Micro.seq (w : BitVec 128) : Nat := mfield w 122 4
abbrev Micro.target (w : BitVec 128) : Nat := mfield w 108 14
abbrev Micro.cgrp (w : BitVec 128) : Nat := mfield w 104 4
abbrev Micro.cmask (w : BitVec 128) : Nat := mfield w 100 4
abbrev Micro.page (w : BitVec 128) : Nat := mfield w 98 2
abbrev Micro.dst (w : BitVec 128) : Nat := mfield w 92 6
abbrev Micro.srcA (w : BitVec 128) : Nat := mfield w 86 6
abbrev Micro.srcB (w : BitVec 128) : Nat := mfield w 80 6
abbrev Micro.alu (w : BitVec 128) : Nat := mfield w 75 5
abbrev Micro.bsel (w : BitVec 128) : Nat := mfield w 73 2
abbrev Micro.mem (w : BitVec 128) : Nat := mfield w 70 3
abbrev Micro.port (w : BitVec 128) : Nat := mfield w 67 3
abbrev Micro.setf (w : BitVec 128) : Bool := mfield w 65 1 = 1
abbrev Micro.we (w : BitVec 128) : Bool := mfield w 64 1 = 1
abbrev Micro.imm (w : BitVec 128) : Nat := mfield w 32 32
abbrev Micro.paddr (w : BitVec 128) : Nat := mfield w 16 16
abbrev Micro.shamt (w : BitVec 128) : Nat := mfield w 10 6

/-- The word loads from data memory (R366). -/
def Micro.loads (w : BitVec 128) : Bool := [1, 3, 5].contains (Micro.mem w)
/-- The word stores to data memory (R366). -/
def Micro.stores (w : BitVec 128) : Bool := [2, 4, 6].contains (Micro.mem w)
/-- The word's PORT operation reads (R367, R370). -/
def Micro.portReads (w : BitVec 128) : Bool :=
  Micro.port w = 2 || Micro.port w = 4 || (Micro.port w = 6 && Micro.paddr w < 0x8000)

/-- An illegal word (R366, R367, R368, R370, R372). -/
def Micro.illegal (w : BitVec 128) : Bool :=
  mfield w 66 1 != 0 || mfield w 0 10 != 0 || Micro.mem w = 7 || Micro.port w = 7 || 0x15 ≤ Micro.alu w || 10 ≤ Micro.seq w ||
    (Micro.loads w && Micro.portReads w)

/-! ## Data path (R367, R368) -/

/-- Operand B as BSEL chooses it. -/
def Micro.operandB (w : BitVec 128) (rb : BitVec 64) : BitVec 64 :=
  match Micro.bsel w with
  | 0 => rb
  | 1 => BitVec.ofNat 64 (Micro.imm w)
  | 2 => (BitVec.ofNat 32 (Micro.imm w)).signExtend 64
  | _ => BitVec.ofNat 64 (Micro.imm w) <<< (32 : Nat)

/-- A + sign-extended IMM: the address of MEM, RREG and WREG. -/
def Micro.address (w : BitVec 128) (a : BitVec 64) : BitVec 64 := a + (BitVec.ofNat 32 (Micro.imm w)).signExtend 64

/-- Result, C and V of an ALU operation (R368). -/
structure AluRes where
  val : BitVec 64
  c : Bool := false
  v : Bool := false

/-- CRC32C of the bytes of B, least significant first, from a start value, with no inversion. -/
def aluCrc (a b : BitVec 64) : BitVec 64 :=
  BitVec.ofNat 64 ((leBytes 8 b.toNat).foldl crc32cByte (a.toNat % 2 ^ 32))

/-- SUB, with C 1 when A ≥ B and V the signed overflow. -/
def aluSub (a b : BitVec 64) : AluRes :=
  { val := a - b, c := b.toNat ≤ a.toNat, v := a.toInt - b.toInt != (a - b).toInt }

/-- Leading zeros. -/
def clz (x : BitVec 64) : Nat := ((List.range 64).find? fun i => x.getLsbD (63 - i)).getD 64

/-- The ALU (R368). -/
def alu (op shamt : Nat) (a b : BitVec 64) : AluRes :=
  let k := b.toNat % 64
  match op with
  | 0x00 => { val := a + b, c := 2 ^ 64 ≤ a.toNat + b.toNat, v := a.toInt + b.toInt != (a + b).toInt }
  | 0x01 => aluSub a b
  | 0x02 => { val := a &&& b }
  | 0x03 => { val := a ||| b }
  | 0x04 => { val := a ^^^ b }
  | 0x05 => { val := a &&& ~~~b }
  | 0x06 => { val := a <<< k, c := k != 0 && a.getLsbD (64 - k) }
  | 0x07 => { val := a >>> k, c := k != 0 && a.getLsbD (k - 1) }
  | 0x08 => { val := a.sshiftRight k, c := k != 0 && a.getLsbD (k - 1) }
  | 0x09 => { val := a.rotateLeft k }
  | 0x0A => { val := a * b }
  | 0x0B => { val := BitVec.ofNat 64 (a.toNat * b.toNat / 2 ^ 64) }
  | 0x0C => { val := if a.toNat ≤ b.toNat then a else b }
  | 0x0D => { val := if a.toNat ≤ b.toNat then b else a }
  | 0x0E => { val := BitVec.ofNat 64 (clz a) }
  | 0x0F => { val := BitVec.ofNat 64 ((List.range 64).filter fun i => a.getLsbD i).length }
  | 0x10 => { val := (a >>> shamt) &&& BitVec.ofNat 64 (2 ^ (k + 1) - 1) }
  | 0x11 => { val := b }
  | 0x12 => { val := aluCrc a b }
  | 0x13 => aluSub a b
  | _ => { val := a &&& b }

/-- CMP and TST never write DST. -/
def aluWrites (op : Nat) : Bool := op != 0x13 && op != 0x14

/-! ## Data memory (R369) -/

/-- Bytes of an access by its MEM code. -/
def memSize (mem : Nat) : Nat := if mem ≤ 2 then 8 else if mem ≤ 4 then 4 else 1

/-- Whether an access is aligned and within data memory. -/
def memOk (n mem a : Nat) : Bool := a % memSize mem = 0 && a < 8 * dmWords n

/-- Load: the bytes of a 64-bit word, the lowest address least significant (log entry 30), zero-extended. -/
def Engine.load (e : Engine) (mem a : Nat) : BitVec 64 :=
  BitVec.ofNat 64 ((tgetD (a / 8) 0 e.dm).toNat / 2 ^ (8 * (a % 8)) % 2 ^ (8 * memSize mem))

/-- Store the low bytes of a register. -/
def Engine.poke (e : Engine) (mem a : Nat) (v : BitVec 64) : Engine :=
  let old := (tgetD (a / 8) 0 e.dm).toNat
  let lo := 2 ^ (8 * (a % 8))
  let hi := 2 ^ (8 * (a % 8) + 8 * memSize mem)
  let w := old % lo + v.toNat % 2 ^ (8 * memSize mem) * lo + old / hi * hi
  { e with dm := putWord (a / 8) (BitVec.ofNat 64 w) e.dm }

/-! ## Condition groups and local CSRs (R371, R374) -/

def bits4 (a b c d : Bool) : Nat := a.toNat + 2 * b.toNat + 4 * c.toNat + 8 * d.toNat

/-- The partner of a hob engine, or another flue engine, is retired (PARTNER_DOWN, FLUE_PEER_DOWN). -/
def State.peerDown (s : State) (n : Nat) : Bool :=
  if isHob n then s.engState (partner n) = 4 else [16, 17, 18, 19].any fun i => i != n && s.engState i = 4

/-- The condition group of R374 as it stands at the start of a word. -/
def State.condGroup (s : State) (n g : Nat) (a : BitVec 64) (o : WordObs) : Nat :=
  let e := s.eng n
  match g with
  | 0 => bits4 e.z e.n e.c e.v
  | 1 => a.toNat % 16
  | 2 => a.toNat / 16 % 16
  | 3 => bits4 (e.rx.any fun q => !q.2.isEmpty) o.txFull o.ackPend false
  | 4 => bits4 e.exp0 e.exp1 (e.hbAt + 50 ≤ s.now) true
  | 5 => e.doorbell % 16
  | 6 => e.doorbell / 16 % 16
  | 7 => bits4 o.haltReq e.ceSeen (s.peerDown n) e.changed
  | 14 => e.cr % 16
  | 15 => e.cr / 16 % 16
  | _ => if isHob n && g < 12 && (s.owned n).length ≤ g - 8 then 0 else o.groups.getD (g - 8) 0 % 16

/-- LCSR OWNED (R371). -/
def State.ownedWord (s : State) (n : Nat) : Nat :=
  if isHob n then
    let l := s.owned n
    (List.range (min 4 l.length)).foldl (fun w i => w + l.getD i 0 * 2 ^ (5 * i)) 0 + 2 ^ 20 * min 15 l.length
  else (s.roles (n - 16)).foldl (fun w r => w + 2 ^ r) 0

/-- Read a local CSR (R371). -/
def State.lcsrRead (s : State) (n a : Nat) : Nat :=
  let e := s.eng n
  match a with
  | 0 => remaining s.now e.t0
  | 1 => remaining s.now e.t1
  | 2 => s.get (R.ENG_HB_LAST n)
  | 3 => e.doorbell
  | 4 => e.cr
  | 5 => n
  | 6 => e.cycles
  | 7 => s.ownedWord n
  | _ => 0

/-- A count loaded into a timer; 0 stops it. -/
def loadTimer (now v : Nat) : Option (Nat × Nat) := if v = 0 then none else some (v, now)

/-- Write a local CSR (R371, R384). -/
def State.lcsrWrite (n a : Nat) (v : BitVec 64) (s : State) : State :=
  let e := s.eng n
  match a with
  | 0 => s.setEng n { e with t0 := loadTimer s.now (v.toNat % 2 ^ 32), exp0 := false }
  | 1 => s.setEng n { e with t1 := loadTimer s.now (v.toNat % 2 ^ 32), exp1 := false }
  | 2 => (s.setEng n { e with hbAt := s.now }).set (R.ENG_HB_LAST n) s.opSec
  | 3 => s.setEng n { e with doorbell := (BitVec.ofNat 8 e.doorbell &&& ~~~(v.setWidth 8)).toNat }
  | 4 => s.setEng n { e with cr := v.toNat % 256 }
  | _ => s

/-! ## Fetch (R364, R365) -/

/-- The word fetched at an address: redirected by the lowest enabled match register that holds it, else ROM or patch RAM. -/
def Engine.fetch (e : Engine) (n pc : Nat) : Option (BitVec 128) :=
  let hit := (List.range 64).find? fun i => let m := tgetD i 0 e.matches_; m / 2 ^ 31 % 2 = 1 && m % 65536 = pc
  if pc < 0xF800 then
    match e.store n pc, hit with
    | some _, some i => some (tgetD (tgetD i 0 e.matches_ / 65536 % 2048) 0 e.patch)
    | r, _ => r
  else e.store n pc

/-! ## Sequencing (R372, R373) -/

/-- The next address and the stack, or the cause of a fault: 4 overflow of PC, 5 stack. A CALL at the last address has no
PC + 1 to push (log entry 31). -/
def nextAddr (w : BitVec 128) (pc g : Nat) (stack : List Nat) : Except Nat (Nat × List Nat) :=
  let t := Micro.target w
  let m := (BitVec.ofNat 4 g &&& BitVec.ofNat 4 (Micro.cmask w)).toNat
  let j := Nat.lor t m
  let p := pc / 16384 * 16384
  let inc : Except Nat (Nat × List Nat) := if pc = 0xFFFF then .error 4 else .ok (pc + 1, stack)
  let call (a : Nat) : Except Nat (Nat × List Nat) :=
    if pc = 0xFFFF then .error 4 else if 16 ≤ stack.length then .error 5 else .ok (a, (pc + 1) :: stack)
  match Micro.seq w with
  | 1 => .ok (p + j, stack)
  | 2 => .ok (Micro.page w * 16384 + j, stack)
  | 3 => call (p + j)
  | 4 => call (Micro.page w * 16384 + j)
  | 5 => match stack with | a :: r => .ok (a, r) | [] => .error 5
  | 6 => if m != 0 then .ok (p + t, stack) else inc
  | 7 => if m = 0 then .ok (p + t, stack) else inc
  | _ => inc

/-- The least periods of a word (R376). -/
def minPeriods (n : Nat) (w : BitVec 128) : Nat :=
  max (if Micro.loads w then (if isHob n then 2 else 3) else 1)
    (if [0x0A, 0x0B, 0x12].contains (Micro.alu w) then 3 else 1)

/-- The word stalls (R370, R372): WAIT, RECV of an empty queue, FENCE, a full transmit buffer. -/
def State.stalls (s : State) (n : Nat) (w : BitVec 128) (g : Nat) (o : WordObs) : Bool :=
  let p := Micro.port w
  (Micro.seq w = 8 && (BitVec.ofNat 4 g &&& BitVec.ofNat 4 (Micro.cmask w)) = 0) ||
    (p = 2 && (tgetD (Micro.paddr w % 16) [] (s.eng n).rx).isEmpty) || (p = 3 && o.ackPend) ||
    ((p = 1 || p = 5) && o.txFull)

/-! ## The word runs (R367) -/

/-- Transfers that have arrived for the receive queues, 64 entries each (R363). -/
def State.arrive (n : Nat) (l : List (Nat × BitVec 64)) (s : State) : State :=
  s.forAll l fun x t =>
    let e := t.eng n
    let q := tgetD (x.1 % 16) [] e.rx
    if q.length < 64 then t.setEng n { e with rx := tset (x.1 % 16) (q ++ [x.2]) e.rx } else t

/-- What a reading PORT operation brings, and the state after it. -/
def State.portRead (n : Nat) (w : BitVec 128) (a : BitVec 64) (s : State) : BitVec 64 × State :=
  let e := s.eng n
  if Micro.port w = 2 then
    match tgetD (Micro.paddr w % 16) [] e.rx with
    | v :: r => (v, s.setEng n { e with rx := if r.isEmpty then tdel (Micro.paddr w % 16) e.rx else tset (Micro.paddr w % 16) r e.rx })
    | [] => (0, s)
  else if Micro.port w = 4 then
    let adr := (Micro.address w a).toNat
    if inMap adr && adr % 4 = 0 then
      let (r, t) := if h : n < 20 then s.readReg (.engine ⟨n, h⟩) adr else ((0, false), s)
      (BitVec.ofNat 64 r.1, t)
    else (0, s)
  else (BitVec.ofNat 64 (s.lcsrRead n (Micro.paddr w % 256)), s)

/-- SEND, WREG and a writing LCSR (R370, R387): a transfer to the front-end of a slot the engine does not own is dropped and
counted. -/
def State.portWrite (n : Nat) (w : BitVec 128) (a rb : BitVec 64) (o : WordObs) (s : State) : State :=
  if Micro.port w = 1 then
    match o.slotEnd with
    | some i => if s.owner i.val = n then s.send (.transfer n (Micro.paddr w) a) else s.count (R.ENG_COUNT_FOREIGN n) 1
    | none => s.send (.transfer n (Micro.paddr w) a)
  else if Micro.port w = 5 then
    s.setEng n { s.eng n with posted := (s.eng n).posted ++ [((Micro.address w a).toNat, rb.toNat % 2 ^ 32)] }
  else if Micro.port w = 6 && 0x8000 ≤ Micro.paddr w then s.lcsrWrite n (Micro.paddr w % 256) rb
  else s

/-- Periods of a word that has run (R371, R376): CYCLES rises by them, and a stretched word is counted in units of 2¹⁶. -/
def State.spend (n : Nat) (w : BitVec 128) (stall : Nat) (s : State) : State :=
  let e := s.eng n
  let m := minPeriods n w
  let k := e.stretched + (Micro.cyc w + 1 < m : Bool).toNat
  let s1 := s.setEng n { e with cycles := (e.cycles + stall + max (Micro.cyc w + 1) m) % 2 ^ 64, stretched := k % 65536 }
  if k < 65536 then s1 else s1.count (R.ENG_COUNT_STRETCHED n) 1

/-- The data path of a word that neither faults nor stalls (R367): steps 1 to 4. -/
def State.dataPath (n : Nat) (w : BitVec 128) (o : WordObs) (s : State) : State :=
  let e := s.eng n
  let a := tgetD (Micro.srcA w) 0 e.regs
  let rb := tgetD (Micro.srcB w) 0 e.regs
  let r := alu (Micro.alu w) (Micro.shamt w) a (Micro.operandB w rb)
  let adr := (Micro.address w a).toNat
  let (pv, s1) := if Micro.portReads w then s.portRead n w a else (0, s)
  let val := if Micro.loads w then e.load (Micro.mem w) adr else if Micro.portReads w then pv else r.val
  let s2 := if Micro.we w && aluWrites (Micro.alu w) then
      s1.setEng n { s1.eng n with regs := tset (Micro.dst w) val (s1.eng n).regs }
    else s1
  let s3 := if Micro.setf w then
      s2.setEng n { s2.eng n with z := r.val = 0, n := r.val.msb, c := r.c, v := r.v }
    else s2
  let s4 := if Micro.stores w then s3.setEng n ((s3.eng n).poke (Micro.mem w) adr rb) else s3
  s4.portWrite n w a rb o

/-- One microword of an engine (R367): transfers arrive, the word is fetched, and it faults, stalls or executes. -/
def State.runWord (n : Nat) (o : WordObs) (s0 : State) : State :=
  let s := s0.arrive n o.rx
  let e := s.eng n
  let pc := s.get (R.ENG_PC_PC n)
  match e.fetch n pc with
  | none => s.faultEngine n 4
  | some w =>
    if Micro.illegal w then s.faultEngine n 3
    else
      let a := tgetD (Micro.srcA w) 0 e.regs
      let g := s.condGroup n (Micro.cgrp w) a o
      if s.stalls n w g o then s
      else if Micro.mem w != 0 && !memOk n (Micro.mem w) (Micro.address w a).toNat then s.faultEngine n 6
      else
        match nextAddr w pc g e.stack with
        | .error c => s.faultEngine n c
        | .ok (pc', stack) =>
          let s1 := (s.dataPath n w o).spend n w o.stall
          let s2 := ((s1.setEng n { s1.eng n with stack := stack }).set (R.ENG_PC_PC n) pc').set
            (R.ENG_STATUS_DEPTH n) stack.length
          let s3 := if Micro.seq w = 9 then s2.set (R.ENG_STATUS_STATE n) 3 else s2
          let s4 := if o.csCe then s3.engineCe R.ENG_COUNT_CS_CE n else s3
          if o.dmCe && Micro.loads w then s4.engineCe R.ENG_COUNT_DM_CE n else s4

/-- What a stepped word senses of the blocks outside: free values (log entry 1). -/
def State.stepObs (s : State) : WordObs :=
  { rx := [], groups := (List.range 6).map fun i => Config.free (s.fresh + i) % 16, haltReq := false, txFull := false
    ackPend := false, stall := 0, csCe := false, dmCe := false, slotEnd := none }

/-- STEP 1 (R386): one word of a halted engine, which halts again. -/
def State.stepEngine (n : Nat) (s : State) : State :=
  let t := { s.runWord n s.stepObs with fresh := s.fresh + 6 }
  if t.engState n = 4 then t else t.set (R.ENG_STATUS_STATE n) 3

end Sys2Proof.Machine
end

