-- ==== Sys2Proof/Machine/Kindling.lean ====
section
/-! DEFINITION. The kindling card and the Clatchacy image (R427 to R432), patch images (R379, R380), and the rules that judge
several register fields together (R14, R430). -/

namespace Sys2Proof.Machine

/-! ## Rules over several fields (R14) -/

/-- A rule that judges fields of a register together: the fields, and what must hold of their new values. -/
structure Joint where
  fields : List Fld
  ok : State → Bool

/-- The rules that judge the register at an address (R68, R172, R188, R252, R406, R426). -/
def jointsAt (a : Nat) : List Joint :=
  if a = A.STK_HEAT then [⟨[R.STK_HEAT_PROMOTE, R.STK_HEAT_DEMOTE], fun s => s.get R.STK_HEAT_DEMOTE < s.get R.STK_HEAT_PROMOTE⟩]
  else if a = A.STK_BAND then
    [⟨[R.STK_BAND_HIGH, R.STK_BAND_TARGET], fun s => s.get R.STK_BAND_TARGET < s.get R.STK_BAND_HIGH⟩]
  else if a = A.STK_SPEED then
    [⟨[R.STK_SPEED_NOON_ABOVE, R.STK_SPEED_DUSK_BELOW], fun s => s.get R.STK_SPEED_DUSK_BELOW < s.get R.STK_SPEED_NOON_ABOVE⟩]
  else if a = A.AGE_LIMITS then
    [⟨[R.AGE_LIMITS_ASSIST_FLAG, R.AGE_LIMITS_ASSIST_RETIRE],
      fun s => s.get R.AGE_LIMITS_ASSIST_FLAG < s.get R.AGE_LIMITS_ASSIST_RETIRE⟩,
     ⟨[R.AGE_LIMITS_READER_FLAG, R.AGE_LIMITS_READER_RETIRE],
      fun s => s.get R.AGE_LIMITS_READER_FLAG < s.get R.AGE_LIMITS_READER_RETIRE⟩]
  else if a = A.DEC_WATER then
    [⟨[R.DEC_WATER_LOW, R.DEC_WATER_DEFER, R.DEC_WATER_FLOOR], fun s =>
      s.get R.DEC_WATER_LOW ≤ s.get R.DEC_WATER_DEFER && s.get R.DEC_WATER_DEFER ≤ s.get R.DEC_WATER_FLOOR &&
        s.get R.DEC_WATER_FLOOR ≤ 896⟩]
  else (List.range 5).flatMap fun c =>
    (if c < 4 && a = A.DEC_CLASS c then
      [⟨[R.DEC_CLASS_MAX_ITER c, R.DEC_CLASS_FLOOR_ITER c], fun s =>
        1 ≤ s.get (R.DEC_CLASS_FLOOR_ITER c) && s.get (R.DEC_CLASS_FLOOR_ITER c) ≤ s.get (R.DEC_CLASS_MAX_ITER c) &&
          s.get (R.DEC_CLASS_MAX_ITER c) ≤ 40⟩] else []) ++
    (if a = A.THM_LIMIT c then
      [⟨[R.THM_LIMIT_WARN c, R.THM_LIMIT_THROTTLE c, R.THM_LIMIT_SHUTDOWN c, R.THM_LIMIT_HYST c], fun s =>
        s.get (R.THM_LIMIT_WARN c) < s.get (R.THM_LIMIT_THROTTLE c) &&
          s.get (R.THM_LIMIT_THROTTLE c) < s.get (R.THM_LIMIT_SHUTDOWN c)⟩] else [])

/-- The words of a slot's phase-advance table (R68): the slot, for an address of its table. -/
def advSlot (a : Nat) : Option Nat :=
  if 0x100000 ≤ a && a < 0x120000 then
    let i := (a - 0x100000) / 0x1000
    if (List.range 4).any fun k => a = A.SPIN_ADV i k then some i else none
  else none

/-- The speeds of a slot's advance table. -/
def advFields (i : Nat) : List Fld :=
  (List.range 4).flatMap fun k => (layout (A.SPIN_ADV i k)).map (·.fld)

/-- Whether a value may be given to a field on its own (R14, R406): legal, and no threshold above its default. -/
def fieldOk (f : FSpec) (v : Nat) : Bool :=
  f.ok v &&
    (List.range 5).all (fun c =>
      (f.fld != R.THM_LIMIT_WARN c || v ≤ thmWarn c) && (f.fld != R.THM_LIMIT_THROTTLE c || v ≤ thmThrottle c) &&
        (f.fld != R.THM_LIMIT_SHUTDOWN c || v ≤ thmShutdown c))

/-! ## The card (R427, R428) -/

/-- A byte of a card. -/
def cardByte (c : Card) (a : Nat) : Nat := match c.bytes.find? fun e => e.1 = a with | some e => e.2 % 256 | none => 0xFF

/-- Bytes of a card. -/
def cardRead (c : Card) (a n : Nat) : List Nat := (List.range n).map fun i => cardByte c (a + i)

/-- A card is used when its SFDP is valid and its density within 128 Mbit to 2 Gbit (R427). -/
def cardUsable (c : Card) : Bool := c.sfdp && 16 ≤ c.mib && c.mib ≤ 256

/-- A little-endian field of a byte list. -/
def leAt (l : List Nat) (off n : Nat) : Nat := leVal ((l.drop off).take n)

/-- The base of a slot (R428). -/
def slotBase (slot : Nat) : Nat := 0x800000 * slot

/-- A slot record (R428): sequence number and image length, when check 1 of R432 passes. -/
def cardRecord (c : Card) (slot : Nat) : Option (Nat × Nat) :=
  let r := cardRead c (slotBase slot) 32
  if r.take 4 = [0x4B, 0x53, 0x4C, 0x54] && leAt r 4 2 = 1 && leAt r 28 4 = crc32c (r.take 28) then
    some (leAt r 8 4, leAt r 12 4)
  else none

/-! ## The image (R429 to R432) -/

def maxImage : Nat := 8384512

/-- A TLV record: its offset within the record section, type and value (R430). -/
structure KRec where
  off : Nat
  typ : Nat
  val : List Nat

/-- The records of a section; none when a length does not fit it. -/
def parseRecs : Nat → Nat → List Nat → Option (List KRec)
  | 0, _, _ => some []
  | fuel + 1, off, b =>
    if b.isEmpty then some []
    else
      let n := leAt b 2 2
      if b.length < 4 || b.length < 4 + n then none
      else
        let w := 4 + (n + 3) / 4 * 4
        (parseRecs fuel (off + w) (b.drop w)).map fun l => ⟨off, leAt b 0 2, (b.drop 4).take n⟩ :: l

/-- A section of an image: offset and length from a header field. -/
def section_ (img : List Nat) (at_ : Nat) : Nat × Nat := (leAt img at_ 4, leAt img (at_ + 4) 4)

/-- The records of an image. -/
def imageRecs (img : List Nat) : Option (List KRec) :=
  let (o, n) := section_ img 20
  parseRecs (n + 1) 0 ((img.drop o).take n)

/-- A patch section of a class: none when its length is 0. -/
def patchOf (img : List Nat) (cls : Nat) : Option (List Nat) :=
  let (o, n) := section_ img (28 + 8 * cls)
  if n = 0 then none else some ((img.drop o).take n)

/-- The GROUP records (R430). -/
def groupRecs (l : List KRec) : List KGroup :=
  (l.filter fun r => r.typ = 3 && r.val.length = 12).map fun r =>
    ⟨r.val.getD 0 0, r.val.getD 1 0, r.val.getD 2 0, leAt r.val 4 4, leAt r.val 8 4⟩

/-- Slots of a mask, ascending. -/
def maskSlots (m : Nat) : List Nat := (List.range 32).filter m.testBit

/-- R431: no group twice, no overlapping masks, at least 5 slots, and a valid default layout (R254). -/
def groupsOk : List KGroup → Bool
  | [] => true
  | g :: l =>
    let h := (maskSlots g.mask).length
    g.group < 4 && 5 ≤ h && 4 ≤ g.k && g.k ≤ 24 && 1 ≤ g.p && g.p ≤ 3 && g.k + g.p ≤ h &&
      l.all (fun x => x.group != g.group && (maskSlots x.mask).all fun i => !g.mask.testBit i) && groupsOk l

/-- Two sections overlap. -/
def overlap (a b : Nat × Nat) : Bool := a.1 < b.1 + b.2 && b.1 < a.1 + a.2

/-- Check 7 of R432. -/
def sectionsOk (img : List Nat) (L : Nat) : Bool :=
  let ss := ([20, 28, 36].map (section_ img)).filter fun x => x.2 != 0
  ss.all (fun x => x.1 % 16 = 0 && 64 ≤ x.1 && x.1 + x.2 ≤ L - 100) &&
    match ss with
    | [a, b, c] => !overlap a b && !overlap a c && !overlap b c
    | [a, b] => !overlap a b
    | _ => true

/-- Checks 2 to 9 of R432 on an image: the first that fails, 0 for none. `len` is the slot record's image length. -/
def imageCheck (img : List Nat) (len : Nat) : Nat :=
  let L := leAt img 16 4
  if !(img.take 4 = [0x43, 0x4C, 0x41, 0x54] && leAt img 4 2 = 1) then 2
  else if !(L = len && 164 ≤ L && L ≤ maxImage) then 3
  else if leAt img (L - 100) 4 != crc32c (img.take (L - 100)) then 4
  else if 2 ≤ leAt img 6 1 then 5
  else if !Config.sigOk (leAt img 6 1) (img.take (L - 96)) ((img.drop (L - 96)).take 96) then 6
  else if !sectionsOk img L then 7
  else match imageRecs img with
    | none => 8
    | some l =>
      if (l.any fun r => 0x8000 ≤ r.typ) || !groupsOk (groupRecs l) then 8
      else if [0, 1].any fun c => (patchOf img c).any fun p => leAt p 6 1 != c then 9
      else 0

/-- The image of a slot. -/
def cardImage (c : Card) (slot len : Nat) : List Nat := cardRead c (slotBase slot + 0x1000) (min len maxImage)

/-- A slot is tried (R432): the first check that fails, 0 when it passes. -/
def cardTry (c : Card) (slot : Nat) : Nat :=
  match cardRecord c slot with
  | none => 1
  | some (_, len) => imageCheck (cardImage c slot len) len

/-- The slot tried first: the one of the higher valid sequence number (R432), A when neither is higher. -/
def cardFirst (c : Card) : Nat :=
  match cardRecord c 0, cardRecord c 1 with
  | some a, some b => if a.1 < b.1 then 1 else 0
  | none, some _ => 1
  | _, _ => 0

/-! ## Patches (R379, R380) -/

/-- Words in a class's mask ROM (R364). -/
def romWords (cls : Nat) : Nat := if cls = 0 then 16384 else 32768

/-- Match entries of a patch image, in the format of R377: ROM address [15:0], patch address [26:16], enable [31]. -/
def matchEntries (p : List Nat) : List Nat :=
  let w := leAt p 12 2
  (List.range (leAt p 14 1)).map fun j => leAt p (16 + 16 * w + 4 * j) 4

/-- No two entries alike. -/
def distinct : List Nat → Bool
  | [] => true
  | a :: l => !l.contains a && distinct l

/-- Checks 1 to 8 of R380 on a patch image of a class: the first that fails, 0 for none. -/
def State.patchCheck (s : State) (p : List Nat) (cls : Nat) : Nat :=
  let w := leAt p 12 2
  let m := leAt p 14 1
  let es := matchEntries p
  let body := 16 + 16 * w + 4 * m
  if !(p.take 4 = [0x50, 0x54, 0x43, 0x48] && leAt p 4 2 = 1 && leAt p 6 1 = cls) then 1
  else if 2 ≤ leAt p 7 1 then 2
  else if leAt p 10 2 != s.get (if cls = 0 then R.ENG_VER_HOB_ROM_VER else R.ENG_VER_FLUE_ROM_VER) then 3
  else if 2048 < w || 64 < m then 4
  else if es.any fun e => romWords cls ≤ e % 2 ^ 16 then 5
  else if es.any fun e => w ≤ e / 2 ^ 16 % 2 ^ 11 then 6
  else if !distinct (es.map fun e => e % 2 ^ 16) then 7
  else if !Config.sigOk (leAt p 7 1) (p.take body) ((p.drop body).take 96) then 8
  else 0

/-- Engines of a class. -/
def classEngines (cls : Nat) : List Nat := if cls = 0 then List.range 16 else (List.range 4).map (16 + ·)

/-- Patch RAM and match registers of every engine of a class. -/
def State.setPatch (cls : Nat) (words : Tbl (BitVec 128)) (ms : Tbl Nat) (ver : Nat) (ok : Bool) (s : State) : State :=
  let s1 := s.forAll (classEngines cls) fun n t =>
    (t.setEng n { t.eng n with patch := words, matches_ := ms }).setB (R.ENG_STATUS_PATCH_VERIFIED n) ok
  s1.set (if cls = 0 then R.ENG_VER_HOB_PATCH_VER else R.ENG_VER_FLUE_PATCH_VER) ver

/-- PATCH_LOAD (R380): a class's patch image is checked and loaded into its engines, or rejected; a class with none runs
from ROM. -/
def State.loadPatch (img : List Nat) (cls : Nat) (s : State) : State :=
  match patchOf img cls with
  | none => s.setPatch cls [] [] 0 false
  | some p =>
    let f := s.patchCheck p cls
    if f = 0 then
      let w := leAt p 12 2
      let words : Tbl (BitVec 128) := (List.range w).foldl (fun t i => putWord i (BitVec.ofNat 128 (leAt p (16 + 16 * i) 16)) t) []
      let es := matchEntries p
      s.setPatch cls words ((List.range es.length).map fun j => (j, es.getD j 0)) (leAt p 8 2) true
    else (s.setPatch cls [] [] 0 false).event Ev.PATCH_REJECTED (origin 0 0) cls f 0 0

/-! ## Applying records (R430) -/

/-- The fields a masked word gives, in place of their present values. -/
def State.maskedFields (s : State) (a mask v : Nat) : List (FSpec × Nat) :=
  ((layout a).filter fun f => f.fld.of mask != 0).map fun f =>
    let m := f.fld.of mask
    let old := s.get f.fld
    (f, (List.range f.fld.w).foldl (fun x b => if (if m.testBit b then (f.fld.of v).testBit b else old.testBit b) then x + 2 ^ b else x) 0)

/-- Bits of a register that lie in fields an image may set. -/
def kindledMask (a : Nat) : Nat :=
  (layout a).foldl (fun w f => if f.keeps = .k && f.acc = .rw then w + (2 ^ f.fld.w - 1) * 2 ^ f.fld.lo else w) 0

/-- A masked word is refused (R430): a 1 where no kindled field lies, or a value refused on its own. -/
def State.wordRefused (s : State) (a mask v : Nat) : Bool :=
  ((List.range 32).any fun b => mask.testBit b && v.testBit b && !(kindledMask a).testBit b) ||
    (s.maskedFields a mask v).any fun x => x.1.keeps = .k && x.1.acc = .rw && !fieldOk x.1 x.2

/-- A masked word takes effect on the kindled fields. -/
def State.applyMasked (a mask v : Nat) (s : State) : State :=
  s.forAll ((s.maskedFields a mask v).filter fun x => x.1.keeps = .k && x.1.acc = .rw) fun x t => t.set x.1.fld x.2

/-- Words a REG or REG_BLOCK record writes: address, mask and value; none when its value is not of the size its type states. -/
def KRec.words (r : KRec) : Option (List (Nat × Nat × Nat)) :=
  if r.typ = 1 then
    (if r.val.length = 12 && leAt r.val 0 4 % 4 = 0 then some [(leAt r.val 0 4, leAt r.val 4 4, leAt r.val 8 4)] else none)
  else
    let n := leAt r.val 4 4
    if 1 ≤ n && n ≤ 2048 && r.val.length = 8 + 4 * n && leAt r.val 0 4 % 4 = 0 then
      some ((List.range n).map fun i => (leAt r.val 0 4 + 4 * i, 0xFFFFFFFF, leAt r.val (8 + 4 * i) 4))
    else none

/-- How far the records of an image have been applied: the state, the records applied, the offsets of those refused, and
the fields each record wrote, newest first. -/
structure Loading where
  s : State
  applied : Nat := 0
  ignored : Nat := 0
  refused : List Nat := []
  wrote : List (Nat × List Fld) := []

/-- One record (R430). A refused record changes nothing. -/
def Loading.rec_ (x : Loading) (r : KRec) : Loading :=
  if r.typ = 1 || r.typ = 2 then
    match r.words with
    | none => { x with refused := x.refused ++ [r.off] }
    | some ws =>
      let go := ws.foldl (fun (o : Option State) w =>
        o.bind fun t => if t.wordRefused w.1 w.2.1 w.2.2 then none else some (t.applyMasked w.1 w.2.1 w.2.2)) (some x.s)
      match go with
      | none => { x with refused := x.refused ++ [r.off] }
      | some t => { x with
          s := t, applied := x.applied + 1
          wrote := (r.off, ws.flatMap fun w =>
            ((x.s.maskedFields w.1 w.2.1 w.2.2).filter fun y => y.1.keeps = .k && y.1.acc = .rw).map fun y => y.1.fld) :: x.wrote }
  else if r.typ = 3 then
    (if r.val.length = 12 then { x with applied := x.applied + 1 } else { x with refused := x.refused ++ [r.off] })
  else if r.typ = 4 then
    if 1 ≤ r.val.length && r.val.length ≤ 64 then
      { x with s := { x.s with knd := { x.s.knd with sysName := r.val } }, applied := x.applied + 1 }
    else { x with refused := x.refused ++ [r.off] }
  else if r.typ = 5 then x
  else { x with ignored := x.ignored + 1 }

/-- A rule over several fields, judged after the last record (R430): where it fails its fields return to ROM reset, and the
last record that wrote one of them counts refused. -/
def Loading.judge (x : Loading) (fs : List Fld) (ok : Bool) : Loading :=
  if ok then x
  else { x with
    s := x.s.forAll fs fun f t => t.set f f.rst
    refused := x.refused ++ (match x.wrote.find? fun w => w.2.any fs.contains with | some w => [w.1] | none => []) }

/-- Registers judged by a rule over several fields. -/
def jointAddrs : List Nat :=
  [A.STK_HEAT, A.STK_BAND, A.STK_SPEED, A.AGE_LIMITS, A.DEC_WATER] ++ (List.range 4).map A.DEC_CLASS ++ (List.range 5).map A.THM_LIMIT

/-- The records of an image are applied over ROM reset values (R430). -/
def State.applyRecords (l : List KRec) (s : State) : State :=
  let x := l.foldl Loading.rec_ { s := s }
  let y := jointAddrs.foldl (fun z a => (jointsAt a).foldl (fun z j => z.judge j.fields (j.ok z.s)) z) x
  let z := (List.range 32).foldl (fun z i => z.judge (advFields i) (z.s.advRises i)) y
  let s1 := (z.s.set R.KND_RECORDS_APPLIED (min z.applied 65535)).set R.KND_RECORDS_REFUSED (min (z.refused.length + z.ignored) 65535)
  s1.forAll z.refused fun off t => t.event Ev.KINDLING_RECORD_REFUSED (origin 0 0) 0 0 off 0

/-- KINDLING_LOAD (R432, R435 steps 3 and 4): the card's slots are tried; the image in force, or none, with the failures of
the slots. -/
def State.kindle (s : State) : Option (List Nat) × State :=
  match s.knd.card with
  | some c =>
    if !s.mgmtOk || !cardUsable c then (none, s)
    else
      let s1 := (((s.set R.KND_STATUS_CARD_PRESENT 1).set R.KND_CARD_SIZE_MIB c.mib).set R.KND_CARD_MODE c.mode).setB
        R.KND_CARD_ADDR4 c.addr4
      let a := cardFirst c
      let b := 1 - a
      let fa := cardTry c a
      let slot := if fa = 0 then a else b
      let s2 := s1.set R.KND_STATUS_LAST_FAIL fa
      if fa = 0 || cardTry c b = 0 then
        match cardRecord c slot with
        | none => (none, s2)
        | some (seq, len) =>
          let img := cardImage c slot len
          let s3 := ((((s2.set R.KND_STATUS_STATE 1).set R.KND_STATUS_ACTIVE_SLOT slot).setB R.KND_STATUS_FALLBACK (fa != 0)).set
            R.KND_IMAGE_VERSION (leAt img 8 4)).set R.KND_SEQ_SEQ seq
          let s4 := if fa != 0 then s3.event Ev.KINDLING_FALLBACK (origin 0 0) else s3
          let recs := (imageRecs img).getD []
          let s5 := ({ s4 with knd := { s4.knd with groups := groupRecs recs, sysName := [] } }).applyRecords recs
          (some img, s5.event Ev.KINDLING_LOADED (origin 0 0))
      else (none, s2)
  | none => (none, s)

/-- The failures of the two slots, for UNLIT (R434): 0 with no card. -/
def State.slotFails (s : State) : Nat × Nat :=
  match s.knd.card with
  | some c => if s.mgmtOk && cardUsable c then (cardTry c 0, cardTry c 1) else (0, 0)
  | none => (0, 0)

end Sys2Proof.Machine
end

