-- ==== Sys2Proof/Machine/Start.lean ====
section
/-! DEFINITION. Starts and resets (R401 to R404, R434 to R441): what each reset keeps, the start sequence, re-lighting, the
stripe-journal resync, rekindle, port reset, and the return of the supply (R395). -/

namespace Sys2Proof.Machine

/-- The module sends CLOSE with a reason to every session (R295). -/
def State.closeSessions (reason : Nat) (s : State) : State :=
  s.forAll s.sessions fun e t =>
    t.sendFor e.1 ((e.2.paths.findIdx? fun p => p.up).getD 0) (.ctrl 5 reason 0 0 0 0)

/-! ## What a reset keeps (R17, R440) -/

/-- Kinds of start, as ST_START.KIND shows them (R450). -/
abbrev Kind.cold : Nat := 0
abbrev Kind.brownOut : Nat := 1
abbrev Kind.reset : Nat := 2
abbrev Kind.rekindle : Nat := 3

/-- Whether a kind of start keeps a field of a survival class (R17, R440). -/
def keeps (kind : Nat) : Keeps → Bool
  | .p => true
  | .none => true
  | .k => kind = Kind.reset
  | .s => kind = Kind.reset || kind = Kind.rekindle
  | .v => false

/-- An island after a reset: retired ones stay out of service, and what R26 and R27 hold until the next cold start stays. -/
def IslandSt.after (cold : Bool) (x : IslandSt) : IslandSt :=
  let held := x.state = 2 || (x.state = 1 && !cold)
  { state := if held then x.state else 0, locked := !held || x.locked, stalls := 0, cause := x.cause
    synSpent := x.synSpent && !cold, bridgeSpent := x.bridgeSpent && !cold }

/-- What a slot keeps: its retirements, and the position of the HDA it held. -/
def SlotSt.after (x : SlotSt) : SlotSt :=
  { cableRetired := x.cableRetired, frontRetired := x.frontRetired, idFailed := x.idFailed, pos := x.pos }

/-- What an engine keeps at a module reset: its patch RAM and match registers. -/
def Engine.after (x : Engine) : Engine := { patch := x.patch, matches_ := x.matches_ }

/-- What a thermal zone keeps: its shutdowns of the last 24 h. -/
def ThermZone.after (x : ThermZone) : ThermZone := { shutAt := x.shutAt }

/-- An extent after a loss of DRAM: no copy runs, so that MOVING is what it was before, and PENDING means UNMAPPED again. -/
def Extent.after (x : Extent) : Extent :=
  { x with
    st := if x.st = 1 then 0 else if x.st = 5 then (match x.copying with | some c => c.before | none => 3) else x.st
    copying := none
    fine := x.fine.map fun f => if f.st = 1 then noGranule else f }

/-- The module right after a reset of a kind, with what R440 keeps. Pins take their states of R62. -/
def State.wipe (kind : Nat) (s : State) : State :=
  let cold := kind = Kind.cold
  let keepK := kind = Kind.reset
  { State.reset with
    opSub := if cold then 0 else s.opSub
    opSec := if cold then s.vault.savedOpSec else s.opSec
    pcycle := s.pcycle
    fresh := s.fresh
    flds := s.flds.filter fun e => keeps kind (keepsOf e.1)
    rcd := { s.rcd with fixBuf := [], varBuf := [], tokens := [], suppressed := [], flushing := false }
    ledger := s.ledger, ledgerFull := s.ledgerFull
    islands := (List.range 75).foldl (fun t i => tset i ((s.island i).after cold) t) []
    vault := { s.vault with faulted := s.vault.faulted && !cold }
    pins := { modResetLow := s.pins.modResetLow, latchReleased := s.pins.latchReleased, attnRetired := s.pins.attnRetired
              attnFeed := if cold then [] else s.pins.attnFeed, attnReleased := true, fanReleased := true, linksReleased := true }
    slots := s.slots.map fun e => (e.1, e.2.after)
    mems := s.mems.map fun e => (e.1, { e.2 with fences := [] })
    groups := s.groups, voids := s.voids, outs := s.outs, pending := s.pending
    vols := s.dropKeys.vols
    exts := (s.exts.map fun e => (e.1, e.2.after)).filter fun e => e.2.st != 0
    shadows := s.shadows.map fun e => (e.1, e.2.after)
    zsets := s.zsets, brows := s.brows, excs := s.excs, stores := s.stores, media := s.media
    jn := { s.jn with durable := s.jn.seq }
    stk := { epochAt := s.stk.epochAt, scrubAt := s.stk.scrubAt, nextRow := s.stk.nextRow, zgen := s.stk.zgen }
    bops := s.bops
    stripe := { s.stripe with asked := [] }
    lost := s.lost
    addrs := if keepK then s.addrs else []
    cache := { lost := s.cache.lost }
    engs := if keepK then s.engs.map (fun e => (e.1, e.2.after)) else []
    pow := { feedRetired := if cold then [] else s.pow.feedRetired
             lostFeeds := if cold then [] else s.pow.lostFeeds, bank := s.pow.bank }
    thm := { zones := if cold then [] else s.thm.zones.map fun e => (e.1, e.2.after) }
    cal := { zoneAt := s.cal.zoneAt, spread := s.cal.spread, ages := s.cal.ages, margins := s.cal.margins }
    knd := { card := s.knd.card, buf := if kind = Kind.rekindle then s.knd.buf else []
             groups := if keepK then s.knd.groups else [], sysName := if keepK then s.knd.sysName else [] } }

/-! ## The recorder at a start (R470, R472) -/

/-- Banked records are appended, with RELIT set, as soon as the vault is read; once (R472). -/
def State.appendBanked (tailBad : Bool) (s : State) : State :=
  let st := s.get R.PWR_BANK_STATE
  if s.rcd.bankAppended || !(st = 2 || (st = 1 && !tailBad)) then s
  else
    let b := s.pow.bank
    let r1 := b.fix.foldl (fun r e => r.appendFix s.stamp { e with relit := true }) s.rcd
    let r2 := b.var.foldl (fun r e => r.appendVar s.stamp e) r1
    { s with rcd := { r2 with bankAppended := true } }

/-- The sequence number resumes one above the higher of its saved value and the highest number in either region (R470). -/
def State.resumeSeq (s : State) : State :=
  let r := s.rcd
  let hi := (r.fixReg.map (·.seq) ++ r.varReg.map (·.seq)).foldl max r.savedSeq
  { s with rcd := { r with seq := hi + 1 } }

/-- The ledger's copies are read when the vault's is not readable (R455): the one with the most entries. -/
def State.readLedger (bad : Bool) (s : State) : State :=
  if bad then
    { s with ledger := (s.stores.map fun e => e.2.rets).foldl (fun (a b : List LedgerEntry) => if a.length < b.length then b else a) [] }
  else s

/-- Entries held by an HDA that is no longer in its slot are not ACTIVE (R456). -/
def State.matchLedger (s : State) : State :=
  { s with ledger := s.ledger.map fun e =>
      if e.active && e.hdaHeld && e.serial != s.serialOf e.kind e.index then { e with active := false } else e }

/-! ## Elements at a start -/

/-- The feeds present at a start (R391, R392). -/
def State.startFeeds (feeds : List Nat) (s : State) : State :=
  s.forAll [0, 1] fun f t => t.setB (feedFld f) (feeds.contains f && !t.pow.feedRetired.contains f)

/-- R399: the hold-up limit in units of 128 MiB, from the capacitance in 10 µF. -/
def holdLimit (cap : Nat) : Nat := min 255 ((3135 * cap - 443000) * 20000 / 2 ^ 27)

/-- The hold-up capacitance is measured (R399). -/
def State.holdUp (cap : Nat) (s : State) : State :=
  let s1 := (s.set R.PWR_HOLDUP_CAP (min cap 4095)).set R.PWR_HOLDUP_HOLD_LIMIT (holdLimit cap)
  if holdLimit cap < 128 then (s1.set R.PWR_STATUS_HOLDUP_LOW 1).event Ev.HOLDUP_LOW (origin 0 0) else s1

/-- Durations of the self-tests of R442 by kind, ms. -/
def testMs (kind : Nat) : Nat := [40, 10, 30, 40, 250, 5, 20000].getD kind 0

/-- A block passed its test at a start (R444, R450). -/
def State.testRun (kind i res : Nat) (reached : Bool) (s : State) : State :=
  let x : TestRes :=
    { result := res, reached := reached, match_ := res = 1, runs := 1, ms := testMs kind, opSec := s.opSec }
  s.modTst fun t => { t with results := tset (1024 * kind + i) x t.results }

/-- A block does not pass its test at a start (R444, R445): FAIL retires it, INCOMPLETE keeps it fenced. -/
def State.startBad (b : BistBad) (s : State) : State :=
  let k := b.kind.val
  let s1 := s.testRun k b.index (if b.reached then 2 else 3) b.reached
  if k = 6 then
    (if b.reached then ((s1.event Ev.SELFTEST_FAIL (origin 7 b.index)).count R.ST_STATUS_FAILS 1).retirePkg b.index Ev.SELFTEST_FAIL
     else s1.event Ev.SELFTEST_INCOMPLETE (origin 7 b.index))
  else if b.reached then
    let t := s1.failBlock k b.index
    if k = 2 then t.adopt b.index else if k = 3 then t.moveRoles b.index else t
  else
    let s2 := (s1.fenceBlock k b.index).event Ev.SELFTEST_INCOMPLETE (testOrigin k b.index)
    s2.modTst fun t => { t with retest := t.retest ++ [(k, b.index, s.opSec)] }

/-- The self-tests of a start (R442): every block that is not retired, DRAM not at a rekindle. Heads are tested in bring-up. -/
def State.startTests (kind : Nat) (bad : List BistBad) (s : State) : State :=
  let kinds := if kind = Kind.rekindle then [0, 1, 2, 3, 4] else [0, 1, 2, 3, 4, 6]
  let blocks (k : Nat) : Nat := if k = 6 then 16 else testBlocks k
  let out (t : State) (k i : Nat) : Bool := if k = 6 then (t.get R.DRAM_STATUS_RETIRED).testBit i else t.testRetired k i
  let mine := bad.filter fun b => kinds.contains b.kind.val && b.index < blocks b.kind.val && !out s b.kind.val b.index
  let s1 := s.forAll kinds fun k t =>
    t.forAll ((List.range (blocks k)).filter fun i => !out s k i && !mine.any fun b => b.kind.val = k && b.index = i)
      fun i u => u.testRun k i 1 true
  s1.forAll mine State.startBad

/-- Engines run, but those the ledger holds retired; their slots and roles move (R31, R36, R461). -/
def State.startEngines (s : State) : State :=
  let gone (n : Nat) : Bool := s.ledger.any fun e => e.active && e.kind = 4 && e.index = n
  let s1 := s.forAll (List.range 20) fun n t => t.set (R.ENG_STATUS_STATE n) (if gone n then 4 else 1)
    |>.when (gone n) fun u => u.setIsland (53 + n) { u.island (53 + n) with state := 2 }
  (s1.forAll ((List.range 16).filter gone) State.adopt).forAll ((List.range 4).filter fun f => gone (16 + f)) State.moveRoles

/-- DRAM packages and ways in service are those not retired. -/
def State.startDram (s : State) : State :=
  let live := maskOf ((List.range 16).filter fun d => !(s.get R.DRAM_STATUS_RETIRED).testBit d)
  (s.set R.DRAM_STATUS_IN_SERVICE live).set R.CACHE_STATUS_WAYS live

/-- The map segments of packages out of service are rebuilt into the reserves of the others (R245, R360). -/
def State.homeSegments (s : State) : State :=
  if s.cache.lost.isEmpty then s else s.forAll ((List.range 4096).filter fun k => s.cache.lost.contains (k % 16)) State.placeSegment

/-- Bits of registers that show what the map and the ledgers hold. -/
def State.startShown (s : State) : State :=
  ((s.setB R.RED_STATUS_RESHAPE (s.vols.any fun v => v.2.reshape.isSome)).setB R.RED_STATUS_REBUILD
    (s.stores.any fun e => e.2.rebuild = 2 || e.2.rebuild = 4)).setB R.RED_STATUS_LEDGER_FULL (2097152 ≤ s.lost.length)

/-- The active copy of a damper loop takes the shadow's kindled or kept values where they differ from ROM (R125). -/
def State.kindledLoops (s : State) : State :=
  s.forAll (List.range 800) fun l t => if t.shadow l = romLoop l then t else t.setLoop l { t.loop l with active := some (t.shadow l) }

/-! ## Groups at first format (R253, R431) -/

/-- A group formed from slots, with the serial numbers of those present. -/
def formGroup (slots : List (Nat × List Nat)) (ids : List Nat) (seed k p : Nat) : GroupSt :=
  { h := ids.length, seed := seed, k := k, p := p
    serials := (List.range ids.length).filterMap fun q =>
      (slots.find? fun e => e.1 = ids.getD q 32).map fun e => (q, e.2) }

/-- Groups are formed when HDAs are first formatted: from the GROUP records, or one group of every slot present. A record
that differs from the group on the media is ignored with its event. -/
def State.formGroups (slots : List (Nat × List Nat)) (s : State) : State :=
  let form (g : Nat) (x : GroupSt) (t : State) : State := t.putGroup g x
  if s.knd.groups.isEmpty then
    let ids := (List.range 32).filter fun i => slots.any fun e => e.1 = i
    let h := ids.length
    let p := if 7 ≤ h then 3 else 1
    if s.groups.isEmpty && 5 ≤ h then form 0 (formGroup slots ids (crc32c s.mySerial) (min 16 (h - p)) p) s else s
  else s.forAll s.knd.groups fun r t =>
    let ids := maskSlots r.mask
    match tget r.group t.groups with
    | none => form r.group (formGroup slots ids r.seed r.k r.p) t
    | some x =>
      if x.k = r.k && x.p = r.p && x.seed = r.seed && x.h = ids.length then t else t.event Ev.KINDLING_GROUP_IGNORED (origin 0 0)

/-- The members of positions just formed hold nothing. -/
def State.emptyNew (old : State) (i : Nat) (s : State) : State :=
  match (s.slot i).pos with
  | some (g, _) =>
    if (tget g old.groups).isSome then s
    else s.forAll [2 * i, 2 * i + 1] fun m t => t.setMem m { t.mem m with empty := true }
  | none => s

/-- A position whose slot another HDA or none now holds is lost with both its members (R275), unless a slot holds it. -/
def State.loseMoved (i : Nat) (pos : Option (Nat × Nat)) (s : State) : State :=
  match pos with
  | some (g, p) =>
    if ((List.range 32).any fun j => j != i && s.get (R.SLOT_STATUS_STATE j) = 4 && (s.slot j).pos = some (g, p)) then s
    else s.forAll [0, 1] fun a t => match tget (storeKey g (2 * p + a)) t.stores with
      | some x => if x.lostAt = 0 then
          t.setStore g (2 * p + a) { x with lostAt := t.opSec + 1, lostM := 2 * i + a, marked := (t.mem (2 * i + a)).rebuild } else t
      | none => t
  | none => s

/-- Bring-up of the slots present (R435 step 8); a position whose HDA does not come back loses its members. -/
def State.startSlots (slots : List (Slot × Hda × Meas)) (turning : List Nat) (s : State) : State :=
  let was := s.slots
  let s1 := (s.formGroups (slots.map fun e => (e.1.val, e.2.1.factory.serial))).forAll
    ((List.range 32).filter fun i => (s.slot i).cableRetired) fun i t => t.set (R.SLOT_STATUS_STATE i) 7
  let s2 := s1.forAll slots fun e t => slotInsertion e.1.val e.2.1 e.2.2 t
  let s3 := s2.forAll (List.range 32) (State.emptyNew s)
  let s4 := s3.forAll ((List.range 32).filter fun i => (tgetD i ({} : SlotSt) was).pos.isSome &&
      !(s3.get (R.SLOT_STATUS_STATE i) = 4 && (s3.slot i).pos = (tgetD i ({} : SlotSt) was).pos)) fun i t =>
    let u := if t.get (R.SLOT_STATUS_STATE i) = 4 then t
      else ((t.loseMember (2 * i)).loseMember (2 * i + 1)).setSlot i { t.slot i with pos := none }
    u.loseMoved i (tgetD i ({} : SlotSt) was).pos
  s4.forAll (turning.filter fun i => s4.get (R.SLOT_STATUS_STATE i) = 4 && s4.get (R.SPIN_CTRL_SETPOINT i) != 0) fun i t =>
    let u := t.startSense i
    u.setSpin i { u.spin i with recoverSense := true }

/-! ## Re-lighting (R403, R404) -/

/-- A banked block with no good unit: written LOST to its placement and entered in the ledger with cause 4. -/
def State.loseBanked (key : Nat) (s : State) : State :=
  let v := key / 2 ^ 41
  let lba := key % 2 ^ 41
  let pl := s.find v lba
  let s1 := match pl with
    | some p => s.putMedium p (s.sealed p.row p.col (s.rowGen p.row) 0 (zeroTuple v lba) false true)
    | none => s
  s1.loseBlocks v lba 1 4 (pl.elim 0xFFFFFFFF (·.row)) (pl.elim 0 (·.col))

/-- A banked block goes into the cache or acknowledged staging. -/
def State.relightBlock (key : Nat) (x : Block × Pi) (s : State) : State :=
  let v := key / 2 ^ 41
  let lba := key % 2 ^ 41
  ((s.pendExtent v (lba / 256)).pendGranule v (lba / 256) (lba % 256 / 32)).commitBlock v lba x

/-- RELIT (R403, R404): a COMPLETE bank, or one found WRITING as far as its units are good, is put back; another is
discarded. -/
def State.relight (bankBad : List Nat) (s : State) : State :=
  let st := s.get R.PWR_BANK_STATE
  if st = 1 || st = 2 then
    let bad := if st = 1 then bankBad.filter s.pow.bank.lists else []
    let good := s.pow.bank.blocks.filter fun e => !bad.contains e.1
    let ms := s.freeNat 65536
    let s1 := s.bump.forAll good fun e t => t.relightBlock e.1 e.2
    let s2 := s1.forAll bad State.loseBanked
    let s3 := if st = 1 then (s2.event Ev.BANK_INCOMPLETE (origin 0 0) 0 0 bad.length 0).set R.PWR_BANK_INCOMPLETE 1 else s2
    let s4 := (s3.event Ev.RELIT (origin 0 0) (bankMib good) ms 0 0).set R.PWR_BANK_TIME_RELIGHT_MS ms
    (s4.set R.PWR_BANK_STATE 5).modPow fun p => { p with bank := {} }
  else (s.set R.PWR_BANK_STATE 0).modPow fun p => { p with bank := {} }

/-- The cache at a start (R356): INVALIDATE-ALL, then On, so that the banked blocks go into it. -/
def State.startCache (s : State) : State := (s.invalidateAll.cacheState 0 true).cacheEnable.2

/-- With EN 0 the cache then passes through Draining to Off (R356). -/
def State.startCacheEn (s : State) : State := if s.bit R.CACHE_CTRL_EN then s else s.cacheDisable

/-! ## The stripe-journal resync (R273, R274) -/

/-- The row of an OPEN record is resynced over its range; a zone row not committed is void (R274). -/
def State.resyncRow (torn : List (Nat × Nat × Nat)) (r : OpenRec) (s : State) : State :=
  let s1 := if !isBand r.row then s
    else match s.bops.find? (fun o => o.row = r.row && o.granted), tget (bandIx r.row) s.brows with
    | some o, some b => s.resyncOp o b false torn ((List.range r.count).map (r.first + ·))
    | _, _ => s
  (s1.closeRecord r.row).count R.RED_RESYNCED_ROWS 1

/-- Nothing is open in the stripe journal any more, and no row write is under way. -/
def State.endOpen (s : State) : State := { s with bops := [], stripe := { s.stripe with opened := [], held := [], recent := [], intent := [] } }

/-- START_RESYNC (R273): the rows with an OPEN record in the first readable source: the re-lit DRAM twin or the vault, which hold every
record; a member copy, which holds those of its last batch, with every band row of a region whose intent bit is set; with none,
FULL_RESYNC, and every band row is resynced by background work or before it is used. -/
def State.startResync (twin vaultOk : Bool) (torn : List (Nat × Nat × Nat)) (s : State) : State :=
  let ops := s.bops.filter (·.granted)
  if twin || vaultOk then (s.forAll s.stripe.opened (State.resyncRow torn)).endOpen
  else if s.stripe.copies.any s.serves then
    let s1 := s.forAll s.stripe.held (State.resyncRow torn)
    let rows := (s.brows.map fun b => 2 ^ 31 + b.1).filter fun r => s.stripe.intent.contains (s.regionOf r) && !s.stripe.held.any (·.row = r)
    (s1.forAll rows (State.resyncBare ops torn)).endOpen
  else
    let rows := s.brows.map fun b => 2 ^ 31 + b.1
    let s1 := ({ s.endOpen with stripe := { s.endOpen.stripe with
      unsynced := rows, unsyncedOf := rows.length, cut := ops, torn := torn } }).event Ev.FULL_RESYNC (origin 0 0)
    if rows.isEmpty then s1 else s1.set R.RED_STATUS_FULL_RESYNC 1

/-! ## The start sequence (R435) -/

/-- Host service begins (R435 step 13). -/
def State.beginService (ms : Nat) (s : State) : State :=
  (((s.set R.GLB_STATUS_STATE 0).set R.GLB_STATUS_SERVICE 1).set R.ST_START_HOST_MS (min ms (2 ^ 20 - 1))).event
    Ev.START_COMPLETE (origin 0 0)

/-- The Unlit state (R434): ROM values, no patches, no bring-up; rails low; the bank is kept and its recorder buffers are
appended. -/
def State.goUnlit (obs : StartObs) (kind : Nat) (s : State) : State :=
  let f := s.slotFails
  let s1 := (((s.set R.KND_STATUS_STATE 2).set R.GLB_STATUS_STATE 2).event Ev.UNLIT (origin 0 0) f.1 f.2 0 0)
  let s2 := (((s1.setPatch 0 [] [] 0 false).setPatch 1 [] [] 0 false).startDram.startTests kind (obs.bist.filter fun b => b.kind.val != 4)).startEngines
  let s3 := s2.forAll (List.range 32) fun i t => (t.driveEn12 i 0).driveEn5 i 0
  (s3.coreRefresh.laneRefresh.detect 2 0).set R.ST_STATUS_PHASE 5

/-- R435 from step 3 or 4: the card is read, but at a module reset, where the image in force stays (R440); then tests, bring-up, the bank, the map,
the resync, and host service when the map is whole. `old` is the module before the reset. -/
def State.startUp (kind : Nat) (obs : StartObs) (old s0 : State) : State :=
  let twin := old.get R.PWR_BANK_STATE = 2
  let turning := if kind = Kind.rekindle then (List.range 32).filter fun i => old.spState i != Sp.stopped else []
  let s1 := ((s0.appendBanked obs.tailBad).resumeSeq).readLedger obs.ledgerBad
  let s2 := ({ s1 with pins := { s1.pins with attnReleased := false, fanReleased := false, linksReleased := false } }.startFeeds obs.feeds).set R.ST_START_KIND kind
  let s3 := (s2.event Ev.RESET_TAKEN (origin 0 0) kind 0 0 0).set R.DAMP_STATUS_LANE_LIMIT 10
  if obs.sharedBad then { s3.outputsReset with run := .failed }
  else
    let s4 := match obs.card with | some c => { s3 with knd := { s3.knd with card := c } } | none => s3
    let k := if kind = Kind.reset then (if old.get R.KND_STATUS_STATE = 1 then some [] else none, s3) else s4.kindle
    match k.1 with
    | none => k.2.goUnlit obs kind
    | some img =>
      let s5 := if kind = Kind.reset then
          ((((k.2.set R.KND_STATUS_STATE 1).set R.KND_IMAGE_VERSION (old.get R.KND_IMAGE_VERSION)).set R.KND_SEQ_SEQ
            (old.get R.KND_SEQ_SEQ)).set R.KND_STATUS_ACTIVE_SLOT (old.get R.KND_STATUS_ACTIVE_SLOT))
        else (k.2.loadPatch img 0).loadPatch img 1
      let s6 := if kind = Kind.rekindle then
          ((s5.set R.PWR_HOLDUP_CAP (old.get R.PWR_HOLDUP_CAP)).set R.PWR_HOLDUP_HOLD_LIMIT (old.get R.PWR_HOLDUP_HOLD_LIMIT)).set
            R.PWR_STATUS_HOLDUP_LOW (old.get R.PWR_STATUS_HOLDUP_LOW)
        else s5.holdUp obs.cap
      let s7 := ((s6.startDram.startEngines).startTests kind obs.bist)
      let s8 := State.homeSegments { s7 with cache := { lost := s7.cache.lost, capacityLost := s7.cache.capacityLost } }
      let s9 := ((s8.set R.DRAM_RELOAD_ACTIVE 0).set R.DRAM_RELOAD_LEFT 0).coreRefresh.laneRefresh.kindledLoops
      let s10 := (s9.startSlots obs.slots turning).matchLedger
      let s11 := (s10.startCache.relight obs.bankBad).startCacheEn
      let s12 := ((s11.startResync twin (!old.vault.faulted) obs.torn).count R.RED_COUNT_RESYNC_MISMATCH obs.mismatch).startShown
      let s13 := s12.forAll (s12.ledger.filter (·.active)) fun e t => t.plan (domainOf e.kind e.index).1 (domainOf e.kind e.index).2 e.reason
      let s14 := (s13.detect 2 0).set R.ST_STATUS_PHASE 5
      if obs.segments.isEmpty then s14.beginService obs.ms
      else { s14 with knd := { s14.knd with mapWait := obs.segments, startMs := obs.ms } }

/-- A start of a kind, from what a reset keeps. -/
def State.restart (kind : Nat) (obs : StartObs) (s : State) : State :=
  let w := s.wipe kind
  if obs.pinLow && (kind = Kind.cold || kind = Kind.brownOut) then
    { (w.set R.ST_START_KIND kind).outputsReset with run := .waitPin, pins := { w.outputsReset.pins with modResetLow := true } }
  else State.startUp kind obs s w

/-- COLD_START (R435, R401): the power-cycle count rises, feeds retired until now are released (R456). -/
def coldStart (obs : StartObs) (s : State) : State :=
  let s1 := s.forAll s.pow.feedRetired fun f t => t.release 9 f
  { s1 with pcycle := s.pcycle + 1 }.restart Kind.cold obs

/-- MOD_RESET_N_HIGH_AT_START (R498): the start goes on from step 3. -/
def modResetNHighAtStart (obs : StartObs) (s : State) : State :=
  if s.run = .waitPin then
    let s1 := { s with run := .up, pins := { s.pins with modResetLow := false } }
    State.startUp (s.get R.ST_START_KIND) obs s1 s1
  else s

/-- BROWN_OUT_RESTART (R401, R436): the supply returns to a module held in reset. -/
def brownOutRestart (obs : StartObs) (s : State) : State :=
  if s.run = .held || s.run = .scan then s.restart Kind.brownOut obs else s

/-- START_LATE (R435): 110 s have passed and the map is not rebuilt. -/
def startLate (s : State) : State :=
  if s.get R.GLB_STATUS_STATE = 1 && !s.knd.mapWait.isEmpty then s.event Ev.START_LATE (origin 0 0) else s

/-- A map segment of a start still waiting for its map is rebuilt, or lost (R245); with the last, host service begins. -/
def State.startSegment (seg : Nat) (ok : Bool) (s : State) : State :=
  let s1 := if ok then s else
    (s.forAll (s.exts.filter fun e => e.1 % 4096 = seg && e.2.st != 0) fun e t =>
      t.loseBlocks (e.1 / 2 ^ 33) (256 * (e.1 % 2 ^ 33)) 256 2 e.2.row e.2.col).event Ev.MAP_SEGMENT_LOST (origin 0 0) 0 0 0 0
  let left := s1.knd.mapWait.filter (· != seg)
  let s2 := { s1 with knd := { s1.knd with mapWait := left } }
  if left.isEmpty then s2.beginService (s2.knd.startMs + s2.now / 1000) else s2

/-- MAP_SEGMENT_RELOAD (R245, R359). -/
def segmentReload (seg : Nat) (ok : Bool) (s : State) : State :=
  if s.knd.mapWait.contains seg then s.startSegment seg ok else mapSegmentReload seg ok s

/-! ## Module reset (R437, R498) -/

/-- MOD_RESET_N_LOW: a module reset that sends no CLOSE; it ends scan state; otherwise it holds a module already down. -/
def modResetNLow (s : State) : State :=
  let s1 := s.modPins fun p => { p with modResetLow := true }
  if s.run = .up && !s.isCut then (s1.set R.RST_CAUSE_MODULE 1).cutFor .pin
  else if s.run = .scan then ({ s1 with run := .held }.set R.RST_CAUSE_MODULE 4).modPow fun p => { p with cut := some .pin }
  else s1

/-- A module reset asked for through the register (R437, R488): CLOSE with reason 3, then cut and bank. -/
def State.resetModule (s : State) : State :=
  if s.isCut then s else ((s.closeSessions 3).set R.RST_CAUSE_MODULE 2).cutFor .register

/-- MODULE_RESET_RESTART (R437 step 4): MOD_RESET_N is high. -/
def moduleResetRestart (obs : StartObs) (s : State) : State :=
  if s.run = .held && (s.pow.cut = some .pin || s.pow.cut = some .register) then
    (s.modPins fun p => { p with modResetLow := false }).restart Kind.reset obs
  else s

/-- THERMAL_RESTART (R410): every die, DRAM and PSU zone has been cool for 60 s. The restart waits for the supply as well
(R402). -/
def thermalRestart (obs : StartObs) (s : State) : State :=
  if s.run = .held && s.pow.cut = some .thermal then
    (if obs.feeds.isEmpty then s.modPow fun p => { p with cut := some .supply }
     else (s.set R.RST_CAUSE_MODULE 3).restart Kind.reset obs)
  else s

/-- SUPPLY_QUALIFIED_50MS (R395): what follows in each supply state. -/
def supplyQualified (obs : StartObs) (s : State) : State :=
  if s.run = .held then (if s.pow.cut = some .supply then s.restart Kind.brownOut obs else s)
  else if s.run = .up && s.supply = Sup.rideQualify then s.rideRecovered.settle
  else if s.run = .up && s.supply = Sup.cutQualify && s.pow.cut = some .supply then s.recoverCut.settle
  else s

/-! ## Rekindle (R438, R434) -/

/-- Steps 3 to 6 of R438, once nothing is in flight and the cache is Off. -/
def State.finishRekindle (obs : StartObs) (s : State) : State :=
  let s1 := s.forAll s.jn.dirty mapCheckpoint
  let s2 := s1.forAll ((List.range 32).filter fun i => s1.trims.any fun e => e.1 / 24 = i) fun i t =>
    moduleAreaWrite i 0 (t.setSlot i { t.slot i with trimWrittenAt := 0 })
  let s3 := (s2.forAll (List.range 64) (State.unload false Torn.unload)).flush
  s3.restart Kind.rekindle { obs with pinLow := false }

/-- R438 steps 1 to 3 go on: a command still uncommitted after 10 s is ABORTED; the rest follows once all is drained. -/
def State.driveRekindle (s : State) : State :=
  match s.knd.rekindle with
  | .none => s
  | .draining since obs =>
    if s.isCut then s
    else
      let s1 := if since + 10 ≤ s.opSec then
          s.forAll (s.cmds.filter fun c => c.commit = Commit.opened) fun c t => t.abortCmd c 0
        else s
      let st := s1.get R.CACHE_STATUS_STATE
      if s1.cmds.isEmpty && (st = 0 || st = 1) && s1.cache.staged.isEmpty then s1.finishRekindle obs else s1

/-- A rekindle begins (R438): CLOSE with reason 1, no new capsule, the cache drains. -/
def State.beginRekindle (obs : StartObs) (s : State) : State :=
  if s.rekindling then s
  else
    let s1 := { s.closeSessions 1 with knd := { s.knd with rekindle := .draining s.opSec obs, rekindleAsked := false } }
    s1.cacheDisable.driveRekindle

/-- What a start finds when nothing was observed: the same card, feeds and HDAs, every test passed. The time to host service
is free. -/
def State.sameObs (s : State) : StartObs :=
  { feeds := [0, 1].filter fun f => s.bit (feedFld f), card := none, pinLow := false, cap := 0, sharedBad := false, bist := []
    slots := (List.range 32).filterMap fun i => match (s.slot i).hda, (s.slot i).meas with
      | some h, some m => if hi : i < 32 then some (⟨i, hi⟩, h, m) else none
      | _, _ => none
    bankBad := [], tailBad := false, ledgerBad := false, segments := [], torn := [], ms := s.freeNat (2 ^ 20) }

/-- UNLIT_POLL (R434): both slot records are read again; a passing image rekindles the module. -/
def unlitPoll (obs : StartObs) (s : State) : State :=
  if s.get R.GLB_STATUS_STATE = 2 && s.mgmtOk && !s.rekindling then
    let s1 := match obs.card with | some c => { s with knd := { s.knd with card := c } } | none => s
    let pass := match s1.knd.card with | some c => cardUsable c && (cardTry c 0 = 0 || cardTry c 1 = 0) | none => false
    if pass then s1.beginRekindle { obs with card := none } else s1
  else s

/-! ## Port reset (R439, R441) -/

/-- Registers of a host port. -/
def portField (p key : Nat) : Bool := 0x60100 + 0x100 * p ≤ key / 32 && key / 32 < 0x60200 + 0x100 * p

/-- A port reset: the host island is held, V fields of the port take ROM values, links and paths go down. -/
def State.resetPort (p : Nat) (s : State) : State :=
  if s.bit (R.PORT_STATUS_RETIRED p) || (s.island p).state != 0 then s
  else
    let s1 := (s.linkDown p 0).linkDown p 1
    let s2 := { s1 with flds := s1.flds.filter fun e => !(portField p e.1 && keepsOf e.1 = Keeps.v) }
    (s2.setIsland p { s2.island p with state := 1 }).keysCheck

/-- PORT_RESET_END (R439): 100 ms have passed and the island is released. -/
def portResetEnd (p : Nat) (s : State) : State :=
  if (s.island p).state = 1 then s.setIsland p { s.island p with state := 0 } else s

/-! ## The commands -/

def execColdStart (obs : StartObs) (s : State) : Host.Outcome State Fault Refusal := done s (coldStart obs s)
def execBrownOutRestart (obs : StartObs) (s : State) : Host.Outcome State Fault Refusal := done s (brownOutRestart obs s)
def execModResetNHighAtStart (obs : StartObs) (s : State) : Host.Outcome State Fault Refusal :=
  done s (modResetNHighAtStart obs s)
def execStartLate (s : State) := act s startLate
def execModResetNLow (s : State) : Host.Outcome State Fault Refusal := done s (modResetNLow s)
def execModuleResetRestart (obs : StartObs) (s : State) : Host.Outcome State Fault Refusal := done s (moduleResetRestart obs s)
def execThermalRestart (obs : StartObs) (s : State) : Host.Outcome State Fault Refusal := done s (thermalRestart obs s)
def execSupplyQualified50ms (obs : StartObs) (s : State) : Host.Outcome State Fault Refusal := done s (supplyQualified obs s)
def execUnlitPoll (obs : StartObs) (s : State) := act s (unlitPoll obs)
def execPortResetEnd (port : Port) (s : State) := act s (portResetEnd port.val)
def execMapSegmentReload (seg : Nat) (ok : Bool) (s : State) := act s (segmentReload seg ok)

end Sys2Proof.Machine
end

