-- ==== Sys2Proof/Machine/RegAccess.lean ====
section
/-! DEFINITION. A register write by a path (R14, R15, R480 to R484): what each field takes, what is refused, the action fields,
and the effects the chapters give a write; and what follows it in the same command. -/

namespace Sys2Proof.Machine

/-! ## Which register an address is -/

/-- The slot whose register lies at an offset of its block. -/
def slotAt (a off : Nat) : Option Nat :=
  if 0x100000 ≤ a && a < 0x120000 && a % 0x1000 = off then some ((a - 0x100000) / 0x1000) else none

/-- The member whose register lies at one of two offsets of a slot block, `step` apart. -/
def memberAt (a off step : Nat) : Option Nat :=
  match slotAt a off, slotAt a (off + step) with
  | some i, _ => some (2 * i)
  | _, some i => some (2 * i + 1)
  | _, _ => none

/-- The head whose OFFSET register an address is (R126). -/
def offsetAt (a : Nat) : Option Nat :=
  if 0x100000 ≤ a && a < 0x120000 && 0x100 ≤ a % 0x1000 && a % 0x1000 < 0x600 && a % 0x40 = 0x24 then
    some (20 * ((a - 0x100000) / 0x1000) + (a % 0x1000 - 0x100) / 0x40)
  else none

/-- The engine whose register lies at an offset of its block (R389). -/
def engineAt (a off : Nat) : Option Nat :=
  if 0x50100 ≤ a && a < 0x50600 && a % 0x40 = off then some ((a - 0x50100) / 0x40) else none

/-! ## Fields -/

/-- A field that software sets or acts through: RW or WO. -/
def FSpec.takes (f : FSpec) : Bool := f.acc = .rw || f.acc = .wo

/-- A value refused for a field whatever else the word holds (R14, R377, R383, R389, R406): a reserved encoding, or a write
through a debug window of an engine that is not halted. -/
def State.refuses (s : State) (f : FSpec) (v : Nat) : Bool :=
  f.takes && (!fieldOk f v || (0xDE004 ≤ f.fld.addr && f.fld.addr < 0xDF404 && f.fld.addr % 8 = 4 && 36000 < v) ||
    (v = 1 && [0x14, 0x20, 0x38].any fun o =>
      (engineAt f.fld.addr o).any fun n =>
        (f.fld = R.ENG_DBG_SEL_WR n || f.fld = R.ENG_CS_SEL_WR n || f.fld = R.ENG_MATCH_SEL_WR n) && s.engState n != 3))

/-- One field of a written word (R15): RW takes its value unless refused, W1C clears its 1 bits, others are left. -/
def State.takeField (w : Nat) (f : FSpec) (s : State) : State :=
  let v := f.fld.of w
  match f.acc with
  | .rw => if s.refuses f v then s else s.set f.fld v
  | .w1c => s.set f.fld (s.get f.fld - Nat.land (s.get f.fld) v)
  | _ => s

/-- RW DATA of a snapshot: the writing path's own word takes the RW fields (R483, log entry 32). -/
def State.takeSnap (p : Path) (a w : Nat) (s : State) : State :=
  let old := tgetD (pathKey p a) 0 s.snaps
  let new := (layout a).foldl (fun x f =>
    if f.acc = .rw then x - f.fld.of x * 2 ^ f.fld.lo + f.fld.of w * 2 ^ f.fld.lo else x) old
  { s with snaps := tset (pathKey p a) new s.snaps }

/-- The rules over several fields are judged on what the word leaves: a rule that fails keeps every field it judges at its
previous value (R14, R484). -/
def State.judge (old : State) (l : List Joint) (s : State) : Bool × State :=
  l.foldl (fun x j => if j.ok x.2 then x else (true, x.2.forAll j.fields fun f t => t.set f (old.get f))) (false, s)

/-- The fields of a written word, before any effect: whether a value was refused, and the state (R14, R15, R68, R484). -/
def State.takeWord (p : Path) (a w : Nat) (s : State) : Bool × State :=
  let l := layout a
  let bad := l.any fun f => s.refuses f (f.fld.of w)
  let s1 := if isSnap a then s.takeSnap p a w else s.forAll l (State.takeField w)
  let (bad2, s2) := s.judge (jointsAt a) s1
  match advSlot a with
  | some i =>
    if s2.advRises i then (bad || bad2, s2)
    else
      (true, (s2.forAll (l.map (·.fld)) fun f t => t.set f (s.get f)).event Ev.SPIN_ADV_TABLE_INVALID (origin 1 i) 0 0 0 0)
  | none => (bad || bad2, s2)

/-! ## Engine control (R385 to R387) -/

/-- HALT, STEP or RESET written to an engine that is not fenced (R385). -/
def State.engRefuse (n : Nat) (s : State) : State := s.set (R.ENG_STATUS_REFUSED n) 1

/-- ENG_CTRL of an engine: FENCE, then HALT, then the actions of a word no field of which was refused. -/
def State.writeEngCtrl (n w : Nat) (s : State) : Bool × State :=
  let (b1, s1) :=
    if !w.testBit 0 then (false, s.unfenceEngine n)
    else if s.bit (R.ENG_CTRL_FENCE n) then (false, s)
    else if s.fenceRefused n then (true, s) else (false, s.fenceEngine n)
  let (b2, s2) :=
    if w.testBit 1 then
      (if !s1.engFenced n then (true, s1.engRefuse n) else if s1.engState n = 3 then (false, s1) else (false, s1.haltEngine n))
    else (false, if s1.bit (R.ENG_CTRL_HALT n) then s1.runEngine n else s1)
  if !(w.testBit 2 || w.testBit 3) then (b1 || b2, s2)
  else if !s2.engFenced n then (true, s2.engRefuse n)
  else if b1 || b2 then (true, s2)
  else
    let s3 := if w.testBit 2 && s2.engState n = 3 then s2.stepEngine n else s2
    (false, if w.testBit 3 then s3.resetFenced n else s3)

/-- The engine a slot is to be owned by, once a planned move has taken effect. -/
def State.nextOwner (s : State) (i : Nat) : Nat :=
  match s.stk.moves.find? fun e => e.1 = i with
  | some e => e.2
  | none => s.owner i

/-- ENG_SLOT_OWNER (R387): each slot of the word moves at its next chunk boundary, unless its field is refused. -/
def State.writeOwners (k w : Nat) (s : State) : Bool × State :=
  (List.range 8).foldl (fun (x : Bool × State) j =>
    let i := 8 * k + j
    let n := w / 2 ^ (4 * j) % 16
    if !x.2.engServes n then (true, x.2)
    else if x.2.nextOwner i = n then x
    else if 4 ≤ x.2.willOwn n then (true, x.2)
    else (x.1, x.2.planMove i n)) (false, s)

/-! ## Effects of a write -/

/-- What the preamp link shows when nothing was observed: it works, no new cause has arisen, and where the preamp measures
(MEAS_DATA and TEMP) a free value is read (log entries 1, 42). -/
def State.plainRun (s : State) (c : PserCmd) : LinkRun :=
  { badReads := 0, badWrite := false, data := if c.dir = 1 && (c.addr = 6 || c.addr = 8) then s.freeNat 65536 else 0 }

/-- VOL_KEY_SEL with GO (R316, R320): the operation with VOL_KEY_DATA, which is zeroed. -/
def State.keyGo (w : Nat) (s : State) : State :=
  let v := s.get R.VOL_KEY_SEL_VOLUME
  let key := BitVec.ofNat 512 ((List.range 16).foldl (fun x k => x + s.get (R.VOL_KEY_DATA_KEY k) * 2 ^ (32 * k)) 0)
  let x := if s.get R.GLB_STATUS_STATE = 2 then (noResult St.notReady, s)
    else s.keyOp v (R.VOL_KEY_SEL_OP.of w) key
  let res := if x.1.1 = St.success then 1 else if x.1.1 = St.keyMismatch then 2 else 3
  (x.2.set R.VOL_KEY_STATUS_RESULT res).forAll (List.range 16) fun k t => t.set (R.VOL_KEY_DATA_KEY k) 0

/-- QUE_RESUME with GO (R338, R341). -/
def State.resumeGo (action : Nat) (s : State) : State :=
  let (r, _, t) := s.resume (s.get R.QUE_SEL_SESSION) (s.get R.QUE_SEL_QUEUE) action
  t.set R.QUE_RESUME_RESULT r

/-- PORT_ADDR_SEL with WR 1 (R320): the path's DATA go into the slot, whose address is used after duplicate address detection.
Slot 0 is read only. -/
def State.writeAddr (p : Path) (s : State) : State :=
  let port := s.get R.PORT_ADDR_SEL_PORT
  let link := s.get R.PORT_ADDR_SEL_LINK
  let slot := s.get R.PORT_ADDR_SEL_SLOT
  let word (k : Nat) : Nat := tgetD (pathKey p (A.PORT_ADDR_DATA 0 + 4 * k)) 0 s.snaps
  if slot = 0 then s
  else
    let addr := if slot = 5 then word 0 else (List.range 4).foldl (fun x k => x + word k * 2 ^ (32 * k)) 0
    { s with addrs := tset (addrKey port link slot) ⟨addr, word 4 % 256, false, false⟩ s.addrs }.xmit port (.link port link 4)

/-- STK_LOOKUP with GO (R252): the extent entry, or an UNMAPPED one. -/
def State.lookupWords (s : State) : List Nat :=
  let ext := s.get R.STK_LOOKUP_EXT_EXT + 2 ^ 32 * s.get R.STK_LOOKUP_SEL_EXT_HI
  let x : Extent := if (tget (s.get R.STK_LOOKUP_SEL_VOL) s.vols).isSome then
      tgetD (2 ^ 33 * s.get R.STK_LOOKUP_SEL_VOL + ext) {} s.exts
    else {}
  words4 x.entry

/-- A control store word and its ECC bits as CS_SEL.GO reads them (R364, R389); of an address where nothing is mapped no rule
gives them (log entry 1). -/
def State.csRead (p : Path) (n : Nat) (s : State) : State :=
  match (s.eng n).store n (s.get (R.ENG_CS_SEL_ADDR n)) with
  | some w => (s.capture p (A.ENG_CS_DATA n 0) (words4 w.toNat)).capture p (A.ENG_CS_ECC n) [(Config.ecc w).toNat]
  | none =>
    let f (i : Nat) : Nat := Config.free (s.fresh + i) % 2 ^ 32
    { (s.capture p (A.ENG_CS_DATA n 0) [f 0, f 1, f 2, f 3]).capture p (A.ENG_CS_ECC n) [f 4 % 512] with fresh := s.fresh + 5 }

/-- The word a path has in its CS_DATA. -/
def State.csData (s : State) (p : Path) (n : Nat) : BitVec 128 :=
  BitVec.ofNat 128 ((List.range 4).foldl (fun x k => x + tgetD (pathKey p (A.ENG_CS_DATA n k)) 0 s.snaps * 2 ^ (32 * k)) 0)

/-- The debug windows of an engine (R386, R389): DBG_SEL, CS_SEL and MATCH_SEL. A patch RAM write needs an address there. -/
def State.engWindow (p : Path) (a w : Nat) (acts : Bool) (s : State) : State :=
  match engineAt a 0x14, engineAt a 0x20, engineAt a 0x38 with
  | some n, _, _ =>
    let item := s.get (R.ENG_DBG_SEL_ITEM n)
    if (R.ENG_DBG_SEL_WR n).of w = 1 then
      (if acts then
        s.setEng n ((s.eng n).dbgSet n item (BitVec.ofNat 64
          (tgetD (pathKey p (A.ENG_DBG_DATA_LO n)) 0 s.snaps + 2 ^ 32 * tgetD (pathKey p (A.ENG_DBG_DATA_HI n)) 0 s.snaps)))
       else s)
    else
      let v := ((s.eng n).dbg n item).toNat
      (s.capture p (A.ENG_DBG_DATA_LO n) [v % 2 ^ 32]).capture p (A.ENG_DBG_DATA_HI n) [v / 2 ^ 32]
  | _, some n, _ =>
    let adr := s.get (R.ENG_CS_SEL_ADDR n)
    let s1 := if acts && (R.ENG_CS_SEL_WR n).of w = 1 && 0xF800 ≤ adr then s.csWrite n adr (s.csData p n) else s
    if acts && (R.ENG_CS_SEL_GO n).of w = 1 then s1.csRead p n else s1
  | _, _, some n =>
    if acts && (R.ENG_MATCH_SEL_WR n).of w = 1 then
      s.matchWrite n (s.get (R.ENG_MATCH_SEL_INDEX n)) (s.get (R.ENG_MATCH_DATA_MATCH n))
    else s
  | _, _, _ => s

/-- Effects of a write to a slot block: `old` is the state before the write, `acts` whether action fields act. -/
def State.slotEffect (run : Option LinkRun) (a w : Nat) (acts : Bool) (old s : State) : State :=
  match slotAt a 0x004, memberAt a 0x020 8, slotAt a 0x080, memberAt a 0x0C0 0x20, offsetAt a with
  | some i, _, _, _, _ =>
    let s1 := if acts && (R.SLOT_CTRL_REBRING i).of w = 1 then s.rebring i else s
    let s2 := s1.powerOff i (s1.get (R.SLOT_CTRL_POWER_OFF i))
    (match (s2.slot i).hda, (s2.slot i).meas with
     | some h, some m =>
       if s2.bit (R.SLOT_CTRL_ENABLE i) && !old.bit (R.SLOT_CTRL_ENABLE i) && s2.bit (R.SLOT_STATUS_PRESENT i) &&
           s2.get (R.SLOT_STATUS_STATE i) = 0 && !(s2.slot i).cableRetired && !(s2.slot i).frontRetired then s2.bringUp i h m
       else s2
     | _, _ => s2)
  | _, some m, _, _, _ =>
    if acts && (R.SLOT_PSER_CMD_GO m).of w = 1 then
      let c : PserCmd := { addr := s.get (R.SLOT_PSER_CMD_ADDR m), dir := s.get (R.SLOT_PSER_CMD_DIR m),
                           wdata := s.get (R.SLOT_PSER_CMD_WDATA m) }
      (s.when run.isNone State.bump).pserGo m c (run.getD (s.plainRun c))
    else s
  | _, _, some i, _, _ =>
    let v := s.get (R.SPIN_CTRL_SETPOINT i)
    let was := old.get (R.SPIN_CTRL_SETPOINT i)
    let s1 := if v = was then s else (s.set (R.SPIN_CTRL_SETPOINT i) was).setSetpoint i v
    if acts && (R.SPIN_CTRL_RESTART i).of w = 1 then s1.restartSpindle i else s1
  | _, _, _, some m, _ => (s.fitSet m).unloadRequested m
  | _, _, _, _, some g => s.offsetWritten g
  | _, _, _, _, _ => s

/-- Effects of a write to the module's registers from the engines on down the map. -/
def State.blockEffect (p : Path) (a w : Nat) (acts : Bool) (s : State) : State :=
  if a = A.THM_CTRL then
    (if (s.sensor 0).seen then s.fan else if s.bit R.THM_CTRL_FAN_FULL then s.set R.THM_STATUS_FAN_DUTY 100 else s)
  else if a = A.RST_MODULE then
    (if w = 0x4D525354 then { s with knd := { s.knd with resetAsked := true } } else s)
  else if a = A.RST_PORT then
    (s.when (R.RST_PORT_HP0.of w = 1) (State.resetPort 0)).when (R.RST_PORT_HP1.of w = 1) (State.resetPort 1)
  else if a = A.KND_REKINDLE then
    (if w = 0x4B494E44 then { s with knd := { s.knd with rekindleAsked := true } } else s)
  else if a = A.PORT_CFG 0 || a = A.PORT_CFG 1 then
    let port := if a = A.PORT_CFG 0 then 0 else 1
    if s.bit (R.PORT_CFG_DISABLE port) then (s.linkDown port 0).linkDown port 1 else s
  else if a = A.PORT_ADDR_SEL then
    (if R.PORT_ADDR_SEL_WR.of w = 1 then s.when acts (State.writeAddr p)
     else s.capture p (A.PORT_ADDR_DATA 0)
      (s.addrWords (s.get R.PORT_ADDR_SEL_PORT) (s.get R.PORT_ADDR_SEL_LINK) (s.get R.PORT_ADDR_SEL_SLOT)))
  else if a = A.VOL_KEY_SEL then s.when (acts && R.VOL_KEY_SEL_GO.of w = 1) (State.keyGo w)
  else if 0x60C04 ≤ a && a < 0x60C44 then s.set (R.VOL_KEY_DATA_KEY ((a - 0x60C04) / 4)) w
  else if a = A.QUE_RESUME then s.when (acts && R.QUE_RESUME_GO.of w = 1) (State.resumeGo (R.QUE_RESUME_ACTION.of w))
  else if a = A.CACHE_CTRL then
    let s1 := s.when (acts && R.CACHE_CTRL_INV_ALL.of w = 1) State.invalidateAll
    (if s1.bit R.CACHE_CTRL_EN then s1.cacheEnable.2 else s1.cacheDisable).spaceFreed
  else if a = A.CACHE_PROBE_SEL then
    (if acts && R.CACHE_PROBE_SEL_GO.of w = 1 then
      s.capture p (A.CACHE_PROBE_DATA 0) (s.probeWords (s.get R.CACHE_PROBE_SEL_VOLUME)
        (s.get (R.CACHE_PROBE_LBA_LBA 0) + 2 ^ 32 * s.get (R.CACHE_PROBE_LBA_LBA 1)))
     else s)
  else if a = A.STK_CTRL then (if s.epochDue then s.nextEpoch else s)
  else if a = A.STK_LOOKUP_SEL then
    (if acts && R.STK_LOOKUP_SEL_GO.of w = 1 then s.capture p (A.STK_LOOKUP_DATA 0) s.lookupWords else s)
  else if 0xC0010 ≤ a && a < 0xC001C then s.coreEnWritten
  else if a = A.DEC_STAT_SEL then s.statSelected p (acts && R.DEC_STAT_SEL_CLEAR.of w = 1)
  else if a = A.DAMP_CTRL then s.laneRefresh
  else if a = A.DAMP_COMMIT then s.when (acts && R.DAMP_COMMIT_GO.of w = 1) (State.commitLoop (s.get R.DAMP_COMMIT_LOOP))
  else if a = A.EVT_FLUSH then s.when (R.EVT_FLUSH_GO.of w = 1) State.flush
  else if a = A.EVT_TIME_MARK_LO then s.set R.EVT_TIME_MARK_LO_LO w
  else if a = A.EVT_TIME_MARK_HI then
    (s.set R.EVT_TIME_MARK_HI_HI w).varEvent Ev.TIME_MARK (leBytes 4 (s.get R.EVT_TIME_MARK_LO_LO) ++ leBytes 4 w)
  else if a = A.RET_CTRL then
    (if R.RET_CTRL_ATTN_ACK.of w = 1 then { s with pins := { s.pins with attnRetired := false } } else s)
  else if a = A.ST_REQ then s.when (acts && R.ST_REQ_GO.of w = 1) State.testRequest
  else if a = A.CAL_REQ then
    s.when (acts && R.CAL_REQ_GO.of w = 1) (State.calGo (s.get R.CAL_REQ_KIND) (s.get R.CAL_REQ_ELEM))
  else s.takeSnapshot p a

/-! ## A write -/

/-- R484: what a refusal leaves. -/
def State.regRefused (a w : Nat) (s : State) : State :=
  (s.set R.GLB_REFUSED_ADDR a).event Ev.REG_REFUSED (origin 0 0) 0 0 a w

/-- A write to a register inside the map whose island is in service: whether a value of it was refused, and the state. -/
def State.performWrite (run : Option LinkRun) (p : Path) (a w : Nat) (s : State) : Bool × State :=
  match engineAt a 0 with
  | some n => s.writeEngCtrl n w
  | none =>
    if 0x50010 ≤ a && a < 0x50020 then s.writeOwners ((a - 0x50010) / 4) w
    else
      let (bad, s1) := s.takeWord p a w
      if 0x100000 ≤ a && a < 0x120000 then (bad, State.slotEffect run a w (!bad) s s1)
      else if 0x50100 ≤ a && a < 0x50600 then (bad, s1.engWindow p a w (!bad))
      else (bad, s1.blockEffect p a w (!bad))

/-- A write of a word by a path (R479, R482, R484, R487): refused or not, and the state. An address outside the map or
unaligned is not performed; a register not defined or out of service ignores the write. -/
def State.writeReg (run : Option LinkRun) (p : Path) (a w : Nat) (s : State) : Bool × State :=
  if !inMap a || a % 4 != 0 then (false, s)
  else
    let s1 := s.count (R.GLB_ACCESS_WRITES (pathKind p)) 1
    if s1.regOut a || (layout a).isEmpty then (false, s1)
    else
      let (bad, s2) := s1.performWrite run p a (w % 2 ^ 32)
      (bad, if bad then s2.regRefused a w else s2)

/-! ## What follows a write -/

/-- WREGs of the engines reach their registers in the order issued (R370, R481). -/
def State.drainPosted : Nat → State → State
  | 0, s => s
  | fuel + 1, s =>
    match (List.range 20).find? fun n => !(s.eng n).posted.isEmpty with
    | none => s
    | some n =>
      match (s.eng n).posted with
      | (a, w) :: rest =>
        let s1 := s.setEng n { s.eng n with posted := rest }
        State.drainPosted fuel (if h : n < 20 then (s1.writeReg none (.engine ⟨n, h⟩) a w).2 else s1)
      | [] => s

/-- A module reset or a rekindle asked for by a register write, once that write is done (R437, R438, R488). -/
def State.afterWrite (obs : Option StartObs) (s : State) : State :=
  let s1 := s.drainPosted 64
  if s1.knd.resetAsked then { s1 with knd := { s1.knd with resetAsked := false, rekindleAsked := false } }.resetModule
  else if s1.knd.rekindleAsked then
    let s2 : State := { s1 with knd := { s1.knd with rekindleAsked := false } }
    match obs with
    | some o => s2.beginRekindle o
    | none => s2.bump.beginRekindle s2.sameObs
  else s1

/-- Whether a path is in service: MP, the UART and the TAP need the management island (R27), an engine that it runs. -/
def State.pathOk (s : State) : Path → Bool
  | .host _ => true
  | .mp _ => s.mgmtOk
  | .uart => s.mgmtOk
  | .tap => s.mgmtOk
  | .engine n => s.engState n.val = 1 || s.engState n.val = 2 || s.engState n.val = 3

/-- The capsule of a REG-WRITE of one word (R302, R309). -/
def regWriteCapsule (a w : Nat) : Capsule :=
  [0x43] ++ List.replicate 7 0 ++ beBytes 4 a ++ beBytes 4 1 ++ beBytes 4 w ++ List.replicate 44 0

/-- ADMIN_ACTION of a register write (R469); none by an engine. The port of a host session is that of its first path. -/
def State.recordWrite (p : Path) (a w : Nat) (s : State) : State :=
  let word := [recordedWord a (w % 2 ^ 32)]
  match p with
  | .host n => s.adminAction n (match s.path n 0 with | some x => x.addr.port | none => 0) 0x43 0 0 (regWriteCapsule a w) word
  | .mp n => s.adminAction n 2 0x43 0 0 (regWriteCapsule a w) word
  | .uart => s.adminAction 0 3 0x43 0 0 [] word
  | .tap => s.adminAction 0 4 0x43 0 0 [] word
  | .engine _ => s

/-- One register write by a path that is in service, recorded (R469, R480). -/
def State.pathWrite (run : Option LinkRun) (p : Path) (a w : Nat) (s : State) : Bool × State :=
  if s.pathOk p && inMap a && a % 4 = 0 then
    let (bad, s1) := s.writeReg run p a w
    (bad, s1.recordWrite p a w)
  else (false, s)

/-- A command that is a register write. -/
def regWriteRow (obs : Option StartObs) (run : Option LinkRun) (p : Path) (a : Nat) (w : Word) (s : State) : State :=
  (s.pathWrite run p a w.toNat).2.afterWrite obs

end Sys2Proof.Machine
end

