-- ==== Sys2Proof/Machine/RegRows.lean ====
section
/-! DEFINITION. The commands that are one access to a register: each writes its word at its register's address, or reads; the
rows that a command or a register write may ask for; and the microword. -/

namespace Sys2Proof.Machine

/-- A register write with nothing observed beside it. -/
def State.row (p : Path) (a : Nat) (w : Word) (s : State) : State := regWriteRow none none p a w s

/-- READ_LO_LATCH (R483): a read by a path, which latches the partner of an RO register named _LO. -/
def State.readRow (p : Path) (a : Nat) (s : State) : State :=
  if s.pathOk p && inMap a && a % 4 = 0 then (s.readReg p a).2 else s

/-- A microword of an engine that runs (R367), then its posted writes. A fenced engine that has not been halted goes on
executing. -/
def microword (n : Nat) (obs : WordObs) (s : State) : State :=
  if s.engState n = 1 || s.engState n = 2 then (s.runWord n obs).afterWrite none else s

-- ch02 to ch06

def execSlotCtrlRebring (p : Path) (i : Slot) (w : Word) (s : State) := act s (State.row p (A.SLOT_CTRL i.val) w)
def execSlotCtrlPowerOff (p : Path) (i : Slot) (w : Word) (s : State) := act s (State.row p (A.SLOT_CTRL i.val) w)
def execPserCmdGo (p : Path) (m : Member) (w : Word) (run : LinkRun) (s : State) :=
  act s (regWriteRow none (some run) p (A.SLOT_PSER_CMD m.val) w)
def execSpinCtrlSetpoint (p : Path) (i : Slot) (w : Word) (s : State) := act s (State.row p (A.SPIN_CTRL i.val) w)
def execSpinCtrlRestart (p : Path) (i : Slot) (w : Word) (s : State) := act s (State.row p (A.SPIN_CTRL i.val) w)
def execSpinAdvWrite (p : Path) (i : Slot) (k : Fin 4) (w : Word) (s : State) := act s (State.row p (A.SPIN_ADV i.val k.val) w)
def execDampCommitGo (p : Path) (w : Word) (s : State) := act s (State.row p A.DAMP_COMMIT w)
def execDampStateSel (p : Path) (w : Word) (s : State) := act s (State.row p A.DAMP_STATE_SEL w)
def execDampCtrlLaneEn (p : Path) (w : Word) (s : State) := act s (State.row p A.DAMP_CTRL w)
def execActCtrlUnload (p : Path) (m : Member) (w : Word) (s : State) := act s (State.row p (A.ACT_CTRL m.val) w)
def execHeadOffsetWrite (p : Path) (g : GHead) (w : Word) (s : State) := act s (State.row p (A.HEAD_OFFSET g.val) w)
def execDecCoreEnWrite (p : Path) (i : Fin 3) (w : Word) (s : State) := act s (State.row p (A.DEC_CORE_EN i.val) w)
def execDecStatSel (p : Path) (w : Word) (s : State) := act s (State.row p A.DEC_STAT_SEL w)

-- ch07, ch08, ch10 to ch12

def execRecHeadSel (p : Path) (w : Word) (s : State) := act s (State.row p A.REC_HEAD_SEL w)
def execStkHeatHalfWrite (p : Path) (w : Word) (s : State) := act s (State.row p A.STK_CTRL w)
def execStkVolSel (p : Path) (w : Word) (s : State) := act s (State.row p A.STK_VOL_SEL w)
def execStkLookupGo (p : Path) (w : Word) (s : State) := act s (State.row p A.STK_LOOKUP_SEL w)
def execLqpSessSel (p : Path) (w : Word) (s : State) := act s (State.row p A.LQP_SESS_SEL w)
def execPortAddrSnapshot (p : Path) (w : Word) (s : State) := act s (State.row p A.PORT_ADDR_SEL w)
def execPortAddrWrite (p : Path) (w : Word) (s : State) := act s (State.row p A.PORT_ADDR_SEL w)
def execPortCfgDisable (p : Path) (port : Port) (w : Word) (s : State) := act s (State.row p (A.PORT_CFG port.val) w)
def execQueSel (p : Path) (w : Word) (s : State) := act s (State.row p A.QUE_SEL w)
def execCacheProbeGo (p : Path) (w : Word) (s : State) := act s (State.row p A.CACHE_PROBE_SEL w)

-- ch13

def execEngineFence (p : Path) (n : EngineIx) (w : Word) (s : State) := act s (State.row p (A.ENG_CTRL n.val) w)
def execEngineUnfence (p : Path) (n : EngineIx) (w : Word) (s : State) := act s (State.row p (A.ENG_CTRL n.val) w)
def execEngineHalt (p : Path) (n : EngineIx) (w : Word) (s : State) := act s (State.row p (A.ENG_CTRL n.val) w)
def execEngineRun (p : Path) (n : EngineIx) (w : Word) (s : State) := act s (State.row p (A.ENG_CTRL n.val) w)
def execEngineStep (p : Path) (n : EngineIx) (w : Word) (s : State) := act s (State.row p (A.ENG_CTRL n.val) w)
def execEngineReset (p : Path) (n : EngineIx) (w : Word) (s : State) := act s (State.row p (A.ENG_CTRL n.val) w)
def execEngDbgWrite (p : Path) (n : EngineIx) (w : Word) (s : State) := act s (State.row p (A.ENG_DBG_SEL n.val) w)
def execEngCsRead (p : Path) (n : EngineIx) (w : Word) (s : State) := act s (State.row p (A.ENG_CS_SEL n.val) w)
def execEngCsWrite (p : Path) (n : EngineIx) (w : Word) (s : State) := act s (State.row p (A.ENG_CS_SEL n.val) w)
def execEngMatchWrite (p : Path) (n : EngineIx) (w : Word) (s : State) := act s (State.row p (A.ENG_MATCH_SEL n.val) w)
def execEngSlotOwnerWrite (p : Path) (i : Fin 4) (w : Word) (s : State) := act s (State.row p (A.ENG_SLOT_OWNER i.val) w)
def execMicroword (n : EngineIx) (obs : WordObs) (s : State) := act s (microword n.val obs)

-- ch14 to ch18

def execThmZoneSel (p : Path) (w : Word) (s : State) := act s (State.row p A.THM_ZONE_SEL w)
def execThmSensorSel (p : Path) (w : Word) (s : State) := act s (State.row p A.THM_SENSOR_SEL w)
def execCalReqGo (p : Path) (w : Word) (s : State) := act s (State.row p A.CAL_REQ w)
def execCalElemSel (p : Path) (w : Word) (s : State) := act s (State.row p A.CAL_ELEM_SEL w)
def execAgeSel (p : Path) (w : Word) (s : State) := act s (State.row p A.AGE_SEL w)
def execStSel (p : Path) (w : Word) (s : State) := act s (State.row p A.ST_SEL w)
def execKndRekindle (p : Path) (w : Word) (obs : StartObs) (s : State) := act s (regWriteRow (some obs) none p A.KND_REKINDLE w)
def execRstModule (p : Path) (w : Word) (s : State) := act s (State.row p A.RST_MODULE w)
def execRstPort (p : Path) (w : Word) (s : State) := act s (State.row p A.RST_PORT w)
def execEvtFlushGo (p : Path) (w : Word) (s : State) := act s (State.row p A.EVT_FLUSH w)
def execEvtTimeMarkHi (p : Path) (w : Word) (s : State) := act s (State.row p A.EVT_TIME_MARK_HI w)
def execRetCtrlAttnAck (p : Path) (w : Word) (s : State) := act s (State.row p A.RET_CTRL w)
def execFltSel (p : Path) (w : Word) (s : State) := act s (State.row p A.FLT_SEL w)
def execRmgrSel (p : Path) (w : Word) (s : State) := act s (State.row p A.RMGR_SEL w)
def execIslSel (p : Path) (w : Word) (s : State) := act s (State.row p A.ISL_SEL w)
def execReadLoLatch (p : Path) (addr : Word) (s : State) := act s (State.readRow p addr.toNat)
def execRegisterWrite (p : Path) (addr data : Word) (s : State) := act s (State.row p addr.toNat data)

-- Rows asked for by a command or by a register write

def execResumeContinue (q : Req) (s : State) :=
  match q with
  | .cmd r => actHost s (resumeCmd false r)
  | .reg p w => act s (State.row p A.QUE_RESUME w)
def execResumeDiscard (q : Req) (s : State) :=
  match q with
  | .cmd r => actHost s (resumeCmd true r)
  | .reg p w => act s (State.row p A.QUE_RESUME w)
def execSetKeyUnlock (q : Req) (s : State) :=
  match q with
  | .cmd r => actHost s (setKeyCmd 0 r)
  | .reg p w => act s (State.row p A.VOL_KEY_SEL w)
def execSetKeyEstablish (q : Req) (s : State) :=
  match q with
  | .cmd r => actHost s (setKeyCmd 1 r)
  | .reg p w => act s (State.row p A.VOL_KEY_SEL w)
def execSetKeyClear (q : Req) (s : State) :=
  match q with
  | .cmd r => actHost s (setKeyCmd 2 r)
  | .reg p w => act s (State.row p A.VOL_KEY_SEL w)
def execInvalidateAll (q : Req) (s : State) :=
  match q with
  | .cmd r => actHost s (invalidateAllCmd r)
  | .reg p w => act s (State.row p A.CACHE_CTRL w)
def execCacheEnable (q : Req) (s : State) :=
  match q with
  | .cmd r => actHost s (cacheEnableCmd r)
  | .reg p w => act s (State.row p A.CACHE_CTRL w)
def execCacheDisable (q : Req) (s : State) :=
  match q with
  | .cmd r => actHost s (cacheDisableCmd r)
  | .reg p w => act s (State.row p A.CACHE_CTRL w)
def execSelfTest (q : Req) (s : State) :=
  match q with
  | .cmd r => actHost s (selfTestCmd r)
  | .reg p w => act s (State.row p A.ST_REQ w)

end Sys2Proof.Machine
end

