-- ==== Sys2Proof/Machine/Admin.lean ====
section
/-! DEFINITION. Admin commands that read and write data (R309, R313, R337, R475, R476), the gathering buffer and its programming
(R433), REKINDLE (R438), and the commands of the UART and the TAP (R448, R449, R485, R486). -/

namespace Sys2Proof.Machine

/-! ## Data to the host -/

/-- DATA frames of an admin command from a byte offset on, up to 8,192 bytes each, LAST on the final one (R306). -/
def State.sendBytes (c : Cmd) : Nat → Nat → List Nat → State → State
  | 0, _, _, s => s
  | fuel + 1, off, l, s =>
    if l.isEmpty then s
    else
      State.sendBytes c fuel (off + 8192) (l.drop 8192)
        (s.sendFor c.ref.session c.path (.bytes c.ref.tag off (l.take 8192) ((l.drop 8192).isEmpty)))

/-- Data of an admin command to the host: no frame where there is none (R306). -/
def State.sendAdmin (c : Cmd) (l : List Nat) (s : State) : State := s.sendBytes c (l.length / 8192 + 1) 0 l

/-- A command's path to the registers (R480). -/
def Cmd.regPath (c : Cmd) : Path :=
  if c.ref.session = 0 then .uart else if isMp c.ref.session then .mp c.ref.session else .host c.ref.session

/-! ## IDENTIFY (R313) -/

/-- A group record: U, A and provisioned extents, then H and the default layout. -/
def State.groupRecord (s : State) (g : Nat) : List Nat :=
  match tget g s.groups with
  | none => List.replicate 32 0
  | some x => padTo 32 (leBytes 8 (s.usable g) ++ leBytes 8 (s.capacity g).2.2.2 ++ leBytes 8 (s.provisioned g) ++ [x.h, x.k, x.p])

/-- CNS 0. -/
def State.identifyModule (s : State) : List Nat :=
  let a := [0x50, 0x5A, 0x38, 0x30, 0x33, 0x32] ++ List.replicate 10 0x20 ++ [0x41, 0x31] ++ List.replicate 6 0 ++ s.mySerial ++
    leBytes 4 (s.fieldWord A.KND_IMAGE) ++ leBytes 4 (s.fieldWord A.ENG_VER_HOB) ++ leBytes 4 (s.fieldWord A.ENG_VER_FLUE)
  let b := leBytes 2 64 ++ [63, 0] ++ leBytes 2 1024 ++ leBytes 2 2048 ++ leBytes 4 65536 ++ leBytes 2 8240 ++
    leBytes 2 s.vols.length ++ [s.get R.GLB_STATUS_STATE]
  padTo 4096 (padTo 128 (padTo 64 a ++ b) ++ (List.range 4).flatMap s.groupRecord)

/-- The attribute block of a volume (R311). -/
def Volume.attributes (x : Volume) : List Nat :=
  padTo 32 (leBytes 8 x.size ++ [x.group, x.k, x.p,
    x.buffered.toNat + 2 * x.latency + 8 * x.hint + 32 * x.encrypt.toNat] ++ leBytes 2 x.budget)

/-- CNS 1: all zeros past the number where the volume does not exist. -/
def State.identifyVolume (s : State) (v : Nat) : List Nat :=
  match tget v s.vols with
  | none => padTo 4096 (leBytes 2 v)
  | some x =>
    let bits := 1 + 2 * (x.encrypt && x.key.isNone).toNat + 4 * x.kcv.isSome.toNat + 8 * x.reshape.isSome.toNat
    padTo 4096 (padTo 32 (padTo 8 (leBytes 2 v ++ [bits]) ++ leBytes 8 (s.mapped v)) ++ Volume.attributes x)

/-- CNS 2 and page 0x04 name a session; 0 is the requesting one (log entry 33). -/
def State.namedSession (s : State) (c : Cmd) (n : Nat) : Option Session := s.session (if n = 0 then c.ref.session else n)

/-- CNS 2: port, link, host port, SRTT in µs and host address of each path; no rule places them (log entry 33). -/
def Session.identify (x : Session) : List Nat :=
  padTo 4096 (x.paths.flatMap fun p =>
    padTo 32 ([p.addr.port, p.addr.link] ++ leBytes 2 p.addr.udp ++ leBytes 4 (match p.srtt with | some r => r.1 / 32 | none => 0) ++
      leBytes 16 p.addr.host))

/-- IDENTIFY (R313). -/
def identify (r : CmdRef) (s : State) : State :=
  s.runAdmin 0x40 r fun c t =>
    let n := capF c.cap 6 2
    let data := match capB c.cap 4 with
      | 0 => some t.identifyModule
      | 1 => some (t.identifyVolume n)
      | 2 => (t.namedSession c n).map Session.identify
      | _ => none
    match data with
    | none => (noResult St.invalidField, t)
    | some l => (noResult St.success, t.sendAdmin c l)

/-! ## GET-LOG (R313, R337, R279, R456) -/

/-- An entry of the queue error log (R337). -/
def LogEntry.bytes (e : LogEntry) : List Nat :=
  padTo 64 (leBytes 8 e.arrival ++ leBytes 2 e.tag ++ [e.opcode, e.cflags] ++ leBytes 2 e.status ++ leBytes 2 e.vol ++
    leBytes 8 e.result0 ++ leBytes 8 e.result1 ++ leBytes 4 e.done ++ leBytes 8 e.opSec ++ leBytes 4 e.pcycle)

/-- Page 0x01: the error log of a queue. -/
def State.queueLog (s : State) (n q : Nat) : List Nat :=
  let y := s.queueSt n q
  let held := s.heldCmds n q
  let f := y.frozen.getD (0, 0)
  let head := leBytes 2 n ++ [q, y.frozen.isSome.toNat] ++ leBytes 4 y.errors ++ leBytes 2 y.log.length ++
    leBytes 2 held.length ++ leBytes 4 0 ++ leBytes 8 f.1 ++ leBytes 2 f.2
  padTo 1056 (padTo 32 head ++ y.log.flatMap LogEntry.bytes) ++
    ((held.take 1024).flatMap fun c => leBytes 2 c.ref.tag) ++ List.replicate (2 * (1024 - held.length)) 0xFF

/-- An entry of the lost-block ledger (R279). -/
def LostEntry.bytes (e : LostEntry) : List Nat :=
  leBytes 2 e.vol ++ [e.cause, 0] ++ leBytes 8 e.first ++ leBytes 4 e.count ++ leBytes 4 e.row ++ [e.col % 256, 0, 0, 0] ++
    leBytes 8 e.opSec

/-- An entry of the retirement ledger (R455). -/
def LedgerEntry.bytes (e : LedgerEntry) : List Nat :=
  let b := padTo 24 ([e.kind, e.active.toNat + 2 * e.hdaHeld.toNat + 4 * e.released.toNat] ++ leBytes 2 e.index ++
    leBytes 2 e.reason ++ leBytes 2 0 ++ leBytes 4 e.opSec ++ leBytes 4 e.pcycle ++ leBytes 4 e.seq)
  let c := padTo 60 (b ++ e.serial.take 24)
  c ++ leBytes 4 (crc32c c)

/-- Page 0x03: a header and every entry (R456). -/
def State.ledgerPage (s : State) : List Nat :=
  padTo 64 (leBytes 4 s.ledger.length ++ leBytes 4 (s.ledger.filter (·.active)).length ++ leBytes 4 s.opSec) ++
    s.ledger.flatMap LedgerEntry.bytes

/-- Page 0x04: frames, retransmits, NAKs, RTO and failovers of each path, 32 bits each (log entry 33). -/
def Session.pathLog (x : Session) : List Nat :=
  x.paths.flatMap fun p => leBytes 4 p.frames ++ leBytes 4 p.retransmits ++ leBytes 4 p.naks ++ leBytes 4 p.rto ++
    leBytes 4 p.failovers

/-- The page a GET-LOG names; none where it names none. -/
def State.logPage (s : State) (c : Cmd) : Option (List Nat) :=
  let ix := capF c.cap 6 2
  match capB c.cap 4 with
  | 1 =>
    let n := if ix / 64 = 0 then c.ref.session else ix / 64
    if s.holdsQueue n (ix % 64) then some (s.queueLog n (ix % 64)) else none
  | 2 => some (s.lost.flatMap LostEntry.bytes)
  | 3 => some s.ledgerPage
  | 4 => (s.namedSession c ix).map Session.pathLog
  | 5 => if ix < 4 then some (tgetD ix [] s.lldp) else none
  | _ => none

/-- GET-LOG (R309, R313). -/
def getLog (r : CmdRef) (s : State) : State :=
  s.runAdmin 0x41 r fun c t =>
    let len := capF c.cap 16 4
    if len = 0 || 1048576 < len then (noResult St.invalidField, t)
    else match t.logPage c with
      | none => (noResult St.invalidField, t)
      | some l => ((St.success, l.length, 0), t.sendAdmin c ((l.drop (capF c.cap 8 8)).take len))

/-! ## REG-READ and REG-WRITE (R309, R479, R481, R484) -/

/-- The addresses a REG-READ or REG-WRITE names: none where its count, its alignment or its range is not allowed. -/
def Cmd.span (c : Cmd) : Option (List Nat) :=
  let a := capF c.cap 8 4
  let n := capF c.cap 12 4
  if 1 ≤ n && n ≤ 2048 && a % 4 = 0 && a + 4 * n ≤ 0x130000 then some ((List.range n).map fun i => a + 4 * i) else none

/-- REG-READ: the words in ascending address order, and whether a register was out of service. -/
def regRead (r : CmdRef) (s : State) : State :=
  s.runAdmin 0x42 r fun c t =>
    match c.span with
    | none => (noResult St.invalidField, t)
    | some l =>
      let (ws, out, t1) := l.foldl (fun (x : List Nat × Bool × State) a =>
        let (v, u) := x.2.2.readReg c.regPath a
        (x.1 ++ [v.1], x.2.1 || v.2, u)) ([], false, t)
      ((St.success, ws.headD 0, out.toNat), if l.length = 1 then t1 else t1.sendAdmin c (ws.flatMap fun w => leBytes 4 w))

/-- The values a REG-WRITE writes. -/
def Cmd.values (c : Cmd) : List Nat :=
  if capF c.cap 12 4 = 1 then [capF c.cap 16 4]
  else (List.range (capF c.cap 12 4)).map fun i => leVal ((c.bytes.drop (4 * i)).take 4)

/-- REG-WRITE: the words one at a time; RESULT0 counts those refused, RESULT1 is the address of the first. -/
def regWrite (r : CmdRef) (s : State) : State :=
  (s.runAdmin 0x43 r fun c t =>
    match c.span with
    | none => (noResult St.invalidField, t)
    | some l =>
      let (n, first, t1) := (l.zip c.values).foldl (fun (x : Nat × Nat × State) e =>
        let (bad, u) := x.2.2.writeReg none c.regPath e.1 e.2
        if bad then (x.1 + 1, if x.1 = 0 then e.1 else x.2.1, u) else (x.1, x.2.1, u)) (0, 0xFFFFFFFF, t)
      ((St.success, n, first), t1)).afterWrite none

/-! ## EVENT-READ and EVENT-CLEAR (R475, R476) -/

/-- The records of a region as bytes; of the buffer while the vault is faulted (R473). -/
def State.regionBytes (s : State) (region : Nat) : List Nat :=
  if region = 0 then (if s.vault.faulted then s.rcd.fixBuf else s.rcd.fixReg).flatMap EvRec.bytes
  else (if s.vault.faulted then s.rcd.varBuf else s.rcd.varReg).flatMap VarRec.bytes

/-- EVENT-READ (R475). -/
def eventRead (r : CmdRef) (s : State) : State :=
  s.runAdmin 0x4B r fun c t =>
    let region := capB c.cap 4
    let off := capF c.cap 8 8
    if 1 < region || off % (if region = 0 then 32 else 16) != 0 then (noResult St.invalidField, t)
    else
      let t1 := t.flush
      let l := ((t1.regionBytes region).drop off).take (capF c.cap 16 4)
      ((St.success, l.length, if region = 0 then t1.rcd.fixDropped else t1.rcd.varDropped), t1.sendAdmin c l)

/-- EVENTS_DROPPED in the fixed region for a region and its count (R476). -/
def Recorder.noteDropped (t : Stamp) (region count : Nat) (r : Recorder) : Recorder :=
  { r with
    fixReg := r.fixReg ++ [⟨Ev.EVENTS_DROPPED, 0, region, 0, count, 0, 0, false, false, false, t.opSec, t.pcycle, r.seq⟩]
    seq := r.seq + 1 }

/-- A clear of the fixed region that left room: its own count first, then the variable region's that waited (R476). -/
def Recorder.fixCleared (t : Stamp) (r : Recorder) : Recorder :=
  let r1 := if r.fixDropped != 0 && r.fixReg.length < fixRegCap then
      { r.noteDropped t 0 r.fixDropped with fixDropped := 0, fixFull := false }
    else r
  if r1.varOwed && r1.fixReg.length < fixRegCap then
    { r1.noteDropped t 1 r1.varDropped with varDropped := 0, varOwed := false }
  else r1

/-- A clear of the variable region that left room (R476). -/
def Recorder.varCleared (t : Stamp) (r : Recorder) : Recorder :=
  if r.varDropped != 0 && varSize r.varReg < varRegCap then
    let r1 := { r with varFull := false }
    if !r1.fixFull && r1.fixReg.length < fixRegCap then { r1.noteDropped t 1 r1.varDropped with varDropped := 0 }
    else { r1 with varOwed := true }
  else r

/-- Remove the records of a region with a sequence number at or below one; their number (R476, R473). -/
def State.clearEvents (region seq : Nat) (s : State) : Nat × State :=
  let r := s.rcd
  if s.vault.faulted then
    if region = 0 then
      ((r.fixBuf.filter fun e => e.seq ≤ seq).length, { s with rcd := { r with fixBuf := r.fixBuf.filter fun e => seq < e.seq } })
    else ((r.varBuf.filter fun e => e.seq ≤ seq).length, { s with rcd := { r with varBuf := r.varBuf.filter fun e => seq < e.seq } })
  else if region = 0 then
    ((r.fixReg.filter fun e => e.seq ≤ seq).length,
      { s with rcd := Recorder.fixCleared s.stamp { r with fixReg := r.fixReg.filter fun e => seq < e.seq } })
  else
    ((r.varReg.filter fun e => e.seq ≤ seq).length,
      { s with rcd := Recorder.varCleared s.stamp { r with varReg := r.varReg.filter fun e => seq < e.seq } })

/-- EVENT-CLEAR (R476). -/
def eventClear (r : CmdRef) (s : State) : State :=
  s.runAdmin 0x4C r fun c t =>
    let region := capB c.cap 4
    if 1 < region then (noResult St.invalidField, t)
    else
      let (n, t1) := t.flush.clearEvents region (capF c.cap 8 8)
      ((St.success, n, 0), t1)

/-! ## KINDLING-WRITE (R433) -/

/-- Bytes go into the gathering buffer; offset 0 first fills it with 0xFF. -/
def State.gather (off : Nat) (l : List Nat) (s : State) : State :=
  let b0 := if off = 0 then [] else s.knd.buf
  let b1 := (List.range l.length).foldl (fun b i =>
    if l.getD i 0 % 256 = 0xFF then tdel (off + i) b else tset (off + i) (l.getD i 0 % 256) b) b0
  let top := max (if off = 0 then 0 else s.get R.KND_WRITE_BYTES) (off + l.length)
  ((({ s with knd := { s.knd with buf := b1 } }.set R.KND_WRITE_BYTES top).set R.KND_WRITE_STATE 1).set R.KND_WRITE_FAIL_CHECK 0)

/-- The first bytes of the gathering buffer. -/
def State.gathered (s : State) (n : Nat) : List Nat := (List.range n).map fun i => tgetD i 0xFF s.knd.buf

/-- The checks of a FINAL: 2 to 9 of R432 on the image, then those of R380 on its patches as 10 + n; 0 for none. -/
def State.finalCheck (s : State) (img : List Nat) : Nat :=
  let f := imageCheck img (leAt img 16 4)
  if f != 0 then f
  else
    let one (cls : Nat) : Nat := match patchOf img cls with | some p => s.patchCheck p cls | none => 0
    if one 0 != 0 then 10 + one 0 else if one 1 != 0 then 10 + one 1 else 0

/-- A slot record (R428). -/
def slotRecord (seq len : Nat) : List Nat :=
  let r := [0x4B, 0x53, 0x4C, 0x54, 1, 0, 0, 0] ++ leBytes 4 seq ++ leBytes 4 len ++ List.replicate 12 0
  r ++ leBytes 4 (crc32c r)

/-- Bytes of a card written from an address on. -/
def cardWrite (c : Card) (a : Nat) (l : List Nat) : Card :=
  { c with bytes := (c.bytes.filter fun e => !(a ≤ e.1 && e.1 < a + l.length)) ++
      ((List.range l.length).map fun i => (a + i, l.getD i 0)) }

/-- The slot a FINAL programs, and its sequence number: the one not in use, one above the one in use; with none in use, the slot
not tried first. -/
def State.programSlot (s : State) (c : Card) : Nat × Nat :=
  if s.get R.KND_STATUS_STATE = 1 then (1 - s.get R.KND_STATUS_ACTIVE_SLOT, (s.get R.KND_SEQ_SEQ + 1) % 2 ^ 32)
  else (1 - cardFirst c, (match cardRecord c (cardFirst c) with | some x => x.1 + 1 | none => 1) % 2 ^ 32)

/-- A programming or read-back that fails (R433): the record of the slot is erased, the slot in use is untouched. -/
def State.programFail (s : State) : (Nat × Nat × Nat) × State :=
  (noResult St.internal, (s.set R.KND_WRITE_STATE 5).event Ev.KINDLING_PROGRAM_FAIL (origin 0 0) 0 0 0 0)

/-- Steps 1 to 5 of a FINAL. -/
def State.final (programmed : Bool) (s : State) : (Nat × Nat × Nat) × State :=
  let img := s.gathered (min (leAt (s.gathered 20) 16 4) maxImage)
  let f := s.finalCheck (if img.length < 64 then s.gathered 64 else img)
  if f != 0 then
    (noResult St.imageInvalid, (s.set R.KND_WRITE_STATE 5).set R.KND_WRITE_FAIL_CHECK f)
  else match s.knd.card with
    | none => s.programFail
    | some c =>
      if !cardUsable c then s.programFail
      else
        let (slot, seq) := s.programSlot c
        let b := slotBase slot
        let c1 := cardWrite c b (List.replicate 32 0xFF)
        if programmed then
          let c2 := cardWrite (cardWrite c1 (b + 0x1000) img) b (slotRecord seq img.length)
          (noResult St.success, { s with knd := { s.knd with card := some c2 } }.set R.KND_WRITE_STATE 4)
        else ({ s with knd := { s.knd with card := some c1 } }).programFail

/-- KINDLING-WRITE (R433), without FINAL and with it. -/
def kindlingWrite (final programmed : Bool) (r : CmdRef) (s : State) : State :=
  match s.adminCmd 0x4D r with
  | none => s
  | some c0 =>
    if (capB c0.cap 16).testBit 0 != final then s
    else s.runAdmin 0x4D r fun c t =>
      let off := capF c.cap 8 4
      let len := capF c.cap 12 4
      if len = 0 || 1048576 < len || maxImage < off + len then (noResult St.invalidField, t)
      else if final && !t.mgmtOk then (noResult St.refused, t)
      else
        let t1 := t.gather off (c.bytes.take len)
        if final then t1.final programmed else (noResult St.success, t1)

/-- REKINDLE (R309, R438): refused while the management island is faulted (R27); its completion goes before the CLOSE. -/
def rekindle (r : CmdRef) (obs : StartObs) (s : State) : State :=
  match s.adminCmd 0x4E r with
  | none => s
  | some c =>
    if capF c.cap 8 4 != 0x4B494E44 then s.complete c St.invalidField 0 0 0
    else if !s.mgmtOk then s.complete c St.refused 0 0 0
    else (s.complete c St.success 0 0 0).beginRekindle obs

/-! ## The UART (R485) -/

/-- Hexadecimal digits of a word. -/
def hexWord (w : Nat) : List Nat := hexBytes (beBytes 4 w)

/-- ASCII replies of R485. -/
def lineOk : List Nat := [79, 75]
def lineErr : List Nat := [69, 82, 82]
def lineBusy : List Nat := [66, 85, 83, 89]
def lineRefused : List Nat := [82, 69, 70, 85, 83, 69, 68]

/-- R line. -/
def uartRead (a : Nat) (s : State) : State :=
  if !s.mgmtOk then s
  else if inMap a && a % 4 = 0 then
    let (v, t) := s.readReg .uart a
    t.uartLine (hexWord v.1 ++ if v.2 then [32, 88] else [])
  else s.uartLine lineErr

/-- W line. -/
def uartWrite (a w : Nat) (s : State) : State :=
  if !s.mgmtOk then s
  else if inMap a && a % 4 = 0 then
    let (bad, t) := s.pathWrite none .uart a w
    (t.uartLine (if bad then lineRefused else lineOk)).afterWrite none
  else s.uartLine lineErr

/-- D line: up to 64 bytes for the next admin command. -/
def uartData (l : List Nat) (s : State) : State :=
  if !s.mgmtOk then s
  else if 64 < l.length then s.uartLine lineErr
  else { s with knd := { s.knd with uartData := s.knd.uartData ++ l } }

/-- C line: the capsule is admitted as an admin command of queue 0 with the data given before it; BUSY while one runs. Data
that is not what the command takes completes it INVALID-FIELD (log entry 34). -/
def uartCapsule (cap : Capsule) (s : State) : State :=
  if !s.mgmtOk then s
  else if cap.length != 64 then s.uartLine lineErr
  else if s.rekindling || s.cmds.any (fun c => c.ref.session = 0) then s.uartLine lineBusy
  else
    let c : Cmd := { ref := ⟨0, 0, capF cap 2 2⟩, cap := cap, arrival := s.que.arrival, path := 0, port := 3, since := s.now,
                     bytes := s.knd.uartData }
    let s1 : State := { s with que := { s.que with arrival := s.que.arrival + 1 }, knd := { s.knd with uartData := [] } }
    if !opAdmin c.op then s1.complete c St.invalidOpcode 0 0 0
    else if c.bytes.length != adminBytes c then s1.complete c St.invalidField 0 0 0
    else { s1 with cmds := s1.cmds ++ [c] }

/-! ## The TAP (R448, R449, R486) -/

/-- Instructions that need scan state (R448). -/
def tapNeedsScan (code : Nat) : Bool := [0x00, 0x03, 0x04, 0x20].contains code

/-- Entry to scan state (R449): the keys are zeroized first; then CLOSE with reason 3, and the module cuts and banks. -/
def State.enterScan (code : Nat) (s : State) : State :=
  let s1 := s.dropKeys.forAll (List.range 16) fun k t => t.set (R.VOL_KEY_DATA_KEY k) 0
  let s2 := ((s1.event Ev.SCAN_ZEROIZED (origin 0 0) 0 0 0 0).count R.DBG_TAP_ZEROIZE_COUNT 1).set R.GLB_STATUS_SCAN 1
  (s2.closeSessions 3).cutFor (.scan code)

/-- Update-IR with an instruction, by its code (R448, R449). Until an entry sequence is done the TAP acts as BYPASS. -/
def tapLoad (code : Nat) (s : State) : State :=
  let s1 := if code = 0x01 || code = 0xFF then s else s.set R.DBG_TAP_TAP_USED 1
  if s.bit R.GLB_STATUS_SCAN then s1
  else if tapNeedsScan code then { s1 with knd := { s1.knd with tapIr := 0xFF } }.enterScan code
  else { s1 with knd := { s1.knd with tapIr := code } }

/-- The TAP works while the module runs and its management island does, and in scan state. -/
def tapRow (code : Nat) (s : State) : Host.Outcome State Fault Refusal :=
  if s.run = .scan then .next { s with knd := { s.knd with tapIr := code } }
  else act s fun t => if t.mgmtOk then tapLoad code t else t

/-- REG_ACCESS_UPDATE_DR (R486): an access while REG_ACCESS is in force; outside the map it is never done. What the read data
holds after a write no rule gives (log entry 1). -/
def regAccessUpdateDr (write : Bool) (a w : Nat) (s : State) : State :=
  if !s.mgmtOk || s.knd.tapIr != 0x10 then s
  else
    let s1 : State := { s with knd := { s.knd with tapAddr := a, tapDone := false } }
    if !(inMap a && a % 4 = 0) then s1
    else if write then
      let (_, t) := s1.pathWrite none .tap a w
      ({ t.bump with knd := { t.knd with tapDone := true, tapData := t.freeNat (2 ^ 32) } }).afterWrite none
    else
      let (v, t) := s1.readReg .tap a
      { t with knd := { t.knd with tapDone := true, tapData := v.1 } }

/-! ## The commands -/

def execIdentify (r : CmdRef) (s : State) := actHost s (identify r)
def execGetLog (r : CmdRef) (s : State) := actHost s (getLog r)
def execRegRead (r : CmdRef) (s : State) := actHost s (regRead r)
def execRegWrite (r : CmdRef) (s : State) := actHost s (regWrite r)
def execEventRead (r : CmdRef) (s : State) := actHost s (eventRead r)
def execEventClear (r : CmdRef) (s : State) := actHost s (eventClear r)
def execKindlingWrite (r : CmdRef) (s : State) := actHost s (kindlingWrite false true r)
def execKindlingWriteFinal (r : CmdRef) (programmed : Bool) (s : State) := actHost s (kindlingWrite true programmed r)
def execRekindle (r : CmdRef) (obs : StartObs) (s : State) := actHost s (rekindle r obs)
def execUartRead (addr : Word) (s : State) := act s (uartRead addr.toNat)
def execUartWrite (addr data : Word) (s : State) := act s (uartWrite addr.toNat data.toNat)
def execUartData (bytes : List Byte) (s : State) := act s (uartData (bytes.map (·.toNat)))
def execUartCapsule (bytes : List Byte) (s : State) := act s (uartCapsule (bytes.map (·.toNat)))
def execUartMalformedLine (s : State) := act s (State.uartLine lineErr)
def execTapExtest (s : State) := tapRow 0x00 s
def execTapIdcode (s : State) := tapRow 0x01 s
def execTapSamplePreload (s : State) := tapRow 0x02 s
def execTapClamp (s : State) := tapRow 0x03 s
def execTapHighz (s : State) := tapRow 0x04 s
def execTapRegAccess (s : State) := tapRow 0x10 s
def execTapScanEn (s : State) := tapRow 0x20 s
def execTapBypass (s : State) := tapRow 0xFF s
def execRegAccessUpdateDr (write : Bool) (addr data : Word) (s : State) := act s (regAccessUpdateDr write addr.toNat data.toNat)

end Sys2Proof.Machine
end

