-- ==== Sys2Proof/Machine/Tick.lean ====
section
/-!
DEFINITION. One microsecond of module time, which is what a step does while no command waits (log entry 2).
-/

namespace Sys2Proof.Machine

/-- One microsecond passes: the operating-time counter of the always-on island goes on while it has a supply (R470). -/
def State.advance (s : State) : State :=
  let t : State := { s with now := s.now + 1 }
  if s.run = .off then t
  else if s.opSub + 1 < 1000000 then { t with opSub := s.opSub + 1 }
  else { t with opSub := 0, opSec := s.opSec + 1 }

/-- What a running module does by itself as time goes on: pauses end (R283), a rekindle drains (R438), writes an engine has
posted reach their registers (R370). -/
def State.onTime (s : State) : State := ((s.pausesEnd.driveRekindle).drainPosted 64).after s

/-- What the block does in place of idling. -/
def State.tick (s : State) : State :=
  let t := s.advance
  if t.run = .up then t.onTime else t

end Sys2Proof.Machine
end

