-- ==== Sys2Proof/Machine/Dispatch.lean ====
section
/-! DEFINITION. The meaning of every command: one arm, one definition. -/

namespace Sys2Proof.Machine

def exec (i : Instr) (s : State) : Host.Outcome State Fault Refusal :=
  match i with
  | .slotInsertion slot hda meas => Sys2Proof.Machine.execSlotInsertion slot hda meas s
  | .slotRemoved slot => Sys2Proof.Machine.execSlotRemoved slot s
  | .slotCtrlRebring p slot w => Sys2Proof.Machine.execSlotCtrlRebring p slot w s
  | .slotCtrlPowerOff p slot w => Sys2Proof.Machine.execSlotCtrlPowerOff p slot w s
  | .powerOffSpindleStopped slot => Sys2Proof.Machine.execPowerOffSpindleStopped slot s
  | .powerOffEn5Timer slot => Sys2Proof.Machine.execPowerOffEn5Timer slot s
  | .pserCmdGo p m w run => Sys2Proof.Machine.execPserCmdGo p m w run s
  | .pserHeldWriteApply m run => Sys2Proof.Machine.execPserHeldWriteApply m run s
  | .psfltNAsserted m status => Sys2Proof.Machine.execPsfltNAsserted m status s
  | .moduleAreaWrite slot bad => Sys2Proof.Machine.execModuleAreaWrite slot bad s
  | .spinSenseEnd slot o => Sys2Proof.Machine.execSpinSenseEnd slot o s
  | .brakeSense slot o => Sys2Proof.Machine.execBrakeSense slot o s
  | .alignElapsed slot => Sys2Proof.Machine.execAlignElapsed slot s
  | .blindHandover slot => Sys2Proof.Machine.execBlindHandover slot s
  | .blindHandoverFail slot => Sys2Proof.Machine.execBlindHandoverFail slot s
  | .zeroCrossing slot samples e => Sys2Proof.Machine.execZeroCrossing slot samples e s
  | .transferWindowResume slot => Sys2Proof.Machine.execTransferWindowResume slot s
  | .ilimTrip trip => Sys2Proof.Machine.execIlimTrip trip s
  | .spinObserverLost slot => Sys2Proof.Machine.execSpinObserverLost slot s
  | .spinRecatch slot us emf => Sys2Proof.Machine.execSpinRecatch slot us emf s
  | .spinRecatchFail slot => Sys2Proof.Machine.execSpinRecatchFail slot s
  | .spinBrakeTimeout slot => Sys2Proof.Machine.execSpinBrakeTimeout slot s
  | .spinRampTimeout slot => Sys2Proof.Machine.execSpinRampTimeout slot s
  | .spinStartRetry slot => Sys2Proof.Machine.execSpinStartRetry slot s
  | .spinSupplyLimited slot => Sys2Proof.Machine.execSpinSupplyLimited slot s
  | .spinSupplyLimitDusk slot => Sys2Proof.Machine.execSpinSupplyLimitDusk slot s
  | .spinCtrlSetpoint p slot w => Sys2Proof.Machine.execSpinCtrlSetpoint p slot w s
  | .spinCtrlRestart p slot w => Sys2Proof.Machine.execSpinCtrlRestart p slot w s
  | .spinAdvWrite p slot ix w => Sys2Proof.Machine.execSpinAdvWrite p slot ix w s
  | .spinupGroupStart j => Sys2Proof.Machine.execSpinupGroupStart j s
  | .servoWedge m obs => Sys2Proof.Machine.execServoWedge m obs s
  | .shockShelfHoldEnd => Sys2Proof.Machine.execShockShelfHoldEnd s
  | .headJoin g => Sys2Proof.Machine.execHeadJoin g s
  | .headAcquireTimeout g => Sys2Proof.Machine.execHeadAcquireTimeout g s
  | .headUpSaturated g => Sys2Proof.Machine.execHeadUpSaturated g s
  | .pesInvalidDeparture g => Sys2Proof.Machine.execPesInvalidDeparture g s
  | .setEmptyTimeout m => Sys2Proof.Machine.execSetEmptyTimeout m s
  | .damperEvaluation l runs vcm ff ns => Sys2Proof.Machine.execDamperEvaluation l runs vcm ff ns s
  | .dampCommitGo p w => Sys2Proof.Machine.execDampCommitGo p w s
  | .dampStateSel p w => Sys2Proof.Machine.execDampStateSel p w s
  | .dampCtrlLaneEn p w => Sys2Proof.Machine.execDampCtrlLaneEn p w s
  | .seekRequest m target write => Sys2Proof.Machine.execSeekRequest m target write s
  | .seekLoopsResume m => Sys2Proof.Machine.execSeekLoopsResume m s
  | .loadRequest m reserveMv => Sys2Proof.Machine.execLoadRequest m reserveMv s
  | .loadServoAcquired m => Sys2Proof.Machine.execLoadServoAcquired m s
  | .loadFail m => Sys2Proof.Machine.execLoadFail m s
  | .loadRetry m reserveMv => Sys2Proof.Machine.execLoadRetry m reserveMv s
  | .actCtrlUnload p m w => Sys2Proof.Machine.execActCtrlUnload p m w s
  | .headsParked m => Sys2Proof.Machine.execHeadsParked m s
  | .vcmSaturated m => Sys2Proof.Machine.execVcmSaturated m s
  | .servoLost m => Sys2Proof.Machine.execServoLost m s
  | .servoReload m reserveMv => Sys2Proof.Machine.execServoReload m reserveMv s
  | .vcmCoilHot m => Sys2Proof.Machine.execVcmCoilHot m s
  | .headOffsetWrite p g w => Sys2Proof.Machine.execHeadOffsetWrite p g w s
  | .sectorRead g n obs => Sys2Proof.Machine.execSectorRead g n obs s
  | .sectorWrite g n block duty => Sys2Proof.Machine.execSectorWrite g n block duty s
  | .writeFifoEmpty g => Sys2Proof.Machine.execWriteFifoEmpty g s
  | .assistSetpointRewrite g temp => Sys2Proof.Machine.execAssistSetpointRewrite g temp s
  | .assistDutyWindow m duty => Sys2Proof.Machine.execAssistDutyWindow m duty s
  | .headRejoinBound m h row col => Sys2Proof.Machine.execHeadRejoinBound m h row col s
  | .departedHeadReadAround g cmd block => Sys2Proof.Machine.execDepartedHeadReadAround g cmd block s
  | .decGrant r => Sys2Proof.Machine.execDecGrant r s
  | .contextAssign c => Sys2Proof.Machine.execContextAssign c s
  | .globalIterationEnd c r => Sys2Proof.Machine.execGlobalIterationEnd c r s
  | .deferredHoldExpiry id => Sys2Proof.Machine.execDeferredHoldExpiry id s
  | .decCancel id => Sys2Proof.Machine.execDecCancel id s
  | .recoveryReadSubmit r newRead => Sys2Proof.Machine.execRecoveryReadSubmit r newRead s
  | .retentionTimeout handle => Sys2Proof.Machine.execRetentionTimeout handle s
  | .retainRelease handle => Sys2Proof.Machine.execRetainRelease handle s
  | .katTimer c first second => Sys2Proof.Machine.execKatTimer c first second s
  | .decCoreEnWrite p ix w => Sys2Proof.Machine.execDecCoreEnWrite p ix w s
  | .decStatSel p w => Sys2Proof.Machine.execDecStatSel p w s
  | .linkUp p l => Sys2Proof.Machine.execLinkUp p l s
  | .linkDown p l => Sys2Proof.Machine.execLinkDown p l s
  | .hostPortFault p => Sys2Proof.Machine.execHostPortFault p s
  | .osfpModuleInserted p watts => Sys2Proof.Machine.execOsfpModuleInserted p watts s
  | .dadResult port l k dup => Sys2Proof.Machine.execDadResult port l k dup s
  | .routerAdvertisement port l addr len => Sys2Proof.Machine.execRouterAdvertisement port l addr len s
  | .neighbourDiscovery port l addr => Sys2Proof.Machine.execNeighbourDiscovery port l addr s
  | .arpRequest port l addr => Sys2Proof.Machine.execArpRequest port l addr s
  | .echoRequest port l addr v4 => Sys2Proof.Machine.execEchoRequest port l addr v4 s
  | .lldpTimer => Sys2Proof.Machine.execLldpTimer s
  | .lldpReceive port l ident bytes => Sys2Proof.Machine.execLldpReceive port l ident bytes s
  | .cmdFrame f => Sys2Proof.Machine.execCmdFrame f s
  | .dataFrame f => Sys2Proof.Machine.execDataFrame f s
  | .ackFrame f => Sys2Proof.Machine.execAckFrame f s
  | .nakFrame f => Sys2Proof.Machine.execNakFrame f s
  | .open_ f => Sys2Proof.Machine.execOpen f s
  | .addPath f => Sys2Proof.Machine.execAddPath f s
  | .close f => Sys2Proof.Machine.execClose f s
  | .closed f => Sys2Proof.Machine.execClosed f s
  | .keepalive f => Sys2Proof.Machine.execKeepalive f s
  | .failover f => Sys2Proof.Machine.execFailover f s
  | .ackDelayTimer n p => Sys2Proof.Machine.execAckDelayTimer n p s
  | .retransmissionTimeout n p => Sys2Proof.Machine.execRetransmissionTimeout n p s
  | .keepaliveTimer n p => Sys2Proof.Machine.execKeepaliveTimer n p s
  | .pathSilenceTimeout n p => Sys2Proof.Machine.execPathSilenceTimeout n p s
  | .sessionHoldExpiry n => Sys2Proof.Machine.execSessionHoldExpiry n s
  | .dataTimeout r => Sys2Proof.Machine.execDataTimeout r s
  | .receivedPacketDropped p hcrc => Sys2Proof.Machine.execReceivedPacketDropped p hcrc s
  | .pfcFrameReceived p prio us => Sys2Proof.Machine.execPfcFrameReceived p prio us s
  | .stagingCommit r => Sys2Proof.Machine.execStagingCommit r s
  | .stagingCommitComplete r => Sys2Proof.Machine.execStagingCommitComplete r s
  | .cacheFillComplete v line => Sys2Proof.Machine.execCacheFillComplete v line s
  | .cacheWritebackDone v line ok => Sys2Proof.Machine.execCacheWritebackDone v line ok s
  | .cacheTagError e => Sys2Proof.Machine.execCacheTagError e s
  | .invalidateAllDone => Sys2Proof.Machine.execInvalidateAllDone s
  | .dramUncorrectable d addr => Sys2Proof.Machine.execDramUncorrectable d addr s
  | .dramCeLimit d n addr => Sys2Proof.Machine.execDramCeLimit d n addr s
  | .dramScrubPass d n addr => Sys2Proof.Machine.execDramScrubPass d n addr s
  | .mapSegmentReload seg ok => Sys2Proof.Machine.execMapSegmentReload seg ok s
  | .read r hostBad => Sys2Proof.Machine.execRead r hostBad s
  | .write r => Sys2Proof.Machine.execWrite r s
  | .writeZeroes r => Sys2Proof.Machine.execWriteZeroes r s
  | .deallocate r => Sys2Proof.Machine.execDeallocate r s
  | .flush r => Sys2Proof.Machine.execFlush r s
  | .verify r hostBad => Sys2Proof.Machine.execVerify r hostBad s
  | .abort r => Sys2Proof.Machine.execAbort r s
  | .readFailure id r lba pass ready => Sys2Proof.Machine.execReadFailure id r lba pass ready s
  | .ladderReadEnd id pass ready => Sys2Proof.Machine.execLadderReadEnd id pass ready s
  | .reconstructionResult pl ok => Sys2Proof.Machine.execReconstructionResult pl ok s
  | .weakListFull => Sys2Proof.Machine.execWeakListFull s
  | .weakRelocation pl readBack => Sys2Proof.Machine.execWeakRelocation pl readBack s
  | .extentWriteback v ext => Sys2Proof.Machine.execExtentWriteback v ext s
  | .journalAppendDurable upto => Sys2Proof.Machine.execJournalAppendDurable upto s
  | .zoneRowFillWait g k p => Sys2Proof.Machine.execZoneRowFillWait g k p s
  | .extentCopy v ext => Sys2Proof.Machine.execExtentCopy v ext s
  | .heatEpochAdvance => Sys2Proof.Machine.execHeatEpochAdvance s
  | .heatSweep => Sys2Proof.Machine.execHeatSweep s
  | .backgroundOpStart m order fgUs queued work => Sys2Proof.Machine.execBackgroundOpStart m order fgUs queued work s
  | .backgroundOpEnd m us => Sys2Proof.Machine.execBackgroundOpEnd m us s
  | .mapCheckpoint seg => Sys2Proof.Machine.execMapCheckpoint seg s
  | .stokerSetpoint slot busy quiet idle needed => Sys2Proof.Machine.execStokerSetpoint slot busy quiet idle needed s
  | .zoneEvacuated z => Sys2Proof.Machine.execZoneEvacuated z s
  | .zoneRowCommit row written => Sys2Proof.Machine.execZoneRowCommit row written s
  | .bandRowLockGrant row => Sys2Proof.Machine.execBandRowLockGrant row s
  | .bandRowWriteDone row => Sys2Proof.Machine.execBandRowWriteDone row s
  | .intentBitDurable region => Sys2Proof.Machine.execIntentBitDurable region s
  | .journalBatch idle => Sys2Proof.Machine.execJournalBatch idle s
  | .copyMemberLost m => Sys2Proof.Machine.execCopyMemberLost m s
  | .memberReturn m => Sys2Proof.Machine.execMemberReturn m s
  | .rebuildStart m => Sys2Proof.Machine.execRebuildStart m s
  | .rebuildUnitComplete m band ix lost => Sys2Proof.Machine.execRebuildUnitComplete m band ix lost s
  | .ledgerCopy => Sys2Proof.Machine.execLedgerCopy s
  | .volumeCreate r => Sys2Proof.Machine.execVolumeCreate r s
  | .volumeDelete r => Sys2Proof.Machine.execVolumeDelete r s
  | .volumeSet r => Sys2Proof.Machine.execVolumeSet r s
  | .layoutReshape r => Sys2Proof.Machine.execLayoutReshape r s
  | .layoutReshapeCancel r => Sys2Proof.Machine.execLayoutReshapeCancel r s
  | .writeback r => Sys2Proof.Machine.execWriteback r s
  | .purge r => Sys2Proof.Machine.execPurge r s
  | .dropClean r => Sys2Proof.Machine.execDropClean r s
  | .resumeContinue q => Sys2Proof.Machine.execResumeContinue q s
  | .resumeDiscard q => Sys2Proof.Machine.execResumeDiscard q s
  | .setKeyUnlock q => Sys2Proof.Machine.execSetKeyUnlock q s
  | .setKeyEstablish q => Sys2Proof.Machine.execSetKeyEstablish q s
  | .setKeyClear q => Sys2Proof.Machine.execSetKeyClear q s
  | .invalidateAll q => Sys2Proof.Machine.execInvalidateAll q s
  | .cacheEnable q => Sys2Proof.Machine.execCacheEnable q s
  | .cacheDisable q => Sys2Proof.Machine.execCacheDisable q s
  | .slotReassign load => Sys2Proof.Machine.execSlotReassign load s
  | .slotOwnerMove slot => Sys2Proof.Machine.execSlotOwnerMove slot s
  | .hobEngineFail n cause => Sys2Proof.Machine.execHobEngineFail n cause s
  | .flueEngineFail n cause => Sys2Proof.Machine.execFlueEngineFail n cause s
  | .engineFault n cause => Sys2Proof.Machine.execEngineFault n cause s
  | .microword n obs => Sys2Proof.Machine.execMicroword n obs s
  | .engineTimerExpiry n t => Sys2Proof.Machine.execEngineTimerExpiry n t s
  | .doorbellSet n bit => Sys2Proof.Machine.execDoorbellSet n bit s
  | .engineFence p n w => Sys2Proof.Machine.execEngineFence p n w s
  | .engineFenceComplete n => Sys2Proof.Machine.execEngineFenceComplete n s
  | .engineUnfence p n w => Sys2Proof.Machine.execEngineUnfence p n w s
  | .engineHalt p n w => Sys2Proof.Machine.execEngineHalt p n w s
  | .engineRun p n w => Sys2Proof.Machine.execEngineRun p n w s
  | .engineStep p n w => Sys2Proof.Machine.execEngineStep p n w s
  | .engineReset p n w => Sys2Proof.Machine.execEngineReset p n w s
  | .engDbgWrite p n w => Sys2Proof.Machine.execEngDbgWrite p n w s
  | .engCsRead p n w => Sys2Proof.Machine.execEngCsRead p n w s
  | .engCsWrite p n w => Sys2Proof.Machine.execEngCsWrite p n w s
  | .engMatchWrite p n w => Sys2Proof.Machine.execEngMatchWrite p n w s
  | .engSlotOwnerWrite p ix w => Sys2Proof.Machine.execEngSlotOwnerWrite p ix w s
  | .feedAbsent f => Sys2Proof.Machine.execFeedAbsent f s
  | .feedPresent f => Sys2Proof.Machine.execFeedPresent f s
  | .feedOutOfRange f => Sys2Proof.Machine.execFeedOutOfRange f s
  | .feedRestored f => Sys2Proof.Machine.execFeedRestored f s
  | .pfcFault f => Sys2Proof.Machine.execPfcFault f s
  | .dcdcFault half => Sys2Proof.Machine.execDcdcFault half s
  | .powerCapCheck watts busy => Sys2Proof.Machine.execPowerCapCheck watts busy s
  | .powerCapUndo watts => Sys2Proof.Machine.execPowerCapUndo watts s
  | .supplyWarning => Sys2Proof.Machine.execSupplyWarning s
  | .supplyQualifies => Sys2Proof.Machine.execSupplyQualifies s
  | .supplyStopsQualifying => Sys2Proof.Machine.execSupplyStopsQualifying s
  | .supplyCut => Sys2Proof.Machine.execSupplyCut s
  | .powerDownBlocks => Sys2Proof.Machine.execPowerDownBlocks s
  | .bankComplete ms => Sys2Proof.Machine.execBankComplete ms s
  | .supplyQualified50ms obs => Sys2Proof.Machine.execSupplyQualified50ms obs s
  | .bulkBusBelow230v => Sys2Proof.Machine.execBulkBusBelow230v s
  | .handleLatchRelease => Sys2Proof.Machine.execHandleLatchRelease s
  | .thermalSensorRead l => Sys2Proof.Machine.execThermalSensorRead l s
  | .thermalRestart obs => Sys2Proof.Machine.execThermalRestart obs s
  | .calibrationDue kind elem rz moved => Sys2Proof.Machine.execCalibrationDue kind elem rz moved s
  | .calibrationStart kind elem rz => Sys2Proof.Machine.execCalibrationStart kind elem rz s
  | .calibrationRunEnd kind elem rz values pick discarded => Sys2Proof.Machine.execCalibrationRunEnd kind elem rz values pick discarded s
  | .calSuspectRetry kind elem => Sys2Proof.Machine.execCalSuspectRetry kind elem s
  | .marginMeasurement g rz => Sys2Proof.Machine.execMarginMeasurement g rz s
  | .calReqGo p w => Sys2Proof.Machine.execCalReqGo p w s
  | .calElemSel p w => Sys2Proof.Machine.execCalElemSel p w s
  | .ageSel p w => Sys2Proof.Machine.execAgeSel p w s
  | .coldStart obs => Sys2Proof.Machine.execColdStart obs s
  | .startLate => Sys2Proof.Machine.execStartLate s
  | .brownOutRestart obs => Sys2Proof.Machine.execBrownOutRestart obs s
  | .modResetNLow => Sys2Proof.Machine.execModResetNLow s
  | .rstModule p w => Sys2Proof.Machine.execRstModule p w s
  | .moduleResetRestart obs => Sys2Proof.Machine.execModuleResetRestart obs s
  | .modResetNHighAtStart obs => Sys2Proof.Machine.execModResetNHighAtStart obs s
  | .rstPort p w => Sys2Proof.Machine.execRstPort p w s
  | .portResetEnd port => Sys2Proof.Machine.execPortResetEnd port s
  | .unlitPoll obs => Sys2Proof.Machine.execUnlitPoll obs s
  | .selfTest q => Sys2Proof.Machine.execSelfTest q s
  | .selfTestEnd kind index reached match_ ms meas => Sys2Proof.Machine.execSelfTestEnd kind index reached match_ ms meas s
  | .selfTestRetest kind index => Sys2Proof.Machine.execSelfTestRetest kind index s
  | .stSel p w => Sys2Proof.Machine.execStSel p w s
  | .tapExtest => Sys2Proof.Machine.execTapExtest s
  | .tapIdcode => Sys2Proof.Machine.execTapIdcode s
  | .tapSamplePreload => Sys2Proof.Machine.execTapSamplePreload s
  | .tapClamp => Sys2Proof.Machine.execTapClamp s
  | .tapHighz => Sys2Proof.Machine.execTapHighz s
  | .tapRegAccess => Sys2Proof.Machine.execTapRegAccess s
  | .tapScanEn => Sys2Proof.Machine.execTapScanEn s
  | .tapBypass => Sys2Proof.Machine.execTapBypass s
  | .regAccessUpdateDr write addr data => Sys2Proof.Machine.execRegAccessUpdateDr write addr data s
  | .uartRead addr => Sys2Proof.Machine.execUartRead addr s
  | .uartWrite addr data => Sys2Proof.Machine.execUartWrite addr data s
  | .uartData bytes => Sys2Proof.Machine.execUartData bytes s
  | .uartCapsule bytes => Sys2Proof.Machine.execUartCapsule bytes s
  | .uartMalformedLine => Sys2Proof.Machine.execUartMalformedLine s
  | .islandLossOfLock ix => Sys2Proof.Machine.execIslandLossOfLock ix s
  | .bridgeStall ix => Sys2Proof.Machine.execBridgeStall ix s
  | .mgmtIslandFault => Sys2Proof.Machine.execMgmtIslandFault s
  | .vaultFault => Sys2Proof.Machine.execVaultFault s
  | .channelBucketLeak kind ix => Sys2Proof.Machine.execChannelBucketLeak kind ix s
  | .recoveryComplete row ix => Sys2Proof.Machine.execRecoveryComplete row ix s
  | .retirementLedgerCopy => Sys2Proof.Machine.execRetirementLedgerCopy s
  | .eventFlush => Sys2Proof.Machine.execEventFlush s
  | .evtFlushGo p w => Sys2Proof.Machine.execEvtFlushGo p w s
  | .eventTokenAdd code => Sys2Proof.Machine.execEventTokenAdd code s
  | .evtTimeMarkHi p w => Sys2Proof.Machine.execEvtTimeMarkHi p w s
  | .operatingSecondsSave => Sys2Proof.Machine.execOperatingSecondsSave s
  | .retCtrlAttnAck p w => Sys2Proof.Machine.execRetCtrlAttnAck p w s
  | .fltSel p w => Sys2Proof.Machine.execFltSel p w s
  | .rmgrSel p w => Sys2Proof.Machine.execRmgrSel p w s
  | .islSel p w => Sys2Proof.Machine.execIslSel p w s
  | .queSel p w => Sys2Proof.Machine.execQueSel p w s
  | .stkVolSel p w => Sys2Proof.Machine.execStkVolSel p w s
  | .stkLookupGo p w => Sys2Proof.Machine.execStkLookupGo p w s
  | .recHeadSel p w => Sys2Proof.Machine.execRecHeadSel p w s
  | .thmZoneSel p w => Sys2Proof.Machine.execThmZoneSel p w s
  | .thmSensorSel p w => Sys2Proof.Machine.execThmSensorSel p w s
  | .lqpSessSel p w => Sys2Proof.Machine.execLqpSessSel p w s
  | .portAddrSnapshot p w => Sys2Proof.Machine.execPortAddrSnapshot p w s
  | .portAddrWrite p w => Sys2Proof.Machine.execPortAddrWrite p w s
  | .portCfgDisable p port w => Sys2Proof.Machine.execPortCfgDisable p port w s
  | .cacheProbeGo p w => Sys2Proof.Machine.execCacheProbeGo p w s
  | .readLoLatch p addr => Sys2Proof.Machine.execReadLoLatch p addr s
  | .registerWrite p addr data => Sys2Proof.Machine.execRegisterWrite p addr data s
  | .stkHeatHalfWrite p w => Sys2Proof.Machine.execStkHeatHalfWrite p w s
  | .identify r => Sys2Proof.Machine.execIdentify r s
  | .getLog r => Sys2Proof.Machine.execGetLog r s
  | .regRead r => Sys2Proof.Machine.execRegRead r s
  | .regWrite r => Sys2Proof.Machine.execRegWrite r s
  | .eventRead r => Sys2Proof.Machine.execEventRead r s
  | .eventClear r => Sys2Proof.Machine.execEventClear r s
  | .kindlingWrite r => Sys2Proof.Machine.execKindlingWrite r s
  | .kindlingWriteFinal r programmed => Sys2Proof.Machine.execKindlingWriteFinal r programmed s
  | .rekindle r obs => Sys2Proof.Machine.execRekindle r obs s
  | .kndRekindle p w obs => Sys2Proof.Machine.execKndRekindle p w obs s

end Sys2Proof.Machine
end

