-- ==== Sys2Proof/Machine/Step.lean ====
section
/-! DEFINITION. One step: the command that has waited longest, or, with none waiting, a microsecond of module time. -/

namespace Sys2Proof.Machine

/-- One step of the module (log entry 2). -/
def step (s : State) : Host.Outcome State Fault Refusal :=
  match s.pending with
  | [] => .next s.tick
  | c :: rest => exec c { s with pending := rest }

/-- The state with the command that a word spells at the front of its queue. -/
def State.withFetchWord (s : State) (nbits w : Nat) : State :=
  match decodeTableWord nbits w with
  | some c => { s with pending := c :: s.pending }
  | none => s

end Sys2Proof.Machine
end

