-- ==== Sys2Proof/Safety.lean ====
section
/-! DEFINITION. What the statements call safe, what they say of a command that completes, and what they call unchanged. -/

namespace Sys2Proof

/-- A run is safe while the machine answers next states: it neither faults nor refuses a command. -/
def safeFor : Nat → Machine.State → Prop
  | 0, _ => True
  | n + 1, s => ∃ t, Machine.step s = .next t ∧ safeFor n t

/-- Command c, carried out in state s, answers a next state of which P holds. -/
def leads (c : Instr) (s : Machine.State) (P : Machine.State → Prop) : Prop := ∃ t, Machine.exec c s = .next t ∧ P t

/-- Every register field reads as before, but those of a list. -/
def regsKept (but : List Machine.Fld) (s t : Machine.State) : Prop :=
  ∀ f : Machine.Fld, (∀ g ∈ but, f.key ≠ g.key) → t.get f = s.get f

/-- What hosts have stored is as before: volumes, map, medium, cache and acknowledged staging, and the lost blocks. -/
def dataKept (s t : Machine.State) : Prop :=
  t.vols = s.vols ∧ t.exts = s.exts ∧ t.zsets = s.zsets ∧ t.brows = s.brows ∧ t.media = s.media ∧ t.cache = s.cache ∧
    t.lost = s.lost

/-- The sessions, the commands in flight and their locks are as before. -/
def hostKept (s t : Machine.State) : Prop := t.sessions = s.sessions ∧ t.cmds = s.cmds ∧ t.que = s.que

/-- What hosts have stored and what they wait for, together: what `dataKept` and `hostKept` speak of. -/
def hostView (s : Machine.State) :=
  (s.vols, s.exts, s.zsets, s.brows, s.media, s.cache, s.lost, s.sessions, s.cmds, s.que)

/-- A register write by path p is carried out: the module runs, the path and every island are in service, and no write or
reset asked for earlier is still to be carried out. -/
def writable (p : Path) (s : Machine.State) : Prop :=
  s.run = .up ∧ s.pathOk p = true ∧ (∀ i, i < 75 → s.islandUp i = true) ∧ (∀ n, n < 20 → (s.eng n).posted = []) ∧
    s.knd.resetAsked = false ∧ s.knd.rekindleAsked = false

/-- A field of a written word. -/
abbrev field (f : Machine.Fld) (w : Word) : Nat := f.of w.toNat

/-- An HDA that passes every step of bring-up (R54, R56, R58, R60): its ID memory is sound and holds no retirement, the
ledger holds none of its elements active, both preamps identify, and every measurement lies in its window. -/
def passesBringUp (s : Machine.State) (slot : Slot) (hda : Hda) (m : Meas) : Prop :=
  (hda.answers && hda.factory.sound && (hda.factory.assistKind = 1 || hda.factory.assistKind = 2)) = true ∧
    (∀ a, a < 2 → m.ident.getD a 0 = hda.factory.ident.getD a 0 ∧ Machine.vcmOk hda.factory m a = true) ∧
    (∀ e ∈ s.ledger, (e.active && e.hdaHeld && e.slot = slot.val) = false) ∧
    (∀ c, Machine.modInForce hda = some c → c.rets = []) ∧ Machine.phaseOk hda.factory m = true ∧
    (∀ h, h < 20 → Machine.nearPct 20 (m.upCap.getD h 0) (hda.factory.upCap.getD h 0) = true ∧
      Machine.nearPct 15 (m.rdrRes.getD h 0) (hda.factory.rdrRes.getD h 0) = true ∧
      Machine.sweepKind (Machine.Meas.sweep m h) ≠ (if hda.factory.assistKind = 1 then 2 else 1) ∧
      Machine.assistOk hda.factory m (Machine.lastThreshold (Machine.modInForce hda) h) h = true ∧
      Machine.tdrOk m h = true ∧ Machine.loopOk hda.factory m h = true)

/-- A frame that takes a sequence number arrives in order on path p of session n, whose state is x (R290, R299): its link is
up, its addresses and session are those of the path, its trailer is right, its SEQ is the next expected, and nothing is held
out of order. -/
def arrives (f : Frame) (n p : Nat) (x : Machine.PathSt) (s : Machine.State) : Prop :=
  s.run = .up ∧ s.hears f.addr.port f.addr.link = true ∧ s.findPath f.addr = some (n, p) ∧ f.session = n ∧
    s.path n p = some x ∧ f.crcOk = true ∧ Machine.seqDist f.seq x.rx = 0 ∧ 0 < s.get Machine.R.LQP_TIMING_RX_WINDOW ∧ x.held = []

/-- A completion entry of a command with this status has been sent on, or waits for, the path the command is bound to
(R305). -/
def cplSent (c : Machine.Cmd) (status : Nat) (t : Machine.State) : Prop :=
  ∃ (x : Machine.PathSt) (e : Cpl), t.path c.ref.session c.path = some x ∧ e.tag = c.ref.tag ∧ e.queue = c.ref.queue ∧
    e.status = status ∧ e.arrival = c.arrival % 2 ^ 32 ∧
    ((∃ q b a, (q, Machine.TxFrame.cpl e, b, a) ∈ x.sent) ∨ Machine.TxFrame.cpl e ∈ x.queue)

/-- A completion entry of a command with this status and these results has been sent on, or waits for, its path (R305). -/
def cplWith (c : Machine.Cmd) (status r0 r1 : Nat) (t : Machine.State) : Prop :=
  ∃ (x : Machine.PathSt) (e : Cpl), t.path c.ref.session c.path = some x ∧ e.tag = c.ref.tag ∧ e.queue = c.ref.queue ∧
    e.status = status ∧ e.result0 = r0 ∧ e.result1 = r1 ∧
    ((∃ q b a, (q, Machine.TxFrame.cpl e, b, a) ∈ x.sent) ∨ Machine.TxFrame.cpl e ∈ x.queue)

/-- A DATA frame of an admin command, with bytes from an offset and LAST, has been sent on, or waits for, its path (R306). -/
def bytesSent (c : Machine.Cmd) (off : Nat) (l : List Nat) (last : Bool) (t : Machine.State) : Prop :=
  ∃ x : Machine.PathSt, t.path c.ref.session c.path = some x ∧
    ((∃ q b a, (q, Machine.TxFrame.bytes c.ref.tag off l last, b, a) ∈ x.sent) ∨
      Machine.TxFrame.bytes c.ref.tag off l last ∈ x.queue)

/-- A command stands in flight on a running module that has made no cut: its session is open, its path is up, and it is not
held. -/
def inFlight (r : CmdRef) (c : Machine.Cmd) (s : Machine.State) : Prop :=
  s.run = .up ∧ s.isCut = false ∧ s.cmdOf r = some c ∧ c.held = false ∧ r.session ≠ 0 ∧
    ∃ y x, s.session r.session = some y ∧ y.closing = false ∧ y.paths[c.path]? = some x ∧ x.up = true

/-- The word a path holds of the snapshot register at address a (R483). -/
def snapWord (p : Path) (a : Nat) (s : Machine.State) : Nat := Machine.tgetD (Machine.pathKey p a) 0 s.snaps

/-- What a saturating counter reads after one more count. -/
def counted (f : Machine.Fld) (s : Machine.State) : Nat := min (s.get f + 1) (2 ^ f.w - 1)

/-- An event of this code is recorded, or, when its bucket is empty, counted as suppressed (R471): the recorder's state is
that of one recording with these parameters. -/
def records (code org p0 p1 p2 p3 : Nat) (s t : Machine.State) : Prop :=
  t.rcd = (s.event code org p0 p1 p2 p3).rcd

/-- Sensor n, which is not broken, gives a reading that does not break it (R409), from the readings of one period. -/
def readsSound (l : List Reading) (n : Nat) (s : Machine.State) : Prop :=
  (s.sensor n).cause = 0 ∧ ∃ v, l.getD n none = some v ∧ -80 ≤ v ∧ v ≤ 300 ∧
    ((s.sensor n).seen = true → (s.sensor n).silent = 0 → (v - (s.sensor n).temp).natAbs ≤ 20)

/-- Every sensor of a zone that is there gives a sound reading below the zone's thresholds less the hysteresis (R406, R410). -/
def readsCool (l : List Reading) (z : Nat) (s : Machine.State) : Prop :=
  let x := s.limits (Machine.zoneClass z)
  ∀ n ∈ Machine.zoneSensors z, s.sensorThere n = true → readsSound l n s ∧
    ∃ v, l.getD n none = some v ∧ v < 2 * (x.warn - x.hyst) ∧ v < 2 * (x.throttle - x.hyst) ∧ v < 2 * x.shut

end Sys2Proof
end

