-- ==== Sys2Proof/Certificates/Slice0/Obligations.lean ====
section
/-! DEFINITION. The statements about the module, for the provers: each says which rules it formalises. -/

open Sys2Proof Sys2Proof.Machine

/-- For every command and state: the step of a state with the command in front of its queue is the command's effect on
that state with the rest of the queue. With an empty queue the step answers the state a microsecond of module time on,
which is the model's choice (log entry 2). -/
def Obligations.StepRunsTheFrontCommand : Prop :=
  (∀ (c : Instr) (rest : List Instr) (s : State), s.pending = c :: rest → step s = exec c { s with pending := rest }) ∧
  (∀ s : State, s.pending = [] → step s = .next s.tick)

/-- For every command and every state, the command's effect is a next state, neither a fault nor a refusal, and the
commands that wait are those that waited before. So a run of any number of steps from any state answers next states
only, and a step takes one command off a queue that is not empty. -/
def Obligations.EveryCommandAnswersAndRunsAreSafe : Prop :=
  (∀ (c : Instr) (s : State), ∃ t : State, Machine.exec c s = .next t ∧ (t.pending = s.pending)) ∧
  (∀ (s : State) (n : Nat), safeFor n s) ∧
  (∀ s t : State, step s = .next t → t.pending = s.pending.tail)

/-- Suppose that each open write gate is of a head whose actuator is FOLLOWING, that is in the concurrent set, and
whose OFFSET is 0. Then the same holds after any step, whatever command is in front of the queue, and after the
microsecond of a step with none. This is the part of the gate conditions whose loss closes a gate at once, as the
model reads it (log entry 8). -/
def Obligations.OpenGatesStayLawful : Prop :=
  ∀ s t : State,
    (∀ g ∈ s.gates, s.get (R.ACT_STATUS_STATE (g / 10)) = 4 ∧ s.get (R.HEAD_PES_IN_SET g) = 1 ∧
      s.get (R.HEAD_OFFSET_OFFSET g) = 0) →
    step s = .next t →
    ∀ g ∈ t.gates, t.get (R.ACT_STATUS_STATE (g / 10)) = 4 ∧ t.get (R.HEAD_PES_IN_SET g) = 1 ∧
      t.get (R.HEAD_OFFSET_OFFSET g) = 0

/-- At reset each register field reads its reset value (those the spec gives, among them CAP_LIMIT 640,
GLB_STATUS.STATE 1 and BUDGET 60; the others the model's, log entry 13). No write gate is open, so the gate invariant
holds. No session, command, volume, group, cache line or stored block stands. Engine memories list nothing. No command
waits. -/
def Obligations.ResetLeavesItsValues : Prop :=
  (∀ f : Fld, State.reset.get f = f.rst) ∧ R.PWR_CTRL_CAP_LIMIT.rst = 640 ∧ R.GLB_STATUS_STATE.rst = 1 ∧ R.ST_CTRL_BUDGET.rst = 60 ∧
  (∀ g ∈ State.reset.gates, State.reset.get (R.ACT_STATUS_STATE (g / 10)) = 4 ∧ State.reset.get (R.HEAD_PES_IN_SET g) = 1 ∧
    State.reset.get (R.HEAD_OFFSET_OFFSET g) = 0) ∧
  State.reset.gates = [] ∧ State.reset.sessions = [] ∧ State.reset.cmds = [] ∧ State.reset.vols = [] ∧ State.reset.groups = [] ∧
  State.reset.media = [] ∧ State.reset.cache.tags = [] ∧ State.reset.cache.staged = [] ∧
  (∀ n : EngineIx, (State.reset.eng n).dm = [] ∧ (State.reset.eng n).patch = []) ∧ State.reset.pending = []

/-- SLOT_INSERTION in an empty slot, on a running module, completes. With ENABLE 0 it sets PRESENT, keeps the HDA in
the slot and changes no other register, and nothing hosts have stored. With ENABLE 1 and neither cable path nor
front-end retired, an HDA whose ID memory does not answer, or whose factory area is wrong, leaves STATE 5, both
enables low and PRESENT 1. COMPLETES (exec answers next t, under these hypotheses alone): slotInsertion. -/
def Obligations.SlotInsertionIsRecorded : Prop :=
  ∀ (s : State) (slot : Slot) (hda : Hda) (meas : Meas), s.run = .up → s.get (R.SLOT_STATUS_PRESENT slot) = 0 →
    (s.get (R.SLOT_CTRL_ENABLE slot) = 0 →
      ∃ t : State, Machine.exec (.slotInsertion slot hda meas) s = .next t ∧ (
        t.get (R.SLOT_STATUS_PRESENT slot) = 1 ∧ (t.slot slot).hda = some hda ∧
        regsKept [R.SLOT_STATUS_PRESENT slot] s t ∧
        t = { s with flds := t.flds, slots := t.slots, gates := t.gates })) ∧
    (s.get (R.SLOT_CTRL_ENABLE slot) = 1 → (s.slot slot).cableRetired = false → (s.slot slot).frontRetired = false →
      (hda.answers && hda.factory.sound && (hda.factory.assistKind = 1 || hda.factory.assistKind = 2)) = false →
      ∃ t : State, Machine.exec (.slotInsertion slot hda meas) s = .next t ∧ (
        t.get (R.SLOT_STATUS_PRESENT slot) = 1 ∧ t.get (R.SLOT_STATUS_STATE slot) = 5 ∧
        t.get (R.SLOT_STATUS_EN5 slot) = 0 ∧ t.get (R.SLOT_STATUS_EN12 slot) = 0 ∧ dataKept s t ∧ hostKept s t))

/-- SLOT_REMOVED of a present HDA on a running module completes: PRESENT, EN5, EN12 and the set-point read 0, STATE
reads 0 (7 while the slot's cable path is retired), the slot holds no HDA, both enable pins are low, no write gate of
the slot is open, and where the HDA had a position both its members are lost. What hosts have stored and the sessions
are as before. COMPLETES (exec answers next t, under these hypotheses alone): slotRemoved. -/
def Obligations.SlotRemovalStopsTheSlot : Prop :=
  ∀ (s : State) (slot : Slot), s.run = .up → s.get (R.SLOT_STATUS_PRESENT slot) = 1 →
    ∃ t : State, Machine.exec (.slotRemoved slot) s = .next t ∧ (
      t.get (R.SLOT_STATUS_PRESENT slot) = 0 ∧ t.get (R.SLOT_STATUS_EN5 slot) = 0 ∧ t.get (R.SLOT_STATUS_EN12 slot) = 0 ∧
      t.get (R.SPIN_CTRL_SETPOINT slot) = 0 ∧
      t.get (R.SLOT_STATUS_STATE slot) = (if (s.slot slot).cableRetired then 7 else 0) ∧
      (t.slot slot).hda = none ∧ (t.slot slot).pos = none ∧
      tget slot t.pins.en5 = some 0 ∧ tget slot t.pins.en12 = some 0 ∧
      (∀ g ∈ t.gates, g / 20 ≠ slot) ∧
      ((s.slot slot).pos.isSome = true → (t.mem (2 * slot)).lostAt ≠ 0 ∧ (t.mem (2 * slot + 1)).lostAt ≠ 0) ∧
      dataKept s t ∧ hostKept s t)

/-- On a running module: a write of 1 to POWER_OFF of a ready slot, by a path in service, fences both members and sets
the set-point to Midnight; POWER_OFF_SPINDLE_STOPPED then sets both preamps to sleep and drives SLOT_EN12 low;
POWER_OFF_EN5_TIMER, with POWER_OFF still 1, drives SLOT_EN5 low, sets STATE to 6 and ATTN to 1, and changes no other
register. COMPLETES (exec answers next t, under these hypotheses alone): slotCtrlPowerOff, powerOffSpindleStopped,
powerOffEn5Timer. -/
def Obligations.SlotPowerOffSequenceRuns : Prop :=
  ∀ (s : State) (slot : Slot),
    (∀ (p : Path) (w : Word), writable p s → s.get (R.SLOT_STATUS_STATE slot) = 4 → (s.slot slot).offStep = 0 →
      field (R.SLOT_CTRL_POWER_OFF slot) w = 1 → field (R.SLOT_CTRL_REBRING slot) w = 0 →
      ∃ t : State, Machine.exec (.slotCtrlPowerOff p slot w) s = .next t ∧ (
        t.get (R.SLOT_CTRL_POWER_OFF slot) = 1 ∧ t.get (R.SPIN_CTRL_SETPOINT slot) = 0 ∧ (t.slot slot).offStep = 2 ∧
        .powerOff ∈ (t.mem (2 * slot)).fences ∧ .powerOff ∈ (t.mem (2 * slot + 1)).fences ∧ dataKept s t ∧ hostKept s t)) ∧
    (s.run = .up → (s.slot slot).offStep = 2 →
      ∃ t : State, Machine.exec (.powerOffSpindleStopped slot) s = .next t ∧ (
        t.get (R.SLOT_STATUS_EN12 slot) = 0 ∧ tget slot t.pins.en12 = some 0 ∧ t.preampReg (2 * slot) 2 = 0 ∧
        t.preampReg (2 * slot + 1) 2 = 0 ∧ regsKept [R.SLOT_STATUS_EN12 slot] s t ∧
        t = { s with flds := t.flds, preamp := t.preamp, outs := t.outs, pins := t.pins, slots := t.slots, gates := t.gates })) ∧
    (s.run = .up → (s.slot slot).offStep = 4 → s.get (R.SLOT_CTRL_POWER_OFF slot) = 1 →
      ∃ t : State, Machine.exec (.powerOffEn5Timer slot) s = .next t ∧ (
        t.get (R.SLOT_STATUS_STATE slot) = 6 ∧ t.get (R.SLOT_STATUS_EN5 slot) = 0 ∧ t.get (R.SLOT_CTRL_ATTN slot) = 1 ∧
        tget slot t.pins.en5 = some 0 ∧
        regsKept [R.SLOT_STATUS_STATE slot, R.SLOT_STATUS_EN5 slot, R.SLOT_CTRL_ATTN slot] s t ∧
        t = { s with flds := t.flds, pins := t.pins, slots := t.slots, gates := t.gates }))

/-- On a running module. A write of PSER_CMD with GO, by a path in service, to an idle link: a write outside the held
registers that reaches the preamp and is read back sets DONE, clears FAILED and leaves the preamp register at what the
register takes of the value, and one whose frame has a bad CRC is ignored and counted; a read gives what the register
holds. A held write at the front of a link's queue is applied once the target head has left the set, and the queue
loses it. A preamp fault closes every write gate of the actuator and takes the head it names out of the set. A module
area write that succeeds sets MODAREA_VALID, and the copy written, whose bytes go to the older copy's place, carries
the operating seconds. Hosts' data is as before in each. COMPLETES (exec answers next t, under these hypotheses
alone): pserCmdGo, pserHeldWriteApply, psfltNAsserted, moduleAreaWrite. -/
def Obligations.PreampLinkAndIdMemory : Prop :=
  ∀ (s : State),
    (∀ (p : Path) (m : Member) (w : Word) (run : LinkRun), writable p s → tget m s.pser = none →
      field (R.SLOT_PSER_CMD_GO m) w = 1 → run.badReads = 0 →
      (field (R.SLOT_PSER_CMD_DIR m) w = 0 → s.pserHeld m (field (R.SLOT_PSER_CMD_ADDR m) w) = false →
        (run.badWrite = false →
          s.preampTakes m (field (R.SLOT_PSER_CMD_ADDR m) w) (field (R.SLOT_PSER_CMD_WDATA m) w) < 65536 →
          ∃ t : State, Machine.exec (.pserCmdGo p m w run) s = .next t ∧ (
            t.get (R.SLOT_PSER_CMD_DONE m) = 1 ∧ t.get (R.SLOT_PSER_CMD_FAILED m) = 0 ∧
            t.preampReg m (field (R.SLOT_PSER_CMD_ADDR m) w) =
              s.preampTakes m (field (R.SLOT_PSER_CMD_ADDR m) w) (field (R.SLOT_PSER_CMD_WDATA m) w) ∧
            Out.pser m (preampWriteFrame (field (R.SLOT_PSER_CMD_ADDR m) w) (field (R.SLOT_PSER_CMD_WDATA m) w)) ∈ t.outs ∧
            dataKept s t ∧ hostKept s t)) ∧
        (run.badWrite = true →
          ∃ t : State, Machine.exec (.pserCmdGo p m w run) s = .next t ∧ (
            t.preampReg m 0x3F = min 0xFFFF (s.preampReg m 0x3F + 1) ∧ (t.preampReg m 1).testBit 8 = true ∧
            dataKept s t ∧ hostKept s t))) ∧
      (field (R.SLOT_PSER_CMD_DIR m) w = 1 → field (R.SLOT_PSER_CMD_ADDR m) w ∉ [1, 6, 8] →
        ∃ t : State, Machine.exec (.pserCmdGo p m w run) s = .next t ∧ (
          t.get (R.SLOT_PSER_DATA_RDATA m) = s.preampReg m (field (R.SLOT_PSER_CMD_ADDR m) w) % 65536 ∧
          t.get (R.SLOT_PSER_CMD_DONE m) = 1 ∧ t.get (R.SLOT_PSER_CMD_FAILED m) = 0 ∧ dataKept s t ∧ hostKept s t))) ∧
    (∀ (m : Member) (run : LinkRun) (c : PserCmd) (q : List PserCmd), s.run = .up → tget m s.pser = some (c :: q) →
      c.dir = 0 → s.pserHeld m c.addr = false → run.badReads = 0 → run.badWrite = false →
      s.preampTakes m (c.addr % 128) c.wdata < 65536 →
      ∃ t : State, Machine.exec (.pserHeldWriteApply m run) s = .next t ∧ (
        tgetD m [] t.pser = q ∧ t.preampReg m (c.addr % 128) = s.preampTakes m (c.addr % 128) c.wdata ∧
        t.get (R.SLOT_PSER_CMD_DONE m) = q.isEmpty.toNat ∧ t.get (R.SLOT_PSER_CMD_FAILED m) = 0 ∧
        regsKept [R.SLOT_PSER_CMD_DONE m, R.SLOT_PSER_CMD_FAILED m] s t ∧ dataKept s t ∧ hostKept s t)) ∧
    (∀ (m : Member) (status : Nat), s.run = .up →
      ∃ t : State, Machine.exec (.psfltNAsserted m status) s = .next t ∧ (
        (∀ g ∈ t.gates, g / 10 ≠ m) ∧ t.inSet (10 * m + status / 512 % 16 % 10) = false ∧
        dataKept s t ∧ hostKept s t)) ∧
    (∀ (slot : Slot) (h : Hda), s.run = .up → s.isCut = false → (s.slot slot).hda = some h → (s.slot slot).idFailed = false →
      (s.slot slot).trimWrittenAt = 0 →
      ∃ t : State, Machine.exec (.moduleAreaWrite slot 0) s = .next t ∧ (
        t.get (R.SLOT_STATUS_MODAREA_VALID slot) = 1 ∧ (t.slot slot).trimWrittenAt = s.opSec + 1 ∧
        (∃ c : ModCopy, c.opSec = s.opSec ∧ (t.slot slot).hda = some (withCopy h c) ∧
          Out.idWrite slot (olderCopy h) (copyBytes c) ∈ t.outs) ∧
        regsKept [R.SLOT_STATUS_MODAREA_VALID slot] s t ∧ dataKept s t ∧ hostKept s t))

/-- An HDA whose ID memory is sound, with no retirement recorded of it and every measurement in its window, makes its
slot ready, on a running module: STATE reads 4, EN5 and EN12 read 1 and the set-point is Noon. So does an insertion in
an enabled slot, and so does a write of 1 to REBRING of a refused slot that holds such an HDA, by a path in service.
COMPLETES (exec answers next t, under these hypotheses alone): slotInsertion, slotCtrlRebring. -/
def Obligations.SlotBecomesReady : Prop :=
  ∀ (s : State) (slot : Slot) (hda : Hda) (meas : Meas), passesBringUp s slot hda meas →
    (s.run = .up → s.get (R.SLOT_STATUS_PRESENT slot) = 0 → s.get (R.SLOT_CTRL_ENABLE slot) = 1 →
      (s.slot slot).cableRetired = false → (s.slot slot).frontRetired = false →
      ∃ t : State, Machine.exec (.slotInsertion slot hda meas) s = .next t ∧ (
        t.get (R.SLOT_STATUS_STATE slot) = 4 ∧ t.get (R.SLOT_STATUS_EN5 slot) = 1 ∧ t.get (R.SLOT_STATUS_EN12 slot) = 1 ∧
        t.get (R.SPIN_CTRL_SETPOINT slot) = 2)) ∧
    (∀ (p : Path) (w : Word), writable p s → s.get (R.SLOT_STATUS_STATE slot) = 5 → (s.slot slot).cableRetired = false →
      (s.slot slot).hda = some hda → (s.slot slot).meas = some meas → field (R.SLOT_CTRL_REBRING slot) w = 1 →
      field (R.SLOT_CTRL_POWER_OFF slot) w = 0 →
      ∃ t : State, Machine.exec (.slotCtrlRebring p slot w) s = .next t ∧ (
        t.get (R.SLOT_STATUS_STATE slot) = 4 ∧ t.get (R.SLOT_STATUS_EN5 slot) = 1 ∧ t.get (R.SLOT_STATUS_EN12 slot) = 1 ∧
        t.get (R.SPIN_CTRL_SETPOINT slot) = 2))

/-- On a running module, what a sense finds being what its crossings and peak back-EMF tell (senseFound). The sense of
a start leads to catch (RAMP) for a forward speed above 600.0 rpm, to BRAKE_REVERSE for a backward speed above 60.0
rpm, to ALIGN at rest, and to BRAKE_REST otherwise or where the set-point is Midnight; SPIN_BEMF shows the result. The
sense during braking leads from BRAKE_REVERSE to BRAKE_REST at rest or at or below 60.0 rpm, and from BRAKE_REST at
rest to ALIGN, or to STOPPED where the set-point is Midnight; otherwise the state stays. A spindle sensed at supply
recovery that turns forward at or above 4,800 rpm is caught at once, at its measured speed. Hosts' data and sessions
are as before. COMPLETES (exec answers next t, under these hypotheses alone): spinSenseEnd, brakeSense. -/
def Obligations.SpindleSenseDecides : Prop :=
  ∀ (s : State) (slot : Slot) (o : SenseObs), s.run = .up →
    (s.get (R.SPIN_STATUS_STATE slot) = 1 → (s.spin slot).recoverSense = false → (s.spin slot).waiting = false →
      ∃ t : State, Machine.exec (.spinSenseEnd slot o) s = .next t ∧ (
        t.get (R.SPIN_STATUS_STATE slot) =
          (match senseFound o with
           | .forward v _ => if s.get (R.SPIN_CTRL_SETPOINT slot) = 0 ∨ v ≤ 6000 then 3 else 6
           | .backward v => if s.get (R.SPIN_CTRL_SETPOINT slot) = 0 ∨ v ≤ 600 then 3 else 2
           | .slow => 3
           | .rest => if s.get (R.SPIN_CTRL_SETPOINT slot) = 0 then 3 else 4) ∧
        t.get (R.SPIN_BEMF_SENSE_RESULT slot) =
          (match senseFound o with
           | .forward v _ => if s.get (R.SPIN_CTRL_SETPOINT slot) = 0 ∨ v ≤ 6000 then 3 else 1
           | .backward v => if s.get (R.SPIN_CTRL_SETPOINT slot) = 0 ∨ v ≤ 600 then 3 else 2
           | _ => 3) ∧ dataKept s t ∧ hostKept s t)) ∧
    (s.get (R.SPIN_STATUS_STATE slot) = 2 →
      ∃ t : State, Machine.exec (.brakeSense slot o) s = .next t ∧ (
        t.get (R.SPIN_STATUS_STATE slot) =
          (match senseFound o with
           | .forward _ _ => 2
           | .backward v => if v ≤ 600 then 3 else 2
           | _ => 3) ∧ dataKept s t ∧ hostKept s t)) ∧
    (s.get (R.SPIN_STATUS_STATE slot) = 3 →
      ∃ t : State, Machine.exec (.brakeSense slot o) s = .next t ∧ (
        t.get (R.SPIN_STATUS_STATE slot) =
          (match senseFound o with
           | .rest => if s.get (R.SPIN_CTRL_SETPOINT slot) = 0 then 0 else 4
           | _ => 3) ∧ t.get (R.SPIN_BEMF_SENSE_RESULT slot) = 3 ∧ dataKept s t ∧ hostKept s t)) ∧
    (∀ speed emf : Nat, s.get (R.SPIN_STATUS_STATE slot) = 1 → (s.spin slot).recoverSense = true →
      s.get (R.SPIN_CTRL_SETPOINT slot) ≠ 0 → senseFound o = .forward speed emf → 48000 ≤ speed →
      ∃ t : State, Machine.exec (.spinSenseEnd slot o) s = .next t ∧ (
        t.get (R.SPIN_STATUS_STATE slot) = 6 ∧ t.get (R.SPIN_SPEED_SPEED slot) = speed % 2 ^ 17 ∧
        t.get (R.SPIN_BEMF_SENSE_RESULT slot) = 1 ∧ dataKept s t ∧ hostKept s t))

/-- On a running module. ALIGN_ELAPSED in ALIGN starts the blind ramp from reference 0. BLIND_HANDOVER in BLIND, with
six consecutive measured crossings and a blind reference of 600.0 rpm or more, enters RAMP with phase advance at that
reference. TRANSFER_WINDOW_RESUME in RAMP or SPEED, after 48 crossings within the window, sets IN_WINDOW and nothing
else. SPIN_SUPPLY_LIMITED at full duty below the Noon window sets SUPPLY_LIMITED and records it;
SPIN_SUPPLY_LIMIT_DUSK then writes the set-point to Dusk. SPIN_RECATCH in RECATCH, within 50 ms of the trigger and
with six consecutive measured crossings, enters RAMP at the speed of their span with the reference there.
SPIN_START_RETRY in FAILED with fewer than three failures begins a sense. COMPLETES (exec answers next t, under these
hypotheses alone): alignElapsed, blindHandover, transferWindowResume, spinRecatch, spinStartRetry, spinSupplyLimited,
spinSupplyLimitDusk. -/
def Obligations.SpindleStartAdvances : Prop :=
  ∀ (s : State) (slot : Slot), s.run = .up →
    (s.get (R.SPIN_STATUS_STATE slot) = 4 →
      ∃ t : State, Machine.exec (.alignElapsed slot) s = .next t ∧ (
        t.get (R.SPIN_STATUS_STATE slot) = 5 ∧ t.get (R.SPIN_REF_REF slot) = 0 ∧ t.get (R.SPIN_REF_RAMPING slot) = 1 ∧
        t.get (R.SPIN_STATUS_ADVANCE slot) = 0 ∧ (t.spin slot).blindAt = s.now ∧ (t.spin slot).measured = 0 ∧
        dataKept s t ∧ hostKept s t)) ∧
    (s.get (R.SPIN_STATUS_STATE slot) = 5 → 6 ≤ (s.spin slot).measured → 6000 ≤ s.blindRef slot →
      ∃ t : State, Machine.exec (.blindHandover slot) s = .next t ∧ (
        t.get (R.SPIN_STATUS_STATE slot) = 6 ∧ t.get (R.SPIN_REF_REF slot) = s.blindRef slot % 2 ^ 17 ∧
        t.get (R.SPIN_STATUS_ADVANCE slot) = 1 ∧ t.get (R.SPIN_REF_RAMPING slot) = 1 ∧ dataKept s t ∧ hostKept s t)) ∧
    (inWindow (s.get (R.SPIN_CTRL_SETPOINT slot)) (s.get (R.SPIN_SPEED_SPEED slot)) = true → 48 ≤ (s.spin slot).inside →
      s.get (R.SPIN_STATUS_STATE slot) = 6 ∨ s.get (R.SPIN_STATUS_STATE slot) = 7 →
      ∃ t : State, Machine.exec (.transferWindowResume slot) s = .next t ∧ (
        t.get (R.SPIN_STATUS_IN_WINDOW slot) = 1 ∧ regsKept [R.SPIN_STATUS_IN_WINDOW slot] s t ∧
        t = { s with flds := t.flds, gates := t.gates })) ∧
    (s.get (R.SPIN_STATUS_STATE slot) = 7 → s.get (R.SPIN_CTRL_SETPOINT slot) = 2 → s.get (R.SPIN_SPEED_SPEED slot) < 71640 →
      10000 ≤ (s.spin slot).duty →
      (∃ t : State, Machine.exec (.spinSupplyLimited slot) s = .next t ∧ (
        t.get (R.SPIN_STATUS_SUPPLY_LIMITED slot) = 1 ∧ regsKept [R.SPIN_STATUS_SUPPLY_LIMITED slot] s t ∧
        t = { s with flds := t.flds, rcd := t.rcd, gates := t.gates })) ∧
      ∃ t : State, Machine.exec (.spinSupplyLimitDusk slot) s = .next t ∧ (t.get (R.SPIN_CTRL_SETPOINT slot) = 1 ∧ dataKept s t ∧ hostKept s t)) ∧
    (∀ us emf : Nat, s.get (R.SPIN_STATUS_STATE slot) = 8 → 6 ≤ (s.spin slot).measured → us ≤ 50000 →
      ∃ t : State, Machine.exec (.spinRecatch slot us emf) s = .next t ∧ (
        t.get (R.SPIN_STATUS_STATE slot) = 6 ∧
        t.get (R.SPIN_SPEED_SPEED slot) = spanSpeed (((s.spin slot).times.take 7).map (·.1)) % 2 ^ 17 ∧
        t.get (R.SPIN_REF_REF slot) = spanSpeed (((s.spin slot).times.take 7).map (·.1)) % 2 ^ 17 ∧
        t.get (R.SPIN_STATUS_ADVANCE slot) = 1 ∧ (t.spin slot).duty = min 10000 (emf * 10000 / 12000) ∧
        dataKept s t ∧ hostKept s t)) ∧
    (s.get (R.SPIN_STATUS_STATE slot) = 9 → s.get (R.SPIN_STATUS_START_FAILS slot) < 3 →
      ∃ t : State, Machine.exec (.spinStartRetry slot) s = .next t ∧ (
        t.get (R.SPIN_STATUS_STATE slot) = 1 ∧ (t.spin slot).starting = true ∧ dataKept s t ∧ hostKept s t))

/-- On a running module. Each of BLIND_HANDOVER_FAIL in BLIND at a blind reference of 720.0 rpm without six
consecutive measured crossings, SPIN_BRAKE_TIMEOUT in a braking state, and SPIN_RAMP_TIMEOUT in the ramp of a start or
a catch raises START_FAILS, up to 3, and the saturating count; below three in a row the state is FAILED, at three the
slot shows STATE 7. SPIN_OBSERVER_LOST in SPEED after three missing crossings in a row, with fewer than three losses
in the last hour counts the loss and enters RECATCH; SPIN_RECATCH_FAIL counts and enters BRAKE_REST; ILIM_TRIP, for a
current at the limit in force 1.0 µs or more after switch-on, counts and trips the comparator for the rest of the PWM
frame, and changes no other register. COMPLETES (exec answers next t, under these hypotheses alone):
blindHandoverFail, ilimTrip, spinObserverLost, spinRecatchFail, spinBrakeTimeout, spinRampTimeout. -/
def Obligations.SpindleFailuresCount : Prop :=
  ∀ (s : State) (slot : Slot), s.run = .up →
    (∀ c : Instr,
      (c = .blindHandoverFail slot ∧ s.get (R.SPIN_STATUS_STATE slot) = 5 ∧ 7200 ≤ s.blindRef slot ∧ (s.spin slot).measured < 6) ∨
      (c = .spinBrakeTimeout slot ∧ (s.get (R.SPIN_STATUS_STATE slot) = 2 ∨ s.get (R.SPIN_STATUS_STATE slot) = 3)) ∨
      (c = .spinRampTimeout slot ∧ s.get (R.SPIN_STATUS_STATE slot) = 6 ∧
        ((s.spin slot).origin = .start ∨ (s.spin slot).origin = .caught)) →
      ∃ t : State, Machine.exec c s = .next t ∧ (
        t.get (R.SPIN_STATUS_START_FAILS slot) = min (s.get (R.SPIN_STATUS_START_FAILS slot) + 1) 3 ∧
        t.get (R.SPIN_COUNT_START_FAILS slot) = counted (R.SPIN_COUNT_START_FAILS slot) s ∧
        (s.get (R.SPIN_STATUS_START_FAILS slot) < 2 → t.get (R.SPIN_STATUS_STATE slot) = 9) ∧
        (2 ≤ s.get (R.SPIN_STATUS_START_FAILS slot) → t.get (R.SLOT_STATUS_STATE slot) = 7) ∧ dataKept s t ∧ hostKept s t)) ∧
    (s.get (R.SPIN_STATUS_STATE slot) = 7 → 3 ≤ (s.spin slot).missing → (s.within 3600 (s.spin slot).losses).length < 4 →
      ∃ t : State, Machine.exec (.spinObserverLost slot) s = .next t ∧ (
        t.get (R.SPIN_STATUS_STATE slot) = 8 ∧ t.get (R.SPIN_COUNT_LOSSES slot) = counted (R.SPIN_COUNT_LOSSES slot) s ∧
        t.get (R.SPIN_STATUS_IN_WINDOW slot) = 0 ∧ (t.spin slot).recatching = true ∧ dataKept s t ∧ hostKept s t)) ∧
    (s.get (R.SPIN_STATUS_STATE slot) = 8 →
      ∃ t : State, Machine.exec (.spinRecatchFail slot) s = .next t ∧ (
        t.get (R.SPIN_STATUS_STATE slot) = 3 ∧
        t.get (R.SPIN_COUNT_RECATCH_FAILS slot) = counted (R.SPIN_COUNT_RECATCH_FAILS slot) s ∧ dataKept s t ∧ hostKept s t)) ∧
    (∀ limit ma ns : Nat, s.currentLimit slot = some limit → 1000 ≤ ns → limit ≤ ma →
      ∃ t : State, Machine.exec (.ilimTrip ⟨slot, ma, ns⟩) s = .next t ∧ (
        t.get (R.SPIN_PRED_ILIM_TRIPS slot) = counted (R.SPIN_PRED_ILIM_TRIPS slot) s ∧
        (t.spin slot).trip = some s.pwmFrame ∧ regsKept [R.SPIN_PRED_ILIM_TRIPS slot] s t ∧
        t = { s with flds := t.flds, spins := t.spins, gates := t.gates }))

/-- On a running module. A write of SPIN_CTRL by a path in service takes a legal SETPOINT, and keeps the old one,
naming the address in GLB_REFUSED, for the reserved value. RESTART of a failed spindle of an HDA in service clears the
failures and begins a sense. A write of SPIN_ADV is taken where the table's speeds still rise, and refused where they
do not. SPINUP_GROUP_START of the next group, after the group gap and within the budget, begins the sense of every
slot of the group that waits. A crossing its samples do not show adds to the run of missing ones; the first located
crossings are measured and clear it; a measured crossing in RAMP or SPEED that gives a speed shows it and commutates.
COMPLETES (exec answers next t, under these hypotheses alone): zeroCrossing, spinCtrlSetpoint, spinCtrlRestart,
spinAdvWrite, spinupGroupStart. -/
def Obligations.SpindleIsCommandedAndMeasured : Prop :=
  ∀ (s : State) (slot : Slot),
    (∀ (p : Path) (w : Word), writable p s → field (R.SPIN_CTRL_RESTART slot) w = 0 →
      ∃ t : State, Machine.exec (.spinCtrlSetpoint p slot w) s = .next t ∧ (
        (field (R.SPIN_CTRL_SETPOINT slot) w ≤ 2 → t.get (R.SPIN_CTRL_SETPOINT slot) = field (R.SPIN_CTRL_SETPOINT slot) w) ∧
        (field (R.SPIN_CTRL_SETPOINT slot) w = 3 →
          t.get (R.SPIN_CTRL_SETPOINT slot) = s.get (R.SPIN_CTRL_SETPOINT slot) ∧
          t.get R.GLB_REFUSED_ADDR = A.SPIN_CTRL slot) ∧ dataKept s t ∧ hostKept s t)) ∧
    (∀ (p : Path) (w : Word), writable p s → s.get (R.SLOT_STATUS_STATE slot) ≠ 7 → s.get (R.SPIN_STATUS_STATE slot) = 9 →
      field (R.SPIN_CTRL_RESTART slot) w = 1 → field (R.SPIN_CTRL_SETPOINT slot) w = s.get (R.SPIN_CTRL_SETPOINT slot) →
      field (R.SPIN_CTRL_SETPOINT slot) w ≤ 2 →
      ∃ t : State, Machine.exec (.spinCtrlRestart p slot w) s = .next t ∧ (
        t.get (R.SPIN_STATUS_START_FAILS slot) = 0 ∧ t.get (R.SPIN_STATUS_STATE slot) = 1 ∧ dataKept s t ∧ hostKept s t)) ∧
    (∀ (p : Path) (k : Fin 4) (w : Word), writable p s →
      ∃ t : State, Machine.exec (.spinAdvWrite p slot k w) s = .next t ∧ (
        (((s.set (R.SPIN_ADV_ENTRY_LO slot k) (field (R.SPIN_ADV_ENTRY_LO slot k) w)).set (R.SPIN_ADV_ENTRY_HI slot k)
            (field (R.SPIN_ADV_ENTRY_HI slot k) w)).advRises slot = true →
          t.get (R.SPIN_ADV_ENTRY_LO slot k) = field (R.SPIN_ADV_ENTRY_LO slot k) w ∧
          t.get (R.SPIN_ADV_ENTRY_HI slot k) = field (R.SPIN_ADV_ENTRY_HI slot k) w) ∧
        (((s.set (R.SPIN_ADV_ENTRY_LO slot k) (field (R.SPIN_ADV_ENTRY_LO slot k) w)).set (R.SPIN_ADV_ENTRY_HI slot k)
            (field (R.SPIN_ADV_ENTRY_HI slot k) w)).advRises slot = false →
          t.get R.GLB_REFUSED_ADDR = A.SPIN_ADV slot k))) ∧
    (∀ j : Fin 8, s.run = .up → s.isCut = false → s.get R.PWR_CAP_ACTIONS = 0 → s.nextGroup = some j.val → s.groupGap = true →
      s.allowanceUsed + (s.waitingSlots.filter fun i => i % 8 = j.val).foldl (fun n i => n + s.allowance i) 0 ≤
        2 * s.get R.SPINUP_CTRL_BUDGET →
      ∃ t : State, Machine.exec (.spinupGroupStart j) s = .next t ∧ (
        (∀ i ∈ s.waitingSlots, i % 8 = j.val → t.get (R.SPIN_STATUS_STATE i) = 1 ∧ (t.spin i).waiting = false) ∧
        t.get R.SPINUP_CTRL_GROUP = j.val ∧ dataKept s t ∧ hostKept s t)) ∧
    (∀ (samples : List PhaseSample) (e : LaneRuns), s.run = .up → 5 ≤ s.get (R.SPIN_STATUS_STATE slot) →
      s.get (R.SPIN_STATUS_STATE slot) ≤ 8 →
      (crossingOf none false samples = .absent →
        ∃ t : State, Machine.exec (.zeroCrossing slot samples e) s = .next t ∧ (
          (t.spin slot).missing = (s.spin slot).missing + 1 ∧ (t.spin slot).predicted = 0 ∧ (t.spin slot).measured = 0 ∧
          t = { s with flds := t.flds, spins := t.spins, gates := t.gates })) ∧
      (∀ at_ : Nat, crossingOf none false samples = .located at_ → (s.spin slot).times.length < 12 →
        ∃ t : State, Machine.exec (.zeroCrossing slot samples e) s = .next t ∧ (
          (t.spin slot).missing = 0 ∧ (t.spin slot).measured = (s.spin slot).measured + 1 ∧ dataKept s t ∧ hostKept s t)) ∧
      ∀ at_ speed : Nat, s.get (R.SPIN_STATUS_STATE slot) = 6 ∨ s.get (R.SPIN_STATUS_STATE slot) = 7 →
        classify (s.spin slot) (crossingOf none false samples) = (0, at_) →
        measuredSpeed (((at_, true) :: (s.spin slot).times).take 50) = some speed →
        ∃ t : State, Machine.exec (.zeroCrossing slot samples e) s = .next t ∧ (
          t.get (R.SPIN_SPEED_SPEED slot) = speed % 2 ^ 17 ∧ (t.spin slot).missing = 0 ∧
          (t.spin slot).step = ((s.spin slot).step + 1) % 6 ∧ dataKept s t ∧ hostKept s t))

/-- SERVO_WEDGE of a loaded actuator on a running module completes. For every head whose wedge was read, RRO_BAD tells
whether its runout field failed its CRC. For every such head whose track ID and bursts spell a value, but the head the
spread sends away, HEAD_PES.VALID tells whether the PES is valid by R95; where it is valid, HEAD_PES.PES and the
head's position are those R94 gives from the decoded fields for the actuator's target and the head's OFFSET. Hosts'
data and sessions are as before. COMPLETES (exec answers next t, under these hypotheses alone): servoWedge. -/
def Obligations.ServoWedgeMeasuresHeads : Prop :=
  ∀ (s : State) (m : Member) (obs : List WedgeObs), s.run = .up → s.loaded m = true →
    ∃ t : State, Machine.exec (.servoWedge m obs) s = .next t ∧ (
      (∀ (h : Nat) (o : WedgeObs), h < 10 → obs[h]? = some o →
        t.get (R.HEAD_PES_RRO_BAD (10 * m + h)) = (readWedge o.bits o.a o.b).rro.isNone.toNat ∧
        ∀ (track : Nat) (fine : Int), (readWedge o.bits o.a o.b).track = some track → (readWedge o.bits o.a o.b).fine = some fine →
          (s.actu m).leaver ≠ some (10 * m + h) →
          t.get (R.HEAD_PES_VALID (10 * m + h)) = (s.wedgeValid (10 * m + h) o (readWedge o.bits o.a o.b) track).toNat ∧
          (s.wedgeValid (10 * m + h) o (readWedge o.bits o.a o.b) track = true →
            t.get (R.HEAD_PES_PES (10 * m + h)) =
              toBits 24 (wedgePes (wedgePos track fine) ((readWedge o.bits o.a o.b).rro.getD 0) ((s.actu m).target : Int)
                (s.getI (R.HEAD_OFFSET_OFFSET (10 * m + h)))) ∧
            (t.head (10 * m + h)).pos = wedgePos track fine)) ∧
      dataKept s t ∧ hostKept s t)

/-- On a running module. An acquiring, following head that has met its settle run, is write-safe where its actuator
writes, and fits the spread joins the set; the first of a SETTLING actuator makes it FOLLOWING, or IDENTIFYING where
its plant is to be identified first. HEAD_ACQUIRE_TIMEOUT ends an acquiring head's following. HEAD_UP_SATURATED of a
following head below the eighth in 24 h counts it and takes it out. PES_INVALID_DEPARTURE of a head of the set takes
it out and closes its gate. SET_EMPTY_TIMEOUT ends the transfer and reports every sector in progress unwritten, and
every block it had left unread. SHOCK_SHELF_HOLD_END ends the hold and changes nothing else. COMPLETES (exec answers
next t, under these hypotheses alone): shockShelfHoldEnd, headJoin, headAcquireTimeout, headUpSaturated,
pesInvalidDeparture, setEmptyTimeout. -/
def Obligations.HeadsJoinAndLeaveTheSet : Prop :=
  ∀ (s : State), s.run = .up →
    (∀ g : GHead, (s.head g).acquiring = true → s.following g = true → s.joinFits g = true →
      (if (s.actu (g / 10)).writing then 8 else 4) ≤ (s.head g).settleRun →
      ((s.actu (g / 10)).writing = true → s.get (R.HEAD_PES_WRITE_SAFE g) = 1) →
      (s.get (R.ACT_STATUS_STATE (g / 10)) = 4 ∨
          (s.get (R.ACT_STATUS_STATE (g / 10)) = 3 ∧ s.get (R.ACT_STATUS_REID_PENDING (g / 10)) = 0) →
        ∃ t : State, Machine.exec (.headJoin g) s = .next t ∧ (
          t.inSet g = true ∧ (t.head g).acquiring = false ∧ t.get (R.ACT_STATUS_STATE (g / 10)) = 4 ∧
          dataKept s t ∧ hostKept s t)) ∧
      (s.get (R.ACT_STATUS_STATE (g / 10)) = 3 → s.get (R.ACT_STATUS_REID_PENDING (g / 10)) = 1 →
        ∃ t : State, Machine.exec (.headJoin g) s = .next t ∧ (
          t.get (R.ACT_STATUS_STATE (g / 10)) = 6 ∧ regsKept [R.ACT_STATUS_STATE (g / 10)] s t ∧
          t = { s with flds := t.flds, gates := t.gates }))) ∧
    (∀ g : GHead, (s.head g).acquiring = true →
      ∃ t : State, Machine.exec (.headAcquireTimeout g) s = .next t ∧ (
        t.following g = false ∧ (t.head g).acquiring = false ∧ (t.head g).vout = 0 ∧ dataKept s t ∧ hostKept s t)) ∧
    (∀ g : GHead, s.following g = true → (s.within 86400 (s.head g).upSatAt).length < 8 →
      ∃ t : State, Machine.exec (.headUpSaturated g) s = .next t ∧ (
        t.following g = false ∧ t.inSet g = false ∧
        t.get (R.HEAD_POS_COUNT_UP_SAT g) = counted (R.HEAD_POS_COUNT_UP_SAT g) s ∧ dataKept s t ∧ hostKept s t)) ∧
    (∀ g : GHead, s.inSet g = true → 2 ≤ (s.head g).invalidRun →
      ∃ t : State, Machine.exec (.pesInvalidDeparture g) s = .next t ∧ (
        t.inSet g = false ∧ t.following g = false ∧ g.val ∉ t.gates ∧ dataKept s t ∧ hostKept s t)) ∧
    (∀ m : Member, s.setOf m = [] → (s.actu m).transferring = true →
      ∃ t : State, Machine.exec (.setEmptyTimeout m) s = .next t ∧ (
        (t.actu m).transferring = false ∧
        (∀ (h target n k : Nat), h < 10 → (s.head (10 * m + h)).sector = some (target, n, k) →
          (10 * m.val + h, target, n) ∈ t.unwritten ∧ (t.head (10 * m + h)).sector = none) ∧
        (∀ (h : Nat) (pl : Place), h < 10 → pl ∈ (s.head (10 * m + h)).unread → pl ∈ t.stk.unread) ∧
        regsKept [] s t ∧ dataKept s t ∧ hostKept s t)) ∧
    ∃ t : State, Machine.exec .shockShelfHoldEnd s = .next t ∧ (
      t.damper.shelfHold = false ∧ t = { s with damper := t.damper, gates := t.gates })

/-- DAMPER_EVALUATION of a position or thermal loop that is due, by sound lanes in service, as many as R123 asks for,
with the loop enabled and no commit waiting, leaves the loop's signals as R121 computes them from the active
configuration and the loop's input, and counts BOUND_MISS where it came later than 4.0 µs, or 50 µs for a thermal
loop. A write of DAMP_COMMIT with GO for an existing loop, by a path in service, leaves a commit waiting for the loop;
a write of DAMP_CTRL sets the lane enables. COMPLETES (exec answers next t, under these hypotheses alone):
damperEvaluation, dampCommitGo, dampCtrlLaneEn. -/
def Obligations.DamperLoopEvaluates : Prop :=
  ∀ (s : State),
    (∀ (l : LoopIx) (runs : List LaneRun) (i : VcmIn) (ff : Int) (ns : Nat), s.run = .up → l.val < 768 →
      s.loopRuns l = true → s.lanesFit runs = true → (∀ r ∈ runs, r.dev = 0) → (s.loop l).pending = false →
      ((s.loop l).active.getD (romLoop l)).en = 1 →
      ∃ t : State, Machine.exec (.damperEvaluation l runs i ff ns) s = .next t ∧ (
        t.get R.DAMP_DELAY_BOUND_MISS =
          (if (if l.val < 704 then 4000 else 50000) < ns then counted R.DAMP_DELAY_BOUND_MISS s else s.get R.DAMP_DELAY_BOUND_MISS) ∧
        t.loop l = (s.loop l).shift
          (loopV ((s.loop l).active.getD (romLoop l)) (s.get (R.DAMP_CFG0_ACTIVE_SET l)) (s.loop l) (s.loopInput l i)).1
          (loopV ((s.loop l).active.getD (romLoop l)) (s.get (R.DAMP_CFG0_ACTIVE_SET l)) (s.loop l) (s.loopInput l i)).2.1
          (loopV ((s.loop l).active.getD (romLoop l)) (s.get (R.DAMP_CFG0_ACTIVE_SET l)) (s.loop l) (s.loopInput l i)).2.2 ∧
        dataKept s t ∧ hostKept s t)) ∧
    (∀ (p : Path) (w : Word), writable p s → field R.DAMP_COMMIT_GO w = 1 → field R.DAMP_COMMIT_LOOP w < 800 →
      ∃ t : State, Machine.exec (.dampCommitGo p w) s = .next t ∧ (
        (t.loop (field R.DAMP_COMMIT_LOOP w)).pending = true ∧ dataKept s t ∧ hostKept s t)) ∧
    (∀ (p : Path) (w : Word), writable p s →
      ∃ t : State, Machine.exec (.dampCtrlLaneEn p w) s = .next t ∧ (
        t.get R.DAMP_CTRL_LANE_EN = field R.DAMP_CTRL_LANE_EN w ∧ dataKept s t ∧ hostKept s t))

/-- On a running module. A seek of a FOLLOWING actuator with no gate open and no sector in progress takes the target,
starts a transfer and leaves FOLLOWING for SEEK; no head is in the set until it joins again. SEEK_LOOPS_RESUME leads
from SEEK to SETTLING. A load, first or again, begins where R77 and R112 permit it; servo acquired, the reference head
being valid for eight wedges, leads on to SEEK, a failure below the third in a row to UNLOADING with a reload due. A
write of UNLOAD of a loaded actuator unloads it with its gates closed; HEADS_PARKED ends an unload, the coil without
current. A write of a head's OFFSET is taken, and a non-zero one closes the head's gate. COMPLETES (exec answers next
t, under these hypotheses alone): seekRequest, seekLoopsResume, loadRequest, loadServoAcquired, loadFail, loadRetry,
actCtrlUnload, headsParked, servoReload, headOffsetWrite. -/
def Obligations.ActuatorSeeksLoadsUnloads : Prop :=
  ∀ (s : State),
    (∀ (m : Member) (target : Nat) (write : Bool), s.run = .up → s.get (R.ACT_STATUS_STATE m) = 4 →
      (∀ g ∈ s.gates, g / 10 ≠ m) → (∀ h, h < 10 → s.inSector (10 * m + h) = false) →
      ∃ t : State, Machine.exec (.seekRequest m target write) s = .next t ∧ (
        (t.actu m).target = target ∧ (t.actu m).writing = write ∧ (t.actu m).transferring = true ∧
        t.get (R.ACT_TARGET_TARGET m) = target / 1024 % 2 ^ 24 ∧ t.get (R.ACT_STATUS_STATE m) = 2 ∧
        (∀ h, h < 10 → t.inSet (10 * m + h) = false) ∧
        dataKept s t ∧ hostKept s t)) ∧
    (∀ m : Member, s.run = .up → s.get (R.ACT_STATUS_STATE m) = 2 →
      ∃ t : State, Machine.exec (.seekLoopsResume m) s = .next t ∧ (
        t.get (R.ACT_STATUS_STATE m) = 3 ∧ t.get (R.ACT_TARGET_MODE m) = 0 ∧ t.get (R.ACT_TARGET_ACCEL m) = 0 ∧
        regsKept [R.ACT_STATUS_STATE m, R.ACT_TARGET_MODE m, R.ACT_TARGET_ACCEL m] s t ∧
        t = { s with flds := t.flds, gates := t.gates })) ∧
    (∀ (m : Member) (mv : Nat) (c : Instr), s.run = .up → s.get (R.ACT_STATUS_STATE m) = 0 → s.loadPermitted m mv = true →
      c = .loadRequest m mv ∨ ((s.actu m).reloadDue = true ∧ (c = .loadRetry m mv ∨ c = .servoReload m mv)) →
      ∃ t : State, Machine.exec c s = .next t ∧ (
        t.get (R.ACT_STATUS_STATE m) = 1 ∧ t.get (R.ACT_STATUS_EMERG m) = 0 ∧ (t.actu m).reloadDue = false ∧
        dataKept s t ∧ hostKept s t)) ∧
    (∀ m : Member, s.run = .up → s.get (R.ACT_STATUS_STATE m) = 1 →
      ((∃ g, s.refHead m = some g ∧ 8 ≤ (s.head g).validRun) →
        ∃ t : State, Machine.exec (.loadServoAcquired m) s = .next t ∧ (
          t.get (R.ACT_STATUS_STATE m) = 2 ∧ t.get (R.ACT_TARGET_TARGET m) = (s.actu m).target / 1024 % 2 ^ 24 ∧
          dataKept s t ∧ hostKept s t)) ∧
      ((s.actu m).loadFails < 2 →
        ∃ t : State, Machine.exec (.loadFail m) s = .next t ∧ (
          t.get (R.ACT_STATUS_STATE m) = 5 ∧ (t.actu m).loadFails = (s.actu m).loadFails + 1 ∧ (t.actu m).reloadDue = true ∧
          t.get (R.ACT_COUNT_LOAD_FAILS m) = counted (R.ACT_COUNT_LOAD_FAILS m) s ∧ dataKept s t ∧ hostKept s t))) ∧
    (∀ (p : Path) (m : Member) (w : Word), writable p s → s.loaded m = true → field (R.ACT_CTRL_UNLOAD m) w = 1 →
      ∃ t : State, Machine.exec (.actCtrlUnload p m w) s = .next t ∧ (
        t.get (R.ACT_STATUS_STATE m) = 5 ∧ t.get (R.ACT_STATUS_EMERG m) = 0 ∧ t.get (R.ACT_CTRL_UNLOAD m) = 1 ∧
        (∀ g ∈ t.gates, g / 10 ≠ m) ∧ dataKept s t ∧ hostKept s t)) ∧
    (∀ m : Member, s.run = .up → s.get (R.ACT_STATUS_STATE m) = 5 →
      ∃ t : State, Machine.exec (.headsParked m) s = .next t ∧ (
        t.get (R.ACT_STATUS_STATE m) = 0 ∧ t.get (R.ACT_CURRENT_APPLIED m) = 0 ∧
        regsKept [R.ACT_STATUS_STATE m, R.ACT_CURRENT_DEMAND m, R.ACT_CURRENT_APPLIED m, R.ACT_CURRENT_WIN m,
          R.ACT_CURRENT_SATURATED m] s t ∧
        t = { s with flds := t.flds, gates := t.gates })) ∧
    (∀ (p : Path) (g : GHead) (w : Word), writable p s →
      ∃ t : State, Machine.exec (.headOffsetWrite p g w) s = .next t ∧ (
        t.get (R.HEAD_OFFSET_OFFSET g) = field (R.HEAD_OFFSET_OFFSET g) w ∧
        (field (R.HEAD_OFFSET_OFFSET g) w ≠ 0 → g.val ∉ t.gates) ∧ dataKept s t ∧ hostKept s t))

/-- On a running module. VCM_SATURATED of a loaded, saturated actuator outside an acceleration phase, below the third
in 24 h, leads to UNLOADING with re-identification pending; SERVO_LOST of a loaded actuator with eight wedges in a row
without a valid PES, or SETTLING with an empty set, below the third in 1 h, to UNLOADING; each counts, fences the
member and makes a reload due. VCM_COIL_HOT at an estimate of 135 °C or above is recorded once a minute and changes no
register. COMPLETES (exec answers next t, under these hypotheses alone): vcmSaturated, servoLost, vcmCoilHot. -/
def Obligations.ActuatorFaultsUnload : Prop :=
  ∀ (s : State) (m : Member), s.run = .up →
    (s.get (R.ACT_STATUS_STATE m) = 2 ∨ s.get (R.ACT_STATUS_STATE m) = 3 ∨ s.get (R.ACT_STATUS_STATE m) = 4 →
      s.get (R.ACT_CURRENT_SATURATED m) = 1 → s.get (R.ACT_TARGET_ACCEL m) = 0 →
      (s.within 86400 (s.actu m).satAt).length < 3 →
      ∃ t : State, Machine.exec (.vcmSaturated m) s = .next t ∧ (
        t.get (R.ACT_STATUS_STATE m) = 5 ∧ t.get (R.ACT_STATUS_REID_PENDING m) = 1 ∧ (t.actu m).reloadDue = true ∧
        t.get (R.ACT_COUNT_VCM_SAT_FAULTS m) = counted (R.ACT_COUNT_VCM_SAT_FAULTS m) s ∧
        .positioning ∈ (t.mem m).fences ∧ dataKept s t ∧ hostKept s t)) ∧
    (s.loaded m = true →
      (8 ≤ (s.actu m).invalidRun ∨ (s.get (R.ACT_STATUS_STATE m) = 3 ∧ s.setOf m = [])) → (s.within 3600 (s.actu m).lostAt).length < 3 →
      ∃ t : State, Machine.exec (.servoLost m) s = .next t ∧ (
        t.get (R.ACT_STATUS_STATE m) = 5 ∧ (t.actu m).reloadDue = true ∧
        t.get (R.ACT_COUNT_SERVO_LOST m) = counted (R.ACT_COUNT_SERVO_LOST m) s ∧
        .positioning ∈ (t.mem m).fences ∧ dataKept s t ∧ hostKept s t)) ∧
    (1350 ≤ s.get (R.ACT_COIL_T_EST m) → (s.actu m).hotAt = 0 ∨ (s.actu m).hotAt + 60 ≤ s.opSec + 1 →
      ∃ t : State, Machine.exec (.vcmCoilHot m) s = .next t ∧ (
        (t.actu m).hotAt = s.opSec + 1 ∧ records Ev.VCM_COIL_HOT (origin 2 m) 0 0 0 0 s t ∧ regsKept [] s t ∧
        t = { s with rcd := t.rcd, acts := t.acts, gates := t.gates }))

/-- On a running module. A head with one granted entry that no recovery waits for, of a FOLLOWING actuator in read
mode, at speed, passing a sector of its zone that frames and has nothing to erase, shows LAST_FRAME as R145 and R146
give it, and its entry waits in the pool with the sector's place, frame and arrival. A head of a writing actuator that
meets every condition of R151 at a sector start below its duty cap, at the sector its chunk goes on at, opens its
gate, shows MODE 2 and launches the block's sector for its target and sector number, as its channel bits, its data
fragments and the advance, clock edge and tap of each kind of transition (State.launch). An empty write FIFO of a
FOLLOWING writing actuator stops the head's chunk after the sector in progress and records the event. A due assist
set-point is written to the preamp as HEAD_ASSIST shows it. The end of a duty window shows each head's share and
releases heads held at the cap. COMPLETES (exec answers next t, under these hypotheses alone): sectorRead,
sectorWrite, writeFifoEmpty, assistSetpointRewrite, assistDutyWindow. -/
def Obligations.SectorsAreReadAndWritten : Prop :=
  ∀ (s : State), s.run = .up →
    (∀ (g : GHead) (n : Nat) (o : ReadObs) (id : Nat) (x : PoolSector) (p1 p2 : Option Nat),
      s.pool.sectors.filter (fun e => decide (e.2.st = .granted) && decide (e.2.req.head.val = g.val)) = [(id, x)] →
      x.req.budget = none → (s.head g).leaving = false → (s.enterZone g).readsNow g n = true →
      s.get (R.HEAD_CH_CTRL_ERASE_DEFECTS g) = 0 →
      p1 = findSm1 (s.get (R.HEAD_CH_CTRL_SM1_MAXERR g)) (sm1Errs o.hard) →
      findSm2 (s.get (R.HEAD_CH_CTRL_SM2_MAXERR g)) (sm2Errs o.hard) = p2.toList →
      frameOf (s.bit (R.HEAD_CH_CTRL_SM2_ONLY g)) p1 p2 ≠ .fail →
      ∃ t : State, Machine.exec (.sectorRead g n o) s = .next t ∧ (
        t.get (R.HEAD_CH_STATUS_LAST_FRAME g) = (frameOf (s.bit (R.HEAD_CH_CTRL_SM2_ONLY g)) p1 p2).last ∧
        (∃ y, tget id t.pool.sectors = some y ∧ y.st = .waiting ∧ y.arrival = s.now ∧ y.n = n ∧
          y.target = (s.actu (g / 10)).target ∧ y.erased = 0 ∧ y.req = x.req ∧
          (y.d1, y.d2) = (frameOf (s.bit (R.HEAD_CH_CTRL_SM2_ONLY g)) p1 p2).starts p1 p2
            (s.getI (R.HEAD_CH_CTRL_FRAME_SHIFT g))) ∧ dataKept s t ∧ hostKept s t)) ∧
    (∀ (g : GHead) (n : Nat) (block : Sealed) (duty : Nat), (s.actu (g / 10)).writing = true → (s.head g).sector = none →
      (s.head g).resumes block.row n = true → ((s.slot (g / 20)).dutyCap = 100 ∨ duty < (s.slot (g / 20)).dutyCap) →
      n < sectorsPerTrack ((s.enterZone g).get (R.HEAD_CH_STATUS_ZONE g)) →
      ((s.enterZone g).setHead g { (s.enterZone g).head g with fifoFull := true }).gateOpens g = true →
      ∃ t : State, Machine.exec (.sectorWrite g n block duty) s = .next t ∧ (
        g.val ∈ t.gates ∧ t.fieldNow (R.HEAD_CH_STATUS_MODE g) = 2 ∧ t.fieldNow (R.HEAD_CH_STATUS_GATE g) = 1 ∧
        t.outs.head? = some ((s.enterZone g).launch g (s.actu (g / 10)).target n block) ∧
        (t.head g).chunk.map (·.1) = some block.row ∧ dataKept s t ∧ hostKept s t)) ∧
    (∀ g : GHead, (s.actu (g / 10)).writing = true → s.get (R.ACT_STATUS_STATE (g / 10)) = 4 →
      ∃ t : State, Machine.exec (.writeFifoEmpty g) s = .next t ∧ (
        (t.head g).fifoFull = false ∧
        (∀ row k target n left, (s.head g).chunk = some (row, k) → (s.head g).sector = some (target, n, left) →
          (t.head g).stop =
            some (row, (n + 1) % max 1 (sectorsPerTrack (s.get (R.HEAD_CH_STATUS_ZONE g)))) ∧ (t.head g).sector = (s.head g).sector) ∧
        records Ev.WRITE_FIFO_UNDERRUN (origin 3 g) 0 0 0 0 s t ∧ regsKept [] s t ∧
        t = { s with heads := t.heads, rcd := t.rcd, gates := t.gates })) ∧
    (∀ (g : GHead) (temp : Int), g.val ∉ s.gates → s.get (R.SLOT_STATUS_STATE (g / 20)) = 4 → (s.head g).assistSet = false →
      ∃ t : State, Machine.exec (.assistSetpointRewrite g temp) s = .next t ∧ (
        (t.head g).assistSet = true ∧ (t.head g).assistTemp = temp ∧
        t.preampReg (g / 10) (0x30 + g % 10) = t.get (R.HEAD_ASSIST_SETPOINT g) ∧
        (2 * t.get (R.HEAD_ASSIST_SETPOINT g) : Int) ≤ max 0 (s.assistMax g) ∧ dataKept s t ∧ hostKept s t)) ∧
    (∀ (m : Member) (duty : List Nat),
      ∃ t : State, Machine.exec (.assistDutyWindow m duty) s = .next t ∧ (
        (∀ h, h < 10 → t.get (R.HEAD_ASSIST_DUTY (10 * m + h)) = min 100 (duty.getD h 0) ∧
          (t.head (10 * m + h)).capped = false) ∧
        t = { s with flds := t.flds, heads := t.heads, gates := t.gates }))

/-- On a running module. DEC_GRANT with a core in service, to a head of the set that reads nothing and holds no other
block of the chunk back, makes an entry for the sector when fewer than 896 are allocated, and otherwise holds the
head's chunk back and counts the back-pressure; a head out of the set leaves the block unread. CONTEXT_ASSIGN of a
free context of a core in service puts a waiting sector on that core. A recovery read with a budget of 1 to 40, at
most 7 retained handles and room in the pool, of a block not in recovery or as the next ladder read of its recovery,
becomes a new sector. A known-answer test that fails twice fences its core; one that passes changes nothing. A write
of DEC_CORE_EN by a path in service is taken. COMPLETES (exec answers next t, under these hypotheses alone): decGrant,
contextAssign, recoveryReadSubmit, katTimer, decCoreEnWrite. -/
def Obligations.PoolGrantsAndAssigns : Prop :=
  ∀ (s : State),
    (∀ r : PoolReq, s.run = .up →
      (s.coreCount ≠ 0 → s.inSet r.head = true → s.reading r.head = false → (s.head r.head).waits r.place = false →
        (s.pool.occupancy < 896 →
          ∃ t : State, Machine.exec (.decGrant r) s = .next t ∧ (
            (tget s.pool.nextId t.pool.sectors).isSome = true ∧ t.pool.nextId = s.pool.nextId + 1 ∧
            (t.head r.head).held = none ∧ r.place ∉ (t.head r.head).unread ∧ regsKept [] s t ∧
            t = { s with heads := t.heads, pool := t.pool, gates := t.gates })) ∧
        (896 ≤ s.pool.occupancy →
          ∃ t : State, Machine.exec (.decGrant r) s = .next t ∧ (
            (t.head r.head).held = some r.place ∧ t.get R.DEC_COUNT_BACKPRESSURE = counted R.DEC_COUNT_BACKPRESSURE s ∧
            t.pool = s.pool ∧ regsKept [R.DEC_COUNT_BACKPRESSURE] s t))) ∧
      (s.inSet r.head = false →
        ∃ t : State, Machine.exec (.decGrant r) s = .next t ∧ (
          r.place ∈ (t.head r.head).unread ∧ t = { s with heads := t.heads, gates := t.gates }))) ∧
    (∀ c : Core, s.run = .up → s.coreOk c = true → s.pool.contexts c < 4 →
      (∃ e ∈ s.pool.sectors, e.2.st = .waiting ∧ e.2.cross ≠ some c.val) →
      ∃ t : State, Machine.exec (.contextAssign c) s = .next t ∧ (
        (∃ id x, (id, x) ∈ s.pool.sectors ∧ x.st = .waiting ∧ tget id t.pool.sectors = some { x with st := .running c }) ∧
        t = { s with pool := t.pool, gates := t.gates })) ∧
    (∀ (r : PoolReq) (b : Nat), s.run = .up → r.budget = some b → 1 ≤ b → b ≤ 40 → r.handles.length ≤ 7 →
      (∀ h ∈ r.handles, (tget h s.pool.retained).isSome = true) → s.pool.occupancy < 896 → s.coreCount ≠ 0 →
      (s.head r.head).waits r.place = false →
      (tget (placeKey r.place) s.recs = none ∨
        ∃ y, tget (placeKey r.place) s.recs = some y ∧ s.sumLost y = (y, s) ∧ y.takes r true = true) →
      ∃ t : State, Machine.exec (.recoveryReadSubmit r true) s = .next t ∧ (
        tget s.pool.nextId t.pool.sectors = some (s.newSector r .granted) ∧ t.pool.nextId = s.pool.nextId + 1 ∧
        (t.head r.head).held = none ∧ t = { s with pool := t.pool, heads := t.heads, recs := t.recs, gates := t.gates })) ∧
    (∀ c : Core, s.run = .up → s.coreOk c = true → s.pool.contexts c < 4 →
      (∃ t : State, Machine.exec (.katTimer c false false) s = .next t ∧ (c.val ∈ t.pool.fenced ∧ dataKept s t ∧ hostKept s t)) ∧
      (∀ second : Bool, ∃ t : State, Machine.exec (.katTimer c true second) s = .next t ∧ (t = { s with gates := t.gates }))) ∧
    (∀ (p : Path) (i : Fin 3) (w : Word), writable p s →
      ∃ t : State, Machine.exec (.decCoreEnWrite p i w) s = .next t ∧ (
        t.get (R.DEC_CORE_EN_EN i) = field (R.DEC_CORE_EN_EN i) w ∧ dataKept s t ∧ hostKept s t))

/-- On a running module. An iteration whose hard decisions satisfy every check, and whose descrambled block's seal
passes, of a sector decoded for the first time and not cancelled, ends it CONVERGED with its block and counts it. The
HOLD of a deferred sector ends it HOLD with its LLRs retained. A cancel ends a sector that is not being decoded
ABORTED, and marks one whose first iteration has begun. A retained handle is released by its time-out and by its
release. A write of DEC_STAT_SEL shows the statistics of a head and zone, and with CLEAR empties them. COMPLETES (exec
answers next t, under these hypotheses alone): globalIterationEnd, deferredHoldExpiry, decCancel, retentionTimeout,
retainRelease, decStatSel. -/
def Obligations.PoolSectorsEnd : Prop :=
  ∀ (s : State),
    (∀ (c : Core) (r : IterEnd) (id : Nat) (x : PoolSector) (b : Sealed), s.run = .up → r.eccBad = false →
      s.coreBusy c = some (id, x) → decoded r.hard x.target x.n = some b → sealPasses x.req b = true → x.cross = none → x.cancel = false →
      ∃ t : State, Machine.exec (.globalIterationEnd c r) s = .next t ∧ (
        t.pool.posts = s.pool.posts ++ [⟨id, x.req, .converged, x.iters + 1, none, some b⟩] ∧
        t.get R.DEC_CONVERGED_SECTORS = counted R.DEC_CONVERGED_SECTORS s ∧ dataKept s t ∧ hostKept s t)) ∧
    (∀ (id : Nat) (x : PoolSector), s.run = .up → tget id s.pool.sectors = some x →
      (∀ e : Nat, x.st = .deferred e →
        ∃ t : State, Machine.exec (.deferredHoldExpiry id) s = .next t ∧ (
          t.pool.posts = s.pool.posts ++ [⟨id, x.req, .hold, x.iters, some s.pool.nextHandle, none⟩] ∧
          tget id t.pool.sectors = none ∧ (tget s.pool.nextHandle t.pool.retained).isSome = true ∧
          t.get R.DEC_ENDS_HOLD = counted R.DEC_ENDS_HOLD s ∧ dataKept s t ∧ hostKept s t)) ∧
      ((∀ c, x.st ≠ .running c) →
        ∃ t : State, Machine.exec (.decCancel id) s = .next t ∧ (
          t.pool.posts = s.pool.posts ++ [⟨id, x.req, .aborted, x.iters, none, none⟩] ∧ tget id t.pool.sectors = none ∧
          t = { s with pool := t.pool, gates := t.gates })) ∧
      (∀ c, x.st = .running c → x.iters ≠ 0 ∨ s.coreBusy c = some (id, x) →
        ∃ t : State, Machine.exec (.decCancel id) s = .next t ∧ (
          tget id t.pool.sectors = some { x with cancel := true } ∧ t.pool.posts = s.pool.posts ∧
          t = { s with pool := t.pool, gates := t.gates }))) ∧
    (∀ (h : Nat) (c : Instr), s.run = .up → c = .retentionTimeout h ∨ c = .retainRelease h →
      ∃ t : State, Machine.exec c s = .next t ∧ (
        tget h t.pool.retained = none ∧ t.pool.sectors = s.pool.sectors ∧ t = { s with pool := t.pool, gates := t.gates })) ∧
    (∀ (p : Path) (w : Word), writable p s → field R.DEC_STAT_SEL_G w < 640 →
      ∃ t : State, Machine.exec (.decStatSel p w) s = .next t ∧ (
        snapWord p (A.DEC_STAT_DATA 0) t =
          min (tgetD (statKey (field R.DEC_STAT_SEL_BANK w) (field R.DEC_STAT_SEL_G w) (field R.DEC_STAT_SEL_RZONE w)) {}
            s.pool.stats).counted (2 ^ 32 - 1) ∧
        (field R.DEC_STAT_SEL_CLEAR w = 1 →
          tget (statKey (field R.DEC_STAT_SEL_BANK w) (field R.DEC_STAT_SEL_G w) (field R.DEC_STAT_SEL_RZONE w))
            t.pool.stats = none) ∧ dataKept s t ∧ hostKept s t))

/-- On a running module. LINK_UP of a link that is in service, of a port neither retired, disabled nor held in low
power (link 1 only in breakout), sets its LINK bit. LINK_DOWN clears it and leaves no path up on that link.
HOST_PORT_FAULT sets RETIRED, clears both LINK bits, leaves no path up on the port and, while the ledger has room,
enters the port as active. OSFP_MODULE_INSERTED records the wattage; above 12 W it sets LOW_POWER with both links
down, else it clears LOW_POWER. The commands in flight and what hosts have stored are as before. COMPLETES (exec
answers next t, under these hypotheses alone): linkUp, linkDown, hostPortFault, osfpModuleInserted. -/
def Obligations.LinksComeAndGo : Prop :=
  ∀ (s : State) (p : Port), s.run = .up →
    (∀ l : Fin 2, s.get (R.PORT_STATUS_RETIRED p) = 0 → s.get (R.PORT_CFG_DISABLE p) = 0 →
      s.get (R.PORT_STATUS_LOW_POWER p) = 0 → (s.island p).state = 0 → (l = 1 → s.get (R.PORT_CFG_MODE p) = 1) →
      ∃ t : State, Machine.exec (.linkUp p l) s = .next t ∧ (
        t.get (linkBit p l) = 1 ∧ regsKept [linkBit p l] s t ∧ dataKept s t ∧ t.sessions = s.sessions ∧ t.cmds = s.cmds)) ∧
    (∀ l : Fin 2, ∃ t : State, Machine.exec (.linkDown p l) s = .next t ∧ (
      t.get (linkBit p l) = 0 ∧
      (∀ n i x, t.path n i = some x → x.up = true → ¬(x.addr.port = p ∧ x.addr.link = l)) ∧
      t.cmds = s.cmds ∧ dataKept s t)) ∧
    (s.get (R.PORT_STATUS_RETIRED p) = 0 →
      ∃ t : State, Machine.exec (.hostPortFault p) s = .next t ∧ (
        t.get (R.PORT_STATUS_RETIRED p) = 1 ∧ t.get (R.PORT_STATUS_LINK0 p) = 0 ∧ t.get (R.PORT_STATUS_LINK1 p) = 0 ∧
        (∀ n i x, t.path n i = some x → x.up = true → x.addr.port ≠ p) ∧
        (s.ledger.length < 16384 → ∃ e ∈ t.ledger, e.kind = 8 ∧ e.index = 2 * p.val ∧ e.active = true) ∧
        t.cmds = s.cmds ∧ dataKept s t)) ∧
    (∀ w : Nat,
      (12 < w →
        ∃ t : State, Machine.exec (.osfpModuleInserted p w) s = .next t ∧ (
          t.get (R.PORT_STATUS_LOW_POWER p) = 1 ∧ t.get (R.PORT_STATUS_OSFP_W p) = min w 31 ∧
          t.get (R.PORT_STATUS_LINK0 p) = 0 ∧ t.get (R.PORT_STATUS_LINK1 p) = 0 ∧ t.cmds = s.cmds ∧ dataKept s t)) ∧
      (w ≤ 12 →
        ∃ t : State, Machine.exec (.osfpModuleInserted p w) s = .next t ∧ (
          t.get (R.PORT_STATUS_LOW_POWER p) = 0 ∧ t.get (R.PORT_STATUS_OSFP_W p) = w ∧
          regsKept [R.PORT_STATUS_LOW_POWER p, R.PORT_STATUS_OSFP_W p] s t ∧ t = { s with flds := t.flds, gates := t.gates })))

/-- On a running module, on a link that hears. A detection result makes the address it names valid or, when duplicate,
marks it failed. A router advertisement with SLAAC on fills the lowest free IPv6 slot with an address the link does
not hold. Requests for an address in use are answered on an unpaused port, others not. LLDP_TIMER sends a frame on
every link that hears; a received LLDP frame is kept. A write of PORT_ADDR_SEL with WR 1 puts the path's DATA into a
slot other than 0, unverified; with DISABLE 1 a PORT_CFG write takes both links down. No register but those written
changes, nor anything hosts have stored. COMPLETES (exec answers next t, under these hypotheses alone): dadResult,
routerAdvertisement, neighbourDiscovery, arpRequest, echoRequest, lldpTimer, lldpReceive, portAddrWrite,
portCfgDisable. -/
def Obligations.AddressesAreDetectedAndAnswered : Prop :=
  ∀ (s : State) (l : Fin 2),
    (∀ port : Fin 3, s.run = .up → s.hears port l = true →
      (∀ (k : Fin 6) (dup : Bool) (a : AddrSt), tget (addrKey port l k) s.addrs = some a →
        ∃ t : State, Machine.exec (.dadResult port l k dup) s = .next t ∧ (
          tget (addrKey port l k) t.addrs = some { a with valid := !dup, dadFailed := dup } ∧
          t = { s with addrs := t.addrs, rcd := t.rcd, gates := t.gates })) ∧
      (∀ addr len k : Nat, port.val < 2 → s.get (R.PORT_CFG_SLAAC_EN port) = 1 →
        (∀ e ∈ s.addrs, e.1 / 8 = 8 * port.val + l.val → e.2.addr ≠ addr) → 1 ≤ k → k ≤ 4 →
        tget (addrKey port l k) s.addrs = none →
        (∀ j, 1 ≤ j → j < k → (tget (addrKey port l j) s.addrs).isSome = true) →
        ∃ t : State, Machine.exec (.routerAdvertisement port l addr len) s = .next t ∧ (
          tget (addrKey port l k) t.addrs = some ⟨addr, len, false, false⟩ ∧
          t = { s with addrs := t.addrs, outs := .link port l 4 :: s.outs, gates := t.gates })) ∧
      (∀ (addr what : Nat) (v4 : Bool) (c : Instr), s.isPaused port = false →
        (c = .neighbourDiscovery port l addr ∧ v4 = false ∧ what = 0) ∨ (c = .arpRequest port l addr ∧ v4 = true ∧ what = 1) ∨
          (c = .echoRequest port l addr v4 ∧ what = 2) →
        ∃ t : State, Machine.exec c s = .next t ∧ (
          t = { s with outs := if s.answers port l addr v4 then .link port l what :: s.outs else s.outs, gates := t.gates })) ∧
      (∀ (ident : Nat) (b : List Nat),
        ∃ t : State, Machine.exec (.lldpReceive port l ident b) s = .next t ∧ (
          tget (2 * port.val + l.val) t.lldp = some (ident :: b) ∧
          t = { s with lldp := t.lldp, rcd := t.rcd, gates := t.gates }))) ∧
    (s.run = .up →
      ∃ t : State, Machine.exec .lldpTimer s = .next t ∧ (
        (∀ e ∈ [(0, 0), (0, 1), (1, 0), (1, 1), (2, 0)], s.hears e.1 e.2 = true → Out.link e.1 e.2 3 ∈ t.outs) ∧
        t = { s with outs := t.outs, gates := t.gates })) ∧
    (∀ (p : Path) (w : Word), writable p s → field R.PORT_ADDR_SEL_PORT w ≤ 2 → field R.PORT_ADDR_SEL_WR w = 1 →
      1 ≤ field R.PORT_ADDR_SEL_SLOT w → field R.PORT_ADDR_SEL_SLOT w ≤ 5 →
      ∃ t : State, Machine.exec (.portAddrWrite p w) s = .next t ∧ (
        (∃ a, tget (addrKey (field R.PORT_ADDR_SEL_PORT w) (field R.PORT_ADDR_SEL_LINK w) (field R.PORT_ADDR_SEL_SLOT w))
            t.addrs = some a ∧ a.valid = false ∧ a.dadFailed = false ∧ a.prefix4 = snapWord p (A.PORT_ADDR_DATA 4) s % 256 ∧
          (field R.PORT_ADDR_SEL_SLOT w = 5 → a.addr = snapWord p (A.PORT_ADDR_DATA 0) s)) ∧ dataKept s t ∧ t.sessions = s.sessions ∧ t.cmds = s.cmds)) ∧
    (∀ (p : Path) (port : Port) (w : Word), writable p s → field (R.PORT_CFG_DISABLE port) w = 1 →
      ∃ t : State, Machine.exec (.portCfgDisable p port w) s = .next t ∧ (
        t.get (R.PORT_CFG_DISABLE port) = 1 ∧ t.get (R.PORT_STATUS_LINK0 port) = 0 ∧ t.get (R.PORT_STATUS_LINK1 port) = 0 ∧
        t.cmds = s.cmds ∧ dataKept s t))

/-- On a running module, on a link that hears. An OPEN on a host port in service, from an address no path has, naming
at least one queue and a depth, takes the lowest free session number with at most 63 queues and depth 1,024, one path
that is up and expects the SEQ after its own, and an ACCEPT sent on it. While the port's service is off the request is
refused with reason 3. An ADD-PATH on the other port adds a second path to a session with one path up. An in-order
CLOSE frees a session with no command in flight, and marks one with commands closing; CLOSED frees it and leaves no
uncommitted command of it. Hosts' stored data is as before. COMPLETES (exec answers next t, under these hypotheses
alone): open_, addPath, close, closed. -/
def Obligations.SessionsOpenAndClose : Prop :=
  ∀ (s : State) (f : Frame) (c : Ctrl), s.run = .up → s.hears f.addr.port f.addr.link = true → f.body = .ctrl c →
    (c.op = 1 → f.crcOk = true → s.findPath f.addr = none → f.addr.port < 2 →
      (s.serviceOn f.addr.port = true → c.queues ≠ 0 → c.depth ≠ 0 → s.pathsOn f.addr.port < 64 →
        ∀ n, 1 ≤ n → n ≤ 128 → s.session n = none → (∀ k, 1 ≤ k → k < n → (s.session k).isSome = true) →
        ∃ t : State, Machine.exec (.open_ f) s = .next t ∧ (
          (∃ y x, t.session n = some y ∧ y.hostId = c.hostId ∧ y.queues = min 63 c.queues ∧ y.depth = min 1024 c.depth ∧
            y.closing = false ∧ y.paths = [x] ∧ x.addr = f.addr ∧ x.up = true ∧ x.rx = (f.seq + 1) % 2 ^ 32 ∧
            ∃ q b a, (q, TxFrame.ctrl 3 0 (min 63 c.queues) 0 (min 1024 c.depth) 0, b, a) ∈ x.sent) ∧
          t.cmds = s.cmds ∧ dataKept s t)) ∧
      (s.serviceOn f.addr.port = false → s.isPaused f.addr.port = false →
        ∃ t : State, Machine.exec (.open_ f) s = .next t ∧ (
          (∃ h b, Out.refuse f.addr 3 h b ∈ t.outs ∧ h.seq = 0 ∧ h.ack = (f.seq + 1) % 2 ^ 32 ∧ h.retx = false) ∧
          dataKept s t ∧ hostKept s t))) ∧
    (∀ y x, c.op = 2 → f.crcOk = true → s.findPath f.addr = none → f.addr.port < 2 → s.serviceOn f.addr.port = true →
      s.pathsOn f.addr.port < 64 → isMp f.session = false → s.session f.session = some y → y.paths = [x] → x.up = true →
      x.addr.port ≠ f.addr.port →
      ∃ t : State, Machine.exec (.addPath f) s = .next t ∧ (
        (∃ z u v, t.session f.session = some z ∧ z.paths = [u, v] ∧ u.addr = x.addr ∧ v.addr = f.addr ∧ v.up = true ∧
          v.rx = (f.seq + 1) % 2 ^ 32) ∧ t.cmds = s.cmds ∧ dataKept s t)) ∧
    (∀ n p x, arrives f n p x s → c.op = 5 →
      ((∀ d ∈ s.cmds, d.ref.session ≠ n) →
        ∃ t : State, Machine.exec (.close f) s = .next t ∧ (t.session n = none ∧ t.cmds = s.cmds ∧ dataKept s t)) ∧
      ((∃ d ∈ s.cmds, d.ref.session = n) →
        ∃ t : State, Machine.exec (.close f) s = .next t ∧ (
          (∃ y, t.session n = some y ∧ y.closing = true) ∧ t.cmds = s.cmds ∧ dataKept s t))) ∧
    (∀ n p x, arrives f n p x s → c.op = 6 →
      ∃ t : State, Machine.exec (.closed f) s = .next t ∧ (
        t.session n = none ∧ (∀ d ∈ t.cmds, d.ref.session = n → d.commit = .committed) ∧ dataKept s t))

/-- For a frame that arrives in order on a path of a session. A CMD frame with one capsule, while no rekindle is under
way and the session is not closing, takes one arrival number; a capsule of a defined opcode on a held queue with a
free place and an unused tag stands in flight, held exactly when the queue is frozen and its opcode may be held. A
DATA frame puts the blocks of an open WRITE, which pass its checks, into its staging. A KEEPALIVE counts the frame as
received. A FAILOVER that names another path leaves that path down with nothing to send and every command bound to it
on the path the frame came on. Hosts' stored data is as before. COMPLETES (exec answers next t, under these hypotheses
alone): cmdFrame, dataFrame, keepalive, failover. -/
def Obligations.FramesAreDelivered : Prop :=
  ∀ (s : State) (f : Frame) (n p : Nat) (x : PathSt), arrives f n p x s →
    (∀ (cap : Capsule) (y : Session), f.body = .cmd [cap] → s.session n = some y → y.closing = false → s.rekindling = false →
      ∃ t : State, Machine.exec (.cmdFrame f) s = .next t ∧ (
        t.que.arrival = s.que.arrival + 1 ∧ dataKept s t ∧
        (s.holdsQueue n f.queue = true → s.cmdOf ⟨n, f.queue, capF cap 2 2⟩ = none →
          (s.queueCmds n f.queue).length < (if f.queue = 0 then 64 else y.depth) →
          opDefined (isMp n) f.queue (capB cap 0) = true →
          ∃ d, t.cmdOf ⟨n, f.queue, capF cap 2 2⟩ = some d ∧ d.cap = cap ∧ d.arrival = s.que.arrival ∧ d.path = p ∧
            d.held = ((s.queueSt n f.queue).frozen.isSome && !opNeverHeld (capB cap 0))))) ∧
    (∀ (off : Nat) (l : List (Block × Pi)) (c : Cmd), f.body = .blocks off l → s.cmdOf ⟨n, f.queue, f.tag⟩ = some c →
      c.op = 2 → c.commit = .opened → off + l.length ≤ c.blocks → (∀ i b t, l[i]? = some (b, t) → piFails c (off + i) b t = none) →
      ∃ t : State, Machine.exec (.dataFrame f) s = .next t ∧ (
        (∃ d, t.cmdOf ⟨n, f.queue, f.tag⟩ = some d ∧ d.nextOff = off + l.length ∧ d.last = (c.last || f.last) ∧
          ∀ i b u, l[i]? = some (b, u) → tget (off + i) d.data = some (b, piStored c (off + i) b u)) ∧
        t.cmds.length = s.cmds.length ∧ dataKept s t)) ∧
    (∀ c : Ctrl, f.body = .ctrl c →
      (c.op = 7 →
        ∃ t : State, Machine.exec (.keepalive f) s = .next t ∧ (
          (∃ u, t.path n p = some u ∧ u.rx = (x.rx + 1) % 2 ^ 32 ∧ u.up = x.up) ∧ t.cmds = s.cmds ∧ dataKept s t)) ∧
      (c.op = 8 → c.path ≠ p → (s.path n c.path).isSome = true →
        ∃ t : State, Machine.exec (.failover f) s = .next t ∧ (
          (∃ u, t.path n c.path = some u ∧ u.up = false ∧ u.sent = [] ∧ u.queue = []) ∧
          (∀ d ∈ t.cmds, d.ref.session = n → d.path ≠ c.path) ∧ t.cmds.length = s.cmds.length ∧ dataKept s t)))

/-- On a running module. A sound ACK on a path with nothing waiting takes what it acknowledges out of what was sent,
and sets WINDOW. After a NAK every frame from its ACK on that SACK does not hold is marked sent again. The
acknowledgement delay sends an ACK; the keep-alive timer a KEEPALIVE. A retransmission timeout doubles RTO up to 64 ms
and takes the path down at PATH_RETRIES; silence takes it down, with what was held out of order dropped. A session
with no path up is dropped when its hold expires. A WRITE whose data is late completes 0x000A. A dropped packet
counts. A pause frame of the configured priority pauses the port. COMPLETES (exec answers next t, under these
hypotheses alone): ackFrame, nakFrame, ackDelayTimer, retransmissionTimeout, keepaliveTimer, pathSilenceTimeout,
sessionHoldExpiry, dataTimeout, receivedPacketDropped, pfcFrameReceived. -/
def Obligations.AcknowledgementAndTimers : Prop :=
  ∀ (s : State), s.run = .up →
    (∀ (f : Frame) (n p : Nat) (x : PathSt), s.hears f.addr.port f.addr.link = true → s.findPath f.addr = some (n, p) →
      f.session = n → s.path n p = some x → f.crcOk = true → f.body = .none →
      (x.queue = [] →
        ∃ t : State, Machine.exec (.ackFrame f) s = .next t ∧ (
          (∃ u, t.path n p = some u ∧ u.window = f.window ∧ u.rx = x.rx ∧
            u.sent = x.sent.filter fun e => !(seqDist f.ack e.1 != 0 && seqDist f.ack e.1 < 2 ^ 31)) ∧
          t.cmds = s.cmds ∧ dataKept s t)) ∧
      ∃ t : State, Machine.exec (.nakFrame f) s = .next t ∧ (
        (∃ u, t.path n p = some u ∧ ∀ e ∈ u.sent, seqDist e.1 f.ack < 2 ^ 31 →
          ¬(1 ≤ seqDist e.1 f.ack ∧ seqDist e.1 f.ack ≤ 32 ∧ f.sack.testBit (seqDist e.1 f.ack - 1) = true) →
          e.2.2.1 = true) ∧ t.cmds = s.cmds ∧ dataKept s t)) ∧
    (∀ (n p : Nat) (x : PathSt), s.path n p = some x → x.up = true →
      (x.unacked ≠ 0 → s.isPaused x.addr.port = false →
        ∃ t : State, Machine.exec (.ackDelayTimer n p) s = .next t ∧ (
          t.path n p = some { x with unacked := 0, frames := x.frames + 1 } ∧
          (∃ h, Out.ack n p h (frameBytes 4 n 0 0 0 h []) ∈ t.outs ∧ h.seq = x.tx ∧ h.ack = x.rx ∧ h.window = s.rxWindow n x.tx ∧
            h.credit = s.credit ∧ h.sack = x.sackBits ∧ h.retx = false) ∧
          regsKept [R.PORT_COUNT_COUNT x.addr.port 1] s t ∧ t.cmds = s.cmds ∧ dataKept s t)) ∧
      (x.sent ≠ [] →
        ∃ t : State, Machine.exec (.retransmissionTimeout n p) s = .next t ∧ (
          (∃ u, t.path n p = some u ∧ u.rto = min 64000 (2 * x.rto) ∧ u.timeouts = x.timeouts + 1 ∧
            (x.timeouts + 1 < s.get R.LQP_TIMING_PATH_RETRIES → u.up = true) ∧
            (s.get R.LQP_TIMING_PATH_RETRIES ≤ x.timeouts + 1 → u.up = false)) ∧ t.cmds = s.cmds ∧ dataKept s t)) ∧
      (∃ t : State, Machine.exec (.keepaliveTimer n p) s = .next t ∧ (
        (∃ u, t.path n p = some u ∧
          (.ctrl 7 0 0 0 0 0 ∈ u.queue ∨ ∃ e ∈ u.sent, e.2.1 = .ctrl 7 0 0 0 0 0)) ∧ t.cmds = s.cmds ∧ dataKept s t)) ∧
      (∃ t : State, Machine.exec (.pathSilenceTimeout n p) s = .next t ∧ (
        (∃ u, t.path n p = some u ∧ u.up = false ∧ u.held = [] ∧ u.through = (x.rx + 2 ^ 32 - 1) % 2 ^ 32) ∧
        t.cmds = s.cmds ∧ dataKept s t))) ∧
    (∀ (n : Nat) (y : Session), s.session n = some y → (∀ x ∈ y.paths, x.up = false) →
      ∃ t : State, Machine.exec (.sessionHoldExpiry n) s = .next t ∧ (
        t.session n = none ∧ (∀ d ∈ t.cmds, d.ref.session = n → d.commit = .committed) ∧ dataKept s t)) ∧
    (∀ (r : CmdRef) (c : Cmd), inFlight r c s → c.op = 2 → c.commit = .opened → c.data.length < c.blocks →
      ∃ t : State, Machine.exec (.dataTimeout r) s = .next t ∧ (t.cmdOf r = none ∧ cplSent c St.dataTimeout t ∧ dataKept s t)) ∧
    (∀ (p : Port) (hcrc : Bool),
      ∃ t : State, Machine.exec (.receivedPacketDropped p hcrc) s = .next t ∧ (
        t.get (R.PORT_COUNT_COUNT p 0) = counted (R.PORT_COUNT_COUNT p 0) s ∧
        t.get (R.PORT_COUNT_COUNT p (if hcrc then 2 else 6)) = counted (R.PORT_COUNT_COUNT p (if hcrc then 2 else 6)) s ∧
        regsKept [R.PORT_COUNT_COUNT p 0, R.PORT_COUNT_COUNT p (if hcrc then 2 else 6)] s t ∧
        t = { s with flds := t.flds, gates := t.gates })) ∧
    (∀ (p : Port) (us : Nat), s.get (R.PORT_CFG_PFC_EN p) = 1 → ∀ prio : Fin 8, s.get (R.PORT_CFG_PFC_PRIO p) = prio →
      (us ≠ 0 →
        ∃ t : State, Machine.exec (.pfcFrameReceived p prio us) s = .next t ∧ (
          tget p t.que.paused = some (s.now + us) ∧ t = { s with que := t.que, gates := t.gates })) ∧
      (us = 0 →
        ∃ t : State, Machine.exec (.pfcFrameReceived p prio us) s = .next t ∧ (
          tget p t.que.paused = none ∧ tget p t.que.stalled = none ∧
          t = { s with que := t.que, outs := t.outs, gates := t.gates })))

/-- On a writable module, a write of THM_ZONE_SEL, THM_SENSOR_SEL, ISL_SEL, FLT_SEL, RMGR_SEL, ST_SEL, LQP_SESS_SEL,
QUE_SEL, STK_VOL_SEL, REC_HEAD_SEL, CAL_ELEM_SEL, AGE_SEL, DAMP_STATE_SEL or PORT_ADDR_SEL (WR 0) with a legal
selection sets the selection fields and leaves, in the writing path's own DATA words, what the selected thing shows.
No other register changes but the count of the path's writes; what hosts have stored, sessions and commands are as
before. How channels, queues and the other things are laid out in the words is the meaning's own word functions.
COMPLETES (exec answers next t, under these hypotheses alone): dampStateSel, calElemSel, ageSel, stSel, fltSel,
rmgrSel, islSel, queSel, stkVolSel, recHeadSel, thmZoneSel, thmSensorSel, lqpSessSel, portAddrSnapshot. -/
def Obligations.SelectionTakesASnapshot : Prop :=
  ∀ (s : State) (p : Path) (w : Word), writable p s →
    (field R.THM_ZONE_SEL_ZONE w ≤ 35 → ∃ t : State, Machine.exec (.thmZoneSel p w) s = .next t ∧ (
      snapWord p A.THM_ZONE_DATA t = s.zoneWord (field R.THM_ZONE_SEL_ZONE w) % 2 ^ 32 ∧
      regsKept [R.THM_ZONE_SEL_ZONE, R.GLB_ACCESS_WRITES (pathKind p)] s t ∧ dataKept s t ∧ hostKept s t)) ∧
    (field R.THM_SENSOR_SEL_SENSOR w ≤ 100 → ∃ t : State, Machine.exec (.thmSensorSel p w) s = .next t ∧ (
      snapWord p A.THM_SENSOR_DATA t = s.sensorWord (field R.THM_SENSOR_SEL_SENSOR w) % 2 ^ 32 ∧
      regsKept [R.THM_SENSOR_SEL_SENSOR, R.GLB_ACCESS_WRITES (pathKind p)] s t ∧ dataKept s t ∧ hostKept s t)) ∧
    (field R.ISL_SEL_ISLAND w ≤ 74 → ∃ t : State, Machine.exec (.islSel p w) s = .next t ∧ (
      snapWord p A.ISL_DATA t = s.islandWord (field R.ISL_SEL_ISLAND w) % 2 ^ 32 ∧
      regsKept [R.ISL_SEL_ISLAND, R.GLB_ACCESS_WRITES (pathKind p)] s t ∧ dataKept s t ∧ hostKept s t)) ∧
    (field R.FLT_SEL_KIND w ≤ 5 → ∃ t : State, Machine.exec (.fltSel p w) s = .next t ∧ (
      snapWord p A.FLT_DATA t = s.channelWord (field R.FLT_SEL_KIND w) (field R.FLT_SEL_INDEX w) % 2 ^ 32 ∧
      regsKept [R.FLT_SEL_KIND, R.FLT_SEL_INDEX, R.GLB_ACCESS_WRITES (pathKind p)] s t ∧ dataKept s t ∧ hostKept s t)) ∧
    (field R.RMGR_SEL_DOMAIN w ≤ 9 → ∃ t : State, Machine.exec (.rmgrSel p w) s = .next t ∧ (
      snapWord p A.RMGR_DATA t = s.domainWord (field R.RMGR_SEL_DOMAIN w) (field R.RMGR_SEL_INDEX w) % 2 ^ 32 ∧
      regsKept [R.RMGR_SEL_DOMAIN, R.RMGR_SEL_INDEX, R.GLB_ACCESS_WRITES (pathKind p)] s t ∧ dataKept s t ∧ hostKept s t)) ∧
    (∀ k, k < 2 → field R.ST_SEL_KIND w ≤ 6 → ∃ t : State, Machine.exec (.stSel p w) s = .next t ∧ (
      snapWord p (A.ST_DATA k) t = (s.testWords (field R.ST_SEL_KIND w) (field R.ST_SEL_INDEX w)).getD k 0 % 2 ^ 32 ∧
      regsKept [R.ST_SEL_KIND, R.ST_SEL_INDEX, R.GLB_ACCESS_WRITES (pathKind p)] s t ∧ dataKept s t ∧ hostKept s t)) ∧
    (∀ k, k < 3 → ∃ t : State, Machine.exec (.lqpSessSel p w) s = .next t ∧ (
      snapWord p (A.LQP_SESS_DATA k) t = (s.sessionWords (field R.LQP_SESS_SEL_SESSION w)).getD k 0 % 2 ^ 32 ∧
      regsKept [R.LQP_SESS_SEL_SESSION, R.GLB_ACCESS_WRITES (pathKind p)] s t ∧ dataKept s t ∧ hostKept s t)) ∧
    (∀ k, k < 3 → ∃ t : State, Machine.exec (.queSel p w) s = .next t ∧ (
      snapWord p (A.QUE_DATA k) t = (s.queueWords (field R.QUE_SEL_SESSION w) (field R.QUE_SEL_QUEUE w)).getD k 0 % 2 ^ 32 ∧
      regsKept [R.QUE_SEL_SESSION, R.QUE_SEL_QUEUE, R.GLB_ACCESS_WRITES (pathKind p)] s t ∧ dataKept s t ∧ hostKept s t)) ∧
    (∀ k, k < 5 → ∃ t : State, Machine.exec (.stkVolSel p w) s = .next t ∧ (
      snapWord p (A.STK_VOL_DATA k) t = (s.volumeWords (field R.STK_VOL_SEL_VOL w)).getD k 0 % 2 ^ 32 ∧
      regsKept [R.STK_VOL_SEL_VOL, R.GLB_ACCESS_WRITES (pathKind p)] s t ∧ dataKept s t ∧ hostKept s t)) ∧
    (∀ k, k < 2 → field R.REC_HEAD_SEL_G w ≤ 639 → ∃ t : State, Machine.exec (.recHeadSel p w) s = .next t ∧ (
      snapWord p (A.REC_HEAD_DATA k) t =
        (s.recHeadWords (field R.REC_HEAD_SEL_G w) (field R.REC_HEAD_SEL_RZONE w)).getD k 0 % 2 ^ 32 ∧
      regsKept [R.REC_HEAD_SEL_G, R.REC_HEAD_SEL_RZONE, R.GLB_ACCESS_WRITES (pathKind p)] s t ∧ dataKept s t ∧ hostKept s t)) ∧
    (∀ k, k < 3 → ∃ t : State, Machine.exec (.calElemSel p w) s = .next t ∧ (
      snapWord p (A.CAL_ELEM_DATA k) t =
        (s.calWords (field R.CAL_ELEM_SEL_KIND w) (field R.CAL_ELEM_SEL_ELEM w)).getD k 0 % 2 ^ 32 ∧
      regsKept [R.CAL_ELEM_SEL_KIND, R.CAL_ELEM_SEL_ELEM, R.GLB_ACCESS_WRITES (pathKind p)] s t ∧ dataKept s t ∧ hostKept s t)) ∧
    (∀ k, k < 4 → field R.AGE_SEL_G w ≤ 639 → ∃ t : State, Machine.exec (.ageSel p w) s = .next t ∧ (
      snapWord p (A.AGE_DATA k) t = (s.ageWords (field R.AGE_SEL_G w) (field R.AGE_SEL_RZONE w)).getD k 0 % 2 ^ 32 ∧
      regsKept [R.AGE_SEL_G, R.AGE_SEL_RZONE, R.GLB_ACCESS_WRITES (pathKind p)] s t ∧ dataKept s t ∧ hostKept s t)) ∧
    (∀ k, k < 4 → ∃ t : State, Machine.exec (.dampStateSel p w) s = .next t ∧ (
      snapWord p (A.DAMP_STATE_DATA k) t = (loopWords (s.loop (field R.DAMP_STATE_SEL_LOOP w))).getD k 0 % 2 ^ 32 ∧
      regsKept [R.DAMP_STATE_SEL_LOOP, R.GLB_ACCESS_WRITES (pathKind p)] s t ∧ dataKept s t ∧ hostKept s t)) ∧
    (∀ k, k < 5 → field R.PORT_ADDR_SEL_PORT w ≤ 2 → field R.PORT_ADDR_SEL_SLOT w ≤ 5 → field R.PORT_ADDR_SEL_WR w = 0 →
      ∃ t : State, Machine.exec (.portAddrSnapshot p w) s = .next t ∧ (
        snapWord p (A.PORT_ADDR_DATA k) t =
          (s.addrWords (field R.PORT_ADDR_SEL_PORT w) (field R.PORT_ADDR_SEL_LINK w) (field R.PORT_ADDR_SEL_SLOT w)).getD k 0 %
            2 ^ 32 ∧ dataKept s t ∧ hostKept s t))

/-- For a command in flight. STAGING_COMMIT of a ready WRITE with no earlier write waiting for space: when its lines
fit under the dirty limit it is COMMITTED and leaves volumes, medium and queues as they were, and a write of one block
leaves that block, in its stored form, as the newest copy in DRAM; when they do not fit it waits and AT_LIMIT is 1.
STAGING_COMMIT_COMPLETE completes a write of a buffered volume, not forced durable, with success once its map changes
are durable; any other write with lines left waits for the DURABLE point. COMPLETES (exec answers next t, under these
hypotheses alone): stagingCommit, stagingCommitComplete. -/
def Obligations.WritesAreCommittedToStaging : Prop :=
  ∀ (s : State) (r : CmdRef) (c : Cmd), inFlight r c s →
    (c.ready = true → (∀ d ∈ s.cmds, d.stage = .space → ¬d.arrival < c.arrival) →
      (s.dirtyUsed + (s.toReserve c.vol c.lba c.blocks).length ≤ s.dirtyLimit →
        ∃ t : State, Machine.exec (.stagingCommit r) s = .next t ∧ (
          (∃ d, t.cmdOf r = some d ∧ d.commit = .committed ∧ d.stage = .commit ∧ d.lines = linesOf c.vol c.lba c.blocks) ∧
          (c.blocks = 1 → t.inDram c.vol c.lba = some (s.storedForm c.vol c.lba (tgetD 0 (0, ⟨0, 0, 0⟩) c.data))) ∧
          regsKept [R.CACHE_COUNT_COUNT 5] s t ∧ t.vols = s.vols ∧ t.media = s.media ∧ t.sessions = s.sessions)) ∧
      (s.dirtyLimit < s.dirtyUsed + (s.toReserve c.vol c.lba c.blocks).length →
        ∃ t : State, Machine.exec (.stagingCommit r) s = .next t ∧ (
          t.cmdOf r = some { c with stage := .space } ∧ t.get R.CACHE_STATUS_AT_LIMIT = 1 ∧
          regsKept [R.CACHE_STATUS_AT_LIMIT] s t ∧ t = { s with flds := t.flds, cmds := t.cmds, gates := t.gates }))) ∧
    (∀ v, c.stage = .commit → tget c.vol s.vols = some v →
      (v.buffered = true → c.forceDurable = false → s.durableForced = false → s.jn.seq ≤ s.jn.durable →
        ∃ t : State, Machine.exec (.stagingCommitComplete r) s = .next t ∧ (t.cmdOf r = none ∧ cplSent c St.success t ∧ dataKept s t)) ∧
      ((v.buffered = false ∨ c.forceDurable = true ∨ s.durableForced = true) → c.lines ≠ [] →
        ∃ t : State, Machine.exec (.stagingCommitComplete r) s = .next t ∧ (
          (∃ d, t.cmdOf r = some d ∧ d.stage = .durable ∧ d.lines = c.lines) ∧
          t = { s with cmds := t.cmds, gates := t.gates })))

/-- On a running module. A fill that completes while no cut is in force makes its blocks valid in their line, but for
those in acknowledged staging, while no cache operation is in flight. A write-back that reached the DURABLE point, of
a line not written meanwhile, clears its dirty bits while no write waits for space; a failed one leaves it dirty. A
tag error gives the entries of its set the VALID of their frame headers; a dirty line whose header fails its CRC takes
the dirty blocks of its partner's. An Invalidating cache goes Off with INV_DONE 1. The medium and the volumes are as
before. COMPLETES (exec answers next t, under these hypotheses alone): cacheFillComplete, cacheWritebackDone,
cacheTagError, invalidateAllDone. -/
def Obligations.CacheLinesFillAndClean : Prop :=
  ∀ (s : State), s.run = .up →
    (∀ (v : Vol) (line w : Nat) (bl : Tbl (Block × Pi)), s.cache.fills.find? (fun f => f.1 = v.val && f.2.1 = line) = some (v.val, line, bl) →
      s.isCut = false → s.findLine v line = some w → (∀ c ∈ s.cmds, c.op ≠ 0x4A) →
      ∃ t : State, Machine.exec (.cacheFillComplete v line) s = .next t ∧ (
        (∀ e ∈ bl, tget (stageKey v (32 * line + e.1)) s.cache.staged = none →
          (t.tag (lineSet v line) w).valid.testBit e.1 = true) ∧
        (t.tag (lineSet v line) w).fill = false ∧ (∀ f ∈ t.cache.fills, ¬(f.1 = v ∧ f.2.1 = line)) ∧
        regsKept [R.CACHE_COUNT_COUNT 2] s t ∧ t = { s with flds := t.flds, cache := t.cache, gates := t.gates })) ∧
    (∀ (v : Vol) (line w : Nat), s.findLine v line = some w → (s.tag (lineSet v line) w).wb = true →
      ((v.val, line) ∈ s.cache.durable → (s.tag (lineSet v line) w).written = 0 →
        (s.tag (lineSet v line) w).wbDirty = (s.tag (lineSet v line) w).dirty → (∀ c ∈ s.cmds, c.stage ≠ .space) →
        ∃ t : State, Machine.exec (.cacheWritebackDone v line true) s = .next t ∧ (
          (t.tag (lineSet v line) w).dirty = 0 ∧ (t.tag (lineSet v line) w).wb = false ∧ (v.val, line) ∉ t.cache.durable ∧
          t.vols = s.vols ∧ t.media = s.media ∧ t.exts = s.exts)) ∧
      ∃ t : State, Machine.exec (.cacheWritebackDone v line false) s = .next t ∧ (
        (t.tag (lineSet v line) w).dirty = (s.tag (lineSet v line) w).dirty ∧ (t.tag (lineSet v line) w).wb = false ∧
        t = { s with cache := t.cache, gates := t.gates })) ∧
    (∀ e : TagErr,
      ∃ t : State, Machine.exec (.cacheTagError e) s = .next t ∧ (
        (∀ w x, w < 16 → w ∉ e.bad → tget (16 * e.set + w) s.cache.tags = some x →
          tget (16 * e.set + w) t.cache.tags = some { x with valid := x.hdr }) ∧
        (∀ w x, w < 16 → w ∈ e.bad → tget (16 * e.set + w) s.cache.tags = some x → x.dirty ≠ 0 → x.partner ∉ e.bad →
          tget (16 * e.set + w) t.cache.tags =
            some { x with valid := (s.tag e.set x.partner).dirty, dirty := (s.tag e.set x.partner).dirty }) ∧
        (∀ k, k / 16 ≠ e.set → tget k t.cache.tags = tget k s.cache.tags) ∧
        t = { s with cache := t.cache, rcd := t.rcd, gates := t.gates })) ∧
    (s.get R.CACHE_STATUS_STATE = 1 →
      ∃ t : State, Machine.exec .invalidateAllDone s = .next t ∧ (
        t.get R.CACHE_STATUS_STATE = 0 ∧ t.get R.CACHE_STATUS_INV_DONE = 1 ∧ dataKept s t))

/-- On a running module. DRAM_UNCORRECTABLE in a package not retired counts it, keeps its address, and takes the
package and its cache way out of service. Corrected bursts are counted; below CE_LIMIT within 24 h nothing else
changes, at it the package retires. A scrub pass of a package in service sets SCRUB_PCT to 0 with its bursts counted.
A map segment reloaded leaves the list and the count of those left; the last one ends the reload with every dirty line
that needs it given a twin where there is room. Volumes and sessions are as before. COMPLETES (exec answers next t,
under these hypotheses alone): dramUncorrectable, dramCeLimit, dramScrubPass, mapSegmentReload. -/
def Obligations.DramPackagesRetire : Prop :=
  ∀ (s : State), s.run = .up →
    (∀ (d : Pkg) (addr : Nat), (s.get R.DRAM_STATUS_RETIRED).testBit d = false →
      ∃ t : State, Machine.exec (.dramUncorrectable d addr) s = .next t ∧ (
        (t.get R.DRAM_STATUS_RETIRED).testBit d = true ∧ (t.get R.DRAM_STATUS_IN_SERVICE).testBit d = false ∧
        (t.get R.CACHE_STATUS_WAYS).testBit d = false ∧ t.get (R.DRAM_PKG0_UE d) = min 255 (s.get (R.DRAM_PKG0_UE d) + 1) ∧
        t.get (R.DRAM_PKG2_LAST_ADDR d) = addr % 2 ^ (R.DRAM_PKG2_LAST_ADDR d).w ∧ t.get R.DRAM_RELOAD_ACTIVE = 1 ∧
        t.vols = s.vols)) ∧
    (∀ (d : Pkg) (n addr : Nat) (c : Instr),
      c = .dramCeLimit d n addr ∨
        (c = .dramScrubPass d n addr ∧ s.get R.DRAM_CTRL_SCRUB_EN = 1 ∧ (s.get R.DRAM_STATUS_IN_SERVICE).testBit d = true) →
      (n + ((tgetD d [] s.cache.ceAt).filter fun a => decide (s.opSec < a + 86400)).length < s.get R.DRAM_CTRL_CE_LIMIT →
        ∃ t : State, Machine.exec c s = .next t ∧ (
          t.get (R.DRAM_PKG1_CE_TOTAL d) = min (s.get (R.DRAM_PKG1_CE_TOTAL d) + n) (2 ^ (R.DRAM_PKG1_CE_TOTAL d).w - 1) ∧
          (c = .dramScrubPass d n addr → t.get (R.DRAM_PKG0_SCRUB_PCT d) = 0) ∧
          regsKept [R.DRAM_PKG1_CE_TOTAL d, R.DRAM_PKG0_CE_WINDOW d, R.DRAM_PKG2_LAST_ADDR d, R.DRAM_PKG0_SCRUB_PCT d] s t ∧
          t = { s with flds := t.flds, cache := t.cache, gates := t.gates })) ∧
      (s.get R.DRAM_CTRL_CE_LIMIT ≤ n + ((tgetD d [] s.cache.ceAt).filter fun a => decide (s.opSec < a + 86400)).length →
        ∃ t : State, Machine.exec c s = .next t ∧ ((t.get R.DRAM_STATUS_RETIRED).testBit d = true ∧ t.vols = s.vols))) ∧
    (∀ seg : Nat, seg ∈ s.cache.reload → seg ∉ s.knd.mapWait →
      ∃ t : State, Machine.exec (.mapSegmentReload seg true) s = .next t ∧ (
        seg ∉ t.cache.reload ∧ t.get R.DRAM_RELOAD_LEFT = min 256 (delId seg s.cache.reload).length ∧
        (delId seg s.cache.reload = [] → t.get R.DRAM_RELOAD_ACTIVE = 0 ∧ t.cache.retwin = []) ∧
        t.exts = s.exts ∧ t.media = s.media ∧ t.vols = s.vols ∧ hostKept s t))

/-- For a command in flight that may begin, to a volume whose checks it passes, with no tag check asked and nothing
bad on the host side: when every block reads as data or as never written, READ and VERIFY leave flight with status
success, sent or queued on their path; when the first block is in the lost-block ledger, with status UNRECOVERED. One
that names no volume ends with NO-VOLUME. The medium, the volumes and the ledger are as before. COMPLETES (exec
answers next t, under these hypotheses alone): read, verify. -/
def Obligations.ReadsAndVerifiesComplete : Prop :=
  ∀ (s : State) (r : CmdRef) (c : Cmd), inFlight r c s → s.cache.capacityLost = false →
    (s.beginFails c = none → c.checkRef = false → c.checkApp = false →
      (c.mayBegin 1 = true →
        ((∀ i, i < c.blocks → (∃ x b, s.readBlock c.vol (c.lba + i) false = .data x b) ∨
            s.readBlock c.vol (c.lba + i) false = .zeros) →
          ∃ t : State, Machine.exec (.read r none) s = .next t ∧ (
            t.cmdOf r = none ∧ cplSent c St.success t ∧ t.vols = s.vols ∧ t.media = s.media ∧ t.lost = s.lost)) ∧
        (s.readBlock c.vol c.lba false = .lost →
          ∃ t : State, Machine.exec (.read r none) s = .next t ∧ (
            t.cmdOf r = none ∧ cplSent c St.unrecovered t ∧ t.vols = s.vols ∧ t.media = s.media ∧ t.lost = s.lost))) ∧
      (c.mayBegin 6 = true →
        ((∀ i, i < c.blocks → (∃ x b, s.readBlock c.vol (c.lba + i) true = .data x b) ∨
            s.readBlock c.vol (c.lba + i) true = .zeros) →
          ∃ t : State, Machine.exec (.verify r none) s = .next t ∧ (
            t.cmdOf r = none ∧ cplSent c St.success t ∧ t.vols = s.vols ∧ t.media = s.media ∧ t.lost = s.lost)) ∧
        (s.readBlock c.vol c.lba true = .lost →
          ∃ t : State, Machine.exec (.verify r none) s = .next t ∧ (
            t.cmdOf r = none ∧ cplSent c St.unrecovered t ∧ t.vols = s.vols ∧ t.media = s.media ∧ t.lost = s.lost)))) ∧
    (tget c.vol s.vols = none →
      (c.mayBegin 1 = true → ∃ t : State, Machine.exec (.read r none) s = .next t ∧ (t.cmdOf r = none ∧ cplSent c St.noVolume t ∧ dataKept s t)) ∧
      (c.mayBegin 6 = true → ∃ t : State, Machine.exec (.verify r none) s = .next t ∧ (t.cmdOf r = none ∧ cplSent c St.noVolume t ∧ dataKept s t)))

/-- For a command in flight that may begin and passes its checks. WRITE begins to take its data when its group has
room or it needs none. WRITE-ZEROES and DEALLOCATE whose dirty space fits leave whole extents of their range UNMAPPED,
no block of it in the lost-block ledger or on the weak list, and are completed or committed; above the dirty limit
they wait. FLUSH with nothing earlier, dirty or staged in its volume completes; with an earlier write it begins and
covers it. ABORT of an open I/O command takes it out and completes with ABORTED; of none, NOT-FOUND. COMPLETES (exec
answers next t, under these hypotheses alone): write, writeZeroes, deallocate, flush, abort. -/
def Obligations.WritesZeroesFlushesAndAborts : Prop :=
  ∀ (s : State) (r : CmdRef) (c : Cmd), inFlight r c s →
    (c.mayBegin 2 = true → s.beginFails c = none → c.piAction < 2 →
      ∀ v, tget c.vol s.vols = some v → (s.needsStorage c = false ∨ s.capFull v.group = false) →
      ∃ t : State, Machine.exec (.write r) s = .next t ∧ (
        t.cmdOf r = some { c with stage := .begun } ∧ t = { s with cmds := t.cmds, gates := t.gates })) ∧
    (∀ (op : Nat) (i : Instr), (op = 3 ∧ i = .writeZeroes r) ∨ (op = 4 ∧ i = .deallocate r) → c.mayBegin op = true →
      s.beginFails c = none →
      (s.dirtyUsed + (s.zeroBlocks c.vol c.lba c.blocks).length ≤ s.dirtyLimit →
        ∃ t : State, Machine.exec i s = .next t ∧ (
          (∀ e, e < 2 ^ 33 → c.lba ≤ 256 * e → 256 * e + 256 ≤ c.lba + c.blocks → (t.ext c.vol e).st = 0) ∧
          (∀ a, c.lba ≤ a → a < c.lba + c.blocks → t.lostBlock c.vol a = false) ∧
          (∀ e ∈ t.weak, ¬(e.vol = c.vol ∧ c.lba ≤ e.lba ∧ e.lba < c.lba + c.blocks)) ∧
          (∀ d, t.cmdOf r = some d → d.commit = .committed) ∧ t.vols = s.vols ∧ t.media = s.media)) ∧
      (s.dirtyLimit < s.dirtyUsed → ∃ t : State, Machine.exec i s = .next t ∧ (t = { s with gates := t.gates }))) ∧
    (c.mayBegin 5 = true → (c.vol = 0xFFFF ∨ (tget c.vol s.vols).isSome = true) →
      ((∀ d ∈ s.cmds, opExclusive d.op = true → d.arrival < c.arrival → c.vol ≠ 0xFFFF ∧ d.vol ≠ c.vol) →
        (∀ e ∈ s.dirtyTags, c.vol ≠ 0xFFFF ∧ e.2.vol ≠ c.vol) →
        (∀ e ∈ s.cache.staged, c.vol ≠ 0xFFFF ∧ e.1 / 2 ^ 41 ≠ c.vol) →
        ∃ t : State, Machine.exec (.flush r) s = .next t ∧ (t.cmdOf r = none ∧ cplSent c St.success t ∧ dataKept s t)) ∧
      (∀ d ∈ s.cmds, opExclusive d.op = true → d.arrival < c.arrival → (c.vol = 0xFFFF ∨ d.vol = c.vol) →
        ∃ t : State, Machine.exec (.flush r) s = .next t ∧ (
          (∃ e, t.cmdOf r = some e ∧ e.stage = .begun ∧ d.arrival ∈ e.covers) ∧
          t = { s with cmds := t.cmds, gates := t.gates }))) ∧
    (c.op = 8 → c.stage = .fresh → s.holdsQueue r.session (capB c.cap 32) = true →
      (∀ d, s.cmdOf ⟨r.session, capB c.cap 32, capF c.cap 34 2⟩ = some d → d.ref ≠ r → d.commit = .opened →
        opNeverHeld d.op = false → d.op ≠ 0x4E →
        ∃ t : State, Machine.exec (.abort r) s = .next t ∧ (
          t.cmdOf r = none ∧ t.cmdOf d.ref = none ∧ cplSent c St.aborted t ∧ dataKept s t)) ∧
      (s.cmdOf ⟨r.session, capB c.cap 32, capF c.cap 34 2⟩ = none →
        ∃ t : State, Machine.exec (.abort r) s = .next t ∧ (t.cmdOf r = none ∧ cplSent c St.notFound t ∧ dataKept s t)))

/-- RESUME of a held queue, with CONTINUE or DISCARD. By a command in flight, of a frozen queue: the queue is no
longer frozen, none of its commands is held, and the RESUME completes with success; of a queue that is not frozen it
completes with success and changes nothing else of the queue. By a write of QUE_RESUME with GO to the queue QUE_SEL
names: RESULT is 1 and the queue thaws, or 2 when it was not frozen. What hosts have stored is as before. COMPLETES
(exec answers next t, under these hypotheses alone): resumeContinue, resumeDiscard. -/
def Obligations.QueuesResume : Prop :=
  ∀ (s : State),
    (∀ (r : CmdRef) (c : Cmd) (a : Nat) (i : Instr), inFlight r c s → c.op = 9 → c.stage = .fresh →
      (a = 0 ∧ i = .resumeContinue (.cmd r)) ∨ (a = 1 ∧ i = .resumeDiscard (.cmd r)) → capB c.cap 33 = a →
      s.holdsQueue r.session (capB c.cap 32) = true →
      ((s.queueSt r.session (capB c.cap 32)).frozen.isSome = true →
        ∃ t : State, Machine.exec i s = .next t ∧ (
          (t.queueSt r.session (capB c.cap 32)).frozen = none ∧
          (∀ d ∈ t.cmds, d.ref.session = r.session → d.ref.queue = capB c.cap 32 → d.held = false) ∧
          t.cmdOf r = none ∧ cplSent c St.success t ∧ dataKept s t)) ∧
      ((s.queueSt r.session (capB c.cap 32)).frozen = none →
        ∃ t : State, Machine.exec i s = .next t ∧ (
          (t.queueSt r.session (capB c.cap 32)).frozen = none ∧ t.cmdOf r = none ∧ cplSent c St.success t ∧ dataKept s t))) ∧
    (∀ (p : Path) (w : Word) (a : Nat) (i : Instr), writable p s → field R.QUE_RESUME_GO w = 1 →
      field R.QUE_RESUME_ACTION w = a → (a = 0 ∧ i = .resumeContinue (.reg p w)) ∨ (a = 1 ∧ i = .resumeDiscard (.reg p w)) →
      s.holdsQueue (s.get R.QUE_SEL_SESSION) (s.get R.QUE_SEL_QUEUE) = true →
      ((s.queueSt (s.get R.QUE_SEL_SESSION) (s.get R.QUE_SEL_QUEUE)).frozen.isSome = true →
        ∃ t : State, Machine.exec i s = .next t ∧ (
          t.get R.QUE_RESUME_RESULT = 1 ∧ dataKept s t ∧
          ((t.session (s.get R.QUE_SEL_SESSION)).isSome = true →
            (t.queueSt (s.get R.QUE_SEL_SESSION) (s.get R.QUE_SEL_QUEUE)).frozen = none))) ∧
      ((s.queueSt (s.get R.QUE_SEL_SESSION) (s.get R.QUE_SEL_QUEUE)).frozen = none →
        ∃ t : State, Machine.exec i s = .next t ∧ (t.get R.QUE_RESUME_RESULT = 2 ∧ dataKept s t ∧ hostKept s t)))

/-- SET-KEY by a command in flight with its 64 bytes, on a module that is not Unlit. ESTABLISH on an encrypted volume
with no check value stores the key and its check value; UNLOCK with the right key stores it, with a wrong one
completes KEY-MISMATCH and changes no volume; CLEAR removes the key. By a write of VOL_KEY_SEL with GO each of the
three rows acts on the volume the word names, leaves every VOL_KEY_DATA word 0, and with OP 2 the key is gone with
RESULT 1. COMPLETES (exec answers next t, under these hypotheses alone): setKeyUnlock, setKeyEstablish, setKeyClear.
-/
def Obligations.KeysAreSetAndCleared : Prop :=
  ∀ (s : State), s.get R.GLB_STATUS_STATE ≠ 2 →
    (∀ (r : CmdRef) (c : Cmd) (x : Volume), inFlight r c s → s.adminCmd 0x47 r = some c → tget c.vol s.vols = some x →
      (capB c.cap 6 = 1 → x.encrypt = true → x.kcv = none →
        ∃ t : State, Machine.exec (.setKeyEstablish (.cmd r)) s = .next t ∧ (
          tget c.vol t.vols = some { x with key := some (keyOf c.bytes), kcv := some (keyCheck (keyOf c.bytes)) } ∧
          t.cmdOf r = none ∧ cplSent c St.success t ∧ t.media = s.media ∧ t.exts = s.exts)) ∧
      (∀ k, capB c.cap 6 = 0 → x.kcv = some k →
        (keyCheck (keyOf c.bytes) = k →
          ∃ t : State, Machine.exec (.setKeyUnlock (.cmd r)) s = .next t ∧ (
            tget c.vol t.vols = some { x with key := some (keyOf c.bytes) } ∧ t.cmdOf r = none ∧ cplSent c St.success t ∧
            t.media = s.media ∧ t.exts = s.exts)) ∧
        (keyCheck (keyOf c.bytes) ≠ k →
          ∃ t : State, Machine.exec (.setKeyUnlock (.cmd r)) s = .next t ∧ (t.cmdOf r = none ∧ cplSent c St.keyMismatch t ∧ dataKept s t))) ∧
      (capB c.cap 6 = 2 →
        ∃ t : State, Machine.exec (.setKeyClear (.cmd r)) s = .next t ∧ (
          tget c.vol t.vols = some { x with key := none } ∧ t.cmdOf r = none ∧ cplSent c St.success t ∧
          t.media = s.media ∧ t.exts = s.exts))) ∧
    (∀ (p : Path) (w : Word) (i : Instr), writable p s → field R.VOL_KEY_SEL_GO w = 1 → field R.VOL_KEY_SEL_OP w ≤ 2 →
      i = .setKeyUnlock (.reg p w) ∨ i = .setKeyEstablish (.reg p w) ∨ i = .setKeyClear (.reg p w) →
      ∃ t : State, Machine.exec i s = .next t ∧ (
        (∀ k, k < 16 → t.get (R.VOL_KEY_DATA_KEY k) = 0) ∧ t.media = s.media ∧ t.exts = s.exts ∧ hostKept s t ∧
        (∀ x, field R.VOL_KEY_SEL_OP w = 2 → tget (field R.VOL_KEY_SEL_VOLUME w) s.vols = some x →
          tget (field R.VOL_KEY_SEL_VOLUME w) t.vols = some { x with key := none } ∧ t.get R.VOL_KEY_STATUS_RESULT = 1)))

/-- For an admin command in flight on a module that is not Unlit. VOLUME-CREATE of a free number, with valid
attributes and room, makes that volume. VOLUME-DELETE of one not busy removes it with its map entries and ledger
entries; of a busy one it completes VOLUME-BUSY. VOLUME-SET of a default hint, or of a size within bounds, changes
that. LAYOUT-RESHAPE to a valid layout with room starts one for a volume with mapped extents; CANCEL ends it and frees
the shadow directory. The medium is as before and each completes with success. CANCEL with none running ends
INVALID-FIELD (the model's choice, log entry 24). COMPLETES (exec answers next t, under these hypotheses alone):
volumeCreate, volumeDelete, volumeSet, layoutReshape, layoutReshapeCancel. -/
def Obligations.VolumesAreManaged : Prop :=
  ∀ (s : State) (r : CmdRef) (c : Cmd), inFlight r c s → s.get R.GLB_STATUS_STATE ≠ 2 →
    (s.adminCmd 0x44 r = some c → ∀ x, s.attributes c.cap = some x → s.overProvisioned x.group x.size = false →
      capF c.cap 4 2 < 1024 → tget (capF c.cap 4 2) s.vols = none →
      ∃ t : State, Machine.exec (.volumeCreate r) s = .next t ∧ (
        tget (capF c.cap 4 2) t.vols = some x ∧ (∀ v, v ≠ capF c.cap 4 2 → tget v t.vols = tget v s.vols) ∧
        t.cmdOf r = none ∧ cplSent c St.success t ∧ t.exts = s.exts ∧ t.media = s.media)) ∧
    (s.adminCmd 0x45 r = some c → ∀ x, tget c.vol s.vols = some x →
      (s.volumeBusy c.vol x = false →
        ∃ t : State, Machine.exec (.volumeDelete r) s = .next t ∧ (
          tget c.vol t.vols = none ∧ (∀ e ∈ t.exts, e.1 / 2 ^ 33 ≠ c.vol) ∧ (∀ e ∈ t.lost, e.vol ≠ c.vol) ∧
          t.cmdOf r = none ∧ cplSent c St.success t ∧ t.media = s.media)) ∧
      (s.volumeBusy c.vol x = true →
        ∃ t : State, Machine.exec (.volumeDelete r) s = .next t ∧ (t.cmdOf r = none ∧ cplSent c St.volumeBusy t ∧ dataKept s t))) ∧
    (s.adminCmd 0x46 r = some c → ∀ x, tget c.vol s.vols = some x → s.volumeBusy c.vol x = false → x.latency ≠ 3 →
      x.budget ≤ 60000 → 0 < x.size → x.size < 2 ^ 33 →
      (∀ e ∈ s.exts, e.1 / 2 ^ 33 = c.vol → e.2.st ≠ 0 → e.1 % 2 ^ 33 < x.size) →
      (capF c.cap 6 2 = 8 →
        ∃ t : State, Machine.exec (.volumeSet r) s = .next t ∧ (
          tget c.vol t.vols = some { x with hint := capB c.cap 43 / 8 % 4 } ∧ t.cmdOf r = none ∧ cplSent c St.success t ∧
          t.exts = s.exts ∧ t.media = s.media)) ∧
      (capF c.cap 6 2 = 1 → x.size ≤ capF c.cap 32 8 → capF c.cap 32 8 < 2 ^ 33 →
        s.overProvisioned x.group (capF c.cap 32 8 - x.size) = false →
        ∃ t : State, Machine.exec (.volumeSet r) s = .next t ∧ (
          tget c.vol t.vols = some { x with size := capF c.cap 32 8 } ∧ t.cmdOf r = none ∧ cplSent c St.success t ∧
          t.exts = s.exts ∧ t.media = s.media))) ∧
    (s.adminCmd 0x48 r = some c → ∀ x, tget c.vol s.vols = some x →
      ((capB c.cap 11).testBit 0 = false → x.reshape = none →
        s.validLayout (capB c.cap 10) (capB c.cap 8) (capB c.cap 9) = true →
        (s.capacity (capB c.cap 10)).2.2.2 +
          Machine.ceilDiv (s.mapped c.vol * (capB c.cap 8 + capB c.cap 9)) (capB c.cap 8) ≤ s.outside (capB c.cap 10) →
        (s.nextMapped c.vol 0).isSome = true →
        ∃ t : State, Machine.exec (.layoutReshape r) s = .next t ∧ (
          tget c.vol t.vols = some { x with reshape := some ⟨capB c.cap 8, capB c.cap 9, capB c.cap 10, 0, 1⟩ } ∧
          t.get R.RED_STATUS_RESHAPE = 1 ∧ t.cmdOf r = none ∧ cplSent c St.success t ∧ t.exts = s.exts ∧ t.media = s.media)) ∧
      ((capB c.cap 11).testBit 0 = true →
        (x.reshape.isSome = true →
          ∃ t : State, Machine.exec (.layoutReshapeCancel r) s = .next t ∧ (
            tget c.vol t.vols = some { x with reshape := none } ∧ (∀ e ∈ t.shadows, e.1 / 2 ^ 33 ≠ c.vol) ∧
            t.cmdOf r = none ∧ cplSent c St.success t ∧ t.media = s.media)) ∧
        (x.reshape = none →
          ∃ t : State, Machine.exec (.layoutReshapeCancel r) s = .next t ∧ (t.cmdOf r = none ∧ cplSent c St.invalidField t ∧ dataKept s t))))

/-- On a module that is not Unlit. INVALIDATE-ALL of an Off cache empties its tags and makes it Invalidating, else it
is refused. ENABLE of an Off cache with INV_DONE makes it On; without, it is refused. DISABLE of an On cache goes Off
at once when nothing is dirty or staged, else Draining. The same by a write of CACHE_CTRL with legal limits.
WRITEBACK, PURGE and DROP-CLEAN of every volume complete at once when no line needs waiting for, with their operation
shown; WRITEBACK and PURGE begin and show BUSY while a line is dirty. Volumes, map and medium are as before. COMPLETES
(exec answers next t, under these hypotheses alone): writeback, purge, dropClean, invalidateAll, cacheEnable,
cacheDisable. -/
def Obligations.CacheIsMaintained : Prop :=
  ∀ (s : State), s.get R.GLB_STATUS_STATE ≠ 2 →
    (∀ (r : CmdRef) (c : Cmd), inFlight r c s → s.adminCmd 0x4A r = some c →
      (capB c.cap 4 = 0 →
        (s.get R.CACHE_STATUS_STATE = 0 →
          ∃ t : State, Machine.exec (.invalidateAll (.cmd r)) s = .next t ∧ (
            t.get R.CACHE_STATUS_STATE = 1 ∧ t.get R.CACHE_STATUS_INV_DONE = 0 ∧ t.cache.tags = [] ∧
            (∃ d, t.cmdOf r = some d ∧ d.stage = .begun) ∧ t.vols = s.vols ∧ t.exts = s.exts ∧ t.media = s.media)) ∧
        (s.get R.CACHE_STATUS_STATE ≠ 0 →
          ∃ t : State, Machine.exec (.invalidateAll (.cmd r)) s = .next t ∧ (t.cmdOf r = none ∧ cplSent c St.refused t ∧ dataKept s t))) ∧
      (capB c.cap 4 = 1 → s.get R.CACHE_STATUS_STATE = 0 →
        (s.get R.CACHE_STATUS_INV_DONE = 1 →
          ∃ t : State, Machine.exec (.cacheEnable (.cmd r)) s = .next t ∧ (
            t.get R.CACHE_STATUS_STATE = 2 ∧ t.cmdOf r = none ∧ cplSent c St.success t ∧ dataKept s t)) ∧
        (s.get R.CACHE_STATUS_INV_DONE = 0 →
          ∃ t : State, Machine.exec (.cacheEnable (.cmd r)) s = .next t ∧ (
            t.get R.CACHE_STATUS_STATE = 0 ∧ t.get R.CACHE_STATUS_ENABLE_REFUSED = 1 ∧ t.cmdOf r = none ∧
            cplSent c St.refused t ∧ dataKept s t))) ∧
      (capB c.cap 4 = 2 → s.get R.CACHE_STATUS_STATE = 2 →
        ∃ t : State, Machine.exec (.cacheDisable (.cmd r)) s = .next t ∧ (
          (s.dirtyTags = [] ∧ s.cache.staged = [] → t.get R.CACHE_STATUS_STATE = 0 ∧ t.cmdOf r = none) ∧
          (¬(s.dirtyTags = [] ∧ s.cache.staged = []) →
            t.get R.CACHE_STATUS_STATE = 3 ∧ ∃ d, t.cmdOf r = some d ∧ d.stage = .begun) ∧ dataKept s t)) ∧
      (∀ (op : Nat) (i : Instr),
        (op = 3 ∧ i = .writeback r) ∨ (op = 4 ∧ i = .purge r) ∨ (op = 5 ∧ i = .dropClean r) → capB c.cap 4 = op →
        capF c.cap 5 2 = 0xFFFF →
        ((∀ e ∈ s.cache.tags, e.2.fill = false) → (op ≠ 5 → s.dirtyTags = [] ∧ s.cache.staged = []) →
          ∃ t : State, Machine.exec i s = .next t ∧ (
            t.cmdOf r = none ∧ cplSent c St.success t ∧ t.get R.CACHE_MAINT_BUSY = 0 ∧ t.get R.CACHE_MAINT_OP = op ∧
            t.vols = s.vols ∧ t.exts = s.exts ∧ t.media = s.media)) ∧
        (op ≠ 5 → s.cache.staged ≠ [] →
          ∃ t : State, Machine.exec i s = .next t ∧ (
            (∃ d, t.cmdOf r = some d ∧ d.stage = .begun ∧ d.todo ≠ []) ∧ t.get R.CACHE_MAINT_BUSY = 1 ∧
            t.get R.CACHE_MAINT_OP = op ∧ t.vols = s.vols ∧ t.exts = s.exts ∧ t.media = s.media)))) ∧
    (∀ (p : Path) (w : Word), writable p s → 8 ≤ field R.CACHE_CTRL_DIRTY_LIMIT w → field R.CACHE_CTRL_DIRTY_LIMIT w ≤ 128 →
      1 ≤ field R.CACHE_CTRL_SET_DIRTY_MAX w → (∀ d ∈ s.cmds, d.stage ≠ .space) →
      (field R.CACHE_CTRL_INV_ALL w = 1 → s.get R.CACHE_STATUS_STATE = 0 →
        ∃ t : State, Machine.exec (.invalidateAll (.reg p w)) s = .next t ∧ (
          t.get R.CACHE_STATUS_STATE = 1 ∧ t.cache.tags = [] ∧ t.vols = s.vols ∧ t.exts = s.exts ∧ t.media = s.media)) ∧
      (field R.CACHE_CTRL_INV_ALL w = 0 → field R.CACHE_CTRL_EN w = 1 → s.get R.CACHE_STATUS_STATE = 0 →
        s.get R.CACHE_STATUS_INV_DONE = 1 →
        ∃ t : State, Machine.exec (.cacheEnable (.reg p w)) s = .next t ∧ (
          t.get R.CACHE_STATUS_STATE = 2 ∧ t.get R.CACHE_CTRL_EN = 1 ∧ dataKept s t ∧ hostKept s t)) ∧
      (field R.CACHE_CTRL_INV_ALL w = 0 → field R.CACHE_CTRL_EN w = 0 → s.get R.CACHE_STATUS_STATE = 2 →
        ∃ t : State, Machine.exec (.cacheDisable (.reg p w)) s = .next t ∧ (
          t.get R.CACHE_STATUS_STATE = (if s.dirtyTags.isEmpty && s.cache.staged.isEmpty then 0 else 3) ∧
          t.get R.CACHE_CTRL_EN = 0 ∧ dataKept s t)))

/-- On a running module that made no cut, with no ladder on retired hardware. A read that failed on budget enters the
ladder at step 1 while step 1 is enabled and RA is held off, with its command waiting; a seal failure of a block
without redundancy enters the lost-block ledger. A ladder read of a foreground recovery that converges ends it and
counts the step. A reconstruction that is good, its block's seal passing, counts; what is left of its recovery runs in
the background. A failed one is counted and its ladder goes on. An unread sector of a departed head, its row redundant
and its time come, is counted as read around. COMPLETES (exec answers next t, under these hypotheses alone):
departedHeadReadAround, readFailure, ladderReadEnd, reconstructionResult. -/
def Obligations.FailedReadsRecover : Prop :=
  ∀ (s : State), s.run = .up → s.isCut = false → (∀ e ∈ s.recs, s.recEnds e.2 = false) →
    (∀ (id lba pass : Nat) (ready : List Ready) (r : CmdRef) (c : Cmd) (p : Post), s.pool.posts.find? (fun q => q.id = id) = some p →
      s.cmdOf r = some c → c.lba ≤ lba → lba < c.lba + c.blocks → s.find c.vol lba = some p.req.place →
      tget (placeKey p.req.place) s.recs = none → p.req.vol.isSome = true → c.vol ≠ noVolume →
      (p.status = .budget → (s.get R.REC_CTRL_STEP_EN).testBit 0 = true → s.get R.REC_CTRL_RA_MAX ≤ s.raInFlight →
        ∃ t : State, Machine.exec (.readFailure id r lba pass ready) s = .next t ∧ (
          (∃ y, tget (placeKey p.req.place) t.recs = some y ∧ y.step = 1 ∧ y.bg = false ∧
            y.waiting = [(r, s.deadlineOf c)] ∧ y.vol = c.vol ∧ y.lba = lba) ∧
          (∀ q ∈ t.pool.posts, q.id ≠ id) ∧ regsKept [] s t ∧ dataKept s t ∧ hostKept s t)) ∧
      (p.status = .sealBad → s.redundant p.req.place.row p.req.place.col = false → s.lost.length < 2097152 →
        ∃ t : State, Machine.exec (.readFailure id r lba pass ready) s = .next t ∧ (
          t.lostBlock c.vol lba = true ∧ tget (placeKey p.req.place) t.recs = none ∧ t.media = s.media ∧ t.vols = s.vols))) ∧
    (∀ (id pass : Nat) (ready : List Ready) (p : Post) (y : Recovery) (b : Sealed),
      s.pool.posts.find? (fun q => q.id = id) = some p → p.status = .converged → p.block = some b → p.req.budget = some 40 → p.req.head.val = y.head →
      tget (placeKey p.req.place) s.recs = some y → y.place = p.req.place → y.bg = false → y.noLadder = false → 1 ≤ y.step →
      y.step ≤ 8 →
      ∃ t : State, Machine.exec (.ladderReadEnd id pass ready) s = .next t ∧ (
        tget (placeKey p.req.place) t.recs = none ∧
        t.get (R.REC_OUTCOME_COUNT y.step) = counted (R.REC_OUTCOME_COUNT y.step) s ∧ t.media = s.media ∧ t.vols = s.vols)) ∧
    (∀ (pl : Place) (y : Recovery), tget (placeKey pl) s.recs = some y → y.place = pl → y.ra = .running → y.noLadder = false →
      pl.row ∉ s.stripe.unsynced → s.placePasses pl = true →
      ∃ t : State, Machine.exec (.reconstructionResult pl true) s = .next t ∧ (
        t.get (R.REC_OUTCOME_COUNT 0) = counted (R.REC_OUTCOME_COUNT 0) s ∧
        (∀ z, tget (placeKey pl) t.recs = some z → z.bg = true) ∧ t.media = s.media ∧ t.vols = s.vols)) ∧
    (∀ (pl : Place) (ok : Bool) (y : Recovery), tget (placeKey pl) s.recs = some y → y.place = pl → y.ra = .running →
      y.noLadder = false → y.step ≠ 9 → pl.row ∉ s.stripe.unsynced → (ok && s.placePasses pl) = false →
      ∃ t : State, Machine.exec (.reconstructionResult pl ok) s = .next t ∧ (
        tget (placeKey pl) t.recs = some { y with ra := .failed } ∧
        t.get R.RED_COUNT_RECON_FAILED = counted R.RED_COUNT_RECON_FAILED s ∧
        t = { s with flds := t.flds, recs := t.recs, gates := t.gates })) ∧
    (∀ (g : GHead) (r : CmdRef) (c : Cmd) (i : Nat) (pl : Place), s.cmdOf r = some c → c.op = 1 → i < c.blocks →
      s.find c.vol (c.lba + i) = some pl → (∃ x, s.position pl = some x ∧ x.1 = g.val) → s.get (R.HEAD_PES_IN_SET g) = 0 →
      s.redundant pl.row pl.col = true → s.departedDue g c = true →
      ∃ t : State, Machine.exec (.departedHeadReadAround g r i) s = .next t ∧ (
        t.get (R.REC_OUTCOME_COUNT 0) = counted (R.REC_OUTCOME_COUNT 0) s ∧ regsKept [R.REC_OUTCOME_COUNT 0] s t ∧
        (t.head g).unread = (s.head g).unread.filter (· != pl) ∧
        t = { s with flds := t.flds, heads := t.heads, rcd := t.rcd, gates := t.gates }))

/-- On a running module that made no cut. WEAK_RELOCATION, with room in the map journal, takes the entry off the list:
one whose block has moved does nothing more; one in the band whose read-back converges leaves the block in its place
at the row's generation and counts it. WEAK_LIST_FULL of a list of 4,096 records it and changes nothing else.
HEAD_REJOIN_BOUND of a head out of the set of an actuator that is writing a chunk records where each block of its
share not written was dealt, in the chunk's exception record and the map's journal; what could not be dealt is
reported to be written again; no register or stored block changes. COMPLETES (exec answers next t, under these
hypotheses alone): headRejoinBound, weakListFull, weakRelocation. -/
def Obligations.WeakBlocksAndRejoins : Prop :=
  ∀ (s : State), s.run = .up → s.isCut = false →
    (∀ (pl : Place) (w : Weak) (b : Bool), s.weak.find? (fun x => x.place = pl) = some w → s.journalFull = false →
      (s.find w.vol w.lba ≠ some pl →
        ∃ t : State, Machine.exec (.weakRelocation pl b) s = .next t ∧ ((∀ x ∈ t.weak, x.place ≠ pl) ∧ t = { s with weak := t.weak, gates := t.gates })) ∧
      (s.find w.vol w.lba = some pl → (tget w.vol s.vols).isSome = true → isBand pl.row = true →
        ∃ t : State, Machine.exec (.weakRelocation pl true) s = .next t ∧ (
          (∀ x ∈ t.weak, x.place ≠ pl) ∧ t.onMedium pl = some { w.block with gen := s.rowGen pl.row } ∧
          (∀ k, k ≠ placeKey pl → tget k t.media = tget k s.media) ∧
          t.get R.REC_RELOC_RELOCATED = counted R.REC_RELOC_RELOCATED s ∧ regsKept [R.REC_RELOC_RELOCATED] s t ∧
          hostKept s t))) ∧
    (4096 ≤ s.weak.length →
      ∃ t : State, Machine.exec .weakListFull s = .next t ∧ (
        records Ev.WEAK_LIST_FULL (origin 0 0) 0 0 0 0 s t ∧ t = { s with rcd := t.rcd, gates := t.gates })) ∧
    (∀ (m : Member) (h : Head) (row col : Nat), s.inSet (10 * m + h) = false → (s.actu m).writing = true →
      (s.actu m).transferring = true → s.colOf m row = some col →
      ∃ t : State, Machine.exec (.headRejoinBound m h row col) s = .next t ∧ (
        tget (32 * row + col) t.excs =
          some (dealBlocks (s.headSet m) ((s.headSet m).filter fun k => s.inSet (10 * m + k))
            (s.shareLeft (10 * m + h) row) 0 (tgetD (32 * row + col) [] s.excs)).1 ∧
        t.jn.seq = s.jn.seq + 1 ∧ t.shareLeft (10 * m + h) row = [] ∧
        (∃ l, t.stk.rewrites = s.stk.rewrites ++ l ∧ ∀ e ∈ l, e.1 = row ∧ e.2.1 = col ∧ e.2.2 ∈ s.shareLeft (10 * m + h) row) ∧
        regsKept [] s t ∧ dataKept s t ∧ hostKept s t))

/-- On a running module that made no cut. EXTENT_WRITEBACK of an extent in a band row whose members all serve, with
acknowledged staging of it and no reshape, sends one write of that row and column on its way; with a full map journal
it sets STALLED and does no more. EXTENT_COPY of a copy on the medium, with journal room, moves the extent's entry
there and counts it, or, when a host write was granted since, restores the entry and counts it abandoned.
JOURNAL_APPEND_DURABLE, with the vault or two members to append to, makes records durable and completes a write in
flight that waited on them. COMPLETES (exec answers next t, under these hypotheses alone): extentWriteback,
journalAppendDurable, extentCopy. -/
def Obligations.ExtentsAreWrittenBackAndCopied : Prop :=
  ∀ (s : State), s.run = .up → s.isCut = false →
    (∀ (v : Vol) (e : Nat) (x : Volume), tget v s.vols = some x → (∀ l ∈ extLines v e, s.lineInWb l = false) →
      (s.journalFull = true →
        ∃ t : State, Machine.exec (.extentWriteback v e) s = .next t ∧ (
          t.get R.STK_MAP_STALLED = 1 ∧ t = { s with flds := t.flds, rcd := t.rcd, gates := t.gates })) ∧
      (∀ g k p qs b, s.journalFull = false → x.reshape = none → (s.ext v e).st = 2 → (s.ext v e).copying = none →
        s.rowShape (s.ext v e).row = some (g, k, p, qs) → s.missing g qs = 0 → e < 2 ^ 33 → b < 256 →
        (tget (stageKey v (256 * e + b)) s.cache.staged).isSome = true →
        ∃ t : State, Machine.exec (.extentWriteback v e) s = .next t ∧ (
          (∃ o, t.bops = s.bops ++ [o] ∧ o.row = (s.ext v e).row ∧ o.col = (s.ext v e).col ∧ o.vol = v.val ∧ o.ext = e ∧
            o.granted = false ∧ o.copy = false ∧ (tget b o.blocks).isSome = true) ∧
          t = { s with cache := t.cache, bops := t.bops, gates := t.gates }))) ∧
    (∀ (v : Vol) (e row col : Nat) (x : Copying), s.journalFull = false → (s.ext v e).copying = some x → x.dest = some (row, col) →
      (x.written = true →
        ∃ t : State, Machine.exec (.extentCopy v e) s = .next t ∧ (
          t.ext v e = { s.ext v e with st := x.before, copying := none } ∧
          t.get R.STK_COUNT_ABANDONED = counted R.STK_COUNT_ABANDONED s ∧ regsKept [R.STK_COUNT_ABANDONED] s t ∧
          t = { s with flds := t.flds, exts := t.exts, jn := t.jn, gates := t.gates })) ∧
      (x.written = false → x.reshape = false →
        ∃ t : State, Machine.exec (.extentCopy v e) s = .next t ∧ (
          (t.ext v e).st = (if isBand row then 2 else 3) ∧ (t.ext v e).row = row ∧ (t.ext v e).col = col ∧
          (t.ext v e).copying = none ∧ t.get R.STK_COUNT_MIGRATIONS = counted R.STK_COUNT_MIGRATIONS s ∧
          t.jn.seq = s.jn.seq + 1 ∧ t.media = s.media ∧ t.vols = s.vols ∧ hostKept s t))) ∧
    (∀ (upto : Nat), s.vault.faulted = false ∨ 2 ≤ s.fallbackPair.length →
      ∃ t : State, Machine.exec (.journalAppendDurable upto) s = .next t ∧ (
        (s.vault.faulted = true → t.jn.fallback = s.fallbackPair) ∧
        t.jn.durable = max s.jn.durable (min upto s.jn.seq) ∧ t.vols = s.vols ∧ t.media = s.media ∧ t.exts = s.exts)) ∧
    (∀ (upto q : Nat) (r : CmdRef) (c : Cmd), inFlight r c s → s.vault.faulted = false ∨ 2 ≤ s.fallbackPair.length →
      c.stage = .journal q → q ≤ upto → q ≤ s.jn.seq →
      ∃ t : State, Machine.exec (.journalAppendDurable upto) s = .next t ∧ (t.cmdOf r = none ∧ cplSent c St.success t))

/-- On a running module that made no cut. The epoch advances by one, modulo 256, exactly when its period has passed.
HEAT_SWEEP decays every extent's heat. A background operation starts on an idle actuator when credit or an empty queue
allows it and no work of a class ahead is due there, one on the hearthstone leaves the area over the heads not retired
with a header one number higher, and its end charges the media time. A checkpoint of a segment writes its two copies
to their hearthstones, takes it off the changed list and, with room, ends a stall. STOKER_SETPOINT brings an idle HDA
that is needed back to Noon. A write of HEAT_HALF, in range, takes that value; STK_LOOKUP with GO shows the extent's
entry. COMPLETES (exec answers next t, under these hypotheses alone): heatEpochAdvance, heatSweep, backgroundOpStart,
backgroundOpEnd, mapCheckpoint, stokerSetpoint, stkLookupGo, stkHeatHalfWrite. -/
def Obligations.HeatDraftAndCheckpoints : Prop :=
  ∀ (s : State),
    (s.run = .up → s.isCut = false →
      (s.epochDue = true →
        ∃ t : State, Machine.exec .heatEpochAdvance s = .next t ∧ (
          t.get R.STK_CTRL_EPOCH = (s.get R.STK_CTRL_EPOCH + 1) % 256 ∧ t.stk.epochAt = s.opSec ∧
          regsKept [R.STK_CTRL_EPOCH] s t ∧ t = { s with flds := t.flds, stk := t.stk, gates := t.gates })) ∧
      (s.epochDue = false → ∃ t : State, Machine.exec .heatEpochAdvance s = .next t ∧ (t = { s with gates := t.gates })) ∧
      (∃ t : State, Machine.exec .heatSweep s = .next t ∧ (
        (∀ k x, tget k s.exts = some x →
          tget k t.exts = some { x with heat := s.decayed x, epoch := s.get R.STK_CTRL_EPOCH }) ∧
        t = { s with exts := t.exts, gates := t.gates })) ∧
      (∀ (m : Member) (order us : Nat) (queued : Bool), 1 ≤ order → order ≤ 8 → tget m s.stk.bg = none →
        (queued = false ∨ 0 ≤ s.creditAfter m us) → s.workAhead m order = false →
        (∃ t : State, Machine.exec (.backgroundOpStart m order us queued .media) s = .next t ∧ (
          tget m t.stk.bg = some ⟨order, queued⟩ ∧ tget m t.stk.credit = some (s.creditAfter m us) ∧
          t = { s with stk := t.stk, gates := t.gates })) ∧
        ∀ g q : Nat, s.ixOf m = some (g, q) →
          ∃ t : State, Machine.exec (.backgroundOpStart m order us queued .hearthstone) s = .next t ∧ (
            t.store g q = { s.store g q with area := s.goodHeads m, seq := (s.store g q).seq + 1 } ∧
            t = { s with stk := t.stk, stores := t.stores, outs := t.outs, gates := t.gates })) ∧
      (∀ (m : Member) (us : Nat) (b : BgOp), tget m s.stk.bg = some b → 1 ≤ b.order → b.order ≤ 8 → b.order ≠ 5 →
        ∃ t : State, Machine.exec (.backgroundOpEnd m us) s = .next t ∧ (
          tget m t.stk.bg = none ∧
          tgetD m 0 t.stk.credit = (if b.counted then tgetD m 0 s.stk.credit - us else tgetD m 0 s.stk.credit) ∧
          regsKept [R.STK_BG_TIME_MS (b.order - 1)] s t ∧ t = { s with flds := t.flds, stk := t.stk, gates := t.gates })) ∧
      (∀ seg : Fin 4096,
        ∃ t : State, Machine.exec (.mapCheckpoint seg) s = .next t ∧ (
          seg.val ∉ t.jn.dirty ∧ t.jn.seq = s.jn.seq ∧ s.jn.low ≤ t.jn.low ∧
          (t.journalFull = false → t.get R.STK_MAP_STALLED = 0) ∧ regsKept [R.STK_MAP_STALLED] s t ∧
          (∀ h ∈ s.segmentHomes seg, Out.hearth h.1 (hearthSlot h.2.1 h.2.2) 3328 ∈ t.outs) ∧
          t = { s with flds := t.flds, jn := t.jn, outs := t.outs, gates := t.gates })) ∧
      (∀ (i : Slot) (busy : Nat) (quiet idle : Bool), (s.slot i).pos.isSome = true → s.get (R.SPIN_CTRL_AUTO i) = 1 →
        s.get R.STK_CTRL_SPEED_EN = 1 → (tgetD (4 + i.val) ({} : ThermZone) s.thm.zones).shutdown = false →
        s.get (R.SPIN_CTRL_SETPOINT i) = 0 →
        ∃ t : State, Machine.exec (.stokerSetpoint i busy quiet idle true) s = .next t ∧ (
          t.get (R.SPIN_CTRL_SETPOINT i) = 2 ∧ dataKept s t ∧ hostKept s t))) ∧
    (∀ (p : Path) (w : Word), writable p s →
      (1 ≤ field R.STK_CTRL_HEAT_HALF w →
        ∃ t : State, Machine.exec (.stkHeatHalfWrite p w) s = .next t ∧ (
          t.get R.STK_CTRL_HEAT_HALF = field R.STK_CTRL_HEAT_HALF w ∧ dataKept s t ∧ hostKept s t)) ∧
      (∀ k, k < 4 → field R.STK_LOOKUP_SEL_GO w = 1 →
        ∃ t : State, Machine.exec (.stkLookupGo p w) s = .next t ∧ (
          snapWord p (A.STK_LOOKUP_DATA k) t = t.lookupWords.getD k 0 % 2 ^ 32 ∧
          t.get R.STK_LOOKUP_SEL_VOL = field R.STK_LOOKUP_SEL_VOL w ∧ dataKept s t ∧ hostKept s t)))

/-- On a running module that made no cut, with room in the map journal for what changes the map. Waiting chunks of a
layout with a set for them and journal room go to that set's next row with an OPEN record. A row whose chunks are all
on the medium commits: its record closes, the write pointer passes it, and a lone whole-extent chunk enters the map;
one with fewer than k leaves its set FULL. A band write gets its row's lock with a generation one higher and a record;
done, with its region's intent bit set, it leaves the row at that generation, the record closed, its block on the
medium and its extent there. Intent bits become durable; a batch clears those idle with no open record and takes the
records appended since the last one to both copy members. A row a full resync has still to reach is resynced first and
is not spoken of. An emptied EVACUATING set is freed. COMPLETES (exec answers next t, under these hypotheses alone):
zoneRowFillWait, zoneEvacuated, zoneRowCommit, bandRowLockGrant, bandRowWriteDone, intentBitDurable, journalBatch. -/
def Obligations.ZoneRowsAndBandRowsCommit : Prop :=
  ∀ (s : State), s.run = .up → s.isCut = false →
    (∀ g k p z u zs, (s.stk.waiting.filter fun c => c.group = g && c.k = k && c.p = p) ≠ [] → 1 ≤ k →
      s.closeSets.rowSet g k p ((s.stk.waiting.filter fun c => c.group = g && c.k = k && c.p = p).take k) = some (z, u) →
      tget z u.zsets = some zs → s.stripe.opened.length < 16384 →
      ∃ t : State, Machine.exec (.zoneRowFillWait g k p) s = .next t ∧ (
        (∃ r, t.zrows = s.zrows ++ [r] ∧ r.row = 4096 * z + zs.wp + s.rowsInFlight z) ∧
        t.stripe.opened.length = s.stripe.opened.length + 1 ∧ t.stk.waiting.length < s.stk.waiting.length ∧
        t.media = s.media ∧ t.exts = s.exts ∧ hostKept s t)) ∧
    (∀ (row : Nat) (written : List Nat) (r : ZoneRow) (z : ZoneSet), s.zrows.find? (fun x => x.row = row) = some r →
      tget (zsetIx row) s.zsets = some z → s.journalFull = false →
      ((∀ c, c < z.k + z.p → c ∈ written) → s.unwritten = [] → s.voids = [] → (∀ x ∈ s.stk.rewrites, x.1 ≠ row) →
        ∃ t : State, Machine.exec (.zoneRowCommit row written) s = .next t ∧ (
          (∀ o ∈ t.stripe.opened, o.row ≠ row) ∧ (∀ x ∈ t.zrows, x.row ≠ row) ∧
          (∃ y, tget (zsetIx row) t.zsets = some y ∧ y.wp = max z.wp (chunkIx row + 1)) ∧ t.vols = s.vols ∧ hostKept s t ∧
          (∀ c e, r.chunks = [c] → c.pieces = [(e, 8)] → c.shadow = false → c.copy = false → c.from_ = none →
            (t.ext c.vol e).st = 3 ∧ (t.ext c.vol e).row = row ∧ (t.ext c.vol e).col = 0))) ∧
      (((List.range (z.k + z.p)).filter written.contains).length < z.k →
        ∃ t : State, Machine.exec (.zoneRowCommit row written) s = .next t ∧ (
          (∃ y, tget (zsetIx row) t.zsets = some y ∧ y.st = .full) ∧ t.media = s.media ∧ t.exts = s.exts ∧ hostKept s t))) ∧
    (∀ (row : Nat) (o : BandOp) (b : BandRow), tget (bandIx row) s.brows = some b →
      ((∀ x ∈ s.bops, x.row = row → x.granted = false) → s.bops.find? (fun x => x.row = row) = some o →
        (s.bandMissing row o.col).length ≤ b.p → s.stripe.opened.length < 16384 → row ∉ s.stripe.unsynced →
        ∃ t : State, Machine.exec (.bandRowLockGrant row) s = .next t ∧ (
          (∃ x ∈ t.bops, x.row = row ∧ x.granted = true ∧ x.g1 = (b.g + 1) % 2 ^ 24) ∧
          t.stripe.opened.length = s.stripe.opened.length + 1 ∧
          t = { s with bops := t.bops, stripe := t.stripe, outs := t.outs, gates := t.gates })) ∧
      (∀ g k p qs i x, s.journalFull = false → s.bops.find? (fun y => y.row = row && y.granted) = some o → s.regionOf row ∈ s.stripe.intent →
        s.rowShape row = some (g, k, p, qs) → k + p ≤ 32 → o.col < k → o.blocks = [(i, x)] → i < 256 → o.copy = false →
        s.unwritten = [] → (∀ x ∈ s.stk.rewrites, x.1 ≠ row) →
        ∃ t : State, Machine.exec (.bandRowWriteDone row) s = .next t ∧ (
          (∃ y, tget (bandIx row) t.brows = some y ∧ y.g = o.g1) ∧ (∀ y ∈ t.stripe.opened, y.row ≠ row) ∧ o ∉ t.bops ∧
          (∃ y, t.onMedium ⟨row, o.col, i⟩ = some y ∧ y.data = x.1 ∧ y.pi = x.2 ∧ y.gen = o.g1) ∧
          (t.ext o.vol o.ext).st = 2 ∧ (t.ext o.vol o.ext).row = row ∧ (t.ext o.vol o.ext).col = o.col ∧
          t.vols = s.vols ∧ hostKept s t))) ∧
    (∀ n : Nat, n ∈ s.stripe.asked →
      ∃ t : State, Machine.exec (.intentBitDurable n) s = .next t ∧ (
        n ∈ t.stripe.intent ∧ n ∉ t.stripe.asked ∧ t = { s with stripe := t.stripe, gates := t.gates })) ∧
    (∀ idle : List Nat,
      ∃ t : State, Machine.exec (.journalBatch idle) s = .next t ∧ (
        t.stripe.batch = s.stripe.batch + 1 ∧
        (∀ n, n ∈ t.stripe.intent ↔ n ∈ s.stripe.intent ∧
          ¬(n ∈ idle ∧ ∀ o ∈ s.stripe.opened, isBand o.row = true → s.regionOf o.row ≠ n)) ∧
        t.stripe.held = s.stripe.opened ∧ t.stripe.recent = [] ∧
        (∀ m ∈ s.stripe.copies, ∃ h, Out.stripeBatch m h (s.stripe.recent.map OpenRec.bytes) ∈ t.outs) ∧
        t = { s with stripe := t.stripe, outs := t.outs, gates := t.gates })) ∧
    (∀ (z : Nat) (zs : ZoneSet), tget z s.zsets = some zs → zs.st = .evacuating → s.noLive z = true → s.journalFull = false →
      ∃ t : State, Machine.exec (.zoneEvacuated z) s = .next t ∧ (tget z t.zsets = none ∧ t.media = s.media ∧ t.exts = s.exts ∧ t.vols = s.vols))

/-- On a running module that made no cut. A member that serves again has an empty stale-row list and its blocks, and
nothing hosts mapped is lost. A rebuild that is due starts with the stale list discarded and its work counted. With
room in the map journal and REBUILD_EN set, a completed unit of a member under rebuild moves its column to the
substitute of least used fraction and counts it as done. A lost copy member is no longer a copy; when none can take
its place a copy stays owed. The ledger is copied to every member in service. COMPLETES (exec answers next t, under
these hypotheses alone): copyMemberLost, memberReturn, rebuildStart, rebuildUnitComplete, ledgerCopy. -/
def Obligations.MembersReturnAndRebuild : Prop :=
  ∀ (s : State), s.run = .up → s.isCut = false →
    (∀ (m : Member) (g q : Nat), s.ixOf m = some (g, q) →
      (s.serves m = true →
        ∃ t : State, Machine.exec (.memberReturn m) s = .next t ∧ (
          (t.store g q).stale = [] ∧ t.vols = s.vols ∧ t.exts = s.exts ∧ t.lost = s.lost ∧
          (∀ k y, tget k s.media = some y → ∃ u, tget k t.media = some u ∧ u.data = y.data ∧ u.pi = y.pi) ∧ hostKept s t)) ∧
      (((s.mem m).retired = true ∨ (s.mem m).rebuild = true ∨
          ((s.mem m).lostAt ≠ 0 ∧ (s.mem m).lostAt - 1 + s.get R.RED_CTRL_REBUILD_DELAY ≤ s.opSec)) →
        (s.store g q).rebuild ≠ 2 → (s.store g q).rebuild ≠ 5 → s.heldChunks g q ≠ 0 →
        ∃ t : State, Machine.exec (.rebuildStart m) s = .next t ∧ (
          (t.store g q).rebuild = 2 ∧ (t.store g q).stale = [] ∧ (t.store g q).total = s.heldChunks g q ∧
          (t.store g q).done = 0 ∧ (t.mem m).rebuild = true ∧ t.get R.RED_STATUS_REBUILD = 1 ∧
          regsKept [R.RED_STATUS_REBUILD] s t ∧ dataKept s t ∧ hostKept s t)) ∧
      (∀ (ix col r : Nat), (s.store g q).rebuild = 2 → (s.store g q).owed = [] → s.journalFull = false →
        s.get R.RED_CTRL_REBUILD_EN = 1 →
        (∀ b : BandRow, tget ix s.brows = some b → (b.cols.map (·.1)).findIdx? (· = q) = some col →
          s.substitute g (b.cols.map (·.1)) none (fun n => (s.freeSlot g n).isSome) = some r →
          ∃ t : State, Machine.exec (.rebuildUnitComplete m true ix []) s = .next t ∧ (
            (∃ y, tget ix t.brows = some y ∧ y.cols = b.cols.set col (r, (s.freeSlot g r).getD 0)) ∧
            (t.store g q).done = (s.store g q).done + 1 ∧ t.vols = s.vols ∧ t.exts = s.exts ∧ hostKept s t)) ∧
        (∀ z : ZoneSet, tget ix s.zsets = some z → (z.cols.map (·.1)).findIdx? (· = q) = some col →
          z.moving = [] → s.substitute g (z.cols.map (·.1)) none (s.zoneFits g z col) = some r →
          ∃ t : State, Machine.exec (.rebuildUnitComplete m false ix []) s = .next t ∧ (
            (∃ y, tget ix t.zsets = some y ∧ y.cols = z.cols.set col (r, (s.zoneFor g z col r).getD 0)) ∧
            (t.store g q).done = (s.store g q).done + z.wp ∧ t.vols = s.vols ∧ t.exts = s.exts ∧ hostKept s t)))) ∧
    (∀ m : Member, m.val ∈ s.stripe.copies →
      ∃ t : State, Machine.exec (.copyMemberLost m) s = .next t ∧ (
        m.val ∉ t.stripe.copies ∧ t.stripe.opened = s.stripe.opened ∧
        ((∀ i, i < 64 → s.serves i = false) → t.stripe.copyOwed = true ∧ t.stripe.copies = s.stripe.copies.filter (· != m.val)) ∧
        dataKept s t ∧ hostKept s t)) ∧
    (∃ t : State, Machine.exec .ledgerCopy s = .next t ∧ (
      (∀ k x, tget k s.stores = some x → s.ixServes (k / 64) (k % 64) = true →
        tget k t.stores = some { x with ledger := s.lost }) ∧
      (∀ k, s.ixServes (k / 64) (k % 64) = false → tget k t.stores = tget k s.stores) ∧
      (∀ m, m < 64 → s.serves m = true → Out.hearth m hearthLedgers hearthLedgersBlocks ∈ t.outs) ∧
      t = { s with stores := t.stores, outs := t.outs, gates := t.gates }))

/-- On a running module. An engine failure of a cause other than a missed heartbeat, of an engine out of reset and not
retired, sets STATE 4 and keeps CAUSE and FAULT_PC. With no move under way and no self-test, the slots of a hob engine
go to its serving partner when both fit in four; the roles of a flue engine go to the next in service. SLOT_REASSIGN
gives the only slot with a retired owner to the engine chosen. A planned move of a slot takes effect at its chunk
boundary when the engine may take it. What hosts have stored and wait for is as before. COMPLETES (exec answers next
t, under these hypotheses alone): slotReassign, slotOwnerMove, hobEngineFail, flueEngineFail, engineFault. -/
def Obligations.SlotsAndRolesMoveOnFailure : Prop :=
  ∀ (s : State), s.run = .up →
    (∀ (n : EngineIx) (cause : Nat) (c : Instr), c = .engineFault n cause ∨
        (∃ h : Hob, h.val = n.val ∧ c = .hobEngineFail h cause) ∨ (∃ f : Flue, 16 + f.val = n.val ∧ c = .flueEngineFail f cause) →
      cause ≠ 7 → cause < 8 → s.engState n ≠ 0 → s.engState n ≠ 4 →
      ∃ t : State, Machine.exec c s = .next t ∧ (
        t.engState n = 4 ∧ t.get (R.ENG_STATUS_CAUSE n) = cause ∧
        t.get (R.ENG_PC_FAULT_PC n) = s.get (R.ENG_PC_PC n) % 65536 ∧
        (s.stk.moves = [] → s.tst.running = [] → n.val < 16 → s.engServes (partner n) = true →
          (s.owned n).length + (s.owned (partner n)).length ≤ 4 →
          ∀ i, i < 32 → s.owner i = n → t.owner i = partner n) ∧
        (∀ x, 16 ≤ n.val → s.nextFlue (n.val - 16) = some x → ∀ r, r < 4 → s.get (roleFld r) = n.val - 16 → t.get (roleFld r) = x) ∧
        (s.tst.running = [] → dataKept s t ∧ hostKept s t))) ∧
    (∀ (load : List Nat) (i n : Nat), i < 32 → s.engState (s.owner i) = 4 → s.chooseEngine load (s.mayTake 3) = some n →
      (∀ j, j < 32 → j ≠ i → s.engState (s.owner j) ≠ 4 ∧ s.owner j ≠ partner (j / 2)) →
      ∃ t : State, Machine.exec (.slotReassign load) s = .next t ∧ (
        t.owner i = n ∧ (∀ j, j < 32 → j ≠ i → t.owner j = s.owner j) ∧
        t = { s with flds := t.flds, engs := t.engs, gates := t.gates })) ∧
    (∀ (i : Slot) (n : Nat), s.stk.moves.find? (fun e => e.1 = i.val) = some (i.val, n) → n < 16 → s.owner i ≠ n →
      s.engState n ≠ 4 → (s.owned n).length < 4 →
      ∃ t : State, Machine.exec (.slotOwnerMove i) s = .next t ∧ (
        t.owner i = n ∧ (∀ e ∈ t.stk.moves, e.1 ≠ i.val) ∧
        t = { s with flds := t.flds, engs := t.engs, stk := t.stk, rcd := t.rcd, gates := t.gates }))

/-- A write of ENG_CTRL of engine n by a path in service. FENCE the rules allow sets FENCE and plans each slot of a
hob engine for its partner; one they refuse leaves it 0. A fencing engine with no work left becomes fenced. FENCE 0
returns it to running. HALT of a fenced engine halts it, of one not fenced sets REFUSED. HALT 0 resumes a halted
engine. STEP executes one plain word and leaves it halted. RESET of a fenced engine clears all but patch RAM and match
registers, with PC 0, and lets it run fenced. A running timer expires; a doorbell bit is set. Stored data is as
before. COMPLETES (exec answers next t, under these hypotheses alone): engineTimerExpiry, doorbellSet, engineFence,
engineFenceComplete, engineUnfence, engineHalt, engineRun, engineStep, engineReset. -/
def Obligations.EnginesAreFencedHaltedAndReset : Prop :=
  ∀ (s : State) (n : EngineIx),
    (∀ (p : Path) (w : Word), writable p s → s.engState n ≠ 4 →
      (field (R.ENG_CTRL_STEP n) w = 0 → field (R.ENG_CTRL_RESET n) w = 0 → field (R.ENG_CTRL_HALT n) w = 0 →
        s.get (R.ENG_CTRL_HALT n) = 0 →
        (field (R.ENG_CTRL_FENCE n) w = 1 → s.get (R.ENG_CTRL_FENCE n) = 0 →
          ∃ t : State, Machine.exec (.engineFence p n w) s = .next t ∧ (
            t.get (R.ENG_CTRL_FENCE n) = (if s.fenceRefused n then 0 else 1) ∧
            (s.fenceRefused n = false → n.val < 16 → ∀ i ∈ s.owned n, (i, partner n) ∈ t.stk.moves) ∧
            dataKept s t ∧ hostKept s t)) ∧
        (field (R.ENG_CTRL_FENCE n) w = 0 → s.get (R.ENG_CTRL_FENCE n) = 1 →
          ∃ t : State, Machine.exec (.engineUnfence p n w) s = .next t ∧ (
            t.get (R.ENG_CTRL_FENCE n) = 0 ∧ t.engState n = 1 ∧ (t.eng n).lent = [] ∧ dataKept s t ∧ hostKept s t))) ∧
      (field (R.ENG_CTRL_STEP n) w = 0 → field (R.ENG_CTRL_RESET n) w = 0 → field (R.ENG_CTRL_FENCE n) w = 1 →
        s.get (R.ENG_CTRL_FENCE n) = 1 →
        (field (R.ENG_CTRL_HALT n) w = 1 → s.engState n = 2 →
          ∃ t : State, Machine.exec (.engineHalt p n w) s = .next t ∧ (
            t.engState n = 3 ∧ t.get (R.ENG_CTRL_HALT n) = 1 ∧ dataKept s t ∧ hostKept s t)) ∧
        (field (R.ENG_CTRL_HALT n) w = 1 → s.engState n = 1 →
          ∃ t : State, Machine.exec (.engineHalt p n w) s = .next t ∧ (
            t.engState n = 1 ∧ t.get (R.ENG_STATUS_REFUSED n) = 1 ∧ dataKept s t ∧ hostKept s t)) ∧
        (field (R.ENG_CTRL_HALT n) w = 0 → s.get (R.ENG_CTRL_HALT n) = 1 → s.engState n = 3 →
          ∃ t : State, Machine.exec (.engineRun p n w) s = .next t ∧ (
            t.engState n = 2 ∧ t.get (R.ENG_CTRL_HALT n) = 0 ∧ dataKept s t ∧ hostKept s t))) ∧
      (∀ u : BitVec 128, field (R.ENG_CTRL_STEP n) w = 1 → field (R.ENG_CTRL_RESET n) w = 0 → field (R.ENG_CTRL_FENCE n) w = 1 →
        field (R.ENG_CTRL_HALT n) w = 1 → s.get (R.ENG_CTRL_FENCE n) = 1 → s.engState n = 3 →
        s.get (R.ENG_PC_PC n) < 65535 → (s.eng n).fetch n (s.get (R.ENG_PC_PC n)) = some u → Micro.illegal u = false →
        Micro.mem u = 0 → Micro.port u = 0 → Micro.seq u = 0 →
        ∃ t : State, Machine.exec (.engineStep p n w) s = .next t ∧ (
          t.engState n = 3 ∧ t.get (R.ENG_PC_PC n) = s.get (R.ENG_PC_PC n) + 1 ∧ (t.eng n).dm = (s.eng n).dm ∧
          dataKept s t ∧ hostKept s t)) ∧
      (field (R.ENG_CTRL_STEP n) w = 0 → field (R.ENG_CTRL_RESET n) w = 1 → field (R.ENG_CTRL_FENCE n) w = 1 →
        field (R.ENG_CTRL_HALT n) w = 0 → s.get (R.ENG_CTRL_FENCE n) = 1 → s.engState n = 2 ∨ s.engState n = 3 →
        ∃ t : State, Machine.exec (.engineReset p n w) s = .next t ∧ (
          t.engState n = 2 ∧ t.get (R.ENG_PC_PC n) = 0 ∧ (t.eng n).regs = [] ∧ (t.eng n).dm = [] ∧ (t.eng n).stack = [] ∧
          (t.eng n).patch = (s.eng n).patch ∧ (t.eng n).matches_ = (s.eng n).matches_ ∧ dataKept s t ∧ hostKept s t))) ∧
    (s.run = .up →
      (s.get (R.ENG_CTRL_FENCE n) = 1 → s.engState n = 1 → n.val < 16 → s.owned n = [] →
        ∃ t : State, Machine.exec (.engineFenceComplete n) s = .next t ∧ (
          t.engState n = 2 ∧ regsKept [R.ENG_STATUS_STATE n] s t ∧ t = { s with flds := t.flds, gates := t.gates })) ∧
      ((s.eng n).t0.isSome = true →
        ∃ t : State, Machine.exec (.engineTimerExpiry n 0) s = .next t ∧ (
          t.eng n = { s.eng n with t0 := none, exp0 := true } ∧ t = { s with engs := t.engs, gates := t.gates })) ∧
      ((s.eng n).t1.isSome = true →
        ∃ t : State, Machine.exec (.engineTimerExpiry n 1) s = .next t ∧ (
          t.eng n = { s.eng n with t1 := none, exp1 := true } ∧ t = { s with engs := t.engs, gates := t.gates })) ∧
      (∀ k : Fin 8,
        ∃ t : State, Machine.exec (.doorbellSet n k) s = .next t ∧ (
          (t.eng n).doorbell.testBit k = true ∧ t.eng n = { s.eng n with doorbell := (t.eng n).doorbell } ∧
          t = { s with engs := t.engs, gates := t.gates })))

/-- A write by a path in service, of engine n. With the engine halted: DBG_SEL with WR puts the path's DATA in the
register ITEM names; CS_SEL with WR, at a patch RAM address, puts the path's CS_DATA there and marks the patch
modified; MATCH_SEL with WR puts MATCH_DATA in the match register INDEX names. CS_SEL with GO shows the word stored at
a mapped address. A write of ENG_SLOT_OWNER that names, for one slot, a serving engine with fewer than four, and for
the others the owner each is to have, plans that move. Stored data and host state are as before. COMPLETES (exec
answers next t, under these hypotheses alone): engDbgWrite, engCsRead, engCsWrite, engMatchWrite, engSlotOwnerWrite.
-/
def Obligations.EngineWindowsReadAndWrite : Prop :=
  ∀ (s : State) (p : Path) (w : Word), writable p s →
    (∀ n : EngineIx,
      (s.engState n = 3 →
        (field (R.ENG_DBG_SEL_WR n) w = 1 → field (R.ENG_DBG_SEL_ITEM n) w < 64 →
          ∃ t : State, Machine.exec (.engDbgWrite p n w) s = .next t ∧ (
            tget (field (R.ENG_DBG_SEL_ITEM n) w) (t.eng n).regs =
              some (BitVec.ofNat 64 (snapWord p (A.ENG_DBG_DATA_LO n) s + 2 ^ 32 * snapWord p (A.ENG_DBG_DATA_HI n) s)) ∧
            t.eng n = { s.eng n with regs := (t.eng n).regs } ∧ dataKept s t ∧ hostKept s t)) ∧
        (field (R.ENG_CS_SEL_WR n) w = 1 → field (R.ENG_CS_SEL_GO n) w = 0 → 0xF800 ≤ field (R.ENG_CS_SEL_ADDR n) w →
          ∃ t : State, Machine.exec (.engCsWrite p n w) s = .next t ∧ (
            (t.eng n).store n (field (R.ENG_CS_SEL_ADDR n) w) = some (s.csData p n) ∧
            t.get (R.ENG_STATUS_PATCH_MODIFIED n) = 1 ∧ t.eng n = { s.eng n with patch := (t.eng n).patch } ∧
            dataKept s t ∧ hostKept s t)) ∧
        (field (R.ENG_MATCH_SEL_WR n) w = 1 →
          ∃ t : State, Machine.exec (.engMatchWrite p n w) s = .next t ∧ (
            tget (field (R.ENG_MATCH_SEL_INDEX n) w) (t.eng n).matches_ = some (s.get (R.ENG_MATCH_DATA_MATCH n)) ∧
            t.get (R.ENG_STATUS_PATCH_MODIFIED n) = 1 ∧ t.eng n = { s.eng n with matches_ := (t.eng n).matches_ } ∧
            dataKept s t ∧ hostKept s t))) ∧
      (∀ u k, field (R.ENG_CS_SEL_WR n) w = 0 → field (R.ENG_CS_SEL_GO n) w = 1 →
        (s.eng n).store n (field (R.ENG_CS_SEL_ADDR n) w) = some u → k < 4 →
        ∃ t : State, Machine.exec (.engCsRead p n w) s = .next t ∧ (
          snapWord p (A.ENG_CS_DATA n k) t = u.toNat / 2 ^ (32 * k) % 2 ^ 32 ∧ t.engs = s.engs ∧ dataKept s t ∧ hostKept s t))) ∧
    (∀ (k : Fin 4) (i n : Nat), i < 32 → i / 8 = k.val → field (R.ENG_SLOT_OWNER i) w = n → s.engServes n = true →
      s.nextOwner i ≠ n → s.willOwn n < 4 →
      (∀ j, j / 8 = k.val → j ≠ i → field (R.ENG_SLOT_OWNER j) w = s.nextOwner j ∧ s.engServes (s.nextOwner j) = true) →
      ∃ t : State, Machine.exec (.engSlotOwnerWrite p k w) s = .next t ∧ (
        (i, n) ∈ t.stk.moves ∧ (∀ j, j ≠ i → t.nextOwner j = s.nextOwner j) ∧ t.owner i = s.owner i ∧
        dataKept s t ∧ hostKept s t))

/-- For a running or fenced engine with nothing posted, no transfer arriving and no error seen, below the last
address. A legal word that increments, with no memory or port operation: DST takes the ALU result when WE is set and
the operation writes, the flags take theirs when SETF is set, PC advances by one, data memory and stack stay. A word
that also stores 64 bits at an aligned address within data memory leaves srcB's value there; a load brings what that
word holds to DST. An illegal word stops the engine with CAUSE 3. Hosts' data and the other engines are as before.
COMPLETES (exec answers next t, under these hypotheses alone): microword. -/
def Obligations.MicrowordsExecute : Prop :=
  ∀ (s : State) (n : EngineIx) (o : WordObs) (u : BitVec 128) (a rb : BitVec 64),
    writable (.engine n) s → s.engState n = 1 ∨ s.engState n = 2 → o.rx = [] → o.csCe = false → o.dmCe = false →
    s.get (R.ENG_PC_PC n) < 65535 → (s.eng n).fetch n (s.get (R.ENG_PC_PC n)) = some u →
    a = tgetD (Micro.srcA u) 0 (s.eng n).regs → rb = tgetD (Micro.srcB u) 0 (s.eng n).regs →
    (Micro.illegal u = false → Micro.port u = 0 → Micro.seq u = 0 →
      (Micro.mem u = 0 →
        ∃ t : State, Machine.exec (.microword n o) s = .next t ∧ (
          t.get (R.ENG_PC_PC n) = s.get (R.ENG_PC_PC n) + 1 ∧
          (t.eng n).regs = (if Micro.we u && aluWrites (Micro.alu u) then
            tset (Micro.dst u) (alu (Micro.alu u) (Micro.shamt u) a (Micro.operandB u rb)).val (s.eng n).regs
            else (s.eng n).regs) ∧
          (Micro.setf u = true →
            (t.eng n).z = decide ((alu (Micro.alu u) (Micro.shamt u) a (Micro.operandB u rb)).val = 0) ∧
            (t.eng n).n = (alu (Micro.alu u) (Micro.shamt u) a (Micro.operandB u rb)).val.msb ∧
            (t.eng n).c = (alu (Micro.alu u) (Micro.shamt u) a (Micro.operandB u rb)).c ∧
            (t.eng n).v = (alu (Micro.alu u) (Micro.shamt u) a (Micro.operandB u rb)).v) ∧
          (Micro.setf u = false →
            (t.eng n).z = (s.eng n).z ∧ (t.eng n).n = (s.eng n).n ∧ (t.eng n).c = (s.eng n).c ∧ (t.eng n).v = (s.eng n).v) ∧
          (t.eng n).dm = (s.eng n).dm ∧ (t.eng n).stack = (s.eng n).stack ∧ (∀ m, m ≠ n.val → t.eng m = s.eng m) ∧
          regsKept [R.ENG_PC_PC n, R.ENG_STATUS_DEPTH n, R.ENG_COUNT_STRETCHED n] s t ∧
          t = { s with flds := t.flds, engs := t.engs, gates := t.gates })) ∧
      (Micro.mem u = 2 → (Micro.address u a).toNat % 8 = 0 → (Micro.address u a).toNat < 8 * dmWords n →
        ∃ t : State, Machine.exec (.microword n o) s = .next t ∧ (
          (∀ k, tgetD k 0 (t.eng n).dm = if k = (Micro.address u a).toNat / 8 then rb else tgetD k 0 (s.eng n).dm) ∧
          t.get (R.ENG_PC_PC n) = s.get (R.ENG_PC_PC n) + 1 ∧ t = { s with flds := t.flds, engs := t.engs, gates := t.gates })) ∧
      (Micro.mem u = 1 → Micro.we u = true → aluWrites (Micro.alu u) = true → (Micro.address u a).toNat % 8 = 0 →
        (Micro.address u a).toNat < 8 * dmWords n →
        ∃ t : State, Machine.exec (.microword n o) s = .next t ∧ (
          tget (Micro.dst u) (t.eng n).regs = some (tgetD ((Micro.address u a).toNat / 8) 0 (s.eng n).dm) ∧
          (t.eng n).dm = (s.eng n).dm ∧ t.get (R.ENG_PC_PC n) = s.get (R.ENG_PC_PC n) + 1 ∧
          t = { s with flds := t.flds, engs := t.engs, gates := t.gates }))) ∧
    (Micro.illegal u = true →
      ∃ t : State, Machine.exec (.microword n o) s = .next t ∧ (
        t.engState n = 4 ∧ t.get (R.ENG_STATUS_CAUSE n) = 3 ∧ t.get (R.ENG_PC_FAULT_PC n) = s.get (R.ENG_PC_PC n) ∧
        (s.tst.running = [] → dataKept s t ∧ hostKept s t)))

/-- On a running module. FEED_ABSENT of a present feed clears FEED, sets its LOST bit, drives ATTN_MOD_N and records
it; FEED_RESTORED of a lost feed that is present records it and lets ATTN_MOD_N go; FEED_OUT_OF_RANGE records it and
changes nothing else; PFC_FAULT retires the feed, which FEED_PRESENT then leaves absent; DCDC_FAULT sets DCDC_DEGRADED
and changes no other register. POWER_CAP_CHECK shows the watts: below the cap it clears CAPPED, at or above it sets
CAPPED and takes the next action. POWER_CAP_UNDO below the cap by more than 20 W undoes the last, which takes ACTIONS
down by one. COMPLETES (exec answers next t, under these hypotheses alone): feedAbsent, feedPresent, feedOutOfRange,
feedRestored, pfcFault, dcdcFault, powerCapCheck, powerCapUndo. -/
def Obligations.FeedsConvertersAndTheCapAct : Prop :=
  ∀ (s : State) (f : Feed), s.run = .up →
    (s.get (feedFld f) = 1 →
      ∃ t : State, Machine.exec (.feedAbsent f) s = .next t ∧ (
        t.get (feedFld f) = 0 ∧ t.get (lostFld f) = 1 ∧ f.val ∈ t.pins.attnFeed ∧ f.val ∈ t.pow.lostFeeds ∧
        records Ev.FEED_LOST (origin 9 f) 0 0 0 0 ((s.set (feedFld f) 0).set (lostFld f) 1) t ∧
        regsKept [feedFld f, lostFld f] s t ∧ dataKept s t ∧ hostKept s t)) ∧
    (f.val ∉ s.pow.feedRetired →
      ∃ t : State, Machine.exec (.feedPresent f) s = .next t ∧ (
        t.get (feedFld f) = 1 ∧ regsKept [feedFld f] s t ∧ t = { s with flds := t.flds, gates := t.gates })) ∧
    (f.val ∈ s.pow.feedRetired →
      ∃ t : State, Machine.exec (.feedPresent f) s = .next t ∧ (regsKept [] s t ∧ t = { s with gates := t.gates })) ∧
    (s.get (feedFld f) = 1 → f.val ∈ s.pow.lostFeeds →
      ∃ t : State, Machine.exec (.feedRestored f) s = .next t ∧ (
        f.val ∉ t.pins.attnFeed ∧ f.val ∉ t.pow.lostFeeds ∧ records Ev.FEED_RESTORED (origin 9 f) 0 0 0 0 s t ∧
        regsKept [] s t ∧ t = { s with rcd := t.rcd, pins := t.pins, pow := t.pow, gates := t.gates })) ∧
    (s.get (feedFld f) = 1 →
      ∃ t : State, Machine.exec (.feedOutOfRange f) s = .next t ∧ (
        records Ev.FEED_OUT_OF_RANGE (origin 9 f) 0 0 0 0 s t ∧ regsKept [] s t ∧ t = { s with rcd := t.rcd, gates := t.gates })) ∧
    (f.val ∉ s.pow.feedRetired →
      ∃ t : State, Machine.exec (.pfcFault f) s = .next t ∧ (
        f.val ∈ t.pow.feedRetired ∧ t.get (feedFld f) ≠ 1 ∧ t.pins.attnRetired = true ∧
        regsKept [feedFld f, lostFld f] s t ∧ dataKept s t ∧ hostKept s t ∧
        (s.ledger.length < 16384 → ∃ e ∈ t.ledger, e.kind = 9 ∧ e.index = f.val ∧ e.active = true))) ∧
    (∀ half,
      ∃ t : State, Machine.exec (.dcdcFault half) s = .next t ∧ (
        t.get R.PWR_STATUS_DCDC_DEGRADED = 1 ∧ records Ev.DCDC_FAULT (origin 9 (2 + half)) 0 0 0 0 s t ∧
        regsKept [R.PWR_STATUS_DCDC_DEGRADED] s t ∧ t = { s with flds := t.flds, rcd := t.rcd, gates := t.gates })) ∧
    (∀ (watts : Nat) (busy : List Nat), watts < 1024 →
      (watts < s.capW →
        ∃ t : State, Machine.exec (.powerCapCheck watts busy) s = .next t ∧ (
          t.get R.PWR_CAP_CAPPED = 0 ∧ t.get R.PWR_BUS_INPUT_W = watts ∧ regsKept [R.PWR_CAP_CAPPED, R.PWR_BUS_INPUT_W] s t ∧
          t = { s with flds := t.flds, gates := t.gates })) ∧
      (s.capW ≤ watts → s.get R.PWR_CAP_ACTIONS = 0 →
        ∃ t : State, Machine.exec (.powerCapCheck watts busy) s = .next t ∧ (
          t.get R.PWR_CAP_CAPPED = 1 ∧ t.get R.PWR_CAP_ACTIONS = 1 ∧ records Ev.POWER_CAPPED (origin 0 0) 0 0 0 0 s t ∧
          regsKept [R.PWR_CAP_CAPPED, R.PWR_CAP_ACTIONS, R.PWR_BUS_INPUT_W] s t ∧
          t = { s with flds := t.flds, rcd := t.rcd, gates := t.gates })) ∧
      (s.capW ≤ watts → 1 ≤ s.get R.PWR_CAP_ACTIONS →
        ∃ t : State, Machine.exec (.powerCapCheck watts busy) s = .next t ∧ (
          t.get R.PWR_CAP_CAPPED = 1 ∧ dataKept s t ∧ hostKept s t ∧
          (s.get R.PWR_CAP_ACTIONS = 2 → t.pow.lowerSets = true ∧ t.get R.PWR_CAP_ACTIONS = 3) ∧
          (s.get R.PWR_CAP_ACTIONS = 3 → t.get R.PWR_CAP_ACTIONS = 4))) ∧
      (watts + 20 < s.capW →
        ∃ t : State, Machine.exec (.powerCapUndo watts) s = .next t ∧ (
          dataKept s t ∧ hostKept s t ∧
          (s.get R.PWR_CAP_ACTIONS = 0 → t.get R.PWR_CAP_ACTIONS = 0 ∧ t = { s with flds := t.flds, gates := t.gates }) ∧
          (s.get R.PWR_CAP_ACTIONS = 3 → t.pow.lowerSets = false ∧ t.get R.PWR_CAP_ACTIONS = 2) ∧
          (s.get R.PWR_CAP_ACTIONS = 4 → t.get R.PWR_CAP_ACTIONS = 3))))

/-- On a running module. NORMAL with both feeds absent goes to WARNING, counted. A feed then present qualifies:
RIDE_QUALIFY with the ride timer held, and NORMAL with media writes resumed after 50 ms; when it stops qualifying the
timer resumes. At 40 ms a module with a bank makes the cut: CUT, counted, rails and write gates off, and BANK.STATE
WRITING. 100 ms on, the blocks are down. A cut that qualifies goes to CUT_QUALIFY and back. A complete bank of a
supply cut leaves BANKED, and the module held. Below 230 V the module is held with its outputs at the states of R62;
with both feeds absent the handle latch releases. COMPLETES (exec answers next t, under these hypotheses alone):
supplyWarning, supplyQualifies, supplyStopsQualifying, supplyCut, powerDownBlocks, bankComplete, supplyQualified50ms,
bulkBusBelow230v, handleLatchRelease. -/
def Obligations.SupplyFollowsItsTable : Prop :=
  ∀ (s : State),
    (s.run = .up → s.cal.running = [] → s.tst.running = [] → s.tst.waiting = [] →
      s.get R.PWR_STATUS_FEED_A = 0 → s.get R.PWR_STATUS_FEED_B = 0 →
      (s.supply = 0 →
        ∃ t : State, Machine.exec .supplyWarning s = .next t ∧ (
          t.supply = 1 ∧ t.rideUs = 0 ∧ t.get R.PWR_COUNT_WARNINGS = counted R.PWR_COUNT_WARNINGS s ∧
          records Ev.SUPPLY_WARNING (origin 0 0) 0 0 0 0 s t ∧ dataKept s t ∧ hostKept s t)) ∧
      (s.supply = 2 →
        ∃ t : State, Machine.exec .supplyStopsQualifying s = .next t ∧ (t.supply = 1 ∧ t.rideUs = s.pow.ride ∧ dataKept s t ∧ hostKept s t))) ∧
    (s.run = .up → s.get R.PWR_STATUS_FEED_A = 1 ∨ s.get R.PWR_STATUS_FEED_B = 1 →
      (s.supply = 1 →
        ∃ t : State, Machine.exec .supplyQualifies s = .next t ∧ (
          t.supply = 2 ∧ t.pow.ride = s.rideUs ∧ t.pow.rideAt = none ∧ regsKept [R.PWR_STATUS_SUPPLY] s t ∧
          t = { s with flds := t.flds, pow := t.pow, gates := t.gates })) ∧
      (s.supply = 3 →
        ∃ t : State, Machine.exec .supplyQualifies s = .next t ∧ (
          t.supply = 4 ∧ regsKept [R.PWR_STATUS_SUPPLY] s t ∧ t = { s with flds := t.flds, gates := t.gates }))) ∧
    (s.run = .up → s.supply = 4 →
      ∃ t : State, Machine.exec .supplyStopsQualifying s = .next t ∧ (
        t.supply = 3 ∧ regsKept [R.PWR_STATUS_SUPPLY] s t ∧ t = { s with flds := t.flds, gates := t.gates })) ∧
    (s.run = .up → s.supply = 1 → s.isCut = false → s.banks = true →
      ∃ t : State, Machine.exec .supplyCut s = .next t ∧ (
        t.supply = 3 ∧ t.pow.cut = some .supply ∧ t.get R.PWR_BANK_STATE = 1 ∧ t.pins.fanReleased = true)) ∧
    (s.run = .up → s.isCut = true → s.pow.blocksDown = false → s.mgmtOk = true →
      ∃ t : State, Machine.exec .powerDownBlocks s = .next t ∧ (
        t.pow.blocksDown = true ∧ (∀ m : Member, t.get (R.ACT_STATUS_STATE m) ≠ 5) ∧
        (∀ i : Slot, s.islandUp (19 + i) = true → (t.island (19 + i)).state = 3) ∧
        t = { s with flds := t.flds, islands := t.islands, pow := t.pow, gates := t.gates })) ∧
    (∀ ms, s.run = .up → s.pow.cut = some .supply → s.get R.PWR_BANK_STATE = 1 → ms < 65536 →
      ∃ t : State, Machine.exec (.bankComplete ms) s = .next t ∧ (
        t.get R.PWR_BANK_STATE = 2 ∧ t.get R.PWR_BANK_TIME_BANK_MS = ms ∧ t.supply = 5 ∧ t.run = .held ∧
        t.pow.bank.blocks = s.pow.bank.blocks ∧ t.pow.bank.fix = t.rcd.fixBuf ∧ t.rcd.savedSeq = t.rcd.seq ∧
        t.vault.savedOpSec = s.opSec ∧ dataKept s t ∧ hostKept s t)) ∧
    (∀ obs, s.run = .up → s.supply = 2 →
      ∃ t : State, Machine.exec (.supplyQualified50ms obs) s = .next t ∧ (
        t.supply = 0 ∧ t.rideUs = 0 ∧ t.get R.PWR_COUNT_RIDE_RECOVERED = counted R.PWR_COUNT_RIDE_RECOVERED s ∧
        records Ev.SUPPLY_RECOVERED (origin 0 0) 0 0 0 0 s t ∧ regsKept [R.PWR_STATUS_SUPPLY, R.PWR_COUNT_RIDE_RECOVERED] s t ∧
        t = { s with flds := t.flds, pow := t.pow, rcd := t.rcd, gates := t.gates })) ∧
    (∀ obs, s.run = .up → s.supply = 4 → s.pow.cut = some .supply →
      ∃ t : State, Machine.exec (.supplyQualified50ms obs) s = .next t ∧ (
        t.supply = 0 ∧ t.isCut = false ∧ (s.get R.PWR_BANK_STATE = 1 → t.get R.PWR_BANK_STATE = 3) ∧
        t.pins.fanReleased = false ∧ dataKept s t ∧ hostKept s t)) ∧
    (∃ t : State, Machine.exec .bulkBusBelow230v s = .next t ∧ (
      t.run = .held ∧ t.pins.attnReleased = true ∧ t.pins.drives = [] ∧ t.pins.phases = [] ∧
      (∀ i : Slot, tget i t.pins.en5 = some 2 ∧ tget i t.pins.en12 = some 2) ∧
      t.get R.PWR_BANK_STATE = s.get R.PWR_BANK_STATE ∧ dataKept s t ∧ hostKept s t)) ∧
    (s.get R.PWR_STATUS_FEED_A = 0 → s.get R.PWR_STATUS_FEED_B = 0 →
      ∃ t : State, Machine.exec .handleLatchRelease s = .next t ∧ (
        t.pins.latchReleased = true ∧ regsKept [] s t ∧ t = { s with pins := t.pins, gates := t.gates }))

/-- On a running module, THERMAL_SENSOR_READ where every sensor that is there gives a reading in range, near its last
and below its zone's thresholds less hysteresis leaves every zone at level 100 without warning, and the summary bits
0; FAN_FULL gives FAN_DUTY 100. With all but slot i's zone cool, one at or above Throttle and below Shutdown takes
level min(f(T), max(L, f(T + H))) and its set limit; one at or above Shutdown is shut down and its members fenced,
unless it was the third in 24 h. VAULT_FAULT is recorded once, and no cut is banked while it holds. Hosts' data is as
before. COMPLETES (exec answers next t, under these hypotheses alone): thermalSensorRead, vaultFault. -/
def Obligations.ZonesFollowTheirReadings : Prop :=
  ∀ (s : State), s.run = .up →
    (∀ l : List Reading, (∀ z, z < 36 → readsCool l z s) →
      ∃ t : State, Machine.exec (.thermalSensorRead l) s = .next t ∧ (
        (∀ z, z < 36 → (t.zone z).warn = false ∧ (t.zone z).throttle = false ∧ (t.zone z).level = 100) ∧
        t.get R.THM_STATUS_ANY_WARNING = 0 ∧ t.get R.THM_STATUS_ANY_THROTTLE = 0 ∧ t.get R.THM_STATUS_ANY_BROKEN = 0 ∧
        (s.get R.THM_CTRL_FAN_FULL = 1 → t.get R.THM_STATUS_FAN_DUTY = 100) ∧ dataKept s t ∧ hostKept s t)) ∧
    (∀ (l : List Reading) (i : Slot) (v : Int), (∀ z, z < 36 → z ≠ 4 + i.val → readsCool l z s) →
      s.get (R.SLOT_STATUS_EN5 i) = 1 → (∀ n ∈ zoneSensors (4 + i), readsSound l n s ∧ l.getD n none = some v) →
      (2 * (s.limits 2).throttle ≤ v → v < 2 * (s.limits 2).shut → (s.zone (4 + i)).shutdown = false →
        ∃ t : State, Machine.exec (.thermalSensorRead l) s = .next t ∧ (
          (t.zone (4 + i)).throttle = true ∧
          (t.zone (4 + i)).level =
            min ((s.limits 2).f v) (max (s.zone (4 + i)).level ((s.limits 2).f (v + 2 * (s.limits 2).hyst))) ∧
          ((t.zone (4 + i)).level ≠ (s.zone (4 + i)).level →
            (t.slot i).setLimit = levelLimit (t.zone (4 + i)).level ∧ (t.slot i).dutyCap = (t.zone (4 + i)).level) ∧
          dataKept s t ∧ hostKept s t)) ∧
      (2 * (s.limits 2).shut ≤ v → (s.zone (4 + i)).shutdown = false → s.get (R.SLOT_STATUS_STATE i) = 4 →
        (s.within 86400 (s.zone (4 + i)).shutAt).length < 3 →
        ∃ t : State, Machine.exec (.thermalSensorRead l) s = .next t ∧ (
          (t.zone (4 + i)).shutdown = true ∧ .thermal ∈ (t.mem (2 * i)).fences ∧ .thermal ∈ (t.mem (2 * i + 1)).fences ∧
          t.get (R.SPIN_CTRL_SETPOINT i) = 0 ∧ dataKept s t ∧ hostKept s t))) ∧
    (s.vault.faulted = false →
      ∃ t : State, Machine.exec .vaultFault s = .next t ∧ (
        t.vault.faulted = true ∧ t.banks = false ∧ records Ev.VAULT_FAULT (origin 0 0) 0 0 0 0 s t ∧ regsKept [] s t ∧
        t = { s with vault := t.vault, rcd := t.rcd, domains := t.domains, gates := t.gates })) ∧
    (s.vault.faulted = true → ∃ t : State, Machine.exec .vaultFault s = .next t ∧ (t = { s with gates := t.gates }))

/-- On a running module. An enabled kind of a serving element with no trim falls due; so does a suspect element after
SUSPECT_RETRY, and one CAL_REQ names. The only one due starts once the limits let it, with its head or member fenced.
A first run is kept. Two runs of kind 5 that agree end it: the mean is applied at its zone and its last run is now. A
third that agrees with neither is counted and recorded suspect, with nothing applied. A margin of 1,024 sectors above
both floors is kept with run 0; one below raises the run and, as the run begins, is recorded; one of fewer is no
measurement. Hosts' data is as before. COMPLETES (exec answers next t, under these hypotheses alone): calibrationDue,
calibrationStart, calibrationRunEnd, calSuspectRetry, marginMeasurement, calReqGo. -/
def Obligations.CalibrationsFallDueRunAndApply : Prop :=
  ∀ (s : State) (kind : Fin 7) (elem : Nat) (rz : RZone), s.run = .up →
    (s.kindOn kind elem = true → s.calAlive kind elem = true →
      (∀ moved, s.noTrim kind elem = true →
        ∃ t : State, Machine.exec (.calibrationDue kind elem rz moved) s = .next t ∧ (
          (kind.val, elem, if kind.val = 5 then rz.val else 0) ∈ t.cal.due ∧ (∀ d ∈ s.cal.due, d ∈ t.cal.due) ∧
          regsKept [] s t ∧ t = { s with cal := t.cal, gates := t.gates })) ∧
      ((s.calHist kind elem).2.2.2.2 = true → (s.calHist kind elem).2.2.2.1 + 60 * s.get R.CAL_CTRL_SUSPECT_RETRY ≤ s.opSec →
        ∃ t : State, Machine.exec (.calSuspectRetry kind elem) s = .next t ∧ (
          (kind.val, elem, 0) ∈ t.cal.due ∧ regsKept [] s t ∧ t = { s with cal := t.cal, gates := t.gates })) ∧
      (∀ (p : Path) (w : Word), writable p s → field R.CAL_REQ_KIND w = kind → field R.CAL_REQ_ELEM w = elem →
        field R.CAL_REQ_GO w = 1 → kind.val ≠ 5 → s.cal.running = [] →
        ∃ t : State, Machine.exec (.calReqGo p w) s = .next t ∧ (
          t.get R.CAL_REQ_RESULT = 1 ∧ (kind.val, elem, 0) ∈ t.cal.due ∧ dataKept s t ∧ hostKept s t))) ∧
    (s.cal.due = [(kind.val, elem, if kind.val = 5 then rz.val else 0)] → (∀ c ∈ s.cal.running, s.calAlive c.kind c.elem = true) →
      s.calMay (kind.val, elem, if kind.val = 5 then rz.val else 0) = true →
      ∃ t : State, Machine.exec (.calibrationStart kind elem rz) s = .next t ∧ (
        t.cal.due = [] ∧ t.cal.running = s.cal.running ++ [⟨kind, elem, if kind.val = 5 then rz.val else 0, [], false⟩] ∧
        (kind.val ≤ 4 → (t.head elem).fenced = true) ∧ (kind.val = 6 → .calibration ∈ (t.mem elem).fences) ∧
        dataKept s t ∧ hostKept s t)) ∧
    (∀ (c : CalRun) (v : List Int) (pick : List Nat),
      s.cal.running.find? (fun c => c.kind = kind.val && c.elem = elem && c.rz = (if kind.val = 5 then rz.val else 0)) = some c →
      s.calAlive kind elem = true →
      (c.runs = [] →
        ∃ t : State, Machine.exec (.calibrationRunEnd kind elem rz v pick false) s = .next t ∧ (
          { c with runs := [v] } ∈ t.cal.running ∧ regsKept [] s t ∧ t = { s with cal := t.cal, gates := t.gates })) ∧
      (∀ a, kind.val = 5 → c.runs = [a] → runsAgree 5 a v = true →
        ∃ t : State, Machine.exec (.calibrationRunEnd kind elem rz v pick false) s = .next t ∧ (
          c ∉ t.cal.running ∧ tget (32 * elem + rz) t.cal.zoneAt = some (s.opSec + 1) ∧
          trimField (224 + 3 * rz) 1 (t.calTrim 5 elem) = ((meanRun a v).getD 0 0).toNat % 256 ∧
          regsKept [] s t ∧ t = { s with cal := t.cal, trims := t.trims, gates := t.gates })) ∧
      (∀ a b, kind.val = 5 → c.runs = [a, b] → calPair 5 [a, b, v] = none →
        (s.calHist 5 elem).2.1 + 1 < s.get R.CAL_CTRL_SUSPECT_LIMIT → s.get R.CAL_CTRL_SUSPECT_LIMIT < 256 →
        ∃ t : State, Machine.exec (.calibrationRunEnd kind elem rz v pick false) s = .next t ∧ (
          c ∉ t.cal.running ∧ (t.calHist 5 elem).2.1 = (s.calHist 5 elem).2.1 + 1 ∧
          t.get R.AGE_COUNT_SUSPECTS = counted R.AGE_COUNT_SUSPECTS s ∧
          records Ev.CAL_SUSPECT (origin 3 elem) 5 elem (worstDiff 5 b v).2 0 s t ∧
          regsKept [R.AGE_COUNT_SUSPECTS] s t ∧
          t = { s with flds := t.flds, cal := t.cal, trims := t.trims, rcd := t.rcd, gates := t.gates }))) ∧
    (∀ g : GHead,
      ((tgetD (statKey 0 g rz) {} s.pool.stats).counted < 1024 →
        ∃ t : State, Machine.exec (.marginMeasurement g rz) s = .next t ∧ (regsKept [] s t ∧ t = { s with gates := t.gates })) ∧
      (∀ d, tget (statKey 0 g rz) s.pool.stats = some d → 1024 ≤ d.counted →
        s.get R.AGE_CTRL_HEADROOM_FLOOR < d.headroom → s.get R.AGE_CTRL_SNR_FLOOR ≤ d.snr →
        (∀ e ∈ s.cal.margins, e.2.replanning = false) →
        ∃ t : State, Machine.exec (.marginMeasurement g rz) s = .next t ∧ (
          (t.margin g rz).headroom = d.headroom ∧ (t.margin g rz).snr = d.snr ∧ (t.margin g rz).run = 0 ∧
          tget (statKey 0 g rz) t.pool.stats = none ∧ regsKept [] s t ∧
          t = { s with cal := t.cal, pool := t.pool, gates := t.gates })) ∧
      (∀ d, tget (statKey 0 g rz) s.pool.stats = some d → 1024 ≤ d.counted → d.headroom ≤ s.get R.AGE_CTRL_HEADROOM_FLOOR →
        (s.margin g rz).run = 0 →
        ∃ t : State, Machine.exec (.marginMeasurement g rz) s = .next t ∧ (
          (t.margin g rz).run = 1 ∧ (t.margin g rz).start = s.opSec ∧ (t.age g).mark = true ∧
          records Ev.HEAD_MARGIN_LOW (origin 3 g) 0 0 0 0 s t ∧ regsKept [] s t ∧
          t = { s with cal := t.cal, pool := t.pool, rcd := t.rcd, gates := t.gates })))

/-- A cold start in any state, and a brown-out restart of a held module. With MOD_RESET_N low it waits: outputs
released, no session, command or key, V, K and S fields at reset, P fields and the medium kept, one more power cycle
at a cold start. With no card and no block failing it goes Unlit, rails low, medium and bank kept. With a shared
memory bad it is a failed unit. A module reset restart, or a thermal one with a feed, of a lit module, nothing failing
and no slot or segment to wait for, reaches host service. A start that waited goes on when the pin rises. START_LATE
is recorded. COMPLETES (exec answers next t, under these hypotheses alone): thermalRestart, coldStart, startLate,
brownOutRestart, moduleResetRestart, modResetNHighAtStart. -/
def Obligations.StartsKeepWhatTheirResetKeeps : Prop :=
  ∀ (s : State) (obs : StartObs),
    (∀ (c : Instr) (k : Nat), (c = .coldStart obs ∧ k = 0) ∨ (c = .brownOutRestart obs ∧ k = 1 ∧ s.run = .held) →
      (obs.pinLow = true →
        ∃ t : State, Machine.exec c s = .next t ∧ (
          t.run = .waitPin ∧ t.get R.ST_START_KIND = k ∧ t.pcycle = s.pcycle + (1 - k) ∧ t.sessions = [] ∧ t.cmds = [] ∧
          (∀ e ∈ t.vols, e.2.key = none) ∧ t.vols.map (·.1) = s.vols.map (·.1) ∧ t.media = s.media ∧ t.lost = s.lost ∧
          (∀ f : Fld, keepsOf f.key = .p → t.get f = s.get f) ∧
          (∀ f : Fld, keepsOf f.key = .v ∨ keepsOf f.key = .k ∨ keepsOf f.key = .s → f.key ≠ R.ST_START_KIND.key →
            (∀ i : Slot, f.key ≠ (R.SLOT_STATUS_EN5 i).key ∧ f.key ≠ (R.SLOT_STATUS_EN12 i).key) → t.get f = f.rst) ∧
          (∀ i : Slot, tget i t.pins.en5 = some 2 ∧ tget i t.pins.en12 = some 2) ∧ t.pins.attnReleased = true)) ∧
      (obs.pinLow = false → obs.sharedBad = true →
        ∃ t : State, Machine.exec c s = .next t ∧ (t.run = .failed ∧ t.pins.attnReleased = true ∧ t.media = s.media)) ∧
      (obs.pinLow = false → obs.sharedBad = false → obs.bist = [] → obs.ledgerBad = false →
        obs.card = some none ∨ (obs.card = none ∧ s.knd.card = none) → (∀ e ∈ s.ledger, e.active = true → e.kind ≠ 4) →
        ∃ t : State, Machine.exec c s = .next t ∧ (
          t.get R.GLB_STATUS_STATE = 2 ∧ t.get R.KND_STATUS_STATE = 2 ∧ t.get R.GLB_STATUS_SERVICE = 0 ∧
          (∀ i : Slot, t.get (R.SLOT_STATUS_EN5 i) = 0 ∧ t.get (R.SLOT_STATUS_EN12 i) = 0) ∧
          t.media = s.media ∧ t.pow.bank = s.pow.bank ∧ t.sessions = [] ∧ t.cmds = []))) ∧
    (∀ c : Instr, s.run = .held →
      (c = .moduleResetRestart obs ∧ (s.pow.cut = some .pin ∨ s.pow.cut = some .register)) ∨
        (c = .thermalRestart obs ∧ s.pow.cut = some .thermal ∧ obs.feeds ≠ []) →
      (obs.sharedBad = true → ∃ t : State, Machine.exec c s = .next t ∧ (t.run = .failed ∧ t.media = s.media)) ∧
      (obs.sharedBad = false → s.get R.KND_STATUS_STATE = 1 → obs.segments = [] →
        ∃ t : State, Machine.exec c s = .next t ∧ (
          t.get R.GLB_STATUS_STATE = 0 ∧ t.get R.GLB_STATUS_SERVICE = 1 ∧ t.get R.ST_START_HOST_MS = min obs.ms 1048575))) ∧
    (s.run = .held → s.pow.cut = some .thermal → obs.feeds = [] →
      ∃ t : State, Machine.exec (.thermalRestart obs) s = .next t ∧ (t.pow.cut = some .supply ∧ t = { s with pow := t.pow, gates := t.gates })) ∧
    (s.run = .waitPin → obs.sharedBad = false → obs.bist = [] → obs.ledgerBad = false →
      s.get R.ST_START_KIND = 0 ∨ s.get R.ST_START_KIND = 1 →
      obs.card = some none ∨ (obs.card = none ∧ s.knd.card = none) → (∀ e ∈ s.ledger, e.active = true → e.kind ≠ 4) →
      ∃ t : State, Machine.exec (.modResetNHighAtStart obs) s = .next t ∧ (
        t.get R.GLB_STATUS_STATE = 2 ∧ t.pins.modResetLow = false ∧ t.pcycle = s.pcycle ∧ t.media = s.media)) ∧
    (s.run = .up → s.get R.GLB_STATUS_STATE = 1 → s.knd.mapWait ≠ [] →
      ∃ t : State, Machine.exec .startLate s = .next t ∧ (
        records Ev.START_LATE (origin 0 0) 0 0 0 0 s t ∧ regsKept [] s t ∧ t = { s with rcd := t.rcd, gates := t.gates }))

/-- MOD_RESET_N low on a running module that made no cut cuts for it: banking starts where the module banks, else the
module is held. In scan state it ends it: held with CAUSE 4. RST_MODULE with its key cuts in the same way, with
another word it does nothing. RST_PORT puts the islands it names in reset with both links down; PORT_RESET_END
releases one. On a cache that drains, or has acknowledged writes, REKINDLE and KND_REKINDLE with their key begin to
drain; REKINDLE without it ends INVALID-FIELD. UNLIT_POLL with an unusable card does no more. What hosts have stored
is as before where no reset is made. COMPLETES (exec answers next t, under these hypotheses alone): modResetNLow,
rstModule, rstPort, portResetEnd, unlitPoll, rekindle, kndRekindle. -/
def Obligations.ResetsAndRekindlesBegin : Prop :=
  ∀ (s : State),
    (s.run = .up → s.isCut = false →
      ∃ t : State, Machine.exec .modResetNLow s = .next t ∧ (
        t.pins.modResetLow = true ∧ t.pow.cut = some .pin ∧ (s.banks = true → t.get R.PWR_BANK_STATE = 1) ∧
        (s.banks = false → t.run = .held ∧ t.pins.attnReleased = true))) ∧
    (s.run = .scan →
      ∃ t : State, Machine.exec .modResetNLow s = .next t ∧ (
        t.run = .held ∧ t.pins.modResetLow = true ∧ t.get R.RST_CAUSE_MODULE = 4 ∧ t.pow.cut = some .pin ∧
        regsKept [R.RST_CAUSE_MODULE] s t ∧ dataKept s t)) ∧
    (∀ (p : Path) (w : Word), writable p s →
      (w = 0x4D525354#32 → s.isCut = false →
        ∃ t : State, Machine.exec (.rstModule p w) s = .next t ∧ (
          t.pow.cut = some .register ∧ (s.banks = true → t.get R.PWR_BANK_STATE = 1) ∧ (s.banks = false → t.run = .held))) ∧
      (w ≠ 0x4D525354#32 →
        ∃ t : State, Machine.exec (.rstModule p w) s = .next t ∧ (t.run = .up ∧ t.pow = s.pow ∧ dataKept s t ∧ hostKept s t)) ∧
      (∀ port : Port, field (if port.val = 0 then R.RST_PORT_HP0 else R.RST_PORT_HP1) w = 1 →
        field (if port.val = 0 then R.RST_PORT_HP1 else R.RST_PORT_HP0) w = 0 →
        s.get (R.PORT_STATUS_RETIRED port) = 0 → (s.island port).state = 0 →
        ∃ t : State, Machine.exec (.rstPort p w) s = .next t ∧ (
          (t.island port).state = 1 ∧ t.get (linkBit port 0) = 0 ∧ t.get (linkBit port 1) = 0 ∧
          (t.island (1 - port.val)).state = (s.island (1 - port.val)).state ∧ dataKept s t)) ∧
      (w = 0x4B494E44#32 → s.get R.CACHE_STATUS_STATE = 3 ∨ (s.get R.CACHE_STATUS_STATE = 2 ∧ s.cache.staged ≠ []) →
        s.isCut = false → s.rekindling = false → ∀ obs,
        ∃ t : State, Machine.exec (.kndRekindle p w obs) s = .next t ∧ (
          t.rekindling = true ∧ t.knd.rekindle = .draining s.opSec obs ∧ t.get R.CACHE_STATUS_STATE = 3 ∧ dataKept s t))) ∧
    (∀ port : Port, s.run = .up → (s.island port).state = 1 →
      ∃ t : State, Machine.exec (.portResetEnd port) s = .next t ∧ (
        (t.island port).state = 0 ∧ regsKept [] s t ∧ t = { s with islands := t.islands, gates := t.gates })) ∧
    (∀ (r : CmdRef) (c : Cmd) (obs : StartObs), inFlight r c s → s.adminCmd 0x4E r = some c →
      (capF c.cap 8 4 ≠ 0x4B494E44 →
        ∃ t : State, Machine.exec (.rekindle r obs) s = .next t ∧ (t.cmdOf r = none ∧ cplSent c St.invalidField t ∧ dataKept s t)) ∧
      (capF c.cap 8 4 = 0x4B494E44 → s.mgmtOk = false →
        ∃ t : State, Machine.exec (.rekindle r obs) s = .next t ∧ (t.cmdOf r = none ∧ cplSent c St.refused t ∧ dataKept s t)) ∧
      (capF c.cap 8 4 = 0x4B494E44 → s.mgmtOk = true → s.rekindling = false →
        s.get R.CACHE_STATUS_STATE = 3 ∨ (s.get R.CACHE_STATUS_STATE = 2 ∧ s.cache.staged ≠ []) →
        ∃ t : State, Machine.exec (.rekindle r obs) s = .next t ∧ (
          t.cmdOf r = none ∧ t.knd.rekindle = .draining s.opSec obs ∧ t.get R.CACHE_STATUS_STATE = 3))) ∧
    (∀ obs : StartObs, s.run = .up → s.get R.GLB_STATUS_STATE = 2 → s.mgmtOk = true → s.rekindling = false → s.isCut = false →
      (obs.card = some none →
        ∃ t : State, Machine.exec (.unlitPoll obs) s = .next t ∧ (t.knd.card = none ∧ regsKept [] s t ∧ t = { s with knd := t.knd, gates := t.gates })) ∧
      (∀ k : Card, obs.card = some (some k) → cardUsable k = true → (cardTry k 0 = 0 ∨ cardTry k 1 = 0) →
        s.get R.CACHE_STATUS_STATE = 3 ∨ (s.get R.CACHE_STATUS_STATE = 0 ∧ s.cmds ≠ []) →
        ∃ t : State, Machine.exec (.unlitPoll obs) s = .next t ∧ (t.rekindling = true ∧ t.knd.card = some k ∧ dataKept s t)))

/-- On a running, lit module that made no cut. SELF-TEST of a block that is none ends INVALID-FIELD, of one R446
refuses REFUSED; else it waits when the power budget or an earlier wait holds it, and a head's starts with the head
fenced. ST_REQ.GO shows the same as RESULT 2 or 1. SELF_TEST_END of a head's test from ST_REQ, with none waiting,
shows RESULT 3 and keeps its result: PASS leaves the head serving, FAIL counts and retires it. SELF_TEST_RETEST of a
lane kept fenced tests it again. What hosts have stored is as before. COMPLETES (exec answers next t, under these
hypotheses alone): selfTest, selfTestEnd, selfTestRetest. -/
def Obligations.SelfTestsRunAndEnd : Prop :=
  ∀ (s : State), s.run = .up → s.isCut = false → s.get R.GLB_STATUS_STATE ≠ 2 →
    (∀ (r : CmdRef) (c : Cmd), inFlight r c s → s.adminCmd 0x49 r = some c →
      (6 ≤ capB c.cap 4 ∨ testBlocks (capB c.cap 4) ≤ capF c.cap 5 2 →
        ∃ t : State, Machine.exec (.selfTest (.cmd r)) s = .next t ∧ (t.cmdOf r = none ∧ cplSent c St.invalidField t ∧ dataKept s t)) ∧
      (capB c.cap 4 < 6 → capF c.cap 5 2 < testBlocks (capB c.cap 4) →
        (s.testRefused (capB c.cap 4) (capF c.cap 5 2) = true →
          ∃ t : State, Machine.exec (.selfTest (.cmd r)) s = .next t ∧ (t.cmdOf r = none ∧ cplSent c St.refused t ∧ dataKept s t)) ∧
        (s.testRefused (capB c.cap 4) (capF c.cap 5 2) = false → s.testFits (capB c.cap 4) = false →
          ∃ t : State, Machine.exec (.selfTest (.cmd r)) s = .next t ∧ (
            t.tst.waiting = s.tst.waiting ++ [⟨capB c.cap 4, capF c.cap 5 2, .cmd r⟩] ∧
            t = { s with cmds := t.cmds, tst := t.tst, gates := t.gates })) ∧
        (s.testRefused (capB c.cap 4) (capF c.cap 5 2) = false → s.testFits (capB c.cap 4) = true → s.tst.waiting = [] →
          capB c.cap 4 = 5 →
          ∃ t : State, Machine.exec (.selfTest (.cmd r)) s = .next t ∧ (
            ⟨5, capF c.cap 5 2, .cmd r⟩ ∈ t.tst.running ∧ (t.head (capF c.cap 5 2)).fenced = true ∧
            t.cmdOf r = some { c with stage := .begun } ∧ dataKept s t)))) ∧
    (∀ (p : Path) (w : Word), writable p s → field R.ST_REQ_GO w = 1 → field R.ST_REQ_KIND w = 5 → field R.ST_REQ_INDEX w < 640 →
      (s.testRefused 5 (field R.ST_REQ_INDEX w) = true →
        ∃ t : State, Machine.exec (.selfTest (.reg p w)) s = .next t ∧ (t.get R.ST_REQ_RESULT = 2 ∧ t.tst = s.tst ∧ dataKept s t ∧ hostKept s t)) ∧
      (s.testRefused 5 (field R.ST_REQ_INDEX w) = false → s.testFits 5 = true → s.tst.waiting = [] →
        ∃ t : State, Machine.exec (.selfTest (.reg p w)) s = .next t ∧ (
          t.get R.ST_REQ_RESULT = 1 ∧ ⟨5, field R.ST_REQ_INDEX w, .reg⟩ ∈ t.tst.running ∧
          (t.head (field R.ST_REQ_INDEX w)).fenced = true ∧ dataKept s t ∧ hostKept s t))) ∧
    (∀ (g : GHead) (ms : Nat), s.tst.running = [⟨5, g, .reg⟩] → s.tst.waiting = [] → (s.head g).retired = false →
      (s.cal.running = [] →
        ∃ t : State, Machine.exec (.selfTestEnd 5 g true true ms none) s = .next t ∧ (
          t.tst.running = [] ∧ t.get R.ST_REQ_RESULT = 3 ∧ (tgetD (5120 + g.val) {} t.tst.results).result = 1 ∧
          (t.head g).fenced = false ∧ dataKept s t ∧ hostKept s t)) ∧
      (∃ t : State, Machine.exec (.selfTestEnd 5 g true false ms none) s = .next t ∧ (
        t.tst.running = [] ∧ t.get R.ST_REQ_RESULT = 3 ∧ (tgetD (5120 + g.val) {} t.tst.results).result = 2 ∧
        (t.head g).retired = true ∧ t.get R.ST_STATUS_FAILS = counted R.ST_STATUS_FAILS s ∧ dataKept s t ∧ hostKept s t))) ∧
    (∀ i at_ : Nat, (1, i, at_) ∈ s.tst.retest → s.tst.waiting = [] → s.testFits 1 = true →
      ∃ t : State, Machine.exec (.selfTestRetest 1 i) s = .next t ∧ (
        ⟨1, i, .module_⟩ ∈ t.tst.running ∧ i ∈ t.damper.fenced ∧ dataKept s t ∧ hostKept s t))

/-- For an admin command in flight that may begin. IDENTIFY of the module sends its data and ends with success; with
CNS above 2 INVALID-FIELD. GET-LOG of a page that is sends as much as was asked and tells its length; of one that is
none, INVALID-FIELD. REG-READ of one register gives its word; REG-WRITE of CAP_LIMIT within its range sets it, outside
it is counted refused. EVENT-READ of no region, and a span that is not allowed, end INVALID-FIELD. EVENT-CLEAR takes
the records up to its number. KINDLING-WRITE gathers; FINAL is refused, invalid, programmed or failed. COMPLETES (exec
answers next t, under these hypotheses alone): identify, getLog, regRead, regWrite, eventRead, eventClear,
kindlingWrite, kindlingWriteFinal. -/
def Obligations.AdminCommandsComplete : Prop :=
  ∀ (s : State) (r : CmdRef) (c : Cmd), inFlight r c s →
    (s.adminCmd 0x40 r = some c →
      (capB c.cap 4 = 0 →
        ∃ t : State, Machine.exec (.identify r) s = .next t ∧ (
          t.cmdOf r = none ∧ cplSent c St.success t ∧ dataKept s t ∧
          bytesSent c 0 (s.identifyModule.take 8192) (s.identifyModule.drop 8192).isEmpty t)) ∧
      (2 < capB c.cap 4 →
        ∃ t : State, Machine.exec (.identify r) s = .next t ∧ (t.cmdOf r = none ∧ cplSent c St.invalidField t ∧ dataKept s t))) ∧
    (s.adminCmd 0x41 r = some c →
      (∀ l, s.logPage c = some l → 0 < capF c.cap 16 4 → capF c.cap 16 4 ≤ 1048576 →
        ∃ t : State, Machine.exec (.getLog r) s = .next t ∧ (
          t.cmdOf r = none ∧ cplWith c St.success l.length 0 t ∧ dataKept s t ∧
          (capF c.cap 8 8 < l.length → bytesSent c 0 (((l.drop (capF c.cap 8 8)).take (capF c.cap 16 4)).take 8192)
            (((l.drop (capF c.cap 8 8)).take (capF c.cap 16 4)).drop 8192).isEmpty t))) ∧
      (s.logPage c = none ∨ capF c.cap 16 4 = 0 ∨ 1048576 < capF c.cap 16 4 →
        ∃ t : State, Machine.exec (.getLog r) s = .next t ∧ (t.cmdOf r = none ∧ cplSent c St.invalidField t ∧ dataKept s t))) ∧
    (s.adminCmd 0x42 r = some c →
      (∀ a, c.span = some [a] → s.regOut a = false →
        ∃ t : State, Machine.exec (.regRead r) s = .next t ∧ (
          t.cmdOf r = none ∧ cplWith c St.success (s.readWord c.regPath a) 0 t ∧ dataKept s t)) ∧
      (c.span = none → ∃ t : State, Machine.exec (.regRead r) s = .next t ∧ (t.cmdOf r = none ∧ cplSent c St.invalidField t ∧ dataKept s t))) ∧
    (s.adminCmd 0x43 r = some c → (∀ p, p = c.regPath → writable p s) →
      (c.span = some [A.PWR_CTRL] → c.values.length = 1 →
        (340 ≤ c.values.headD 0 % 1024 → c.values.headD 0 % 1024 ≤ 640 →
          ∃ t : State, Machine.exec (.regWrite r) s = .next t ∧ (
            t.cmdOf r = none ∧ cplWith c St.success 0 0xFFFFFFFF t ∧ t.get R.PWR_CTRL_CAP_LIMIT = c.values.headD 0 % 1024 ∧
            dataKept s t)) ∧
        (640 < c.values.headD 0 % 1024 →
          ∃ t : State, Machine.exec (.regWrite r) s = .next t ∧ (
            t.cmdOf r = none ∧ cplWith c St.success 1 A.PWR_CTRL t ∧ t.get R.PWR_CTRL_CAP_LIMIT = s.get R.PWR_CTRL_CAP_LIMIT ∧
            t.get R.GLB_REFUSED_ADDR = A.PWR_CTRL ∧ dataKept s t))) ∧
      (c.span = none → ∃ t : State, Machine.exec (.regWrite r) s = .next t ∧ (t.cmdOf r = none ∧ cplSent c St.invalidField t ∧ dataKept s t))) ∧
    (s.adminCmd 0x4B r = some c →
      (1 < capB c.cap 4 → ∃ t : State, Machine.exec (.eventRead r) s = .next t ∧ (t.cmdOf r = none ∧ cplSent c St.invalidField t ∧ dataKept s t)) ∧
      (capB c.cap 4 = 0 → capF c.cap 8 8 % 32 = 0 → ∃ t : State, Machine.exec (.eventRead r) s = .next t ∧ (t.cmdOf r = none ∧ cplSent c St.success t ∧ dataKept s t))) ∧
    (s.adminCmd 0x4C r = some c → capB c.cap 4 = 0 → s.vault.faulted = false →
      ∃ t : State, Machine.exec (.eventClear r) s = .next t ∧ (
        t.cmdOf r = none ∧ cplSent c St.success t ∧ dataKept s t ∧
        (∀ e ∈ t.rcd.fixReg, capF c.cap 8 8 < e.seq ∨ e.code = Ev.EVENTS_DROPPED))) ∧
    (s.adminCmd 0x4D r = some c →
      ((capB c.cap 16).testBit 0 = false →
        (0 < capF c.cap 12 4 → capF c.cap 12 4 ≤ 1048576 → capF c.cap 8 4 + capF c.cap 12 4 ≤ maxImage →
          capF c.cap 12 4 = c.bytes.length → capF c.cap 8 4 = 0 →
          ∃ t : State, Machine.exec (.kindlingWrite r) s = .next t ∧ (
            t.cmdOf r = none ∧ cplSent c St.success t ∧ t.get R.KND_WRITE_STATE = 1 ∧ t.get R.KND_WRITE_FAIL_CHECK = 0 ∧
            t.get R.KND_WRITE_BYTES = capF c.cap 12 4 ∧
            (∀ i, i < c.bytes.length → tgetD i 0xFF t.knd.buf = c.bytes.getD i 0 % 256) ∧ dataKept s t)) ∧
        (maxImage < capF c.cap 8 4 + capF c.cap 12 4 →
          ∃ t : State, Machine.exec (.kindlingWrite r) s = .next t ∧ (t.cmdOf r = none ∧ cplSent c St.invalidField t ∧ dataKept s t))) ∧
      (∀ ok : Bool, (capB c.cap 16).testBit 0 = true → 0 < capF c.cap 12 4 → capF c.cap 12 4 ≤ 1048576 →
        capF c.cap 8 4 + capF c.cap 12 4 ≤ maxImage →
        (s.mgmtOk = false →
          ∃ t : State, Machine.exec (.kindlingWriteFinal r ok) s = .next t ∧ (t.cmdOf r = none ∧ cplSent c St.refused t ∧ dataKept s t)) ∧
        (∀ (u : State) (img : List Nat), s.mgmtOk = true → u = s.gather (capF c.cap 8 4) (c.bytes.take (capF c.cap 12 4)) →
          img = u.gathered (min (leAt (u.gathered 20) 16 4) maxImage) →
          (img.length < 64 → u.finalCheck (u.gathered 64) ≠ 0 → u.finalCheck (u.gathered 64) < 32 →
            ∃ t : State, Machine.exec (.kindlingWriteFinal r ok) s = .next t ∧ (
              t.cmdOf r = none ∧ cplSent c St.imageInvalid t ∧ t.get R.KND_WRITE_STATE = 5 ∧
              t.get R.KND_WRITE_FAIL_CHECK = u.finalCheck (u.gathered 64) ∧ t.knd.card = s.knd.card ∧ dataKept s t)) ∧
          (∀ k, 64 ≤ img.length → u.finalCheck img = 0 → s.knd.card = some k → cardUsable k = true →
            ∃ t : State, Machine.exec (.kindlingWriteFinal r ok) s = .next t ∧ (
              t.cmdOf r = none ∧ dataKept s t ∧
              (ok = true → cplSent c St.success t ∧ t.get R.KND_WRITE_STATE = 4) ∧
              (ok = false → cplSent c St.internal t ∧ t.get R.KND_WRITE_STATE = 5))))))

/-- On a running module whose management island works. UART: R answers the word, W of CAP_LIMIT within its range sets
it with OK, outside REFUSED; D keeps up to 64 bytes; C with no UART command running stands in flight with the data
given; a malformed line, an address outside the map or a short capsule answers ERR. TAP, not in scan: IDCODE and
BYPASS only take force, SAMPLE and REG_ACCESS also set TAP_USED; the rest zeroize the keys first and cut, then scan
state holds the instruction. In scan state each takes force. REG_ACCESS reads and writes registers; outside the map it
is never done. COMPLETES (exec answers next t, under these hypotheses alone): tapExtest, tapIdcode, tapSamplePreload,
tapClamp, tapHighz, tapRegAccess, tapScanEn, tapBypass, regAccessUpdateDr, uartRead, uartWrite, uartData, uartCapsule,
uartMalformedLine. -/
def Obligations.UartAndTapAreServed : Prop :=
  ∀ (s : State), s.run = .up → s.mgmtOk = true →
    (∀ a : Word, inMap a.toNat = true → a.toNat % 4 = 0 → s.regOut a.toNat = false →
      ∃ t : State, Machine.exec (.uartRead a) s = .next t ∧ (
        .uart (hexWord (s.readWord .uart a.toNat)) ∈ t.outs ∧ dataKept s t ∧ hostKept s t)) ∧
    (∀ a : Word, inMap a.toNat = false ∨ a.toNat % 4 ≠ 0 →
      ∃ t : State, Machine.exec (.uartRead a) s = .next t ∧ (
        .uart lineErr ∈ t.outs ∧ regsKept [] s t ∧ t = { s with outs := t.outs, gates := t.gates })) ∧
    (∀ w : Word, writable .uart s →
      (340 ≤ field R.PWR_CTRL_CAP_LIMIT w → field R.PWR_CTRL_CAP_LIMIT w ≤ 640 →
        ∃ t : State, Machine.exec (.uartWrite 0x10014 w) s = .next t ∧ (
          t.get R.PWR_CTRL_CAP_LIMIT = field R.PWR_CTRL_CAP_LIMIT w ∧ .uart lineOk ∈ t.outs ∧ dataKept s t ∧ hostKept s t)) ∧
      (640 < field R.PWR_CTRL_CAP_LIMIT w →
        ∃ t : State, Machine.exec (.uartWrite 0x10014 w) s = .next t ∧ (
          t.get R.PWR_CTRL_CAP_LIMIT = s.get R.PWR_CTRL_CAP_LIMIT ∧ .uart lineRefused ∈ t.outs ∧ dataKept s t ∧ hostKept s t))) ∧
    (∀ l : List Byte,
      (l.length ≤ 64 →
        ∃ t : State, Machine.exec (.uartData l) s = .next t ∧ (
          t.knd.uartData = s.knd.uartData ++ l.map (·.toNat) ∧ regsKept [] s t ∧ t = { s with knd := t.knd, gates := t.gates })) ∧
      (l.length ≠ 64 →
        ∃ t : State, Machine.exec (.uartCapsule l) s = .next t ∧ (
          .uart lineErr ∈ t.outs ∧ regsKept [] s t ∧ t = { s with outs := t.outs, gates := t.gates })) ∧
      (∀ c : Cmd, l.length = 64 → s.rekindling = false → (∀ d ∈ s.cmds, d.ref.session ≠ 0) →
        c = { ref := ⟨0, 0, capF (l.map (·.toNat)) 2 2⟩, cap := l.map (·.toNat), arrival := s.que.arrival, path := 0, port := 3,
              since := s.now, bytes := s.knd.uartData } →
        opAdmin c.op = true → c.bytes.length = adminBytes c →
        ∃ t : State, Machine.exec (.uartCapsule l) s = .next t ∧ (
          t.cmds = s.cmds ++ [c] ∧ t.knd.uartData = [] ∧ regsKept [] s t ∧
          t = { s with cmds := t.cmds, que := t.que, knd := t.knd, gates := t.gates }))) ∧
    (∃ t : State, Machine.exec .uartMalformedLine s = .next t ∧ (
      .uart lineErr ∈ t.outs ∧ regsKept [] s t ∧ t = { s with outs := t.outs, gates := t.gates })) ∧
    (∀ (i : Instr) (code : Nat), s.get R.GLB_STATUS_SCAN = 0 →
      ((i = .tapIdcode ∧ code = 0x01) ∨ (i = .tapBypass ∧ code = 0xFF) →
        ∃ t : State, Machine.exec i s = .next t ∧ (t.knd.tapIr = code ∧ regsKept [] s t ∧ t = { s with knd := t.knd, gates := t.gates })) ∧
      ((i = .tapSamplePreload ∧ code = 0x02) ∨ (i = .tapRegAccess ∧ code = 0x10) →
        ∃ t : State, Machine.exec i s = .next t ∧ (
          t.knd.tapIr = code ∧ t.get R.DBG_TAP_TAP_USED = 1 ∧ regsKept [R.DBG_TAP_TAP_USED] s t ∧
          t = { s with flds := t.flds, knd := t.knd, gates := t.gates })) ∧
      ((i = .tapExtest ∧ code = 0x00) ∨ (i = .tapClamp ∧ code = 0x03) ∨ (i = .tapHighz ∧ code = 0x04) ∨
          (i = .tapScanEn ∧ code = 0x20) → s.isCut = false →
        ∃ t : State, Machine.exec i s = .next t ∧ (
          (∀ e ∈ t.vols, e.2.key = none) ∧ t.get R.DBG_TAP_ZEROIZE_COUNT = counted R.DBG_TAP_ZEROIZE_COUNT s ∧
          t.pow.cut = some (.scan code) ∧ (s.banks = true → t.get R.PWR_BANK_STATE = 1) ∧
          (s.banks = false → t.run = .scan ∧ t.knd.tapIr = code)))) ∧
    (s.knd.tapIr = 0x10 →
      (∀ (a w : Word), inMap a.toNat = true → a.toNat % 4 = 0 → s.regOut a.toNat = false →
        ∃ t : State, Machine.exec (.regAccessUpdateDr false a w) s = .next t ∧ (
          t.knd.tapDone = true ∧ t.knd.tapData = s.readWord .tap a.toNat ∧ dataKept s t ∧ hostKept s t)) ∧
      (∀ w : Word, writable .tap s → 340 ≤ field R.PWR_CTRL_CAP_LIMIT w → field R.PWR_CTRL_CAP_LIMIT w ≤ 640 →
        ∃ t : State, Machine.exec (.regAccessUpdateDr true 0x10014 w) s = .next t ∧ (
          t.knd.tapDone = true ∧ t.get R.PWR_CTRL_CAP_LIMIT = field R.PWR_CTRL_CAP_LIMIT w ∧ dataKept s t ∧ hostKept s t)) ∧
      (∀ (b : Bool) (a w : Word), inMap a.toNat = false ∨ a.toNat % 4 ≠ 0 →
        ∃ t : State, Machine.exec (.regAccessUpdateDr b a w) s = .next t ∧ (
          t.knd.tapDone = false ∧ regsKept [] s t ∧ t = { s with knd := t.knd, gates := t.gates })))

/-- On a running module. Loss of lock or a bridge stall of an island in service: the decoder and damper islands with
their spare unspent go on with it, recorded; any other island leaves service, the fabric and always-on ones with the
module failed. A management fault holds its island, keeping hosts' data while a host island serves. A bucket above 0
leaks by 1. A recovery that is complete gives way to the next queued in its domain. The ledger is copied to the
members in service. A token comes back to a bucket below BURST. COMPLETES (exec answers next t, under these hypotheses
alone): islandLossOfLock, bridgeStall, mgmtIslandFault, channelBucketLeak, recoveryComplete, retirementLedgerCopy,
eventTokenAdd. -/
def Obligations.IslandsFaultAndTimersRun : Prop :=
  ∀ (s : State), s.run = .up →
    (∀ (i : Island) (cause : Nat) (c : Instr), (cause = 1 ∧ c = .islandLossOfLock i) ∨ (cause = 2 ∧ c = .bridgeStall i) →
      s.islandUp i = true →
      (i.val = 51 ∨ i.val = 52 → (if cause = 1 then (s.island i).synSpent else (s.island i).bridgeSpent) = false →
        s.mgmtOk = true →
        ∃ t : State, Machine.exec c s = .next t ∧ (
          t.island i = (if cause = 1 then { s.island i with synSpent := true, cause := 0 }
            else { s.island i with bridgeSpent := true, cause := 1 }) ∧
          records Ev.ISLAND_SPARE_USED (origin 0 0) i cause 0 0 s t ∧ regsKept [] s t ∧
          t = { s with islands := t.islands, rcd := t.rcd, gates := t.gates })) ∧
      (i.val ≠ 51 → i.val ≠ 52 →
        ∃ t : State, Machine.exec c s = .next t ∧ (t.islandUp i = false ∧ (i.val = 2 ∨ i.val = 74 → t.run = .failed))) ∧
      (i.val = 51 ∨ i.val = 52 → (if cause = 1 then (s.island i).synSpent else (s.island i).bridgeSpent) = true →
        ∃ t : State, Machine.exec c s = .next t ∧ (t.islandUp i = false))) ∧
    (s.mgmtOk = true →
      ∃ t : State, Machine.exec .mgmtIslandFault s = .next t ∧ (
        t.mgmtOk = false ∧ (∀ i, i ≠ 73 → (t.island i).state = (s.island i).state) ∧
        ((s.island 0).state = 0 ∨ (s.island 1).state = 0 → dataKept s t))) ∧
    (∀ (kind : Fin 6) (i : Nat), chanBucket kind ≠ 0 → (s.channel kind i).b ≠ 0 →
      ∃ t : State, Machine.exec (.channelBucketLeak kind i) s = .next t ∧ (
        t.channel kind i = { s.channel kind i with b := (s.channel kind i).b - 1 } ∧ regsKept [] s t ∧
        t = { s with channels := t.channels, gates := t.gates })) ∧
    (∀ (row : Fin 10) (i : Nat), (s.domain row i).active = true →
      ∃ t : State, Machine.exec (.recoveryComplete row i) s = .next t ∧ (
        records Ev.RECOVERY_COMPLETE (origin 0 0) row i 0 0 s t ∧
        t.domain row i = (match (s.domain row i).queue with
          | [] => {}
          | x :: q => { active := true, trigger := x, replans := 0, queue := q }) ∧
        regsKept [] s t ∧ t = { s with rcd := t.rcd, domains := t.domains, gates := t.gates })) ∧
    (s.isCut = false →
      ∃ t : State, Machine.exec .retirementLedgerCopy s = .next t ∧ (
        (∀ e ∈ t.stores, s.ixServes (e.1 / 64) (e.1 % 64) = true → e.2.rets = s.ledger) ∧
        t.stores.map (·.1) = s.stores.map (·.1) ∧ regsKept [] s t ∧ t = { s with stores := t.stores, gates := t.gates })) ∧
    (∀ code k, tget code s.rcd.tokens = some k →
      ∃ t : State, Machine.exec (.eventTokenAdd code) s = .next t ∧ (
        (k + 1 < s.get R.EVT_CTRL_BURST → tget code t.rcd.tokens = some (k + 1)) ∧
        (s.get R.EVT_CTRL_BURST ≤ k + 1 → tget code t.rcd.tokens = none) ∧
        regsKept [] s t ∧ t = { s with rcd := { s.rcd with tokens := t.rcd.tokens }, gates := t.gates }))

/-- On a running module with the vault in service, EVENT_FLUSH and EVT_FLUSH.GO leave the fixed buffer empty and save
the operating seconds; with it faulted, a flush does nothing. A write of EVT_TIME_MARK_HI records both words. ATTN_ACK
lets the attention output go. CACHE_PROBE_SEL.GO shows what the cache holds of the block. A read of a _LO register
latches its partner for the path. A write of CAP_LIMIT within its range is taken and no other register changes but the
write count; one above it is refused and shown; one outside the map does nothing. COMPLETES (exec answers next t,
under these hypotheses alone): eventFlush, evtFlushGo, evtTimeMarkHi, operatingSecondsSave, retCtrlAttnAck,
cacheProbeGo, readLoLatch, registerWrite. -/
def Obligations.RecorderAndRegistersAreServed : Prop :=
  ∀ (s : State), s.run = .up →
    (s.vault.faulted = false →
      ∃ t : State, Machine.exec .eventFlush s = .next t ∧ (
        t.rcd.fixBuf = [] ∧ t.rcd.varBuf = [] ∧ t.vault.savedOpSec = s.opSec ∧ regsKept [] s t ∧
        t = { s with rcd := t.rcd, vault := t.vault, gates := t.gates })) ∧
    (s.vault.faulted = true → ∃ t : State, Machine.exec .eventFlush s = .next t ∧ (t = { s with gates := t.gates })) ∧
    (s.vault.faulted = false →
      ∃ t : State, Machine.exec .operatingSecondsSave s = .next t ∧ (
        t.vault.savedOpSec = s.opSec ∧ regsKept [] s t ∧ t = { s with vault := t.vault, gates := t.gates })) ∧
    (∀ (p : Path) (w : Word), writable p s →
      (s.vault.faulted = false → field R.EVT_FLUSH_GO w = 1 →
        ∃ t : State, Machine.exec (.evtFlushGo p w) s = .next t ∧ (
          t.rcd.fixBuf = [] ∧ t.vault.savedOpSec = s.opSec ∧ regsKept [R.GLB_ACCESS_WRITES (pathKind p)] s t ∧
          dataKept s t ∧ hostKept s t)) ∧
      (varSize s.rcd.varBuf + 1024 ≤ varBufCap →
        ∃ t : State, Machine.exec (.evtTimeMarkHi p w) s = .next t ∧ (
          (∃ e ∈ t.rcd.varBuf, e.code = Ev.TIME_MARK ∧
            e.payload = leBytes 4 (s.get R.EVT_TIME_MARK_LO_LO) ++ leBytes 4 w.toNat ∧ e.opSec = s.opSec) ∧
          dataKept s t ∧ hostKept s t)) ∧
      (field R.RET_CTRL_ATTN_ACK w = 1 →
        ∃ t : State, Machine.exec (.retCtrlAttnAck p w) s = .next t ∧ (
          t.pins = { s.pins with attnRetired := false } ∧ dataKept s t ∧ hostKept s t)) ∧
      (field R.CACHE_PROBE_SEL_GO w = 1 → field R.CACHE_PROBE_SEL_VOLUME w < 1024 →
        ∃ t : State, Machine.exec (.cacheProbeGo p w) s = .next t ∧ (
          (∀ k, k < 5 → snapWord p (A.CACHE_PROBE_DATA k) t =
            (s.probeWords (field R.CACHE_PROBE_SEL_VOLUME w)
              (s.get (R.CACHE_PROBE_LBA_LBA 0) + 2 ^ 32 * s.get (R.CACHE_PROBE_LBA_LBA 1))).getD k 0 % 2 ^ 32) ∧
          dataKept s t ∧ hostKept s t)) ∧
      (340 ≤ field R.PWR_CTRL_CAP_LIMIT w → field R.PWR_CTRL_CAP_LIMIT w ≤ 640 →
        ∃ t : State, Machine.exec (.registerWrite p 0x10014 w) s = .next t ∧ (
          t.get R.PWR_CTRL_CAP_LIMIT = field R.PWR_CTRL_CAP_LIMIT w ∧
          t.get (R.GLB_ACCESS_WRITES (pathKind p)) = counted (R.GLB_ACCESS_WRITES (pathKind p)) s ∧
          regsKept [R.PWR_CTRL_CAP_LIMIT, R.GLB_ACCESS_WRITES (pathKind p)] s t ∧ dataKept s t ∧ hostKept s t)) ∧
      (640 < field R.PWR_CTRL_CAP_LIMIT w →
        ∃ t : State, Machine.exec (.registerWrite p 0x10014 w) s = .next t ∧ (
          t.get R.PWR_CTRL_CAP_LIMIT = s.get R.PWR_CTRL_CAP_LIMIT ∧ t.get R.GLB_REFUSED_ADDR = A.PWR_CTRL ∧
          regsKept [R.GLB_REFUSED_ADDR, R.GLB_ACCESS_WRITES (pathKind p)] s t ∧ dataKept s t ∧ hostKept s t)) ∧
      (∀ a : Word, inMap a.toNat = false ∨ a.toNat % 4 ≠ 0 →
        ∃ t : State, Machine.exec (.registerWrite p a w) s = .next t ∧ (regsKept [] s t ∧ t = { s with gates := t.gates }))) ∧
    (∀ (p : Path) (a : Word) (h : Nat), s.pathOk p = true → hiOf a.toNat = some h → s.regOut a.toNat = false →
      ∃ t : State, Machine.exec (.readLoLatch p a) s = .next t ∧ (
        tget (pathKey p h) t.latches = some (s.readWord p h) ∧ dataKept s t ∧ hostKept s t))

/-- On a running module. A handover that fails in BLIND leaves the phases at high impedance and counts one start
failure, in a row and in all. An observer loss in SPEED, or in a ramp that is not a start's, that is the fourth within
3,600 operating seconds makes no re-catch: the spindle is braked with the set-point at Midnight, and the HDA is
retired: the slot shows STATE 7, both actuators RETIRED, and, while the ledger has room, the HDA is in it. COMPLETES
(exec answers next t, under these hypotheses alone): blindHandoverFail, spinObserverLost. -/
def Obligations.HandoverFailureAndFourthLoss : Prop :=
  ∀ (s : State) (slot : Slot), s.run = .up →
    (s.get (R.SPIN_STATUS_STATE slot) = 5 →
      ∃ t : State, Machine.exec (.blindHandoverFail slot) s = .next t ∧ (
        slot.val ∉ t.pins.phases ∧ (s.get (R.SPIN_STATUS_START_FAILS slot) < 2 → t.get (R.SPIN_STATUS_STATE slot) = 9) ∧
        t.get (R.SPIN_STATUS_START_FAILS slot) = min (s.get (R.SPIN_STATUS_START_FAILS slot) + 1) 3 ∧
        t.get (R.SPIN_COUNT_START_FAILS slot) = counted (R.SPIN_COUNT_START_FAILS slot) s ∧ dataKept s t ∧ hostKept s t)) ∧
    (s.get (R.SPIN_STATUS_STATE slot) = 7 ∨ (s.get (R.SPIN_STATUS_STATE slot) = 6 ∧ (s.spin slot).origin ≠ .start) →
      3 ≤ ((s.spin slot).losses.filter fun a => s.opSec < a + 3600).length →
      ∃ t : State, Machine.exec (.spinObserverLost slot) s = .next t ∧ (
        t.get (R.SPIN_STATUS_STATE slot) = 3 ∧ t.get (R.SPIN_CTRL_SETPOINT slot) = 0 ∧
        t.get (R.SLOT_STATUS_STATE slot) = 7 ∧ t.get (R.ACT_STATUS_STATE (2 * slot)) = 7 ∧
        t.get (R.ACT_STATUS_STATE (2 * slot + 1)) = 7 ∧
        t.get (R.SPIN_COUNT_LOSSES slot) = counted (R.SPIN_COUNT_LOSSES slot) s ∧
        (s.ledger.length < 16384 → ∃ e ∈ t.ledger, e.kind = 1 ∧ e.index = slot.val ∧ e.active = true) ∧
        dataKept s t ∧ hostKept s t))

/-- An aligned address inside the map at which no register is defined, in an island in service: a read by the UART or
a REG-READ gives 0 and changes no register but those counts; a write by a path in service changes no register but the
count of writes, and records nothing in the fixed buffer. A REG-READ or REG-WRITE that may begin and names an address
outside the map, or an unaligned one, ends INVALID-FIELD, and no register changes but the counts of frames sent and of
lock entries. COMPLETES (exec answers next t, under these hypotheses alone): uartRead, registerWrite, regRead,
regWrite. -/
def Obligations.UndefinedAddressesReadZero : Prop :=
  ∀ (s : State) (a : Word),
    (inMap a.toNat = true → a.toNat % 4 = 0 → layout a.toNat = [] → isSnap a.toNat = false → s.regOut a.toNat = false →
      (∀ (p : Path) (w : Word), writable p s →
        ∃ t : State, Machine.exec (.registerWrite p a w) s = .next t ∧ (
          regsKept [R.GLB_ACCESS_WRITES (pathKind p)] s t ∧ t.rcd.fixBuf = s.rcd.fixBuf ∧ dataKept s t ∧ hostKept s t)) ∧
      (s.run = .up → s.mgmtOk = true → tget (pathKey .uart a.toNat) s.latches = none →
        ∃ t : State, Machine.exec (.uartRead a) s = .next t ∧ (
          .uart (hexWord 0) ∈ t.outs ∧ regsKept [] s t ∧ t.rcd = s.rcd ∧ dataKept s t ∧ hostKept s t)) ∧
      (∀ (r : CmdRef) (c : Cmd), inFlight r c s → s.adminCmd 0x42 r = some c → capF c.cap 8 4 = a.toNat → capF c.cap 12 4 = 1 →
        tget (pathKey c.regPath a.toNat) s.latches = none →
        ∃ t : State, Machine.exec (.regRead r) s = .next t ∧ (t.cmdOf r = none ∧ cplWith c St.success 0 0 t ∧
          regsKept [R.PORT_COUNT_COUNT 0 1, R.PORT_COUNT_COUNT 1 1, R.QUE_LOCK_COUNT_PEAK, R.QUE_LOCK_COUNT_FULL_EPISODES] s t ∧ dataKept s t))) ∧
    (∀ (r : CmdRef) (c : Cmd), inFlight r c s →
      capF c.cap 8 4 % 4 ≠ 0 ∨ 0x130000 < capF c.cap 8 4 + 4 * capF c.cap 12 4 →
      (s.adminCmd 0x42 r = some c →
        ∃ t : State, Machine.exec (.regRead r) s = .next t ∧ (t.cmdOf r = none ∧ cplSent c St.invalidField t ∧
          regsKept [R.PORT_COUNT_COUNT 0 1, R.PORT_COUNT_COUNT 1 1, R.QUE_LOCK_COUNT_PEAK, R.QUE_LOCK_COUNT_FULL_EPISODES] s t ∧ dataKept s t)) ∧
      (s.adminCmd 0x43 r = some c → s.knd.resetAsked = false → s.knd.rekindleAsked = false →
        (∀ n, n < 20 → (s.eng n).posted = []) →
        ∃ t : State, Machine.exec (.regWrite r) s = .next t ∧ (t.cmdOf r = none ∧ cplSent c St.invalidField t ∧
          regsKept [R.PORT_COUNT_COUNT 0 1, R.PORT_COUNT_COUNT 1 1, R.QUE_LOCK_COUNT_PEAK, R.QUE_LOCK_COUNT_FULL_EPISODES] s t ∧ dataKept s t)))

/-- A layout is valid for a group that is formed exactly when k is 4 to 24, p is 1 to 3 and k + p is H or less. On a
lit module, a VOLUME-CREATE that may begin, of a free number or of the lowest one free, and a LAYOUT-RESHAPE that may
begin, of a volume that exists and without CANCEL, that name a layout not valid for its group end INVALID-FIELD, and
no volume changes. COMPLETES (exec answers next t, under these hypotheses alone): volumeCreate, layoutReshape. -/
def Obligations.LayoutsAreValidWithinTheirGroup : Prop :=
  ∀ s : State,
    (∀ g k p, s.validLayout g k p = true ↔ ∃ x, tget g s.groups = some x ∧ 4 ≤ k ∧ k ≤ 24 ∧ 1 ≤ p ∧ p ≤ 3 ∧ k + p ≤ x.h) ∧
    (∀ (r : CmdRef) (c : Cmd), inFlight r c s → s.get R.GLB_STATUS_STATE ≠ 2 →
      (s.adminCmd 0x44 r = some c → capB c.cap 41 ≠ 0 → capB c.cap 42 ≠ 0 →
        (capF c.cap 4 2 < 1024 ∧ tget (capF c.cap 4 2) s.vols = none) ∨
          (capF c.cap 4 2 = 0xFFFF ∧ ∃ v, v < 1024 ∧ tget v s.vols = none) →
        (∀ x, tget (capB c.cap 40) s.groups = some x → ¬(4 ≤ capB c.cap 41 ∧ capB c.cap 41 ≤ 24 ∧ 1 ≤ capB c.cap 42 ∧
          capB c.cap 42 ≤ 3 ∧ capB c.cap 41 + capB c.cap 42 ≤ x.h)) →
        ∃ t : State, Machine.exec (.volumeCreate r) s = .next t ∧ (t.cmdOf r = none ∧ cplSent c St.invalidField t ∧ dataKept s t)) ∧
      (s.adminCmd 0x48 r = some c → (capB c.cap 11).testBit 0 = false → (tget c.vol s.vols).isSome = true →
        (∀ x, tget (capB c.cap 10) s.groups = some x → ¬(4 ≤ capB c.cap 8 ∧ capB c.cap 8 ≤ 24 ∧ 1 ≤ capB c.cap 9 ∧
          capB c.cap 9 ≤ 3 ∧ capB c.cap 8 + capB c.cap 9 ≤ x.h)) →
        ∃ t : State, Machine.exec (.layoutReshape r) s = .next t ∧ (t.cmdOf r = none ∧ cplSent c St.invalidField t ∧ dataKept s t)))
end

