-- ==== Sys2Proof/Laws/IdMem.lean ====
section
/-! SUPPORT. The byte image of an HDA's ID memory (R50 to R53): little-endian bytes read back as their value, an area closed by its
CRC32C is sound, and a copy of the module area as the firmware writes it is valid. -/

namespace Sys2Proof.Machine

/-! ## Bytes -/

@[simp] theorem leBytes_length (n v : Nat) : (leBytes n v).length = n := by
  induction n generalizing v with
  | zero => rfl
  | succ n ih => simp [leBytes, ih]

/-- A value that fits reads back from its bytes. -/
theorem leVal_leBytes (n v : Nat) : leVal (leBytes n v) = v % 256 ^ n := by
  induction n generalizing v with
  | zero => simp [leBytes, leVal, Nat.mod_one]
  | succ n ih =>
    simp only [leBytes, leVal, ih, Nat.mod_mod]
    rw [Nat.pow_succ, Nat.mul_comm (256 ^ n) 256, Nat.mod_mul]

theorem crc32cBit_lt {c : Nat} (h : c < 2 ^ 32) : crc32cBit c < 2 ^ 32 := by
  have d : c / 2 < 2 ^ 32 := by omega
  unfold crc32cBit
  split
  · exact Nat.xor_lt_two_pow d (by norm_num)
  · exact d

theorem foldl_keeps {α β : Type} (p : β → Prop) (f : β → α → β) (hf : ∀ b a, p b → p (f b a)) (l : List α) (b : β) (h : p b) :
    p (l.foldl f b) := by
  induction l generalizing b with
  | nil => exact h
  | cons a l ih => exact ih _ (hf b a h)

theorem crc32cByte_lt (b : Nat) {c : Nat} (h : c < 2 ^ 32) : crc32cByte c b < 2 ^ 32 :=
  foldl_keeps (· < 2 ^ 32) _ (fun _ _ hx => crc32cBit_lt hx) _ _ (Nat.xor_lt_two_pow h (by omega))

theorem crc32c_lt (bs : List Nat) : crc32c bs < 2 ^ 32 :=
  Nat.xor_lt_two_pow (foldl_keeps (· < 2 ^ 32) _ (fun _ b hx => crc32cByte_lt b hx) bs _ (by norm_num)) (by norm_num)

/-! ## Areas -/

/-- Bytes that are listed. -/
theorem areaBytes_of_le {bs : List Nat} {off n : Nat} (h : off + n ≤ bs.length) : areaBytes bs off n = (bs.drop off).take n := by
  have e : ((bs.drop off).take n).length = n := by simp; omega
  simp [areaBytes, e]

/-- An area with its magic and its version, closed by its CRC32C, is sound. -/
theorem areaSound_closed {magic b : List Nat} {size : Nat} (l : b.length + 4 = size) (f : 6 ≤ b.length)
    (m : b.take 4 = magic) (v : leVal ((b.drop 4).take 2) = 1) : areaSound magic size (b ++ leBytes 4 (crc32c b)) = true := by
  subst l
  have w : (b ++ leBytes 4 (crc32c b)).length = b.length + 4 := by simp
  have c := crc32c_lt b
  simp only [areaSound, idField, Nat.add_sub_cancel, areaBytes_of_le (show 0 + 4 ≤ _ by rw [w]; omega),
    areaBytes_of_le (show 4 + 2 ≤ _ by rw [w]; omega), areaBytes_of_le (show b.length + 4 ≤ _ by rw [w]),
    areaBytes_of_le (show 0 + b.length ≤ _ by rw [w]; omega), List.drop_zero]
  rw [List.take_append_of_le_length (by omega), m, List.drop_append_of_le_length (by omega),
    List.take_append_of_le_length (by rw [List.length_drop]; omega), v, List.drop_left, List.take_left]
  rw [show List.take 4 (leBytes 4 (crc32c b)) = leBytes 4 (crc32c b) from List.take_of_length_le (by simp), leVal_leBytes]
  simp; omega

/-! ## The copy of the module area the firmware writes -/

@[simp] theorem trimBytes_length (t : Trim) (n : Nat) : (trimBytes t n).length = n := by simp [trimBytes]

@[simp] theorem retBytes_length (r : IdRet) : (retBytes r).length = 32 := by simp [retBytes]

theorem flatMap_length {α : Type} (n : Nat) (f : α → List Nat) (h : ∀ a, (f a).length = n) (l : List α) :
    (l.flatMap f).length = n * l.length := by
  induction l with
  | nil => simp
  | cons a l ih => simp [h, ih]; ring

theorem copyBody_length (c : ModCopy) : (copyBody c).length = 0x5FFC := by
  have r := flatMap_length 32 retBytes retBytes_length (c.rets.take 64)
  have r' : (c.rets.take 64).length ≤ 64 := by simp
  unfold copyBody
  simp only [List.length_append, leBytes_length, List.length_take, List.length_replicate,
    flatMap_length 512 _ (fun h => trimBytes_length _ 512), flatMap_length 256 _ (fun h => trimBytes_length _ 256),
    trimBytes_length, r, List.length_range, List.length_cons, List.length_nil, magicModule]
  omega

/-- A copy written by the firmware is valid (R52, R53). -/
theorem readCopy_copyBytes (c : ModCopy) : (readCopy (copyBytes c)).valid = true := by
  have h := copyBody_length c
  have m : (copyBody c).take 4 = magicModule := by unfold copyBody; rfl
  have v : leVal (((copyBody c).drop 4).take 2) = 1 := by unfold copyBody; rfl
  have s := areaSound_closed (size := 0x6000) (by rw [h]) (by rw [h]; decide) m v
  simpa only [readCopy, copyBytes] using s

end Sys2Proof.Machine
end

