-- ==== Sys2Proof/Laws/Codec.lean ====
section
/-! SUPPORT. A sealed block written as the codeword of R132 and R158 to R160 decodes to itself: every check holds of the codeword
(R160), and its information bits, descrambled, spell the block and its seal (R132, R260). -/

namespace Sys2Proof.Machine

/-! ## Bytes -/

/-- Bytes read back from the number they spell. -/
theorem leBytes_leVal (l : List Nat) (h : ∀ b ∈ l, b < 256) : leBytes l.length (leVal l) = l := by
  induction l with
  | nil => rfl
  | cons b l ih =>
    have hb : b < 256 := h b (by simp)
    simp only [List.length_cons, leVal, leBytes, Nat.mod_eq_of_lt hb]
    rw [Nat.add_mul_mod_self_left, Nat.mod_eq_of_lt hb, Nat.add_mul_div_left _ _ (by norm_num), Nat.div_eq_of_lt hb, Nat.zero_add,
      ih fun x hx => h x (by simp [hx])]

theorem leVal_lt (l : List Nat) : leVal l < 256 ^ l.length := by
  induction l with
  | nil => simp [leVal]
  | cons b l ih =>
    have : b % 256 < 256 := Nat.mod_lt _ (by norm_num)
    simp only [leVal, List.length_cons, pow_succ]
    nlinarith

theorem leBytes_lt (n v : Nat) : ∀ b ∈ leBytes n v, b < 256 := by
  induction n generalizing v with
  | zero => simp [leBytes]
  | succ n ih =>
    intro b hb
    simp only [leBytes, List.mem_cons] at hb
    obtain rfl | hb := hb
    · exact Nat.mod_lt _ (by norm_num)
    · exact ih _ b hb

/-- Little-endian bytes by their place. -/
theorem leBytes_eq_map (n v : Nat) : leBytes n v = (List.range n).map fun i => (v >>> (8 * i)) % 256 := by
  induction n generalizing v with
  | zero => rfl
  | succ n ih =>
    rw [leBytes, ih, List.range_succ_eq_map]
    simp only [List.map_cons, List.map_map, Nat.mul_zero, Nat.shiftRight_zero, List.cons.injEq, true_and]
    refine List.map_congr_left fun i _ => ?_
    simp only [Function.comp_apply, Nat.shiftRight_eq_div_pow, Nat.div_div_eq_div_mul]
    congr 2
    rw [Nat.succ_eq_add_one, Nat.mul_add, pow_add]; ring

/-- The user bytes spell the block. -/
theorem blockOf_blockBytes (b : Block) : blockOf (blockBytes b) = b := by
  unfold blockOf blockBytes
  rw [← leBytes_eq_map, leVal_leBytes, Nat.mod_eq_of_lt]
  · simp
  · have h := b.isLt
    rw [show (256 : Nat) ^ 4096 = 2 ^ 32768 by rw [show (256 : Nat) = 2 ^ 8 by norm_num, ← pow_mul]]
    exact h

theorem byteRev_lt {b : Nat} (h : b < 256) : byteRev b < 256 := by
  have : ∀ x, x < 256 → byteRev x < 256 := by decide +kernel
  exact this b h

theorem byteRev_byteRev {b : Nat} (h : b < 256) : byteRev (byteRev b) = b := by
  have : ∀ x, x < 256 → byteRev (byteRev x) = x := by decide +kernel
  exact this b h

theorem blockBytes_lt (b : Block) : ∀ x ∈ blockBytes b, x < 256 := by
  intro x hx
  obtain ⟨i, -, rfl⟩ := List.mem_map.1 hx
  exact Nat.mod_lt _ (by norm_num)

@[simp] theorem blockBytes_length (b : Block) : (blockBytes b).length = 4096 := by simp [blockBytes]

@[simp] theorem sealBytes_length (x : Sealed) : (sealBytes x).length = 16 := by simp [sealBytes, beBytes]

theorem sealBytes_lt (x : Sealed) : ∀ b ∈ sealBytes x, b < 256 := by
  intro b hb
  simp only [sealBytes, beBytes, List.mem_append, List.mem_reverse, List.mem_singleton] at hb
  rcases hb with ((((hb | hb) | hb) | hb) | hb) | hb
  iterate 5 exact leBytes_lt _ _ b hb
  have := Nat.mod_lt x.q (show 0 < 64 by norm_num)
  subst hb; split <;> split <;> omega

/-! ## The seal -/

/-- The seal bytes read back (R260). -/
theorem readSeal_sealBytes (x : Sealed) (g : x.pi.guard < 65536) (a : x.pi.app < 65536) (r : x.pi.ref < 2 ^ 32) (w : x.row < 2 ^ 32)
    (n : x.gen < 2 ^ 24) (q : x.q < 64) : readSeal x.data (sealBytes x) = x := by
  obtain ⟨d, ⟨pg, pa, pr⟩, row, gen, qq, par, lost⟩ := x
  simp only at g a r w n q
  simp only [readSeal, sealBytes, beBytes, leBytes, List.reverse_cons, List.reverse_nil, List.nil_append, List.cons_append,
    List.take_succ_cons, List.take_zero, List.drop_succ_cons, List.drop_zero, leVal, List.getD_cons_succ, List.getD_cons_zero,
    Sealed.mk.injEq, Pi.mk.injEq, true_and, Nat.testBit_eq_decide_div_mod_eq]
  refine ⟨⟨by omega, by omega, by omega⟩, by omega, by omega, ?_, ?_, ?_⟩
  · cases par <;> cases lost <;> simp <;> omega
  · cases par <;> cases lost <;> simp <;> omega
  · cases par <;> cases lost <;> simp <;> omega

/-! ## The codeword -/

/-- The information bits spell the block (R132). -/
theorem readInfo_infoBits (x : Sealed) (g : x.pi.guard < 65536) (a : x.pi.app < 65536) (r : x.pi.ref < 2 ^ 32) (w : x.row < 2 ^ 32)
    (n : x.gen < 2 ^ 24) (q : x.q < 64) : readInfo (infoBits x) = x := by
  have bytes : ∀ b ∈ blockBytes x.data ++ sealBytes x, b < 256 := by
    intro b hb
    obtain hb | hb := List.mem_append.1 hb
    · exact blockBytes_lt _ b hb
    · exact sealBytes_lt _ b hb
  have len : ((blockBytes x.data ++ sealBytes x).map byteRev).length = 4112 := by simp
  have lt := leVal_lt ((blockBytes x.data ++ sealBytes x).map byteRev)
  have back := leBytes_leVal ((blockBytes x.data ++ sealBytes x).map byteRev) (by
    intro b hb
    obtain ⟨y, hy, rfl⟩ := List.mem_map.1 hb
    exact byteRev_lt (bytes y hy))
  rw [len] at lt back
  have e : (256 : Nat) ^ 4112 = 2 ^ 32896 := by rw [show (256 : Nat) = 2 ^ 8 by norm_num, ← pow_mul]
  rw [e] at lt
  have rev : ((blockBytes x.data ++ sealBytes x).map byteRev).map byteRev = blockBytes x.data ++ sealBytes x := by
    rw [List.map_map]
    exact (List.map_congr_left fun b hb => byteRev_byteRev (bytes b hb)).trans (List.map_id _)
  have nat : (infoBits x).toNat = leVal ((blockBytes x.data ++ sealBytes x).map byteRev) :=
    (BitVec.toNat_ofNat _ _).trans (Nat.mod_eq_of_lt lt)
  unfold readInfo
  rw [nat, back, rev]
  show readSeal (blockOf ((blockBytes x.data ++ sealBytes x).take 4096)) ((blockBytes x.data ++ sealBytes x).drop 4096) = x
  rw [List.take_left' (blockBytes_length _), List.drop_left' (blockBytes_length _), blockOf_blockBytes]
  exact readSeal_sealBytes x g a r w n q

theorem codeInfo_codeword (x : Sealed) (target n : Nat) : codeInfo (codeword x target n) = scrambled x target n := by
  unfold codeInfo codeword
  exact BitVec.extractLsb'_append_eq_right

/-- A codeword satisfies every check (R160). -/
theorem ldpcHolds_codeword (x : Sealed) (target n : Nat) : ldpcHolds (codeword x target n) = true := by
  unfold ldpcHolds
  rw [codeInfo_codeword]
  exact decide_eq_true BitVec.extractLsb'_append_eq_left

/-- A block written for a track and sector decodes there to itself (R132, R158 to R160, R164). -/
theorem decoded_codeword (x : Sealed) (target sector : Nat) (g : x.pi.guard < 65536) (a : x.pi.app < 65536) (r : x.pi.ref < 2 ^ 32)
    (w : x.row < 2 ^ 32) (n : x.gen < 2 ^ 24) (q : x.q < 64) : decoded (codeword x target sector) target sector = some x := by
  unfold decoded
  rw [ldpcHolds_codeword, codeInfo_codeword, scrambled, BitVec.xor_assoc, BitVec.xor_self, BitVec.xor_zero,
    readInfo_infoBits x g a r w n q]
  rfl

end Sys2Proof.Machine
end

