-- ==== Sys2Proof/Laws/State.lean ====
section
/-! SUPPORT. What each update of the state leaves as it was, one lemma for each field, and what the accessors read after
it: no later proof unfolds a record update. -/

namespace Sys2Proof.Machine

variable (s : State)


/-! ## State.set -/

@[simp] theorem State.set_run (f : Fld) (v : Nat) : (s.set f v).run = s.run := id rfl
@[simp] theorem State.set_now (f : Fld) (v : Nat) : (s.set f v).now = s.now := id rfl
@[simp] theorem State.set_opSub (f : Fld) (v : Nat) : (s.set f v).opSub = s.opSub := id rfl
@[simp] theorem State.set_opSec (f : Fld) (v : Nat) : (s.set f v).opSec = s.opSec := id rfl
@[simp] theorem State.set_pcycle (f : Fld) (v : Nat) : (s.set f v).pcycle = s.pcycle := id rfl
@[simp] theorem State.set_fresh (f : Fld) (v : Nat) : (s.set f v).fresh = s.fresh := id rfl
@[simp] theorem State.set_snaps (f : Fld) (v : Nat) : (s.set f v).snaps = s.snaps := id rfl
@[simp] theorem State.set_latches (f : Fld) (v : Nat) : (s.set f v).latches = s.latches := id rfl
@[simp] theorem State.set_rcd (f : Fld) (v : Nat) : (s.set f v).rcd = s.rcd := id rfl
@[simp] theorem State.set_ledger (f : Fld) (v : Nat) : (s.set f v).ledger = s.ledger := id rfl
@[simp] theorem State.set_ledgerFull (f : Fld) (v : Nat) : (s.set f v).ledgerFull = s.ledgerFull := id rfl
@[simp] theorem State.set_channels (f : Fld) (v : Nat) : (s.set f v).channels = s.channels := id rfl
@[simp] theorem State.set_domains (f : Fld) (v : Nat) : (s.set f v).domains = s.domains := id rfl
@[simp] theorem State.set_islands (f : Fld) (v : Nat) : (s.set f v).islands = s.islands := id rfl
@[simp] theorem State.set_vault (f : Fld) (v : Nat) : (s.set f v).vault = s.vault := id rfl
@[simp] theorem State.set_pins (f : Fld) (v : Nat) : (s.set f v).pins = s.pins := id rfl
@[simp] theorem State.set_slots (f : Fld) (v : Nat) : (s.set f v).slots = s.slots := id rfl
@[simp] theorem State.set_preamp (f : Fld) (v : Nat) : (s.set f v).preamp = s.preamp := id rfl
@[simp] theorem State.set_pser (f : Fld) (v : Nat) : (s.set f v).pser = s.pser := id rfl
@[simp] theorem State.set_spins (f : Fld) (v : Nat) : (s.set f v).spins = s.spins := id rfl
@[simp] theorem State.set_acts (f : Fld) (v : Nat) : (s.set f v).acts = s.acts := id rfl
@[simp] theorem State.set_heads (f : Fld) (v : Nat) : (s.set f v).heads = s.heads := id rfl
@[simp] theorem State.set_damper (f : Fld) (v : Nat) : (s.set f v).damper = s.damper := id rfl
@[simp] theorem State.set_mems (f : Fld) (v : Nat) : (s.set f v).mems = s.mems := id rfl
@[simp] theorem State.set_groups (f : Fld) (v : Nat) : (s.set f v).groups = s.groups := id rfl
@[simp] theorem State.set_voids (f : Fld) (v : Nat) : (s.set f v).voids = s.voids := id rfl
@[simp] theorem State.set_unwritten (f : Fld) (v : Nat) : (s.set f v).unwritten = s.unwritten := id rfl
@[simp] theorem State.set_pool (f : Fld) (v : Nat) : (s.set f v).pool = s.pool := id rfl
@[simp] theorem State.set_gates (f : Fld) (v : Nat) : (s.set f v).gates = s.gates := id rfl
@[simp] theorem State.set_outs (f : Fld) (v : Nat) : (s.set f v).outs = s.outs := id rfl
@[simp] theorem State.set_pending (f : Fld) (v : Nat) : (s.set f v).pending = s.pending := id rfl
@[simp] theorem State.set_vols (f : Fld) (v : Nat) : (s.set f v).vols = s.vols := id rfl
@[simp] theorem State.set_exts (f : Fld) (v : Nat) : (s.set f v).exts = s.exts := id rfl
@[simp] theorem State.set_shadows (f : Fld) (v : Nat) : (s.set f v).shadows = s.shadows := id rfl
@[simp] theorem State.set_zsets (f : Fld) (v : Nat) : (s.set f v).zsets = s.zsets := id rfl
@[simp] theorem State.set_brows (f : Fld) (v : Nat) : (s.set f v).brows = s.brows := id rfl
@[simp] theorem State.set_excs (f : Fld) (v : Nat) : (s.set f v).excs = s.excs := id rfl
@[simp] theorem State.set_stores (f : Fld) (v : Nat) : (s.set f v).stores = s.stores := id rfl
@[simp] theorem State.set_media (f : Fld) (v : Nat) : (s.set f v).media = s.media := id rfl
@[simp] theorem State.set_jn (f : Fld) (v : Nat) : (s.set f v).jn = s.jn := id rfl
@[simp] theorem State.set_stk (f : Fld) (v : Nat) : (s.set f v).stk = s.stk := id rfl
@[simp] theorem State.set_zrows (f : Fld) (v : Nat) : (s.set f v).zrows = s.zrows := id rfl
@[simp] theorem State.set_bops (f : Fld) (v : Nat) : (s.set f v).bops = s.bops := id rfl
@[simp] theorem State.set_stripe (f : Fld) (v : Nat) : (s.set f v).stripe = s.stripe := id rfl
@[simp] theorem State.set_lost (f : Fld) (v : Nat) : (s.set f v).lost = s.lost := id rfl
@[simp] theorem State.set_recs (f : Fld) (v : Nat) : (s.set f v).recs = s.recs := id rfl
@[simp] theorem State.set_weak (f : Fld) (v : Nat) : (s.set f v).weak = s.weak := id rfl
@[simp] theorem State.set_headRecs (f : Fld) (v : Nat) : (s.set f v).headRecs = s.headRecs := id rfl
@[simp] theorem State.set_sessions (f : Fld) (v : Nat) : (s.set f v).sessions = s.sessions := id rfl
@[simp] theorem State.set_cmds (f : Fld) (v : Nat) : (s.set f v).cmds = s.cmds := id rfl
@[simp] theorem State.set_que (f : Fld) (v : Nat) : (s.set f v).que = s.que := id rfl
@[simp] theorem State.set_addrs (f : Fld) (v : Nat) : (s.set f v).addrs = s.addrs := id rfl
@[simp] theorem State.set_lldp (f : Fld) (v : Nat) : (s.set f v).lldp = s.lldp := id rfl
@[simp] theorem State.set_cache (f : Fld) (v : Nat) : (s.set f v).cache = s.cache := id rfl
@[simp] theorem State.set_engs (f : Fld) (v : Nat) : (s.set f v).engs = s.engs := id rfl
@[simp] theorem State.set_pow (f : Fld) (v : Nat) : (s.set f v).pow = s.pow := id rfl
@[simp] theorem State.set_thm (f : Fld) (v : Nat) : (s.set f v).thm = s.thm := id rfl
@[simp] theorem State.set_cal (f : Fld) (v : Nat) : (s.set f v).cal = s.cal := id rfl
@[simp] theorem State.set_trims (f : Fld) (v : Nat) : (s.set f v).trims = s.trims := id rfl
@[simp] theorem State.set_tst (f : Fld) (v : Nat) : (s.set f v).tst = s.tst := id rfl
@[simp] theorem State.set_knd (f : Fld) (v : Nat) : (s.set f v).knd = s.knd := id rfl

/-! ## State.bump -/

@[simp] theorem State.bump_run : (s.bump).run = s.run := id rfl
@[simp] theorem State.bump_now : (s.bump).now = s.now := id rfl
@[simp] theorem State.bump_opSub : (s.bump).opSub = s.opSub := id rfl
@[simp] theorem State.bump_opSec : (s.bump).opSec = s.opSec := id rfl
@[simp] theorem State.bump_pcycle : (s.bump).pcycle = s.pcycle := id rfl
@[simp] theorem State.bump_flds : (s.bump).flds = s.flds := id rfl
@[simp] theorem State.bump_snaps : (s.bump).snaps = s.snaps := id rfl
@[simp] theorem State.bump_latches : (s.bump).latches = s.latches := id rfl
@[simp] theorem State.bump_rcd : (s.bump).rcd = s.rcd := id rfl
@[simp] theorem State.bump_ledger : (s.bump).ledger = s.ledger := id rfl
@[simp] theorem State.bump_ledgerFull : (s.bump).ledgerFull = s.ledgerFull := id rfl
@[simp] theorem State.bump_channels : (s.bump).channels = s.channels := id rfl
@[simp] theorem State.bump_domains : (s.bump).domains = s.domains := id rfl
@[simp] theorem State.bump_islands : (s.bump).islands = s.islands := id rfl
@[simp] theorem State.bump_vault : (s.bump).vault = s.vault := id rfl
@[simp] theorem State.bump_pins : (s.bump).pins = s.pins := id rfl
@[simp] theorem State.bump_slots : (s.bump).slots = s.slots := id rfl
@[simp] theorem State.bump_preamp : (s.bump).preamp = s.preamp := id rfl
@[simp] theorem State.bump_pser : (s.bump).pser = s.pser := id rfl
@[simp] theorem State.bump_spins : (s.bump).spins = s.spins := id rfl
@[simp] theorem State.bump_acts : (s.bump).acts = s.acts := id rfl
@[simp] theorem State.bump_heads : (s.bump).heads = s.heads := id rfl
@[simp] theorem State.bump_damper : (s.bump).damper = s.damper := id rfl
@[simp] theorem State.bump_mems : (s.bump).mems = s.mems := id rfl
@[simp] theorem State.bump_groups : (s.bump).groups = s.groups := id rfl
@[simp] theorem State.bump_voids : (s.bump).voids = s.voids := id rfl
@[simp] theorem State.bump_unwritten : (s.bump).unwritten = s.unwritten := id rfl
@[simp] theorem State.bump_pool : (s.bump).pool = s.pool := id rfl
@[simp] theorem State.bump_gates : (s.bump).gates = s.gates := id rfl
@[simp] theorem State.bump_outs : (s.bump).outs = s.outs := id rfl
@[simp] theorem State.bump_pending : (s.bump).pending = s.pending := id rfl
@[simp] theorem State.bump_vols : (s.bump).vols = s.vols := id rfl
@[simp] theorem State.bump_exts : (s.bump).exts = s.exts := id rfl
@[simp] theorem State.bump_shadows : (s.bump).shadows = s.shadows := id rfl
@[simp] theorem State.bump_zsets : (s.bump).zsets = s.zsets := id rfl
@[simp] theorem State.bump_brows : (s.bump).brows = s.brows := id rfl
@[simp] theorem State.bump_excs : (s.bump).excs = s.excs := id rfl
@[simp] theorem State.bump_stores : (s.bump).stores = s.stores := id rfl
@[simp] theorem State.bump_media : (s.bump).media = s.media := id rfl
@[simp] theorem State.bump_jn : (s.bump).jn = s.jn := id rfl
@[simp] theorem State.bump_stk : (s.bump).stk = s.stk := id rfl
@[simp] theorem State.bump_zrows : (s.bump).zrows = s.zrows := id rfl
@[simp] theorem State.bump_bops : (s.bump).bops = s.bops := id rfl
@[simp] theorem State.bump_stripe : (s.bump).stripe = s.stripe := id rfl
@[simp] theorem State.bump_lost : (s.bump).lost = s.lost := id rfl
@[simp] theorem State.bump_recs : (s.bump).recs = s.recs := id rfl
@[simp] theorem State.bump_weak : (s.bump).weak = s.weak := id rfl
@[simp] theorem State.bump_headRecs : (s.bump).headRecs = s.headRecs := id rfl
@[simp] theorem State.bump_sessions : (s.bump).sessions = s.sessions := id rfl
@[simp] theorem State.bump_cmds : (s.bump).cmds = s.cmds := id rfl
@[simp] theorem State.bump_que : (s.bump).que = s.que := id rfl
@[simp] theorem State.bump_addrs : (s.bump).addrs = s.addrs := id rfl
@[simp] theorem State.bump_lldp : (s.bump).lldp = s.lldp := id rfl
@[simp] theorem State.bump_cache : (s.bump).cache = s.cache := id rfl
@[simp] theorem State.bump_engs : (s.bump).engs = s.engs := id rfl
@[simp] theorem State.bump_pow : (s.bump).pow = s.pow := id rfl
@[simp] theorem State.bump_thm : (s.bump).thm = s.thm := id rfl
@[simp] theorem State.bump_cal : (s.bump).cal = s.cal := id rfl
@[simp] theorem State.bump_trims : (s.bump).trims = s.trims := id rfl
@[simp] theorem State.bump_tst : (s.bump).tst = s.tst := id rfl
@[simp] theorem State.bump_knd : (s.bump).knd = s.knd := id rfl

/-! ## State.setSlot -/

@[simp] theorem State.setSlot_run (i : Nat) (x : SlotSt) : (s.setSlot i x).run = s.run := id rfl
@[simp] theorem State.setSlot_now (i : Nat) (x : SlotSt) : (s.setSlot i x).now = s.now := id rfl
@[simp] theorem State.setSlot_opSub (i : Nat) (x : SlotSt) : (s.setSlot i x).opSub = s.opSub := id rfl
@[simp] theorem State.setSlot_opSec (i : Nat) (x : SlotSt) : (s.setSlot i x).opSec = s.opSec := id rfl
@[simp] theorem State.setSlot_pcycle (i : Nat) (x : SlotSt) : (s.setSlot i x).pcycle = s.pcycle := id rfl
@[simp] theorem State.setSlot_fresh (i : Nat) (x : SlotSt) : (s.setSlot i x).fresh = s.fresh := id rfl
@[simp] theorem State.setSlot_flds (i : Nat) (x : SlotSt) : (s.setSlot i x).flds = s.flds := id rfl
@[simp] theorem State.setSlot_snaps (i : Nat) (x : SlotSt) : (s.setSlot i x).snaps = s.snaps := id rfl
@[simp] theorem State.setSlot_latches (i : Nat) (x : SlotSt) : (s.setSlot i x).latches = s.latches := id rfl
@[simp] theorem State.setSlot_rcd (i : Nat) (x : SlotSt) : (s.setSlot i x).rcd = s.rcd := id rfl
@[simp] theorem State.setSlot_ledger (i : Nat) (x : SlotSt) : (s.setSlot i x).ledger = s.ledger := id rfl
@[simp] theorem State.setSlot_ledgerFull (i : Nat) (x : SlotSt) : (s.setSlot i x).ledgerFull = s.ledgerFull := id rfl
@[simp] theorem State.setSlot_channels (i : Nat) (x : SlotSt) : (s.setSlot i x).channels = s.channels := id rfl
@[simp] theorem State.setSlot_domains (i : Nat) (x : SlotSt) : (s.setSlot i x).domains = s.domains := id rfl
@[simp] theorem State.setSlot_islands (i : Nat) (x : SlotSt) : (s.setSlot i x).islands = s.islands := id rfl
@[simp] theorem State.setSlot_vault (i : Nat) (x : SlotSt) : (s.setSlot i x).vault = s.vault := id rfl
@[simp] theorem State.setSlot_pins (i : Nat) (x : SlotSt) : (s.setSlot i x).pins = s.pins := id rfl
@[simp] theorem State.setSlot_preamp (i : Nat) (x : SlotSt) : (s.setSlot i x).preamp = s.preamp := id rfl
@[simp] theorem State.setSlot_pser (i : Nat) (x : SlotSt) : (s.setSlot i x).pser = s.pser := id rfl
@[simp] theorem State.setSlot_spins (i : Nat) (x : SlotSt) : (s.setSlot i x).spins = s.spins := id rfl
@[simp] theorem State.setSlot_acts (i : Nat) (x : SlotSt) : (s.setSlot i x).acts = s.acts := id rfl
@[simp] theorem State.setSlot_heads (i : Nat) (x : SlotSt) : (s.setSlot i x).heads = s.heads := id rfl
@[simp] theorem State.setSlot_damper (i : Nat) (x : SlotSt) : (s.setSlot i x).damper = s.damper := id rfl
@[simp] theorem State.setSlot_mems (i : Nat) (x : SlotSt) : (s.setSlot i x).mems = s.mems := id rfl
@[simp] theorem State.setSlot_groups (i : Nat) (x : SlotSt) : (s.setSlot i x).groups = s.groups := id rfl
@[simp] theorem State.setSlot_voids (i : Nat) (x : SlotSt) : (s.setSlot i x).voids = s.voids := id rfl
@[simp] theorem State.setSlot_unwritten (i : Nat) (x : SlotSt) : (s.setSlot i x).unwritten = s.unwritten := id rfl
@[simp] theorem State.setSlot_pool (i : Nat) (x : SlotSt) : (s.setSlot i x).pool = s.pool := id rfl
@[simp] theorem State.setSlot_gates (i : Nat) (x : SlotSt) : (s.setSlot i x).gates = s.gates := id rfl
@[simp] theorem State.setSlot_outs (i : Nat) (x : SlotSt) : (s.setSlot i x).outs = s.outs := id rfl
@[simp] theorem State.setSlot_pending (i : Nat) (x : SlotSt) : (s.setSlot i x).pending = s.pending := id rfl
@[simp] theorem State.setSlot_vols (i : Nat) (x : SlotSt) : (s.setSlot i x).vols = s.vols := id rfl
@[simp] theorem State.setSlot_exts (i : Nat) (x : SlotSt) : (s.setSlot i x).exts = s.exts := id rfl
@[simp] theorem State.setSlot_shadows (i : Nat) (x : SlotSt) : (s.setSlot i x).shadows = s.shadows := id rfl
@[simp] theorem State.setSlot_zsets (i : Nat) (x : SlotSt) : (s.setSlot i x).zsets = s.zsets := id rfl
@[simp] theorem State.setSlot_brows (i : Nat) (x : SlotSt) : (s.setSlot i x).brows = s.brows := id rfl
@[simp] theorem State.setSlot_excs (i : Nat) (x : SlotSt) : (s.setSlot i x).excs = s.excs := id rfl
@[simp] theorem State.setSlot_stores (i : Nat) (x : SlotSt) : (s.setSlot i x).stores = s.stores := id rfl
@[simp] theorem State.setSlot_media (i : Nat) (x : SlotSt) : (s.setSlot i x).media = s.media := id rfl
@[simp] theorem State.setSlot_jn (i : Nat) (x : SlotSt) : (s.setSlot i x).jn = s.jn := id rfl
@[simp] theorem State.setSlot_stk (i : Nat) (x : SlotSt) : (s.setSlot i x).stk = s.stk := id rfl
@[simp] theorem State.setSlot_zrows (i : Nat) (x : SlotSt) : (s.setSlot i x).zrows = s.zrows := id rfl
@[simp] theorem State.setSlot_bops (i : Nat) (x : SlotSt) : (s.setSlot i x).bops = s.bops := id rfl
@[simp] theorem State.setSlot_stripe (i : Nat) (x : SlotSt) : (s.setSlot i x).stripe = s.stripe := id rfl
@[simp] theorem State.setSlot_lost (i : Nat) (x : SlotSt) : (s.setSlot i x).lost = s.lost := id rfl
@[simp] theorem State.setSlot_recs (i : Nat) (x : SlotSt) : (s.setSlot i x).recs = s.recs := id rfl
@[simp] theorem State.setSlot_weak (i : Nat) (x : SlotSt) : (s.setSlot i x).weak = s.weak := id rfl
@[simp] theorem State.setSlot_headRecs (i : Nat) (x : SlotSt) : (s.setSlot i x).headRecs = s.headRecs := id rfl
@[simp] theorem State.setSlot_sessions (i : Nat) (x : SlotSt) : (s.setSlot i x).sessions = s.sessions := id rfl
@[simp] theorem State.setSlot_cmds (i : Nat) (x : SlotSt) : (s.setSlot i x).cmds = s.cmds := id rfl
@[simp] theorem State.setSlot_que (i : Nat) (x : SlotSt) : (s.setSlot i x).que = s.que := id rfl
@[simp] theorem State.setSlot_addrs (i : Nat) (x : SlotSt) : (s.setSlot i x).addrs = s.addrs := id rfl
@[simp] theorem State.setSlot_lldp (i : Nat) (x : SlotSt) : (s.setSlot i x).lldp = s.lldp := id rfl
@[simp] theorem State.setSlot_cache (i : Nat) (x : SlotSt) : (s.setSlot i x).cache = s.cache := id rfl
@[simp] theorem State.setSlot_engs (i : Nat) (x : SlotSt) : (s.setSlot i x).engs = s.engs := id rfl
@[simp] theorem State.setSlot_pow (i : Nat) (x : SlotSt) : (s.setSlot i x).pow = s.pow := id rfl
@[simp] theorem State.setSlot_thm (i : Nat) (x : SlotSt) : (s.setSlot i x).thm = s.thm := id rfl
@[simp] theorem State.setSlot_cal (i : Nat) (x : SlotSt) : (s.setSlot i x).cal = s.cal := id rfl
@[simp] theorem State.setSlot_trims (i : Nat) (x : SlotSt) : (s.setSlot i x).trims = s.trims := id rfl
@[simp] theorem State.setSlot_tst (i : Nat) (x : SlotSt) : (s.setSlot i x).tst = s.tst := id rfl
@[simp] theorem State.setSlot_knd (i : Nat) (x : SlotSt) : (s.setSlot i x).knd = s.knd := id rfl

/-! ## State.setSpin -/

@[simp] theorem State.setSpin_run (i : Nat) (x : Spindle) : (s.setSpin i x).run = s.run := id rfl
@[simp] theorem State.setSpin_now (i : Nat) (x : Spindle) : (s.setSpin i x).now = s.now := id rfl
@[simp] theorem State.setSpin_opSub (i : Nat) (x : Spindle) : (s.setSpin i x).opSub = s.opSub := id rfl
@[simp] theorem State.setSpin_opSec (i : Nat) (x : Spindle) : (s.setSpin i x).opSec = s.opSec := id rfl
@[simp] theorem State.setSpin_pcycle (i : Nat) (x : Spindle) : (s.setSpin i x).pcycle = s.pcycle := id rfl
@[simp] theorem State.setSpin_fresh (i : Nat) (x : Spindle) : (s.setSpin i x).fresh = s.fresh := id rfl
@[simp] theorem State.setSpin_flds (i : Nat) (x : Spindle) : (s.setSpin i x).flds = s.flds := id rfl
@[simp] theorem State.setSpin_snaps (i : Nat) (x : Spindle) : (s.setSpin i x).snaps = s.snaps := id rfl
@[simp] theorem State.setSpin_latches (i : Nat) (x : Spindle) : (s.setSpin i x).latches = s.latches := id rfl
@[simp] theorem State.setSpin_rcd (i : Nat) (x : Spindle) : (s.setSpin i x).rcd = s.rcd := id rfl
@[simp] theorem State.setSpin_ledger (i : Nat) (x : Spindle) : (s.setSpin i x).ledger = s.ledger := id rfl
@[simp] theorem State.setSpin_ledgerFull (i : Nat) (x : Spindle) : (s.setSpin i x).ledgerFull = s.ledgerFull := id rfl
@[simp] theorem State.setSpin_channels (i : Nat) (x : Spindle) : (s.setSpin i x).channels = s.channels := id rfl
@[simp] theorem State.setSpin_domains (i : Nat) (x : Spindle) : (s.setSpin i x).domains = s.domains := id rfl
@[simp] theorem State.setSpin_islands (i : Nat) (x : Spindle) : (s.setSpin i x).islands = s.islands := id rfl
@[simp] theorem State.setSpin_vault (i : Nat) (x : Spindle) : (s.setSpin i x).vault = s.vault := id rfl
@[simp] theorem State.setSpin_pins (i : Nat) (x : Spindle) : (s.setSpin i x).pins = s.pins := id rfl
@[simp] theorem State.setSpin_slots (i : Nat) (x : Spindle) : (s.setSpin i x).slots = s.slots := id rfl
@[simp] theorem State.setSpin_preamp (i : Nat) (x : Spindle) : (s.setSpin i x).preamp = s.preamp := id rfl
@[simp] theorem State.setSpin_pser (i : Nat) (x : Spindle) : (s.setSpin i x).pser = s.pser := id rfl
@[simp] theorem State.setSpin_acts (i : Nat) (x : Spindle) : (s.setSpin i x).acts = s.acts := id rfl
@[simp] theorem State.setSpin_heads (i : Nat) (x : Spindle) : (s.setSpin i x).heads = s.heads := id rfl
@[simp] theorem State.setSpin_damper (i : Nat) (x : Spindle) : (s.setSpin i x).damper = s.damper := id rfl
@[simp] theorem State.setSpin_mems (i : Nat) (x : Spindle) : (s.setSpin i x).mems = s.mems := id rfl
@[simp] theorem State.setSpin_groups (i : Nat) (x : Spindle) : (s.setSpin i x).groups = s.groups := id rfl
@[simp] theorem State.setSpin_voids (i : Nat) (x : Spindle) : (s.setSpin i x).voids = s.voids := id rfl
@[simp] theorem State.setSpin_unwritten (i : Nat) (x : Spindle) : (s.setSpin i x).unwritten = s.unwritten := id rfl
@[simp] theorem State.setSpin_pool (i : Nat) (x : Spindle) : (s.setSpin i x).pool = s.pool := id rfl
@[simp] theorem State.setSpin_gates (i : Nat) (x : Spindle) : (s.setSpin i x).gates = s.gates := id rfl
@[simp] theorem State.setSpin_outs (i : Nat) (x : Spindle) : (s.setSpin i x).outs = s.outs := id rfl
@[simp] theorem State.setSpin_pending (i : Nat) (x : Spindle) : (s.setSpin i x).pending = s.pending := id rfl
@[simp] theorem State.setSpin_vols (i : Nat) (x : Spindle) : (s.setSpin i x).vols = s.vols := id rfl
@[simp] theorem State.setSpin_exts (i : Nat) (x : Spindle) : (s.setSpin i x).exts = s.exts := id rfl
@[simp] theorem State.setSpin_shadows (i : Nat) (x : Spindle) : (s.setSpin i x).shadows = s.shadows := id rfl
@[simp] theorem State.setSpin_zsets (i : Nat) (x : Spindle) : (s.setSpin i x).zsets = s.zsets := id rfl
@[simp] theorem State.setSpin_brows (i : Nat) (x : Spindle) : (s.setSpin i x).brows = s.brows := id rfl
@[simp] theorem State.setSpin_excs (i : Nat) (x : Spindle) : (s.setSpin i x).excs = s.excs := id rfl
@[simp] theorem State.setSpin_stores (i : Nat) (x : Spindle) : (s.setSpin i x).stores = s.stores := id rfl
@[simp] theorem State.setSpin_media (i : Nat) (x : Spindle) : (s.setSpin i x).media = s.media := id rfl
@[simp] theorem State.setSpin_jn (i : Nat) (x : Spindle) : (s.setSpin i x).jn = s.jn := id rfl
@[simp] theorem State.setSpin_stk (i : Nat) (x : Spindle) : (s.setSpin i x).stk = s.stk := id rfl
@[simp] theorem State.setSpin_zrows (i : Nat) (x : Spindle) : (s.setSpin i x).zrows = s.zrows := id rfl
@[simp] theorem State.setSpin_bops (i : Nat) (x : Spindle) : (s.setSpin i x).bops = s.bops := id rfl
@[simp] theorem State.setSpin_stripe (i : Nat) (x : Spindle) : (s.setSpin i x).stripe = s.stripe := id rfl
@[simp] theorem State.setSpin_lost (i : Nat) (x : Spindle) : (s.setSpin i x).lost = s.lost := id rfl
@[simp] theorem State.setSpin_recs (i : Nat) (x : Spindle) : (s.setSpin i x).recs = s.recs := id rfl
@[simp] theorem State.setSpin_weak (i : Nat) (x : Spindle) : (s.setSpin i x).weak = s.weak := id rfl
@[simp] theorem State.setSpin_headRecs (i : Nat) (x : Spindle) : (s.setSpin i x).headRecs = s.headRecs := id rfl
@[simp] theorem State.setSpin_sessions (i : Nat) (x : Spindle) : (s.setSpin i x).sessions = s.sessions := id rfl
@[simp] theorem State.setSpin_cmds (i : Nat) (x : Spindle) : (s.setSpin i x).cmds = s.cmds := id rfl
@[simp] theorem State.setSpin_que (i : Nat) (x : Spindle) : (s.setSpin i x).que = s.que := id rfl
@[simp] theorem State.setSpin_addrs (i : Nat) (x : Spindle) : (s.setSpin i x).addrs = s.addrs := id rfl
@[simp] theorem State.setSpin_lldp (i : Nat) (x : Spindle) : (s.setSpin i x).lldp = s.lldp := id rfl
@[simp] theorem State.setSpin_cache (i : Nat) (x : Spindle) : (s.setSpin i x).cache = s.cache := id rfl
@[simp] theorem State.setSpin_engs (i : Nat) (x : Spindle) : (s.setSpin i x).engs = s.engs := id rfl
@[simp] theorem State.setSpin_pow (i : Nat) (x : Spindle) : (s.setSpin i x).pow = s.pow := id rfl
@[simp] theorem State.setSpin_thm (i : Nat) (x : Spindle) : (s.setSpin i x).thm = s.thm := id rfl
@[simp] theorem State.setSpin_cal (i : Nat) (x : Spindle) : (s.setSpin i x).cal = s.cal := id rfl
@[simp] theorem State.setSpin_trims (i : Nat) (x : Spindle) : (s.setSpin i x).trims = s.trims := id rfl
@[simp] theorem State.setSpin_tst (i : Nat) (x : Spindle) : (s.setSpin i x).tst = s.tst := id rfl
@[simp] theorem State.setSpin_knd (i : Nat) (x : Spindle) : (s.setSpin i x).knd = s.knd := id rfl

/-! ## State.setActu -/

@[simp] theorem State.setActu_run (i : Nat) (x : Actu) : (s.setActu i x).run = s.run := id rfl
@[simp] theorem State.setActu_now (i : Nat) (x : Actu) : (s.setActu i x).now = s.now := id rfl
@[simp] theorem State.setActu_opSub (i : Nat) (x : Actu) : (s.setActu i x).opSub = s.opSub := id rfl
@[simp] theorem State.setActu_opSec (i : Nat) (x : Actu) : (s.setActu i x).opSec = s.opSec := id rfl
@[simp] theorem State.setActu_pcycle (i : Nat) (x : Actu) : (s.setActu i x).pcycle = s.pcycle := id rfl
@[simp] theorem State.setActu_fresh (i : Nat) (x : Actu) : (s.setActu i x).fresh = s.fresh := id rfl
@[simp] theorem State.setActu_flds (i : Nat) (x : Actu) : (s.setActu i x).flds = s.flds := id rfl
@[simp] theorem State.setActu_snaps (i : Nat) (x : Actu) : (s.setActu i x).snaps = s.snaps := id rfl
@[simp] theorem State.setActu_latches (i : Nat) (x : Actu) : (s.setActu i x).latches = s.latches := id rfl
@[simp] theorem State.setActu_rcd (i : Nat) (x : Actu) : (s.setActu i x).rcd = s.rcd := id rfl
@[simp] theorem State.setActu_ledger (i : Nat) (x : Actu) : (s.setActu i x).ledger = s.ledger := id rfl
@[simp] theorem State.setActu_ledgerFull (i : Nat) (x : Actu) : (s.setActu i x).ledgerFull = s.ledgerFull := id rfl
@[simp] theorem State.setActu_channels (i : Nat) (x : Actu) : (s.setActu i x).channels = s.channels := id rfl
@[simp] theorem State.setActu_domains (i : Nat) (x : Actu) : (s.setActu i x).domains = s.domains := id rfl
@[simp] theorem State.setActu_islands (i : Nat) (x : Actu) : (s.setActu i x).islands = s.islands := id rfl
@[simp] theorem State.setActu_vault (i : Nat) (x : Actu) : (s.setActu i x).vault = s.vault := id rfl
@[simp] theorem State.setActu_pins (i : Nat) (x : Actu) : (s.setActu i x).pins = s.pins := id rfl
@[simp] theorem State.setActu_slots (i : Nat) (x : Actu) : (s.setActu i x).slots = s.slots := id rfl
@[simp] theorem State.setActu_preamp (i : Nat) (x : Actu) : (s.setActu i x).preamp = s.preamp := id rfl
@[simp] theorem State.setActu_pser (i : Nat) (x : Actu) : (s.setActu i x).pser = s.pser := id rfl
@[simp] theorem State.setActu_spins (i : Nat) (x : Actu) : (s.setActu i x).spins = s.spins := id rfl
@[simp] theorem State.setActu_heads (i : Nat) (x : Actu) : (s.setActu i x).heads = s.heads := id rfl
@[simp] theorem State.setActu_damper (i : Nat) (x : Actu) : (s.setActu i x).damper = s.damper := id rfl
@[simp] theorem State.setActu_mems (i : Nat) (x : Actu) : (s.setActu i x).mems = s.mems := id rfl
@[simp] theorem State.setActu_groups (i : Nat) (x : Actu) : (s.setActu i x).groups = s.groups := id rfl
@[simp] theorem State.setActu_voids (i : Nat) (x : Actu) : (s.setActu i x).voids = s.voids := id rfl
@[simp] theorem State.setActu_unwritten (i : Nat) (x : Actu) : (s.setActu i x).unwritten = s.unwritten := id rfl
@[simp] theorem State.setActu_pool (i : Nat) (x : Actu) : (s.setActu i x).pool = s.pool := id rfl
@[simp] theorem State.setActu_gates (i : Nat) (x : Actu) : (s.setActu i x).gates = s.gates := id rfl
@[simp] theorem State.setActu_outs (i : Nat) (x : Actu) : (s.setActu i x).outs = s.outs := id rfl
@[simp] theorem State.setActu_pending (i : Nat) (x : Actu) : (s.setActu i x).pending = s.pending := id rfl
@[simp] theorem State.setActu_vols (i : Nat) (x : Actu) : (s.setActu i x).vols = s.vols := id rfl
@[simp] theorem State.setActu_exts (i : Nat) (x : Actu) : (s.setActu i x).exts = s.exts := id rfl
@[simp] theorem State.setActu_shadows (i : Nat) (x : Actu) : (s.setActu i x).shadows = s.shadows := id rfl
@[simp] theorem State.setActu_zsets (i : Nat) (x : Actu) : (s.setActu i x).zsets = s.zsets := id rfl
@[simp] theorem State.setActu_brows (i : Nat) (x : Actu) : (s.setActu i x).brows = s.brows := id rfl
@[simp] theorem State.setActu_excs (i : Nat) (x : Actu) : (s.setActu i x).excs = s.excs := id rfl
@[simp] theorem State.setActu_stores (i : Nat) (x : Actu) : (s.setActu i x).stores = s.stores := id rfl
@[simp] theorem State.setActu_media (i : Nat) (x : Actu) : (s.setActu i x).media = s.media := id rfl
@[simp] theorem State.setActu_jn (i : Nat) (x : Actu) : (s.setActu i x).jn = s.jn := id rfl
@[simp] theorem State.setActu_stk (i : Nat) (x : Actu) : (s.setActu i x).stk = s.stk := id rfl
@[simp] theorem State.setActu_zrows (i : Nat) (x : Actu) : (s.setActu i x).zrows = s.zrows := id rfl
@[simp] theorem State.setActu_bops (i : Nat) (x : Actu) : (s.setActu i x).bops = s.bops := id rfl
@[simp] theorem State.setActu_stripe (i : Nat) (x : Actu) : (s.setActu i x).stripe = s.stripe := id rfl
@[simp] theorem State.setActu_lost (i : Nat) (x : Actu) : (s.setActu i x).lost = s.lost := id rfl
@[simp] theorem State.setActu_recs (i : Nat) (x : Actu) : (s.setActu i x).recs = s.recs := id rfl
@[simp] theorem State.setActu_weak (i : Nat) (x : Actu) : (s.setActu i x).weak = s.weak := id rfl
@[simp] theorem State.setActu_headRecs (i : Nat) (x : Actu) : (s.setActu i x).headRecs = s.headRecs := id rfl
@[simp] theorem State.setActu_sessions (i : Nat) (x : Actu) : (s.setActu i x).sessions = s.sessions := id rfl
@[simp] theorem State.setActu_cmds (i : Nat) (x : Actu) : (s.setActu i x).cmds = s.cmds := id rfl
@[simp] theorem State.setActu_que (i : Nat) (x : Actu) : (s.setActu i x).que = s.que := id rfl
@[simp] theorem State.setActu_addrs (i : Nat) (x : Actu) : (s.setActu i x).addrs = s.addrs := id rfl
@[simp] theorem State.setActu_lldp (i : Nat) (x : Actu) : (s.setActu i x).lldp = s.lldp := id rfl
@[simp] theorem State.setActu_cache (i : Nat) (x : Actu) : (s.setActu i x).cache = s.cache := id rfl
@[simp] theorem State.setActu_engs (i : Nat) (x : Actu) : (s.setActu i x).engs = s.engs := id rfl
@[simp] theorem State.setActu_pow (i : Nat) (x : Actu) : (s.setActu i x).pow = s.pow := id rfl
@[simp] theorem State.setActu_thm (i : Nat) (x : Actu) : (s.setActu i x).thm = s.thm := id rfl
@[simp] theorem State.setActu_cal (i : Nat) (x : Actu) : (s.setActu i x).cal = s.cal := id rfl
@[simp] theorem State.setActu_trims (i : Nat) (x : Actu) : (s.setActu i x).trims = s.trims := id rfl
@[simp] theorem State.setActu_tst (i : Nat) (x : Actu) : (s.setActu i x).tst = s.tst := id rfl
@[simp] theorem State.setActu_knd (i : Nat) (x : Actu) : (s.setActu i x).knd = s.knd := id rfl

/-! ## State.setHead -/

@[simp] theorem State.setHead_run (i : Nat) (x : HeadSt) : (s.setHead i x).run = s.run := id rfl
@[simp] theorem State.setHead_now (i : Nat) (x : HeadSt) : (s.setHead i x).now = s.now := id rfl
@[simp] theorem State.setHead_opSub (i : Nat) (x : HeadSt) : (s.setHead i x).opSub = s.opSub := id rfl
@[simp] theorem State.setHead_opSec (i : Nat) (x : HeadSt) : (s.setHead i x).opSec = s.opSec := id rfl
@[simp] theorem State.setHead_pcycle (i : Nat) (x : HeadSt) : (s.setHead i x).pcycle = s.pcycle := id rfl
@[simp] theorem State.setHead_fresh (i : Nat) (x : HeadSt) : (s.setHead i x).fresh = s.fresh := id rfl
@[simp] theorem State.setHead_flds (i : Nat) (x : HeadSt) : (s.setHead i x).flds = s.flds := id rfl
@[simp] theorem State.setHead_snaps (i : Nat) (x : HeadSt) : (s.setHead i x).snaps = s.snaps := id rfl
@[simp] theorem State.setHead_latches (i : Nat) (x : HeadSt) : (s.setHead i x).latches = s.latches := id rfl
@[simp] theorem State.setHead_rcd (i : Nat) (x : HeadSt) : (s.setHead i x).rcd = s.rcd := id rfl
@[simp] theorem State.setHead_ledger (i : Nat) (x : HeadSt) : (s.setHead i x).ledger = s.ledger := id rfl
@[simp] theorem State.setHead_ledgerFull (i : Nat) (x : HeadSt) : (s.setHead i x).ledgerFull = s.ledgerFull := id rfl
@[simp] theorem State.setHead_channels (i : Nat) (x : HeadSt) : (s.setHead i x).channels = s.channels := id rfl
@[simp] theorem State.setHead_domains (i : Nat) (x : HeadSt) : (s.setHead i x).domains = s.domains := id rfl
@[simp] theorem State.setHead_islands (i : Nat) (x : HeadSt) : (s.setHead i x).islands = s.islands := id rfl
@[simp] theorem State.setHead_vault (i : Nat) (x : HeadSt) : (s.setHead i x).vault = s.vault := id rfl
@[simp] theorem State.setHead_pins (i : Nat) (x : HeadSt) : (s.setHead i x).pins = s.pins := id rfl
@[simp] theorem State.setHead_slots (i : Nat) (x : HeadSt) : (s.setHead i x).slots = s.slots := id rfl
@[simp] theorem State.setHead_preamp (i : Nat) (x : HeadSt) : (s.setHead i x).preamp = s.preamp := id rfl
@[simp] theorem State.setHead_pser (i : Nat) (x : HeadSt) : (s.setHead i x).pser = s.pser := id rfl
@[simp] theorem State.setHead_spins (i : Nat) (x : HeadSt) : (s.setHead i x).spins = s.spins := id rfl
@[simp] theorem State.setHead_acts (i : Nat) (x : HeadSt) : (s.setHead i x).acts = s.acts := id rfl
@[simp] theorem State.setHead_damper (i : Nat) (x : HeadSt) : (s.setHead i x).damper = s.damper := id rfl
@[simp] theorem State.setHead_mems (i : Nat) (x : HeadSt) : (s.setHead i x).mems = s.mems := id rfl
@[simp] theorem State.setHead_groups (i : Nat) (x : HeadSt) : (s.setHead i x).groups = s.groups := id rfl
@[simp] theorem State.setHead_voids (i : Nat) (x : HeadSt) : (s.setHead i x).voids = s.voids := id rfl
@[simp] theorem State.setHead_unwritten (i : Nat) (x : HeadSt) : (s.setHead i x).unwritten = s.unwritten := id rfl
@[simp] theorem State.setHead_pool (i : Nat) (x : HeadSt) : (s.setHead i x).pool = s.pool := id rfl
@[simp] theorem State.setHead_gates (i : Nat) (x : HeadSt) : (s.setHead i x).gates = s.gates := id rfl
@[simp] theorem State.setHead_outs (i : Nat) (x : HeadSt) : (s.setHead i x).outs = s.outs := id rfl
@[simp] theorem State.setHead_pending (i : Nat) (x : HeadSt) : (s.setHead i x).pending = s.pending := id rfl
@[simp] theorem State.setHead_vols (i : Nat) (x : HeadSt) : (s.setHead i x).vols = s.vols := id rfl
@[simp] theorem State.setHead_exts (i : Nat) (x : HeadSt) : (s.setHead i x).exts = s.exts := id rfl
@[simp] theorem State.setHead_shadows (i : Nat) (x : HeadSt) : (s.setHead i x).shadows = s.shadows := id rfl
@[simp] theorem State.setHead_zsets (i : Nat) (x : HeadSt) : (s.setHead i x).zsets = s.zsets := id rfl
@[simp] theorem State.setHead_brows (i : Nat) (x : HeadSt) : (s.setHead i x).brows = s.brows := id rfl
@[simp] theorem State.setHead_excs (i : Nat) (x : HeadSt) : (s.setHead i x).excs = s.excs := id rfl
@[simp] theorem State.setHead_stores (i : Nat) (x : HeadSt) : (s.setHead i x).stores = s.stores := id rfl
@[simp] theorem State.setHead_media (i : Nat) (x : HeadSt) : (s.setHead i x).media = s.media := id rfl
@[simp] theorem State.setHead_jn (i : Nat) (x : HeadSt) : (s.setHead i x).jn = s.jn := id rfl
@[simp] theorem State.setHead_stk (i : Nat) (x : HeadSt) : (s.setHead i x).stk = s.stk := id rfl
@[simp] theorem State.setHead_zrows (i : Nat) (x : HeadSt) : (s.setHead i x).zrows = s.zrows := id rfl
@[simp] theorem State.setHead_bops (i : Nat) (x : HeadSt) : (s.setHead i x).bops = s.bops := id rfl
@[simp] theorem State.setHead_stripe (i : Nat) (x : HeadSt) : (s.setHead i x).stripe = s.stripe := id rfl
@[simp] theorem State.setHead_lost (i : Nat) (x : HeadSt) : (s.setHead i x).lost = s.lost := id rfl
@[simp] theorem State.setHead_recs (i : Nat) (x : HeadSt) : (s.setHead i x).recs = s.recs := id rfl
@[simp] theorem State.setHead_weak (i : Nat) (x : HeadSt) : (s.setHead i x).weak = s.weak := id rfl
@[simp] theorem State.setHead_headRecs (i : Nat) (x : HeadSt) : (s.setHead i x).headRecs = s.headRecs := id rfl
@[simp] theorem State.setHead_sessions (i : Nat) (x : HeadSt) : (s.setHead i x).sessions = s.sessions := id rfl
@[simp] theorem State.setHead_cmds (i : Nat) (x : HeadSt) : (s.setHead i x).cmds = s.cmds := id rfl
@[simp] theorem State.setHead_que (i : Nat) (x : HeadSt) : (s.setHead i x).que = s.que := id rfl
@[simp] theorem State.setHead_addrs (i : Nat) (x : HeadSt) : (s.setHead i x).addrs = s.addrs := id rfl
@[simp] theorem State.setHead_lldp (i : Nat) (x : HeadSt) : (s.setHead i x).lldp = s.lldp := id rfl
@[simp] theorem State.setHead_cache (i : Nat) (x : HeadSt) : (s.setHead i x).cache = s.cache := id rfl
@[simp] theorem State.setHead_engs (i : Nat) (x : HeadSt) : (s.setHead i x).engs = s.engs := id rfl
@[simp] theorem State.setHead_pow (i : Nat) (x : HeadSt) : (s.setHead i x).pow = s.pow := id rfl
@[simp] theorem State.setHead_thm (i : Nat) (x : HeadSt) : (s.setHead i x).thm = s.thm := id rfl
@[simp] theorem State.setHead_cal (i : Nat) (x : HeadSt) : (s.setHead i x).cal = s.cal := id rfl
@[simp] theorem State.setHead_trims (i : Nat) (x : HeadSt) : (s.setHead i x).trims = s.trims := id rfl
@[simp] theorem State.setHead_tst (i : Nat) (x : HeadSt) : (s.setHead i x).tst = s.tst := id rfl
@[simp] theorem State.setHead_knd (i : Nat) (x : HeadSt) : (s.setHead i x).knd = s.knd := id rfl

/-! ## State.setLoop -/

@[simp] theorem State.setLoop_run (i : Nat) (x : Loop) : (s.setLoop i x).run = s.run := id rfl
@[simp] theorem State.setLoop_now (i : Nat) (x : Loop) : (s.setLoop i x).now = s.now := id rfl
@[simp] theorem State.setLoop_opSub (i : Nat) (x : Loop) : (s.setLoop i x).opSub = s.opSub := id rfl
@[simp] theorem State.setLoop_opSec (i : Nat) (x : Loop) : (s.setLoop i x).opSec = s.opSec := id rfl
@[simp] theorem State.setLoop_pcycle (i : Nat) (x : Loop) : (s.setLoop i x).pcycle = s.pcycle := id rfl
@[simp] theorem State.setLoop_fresh (i : Nat) (x : Loop) : (s.setLoop i x).fresh = s.fresh := id rfl
@[simp] theorem State.setLoop_flds (i : Nat) (x : Loop) : (s.setLoop i x).flds = s.flds := id rfl
@[simp] theorem State.setLoop_snaps (i : Nat) (x : Loop) : (s.setLoop i x).snaps = s.snaps := id rfl
@[simp] theorem State.setLoop_latches (i : Nat) (x : Loop) : (s.setLoop i x).latches = s.latches := id rfl
@[simp] theorem State.setLoop_rcd (i : Nat) (x : Loop) : (s.setLoop i x).rcd = s.rcd := id rfl
@[simp] theorem State.setLoop_ledger (i : Nat) (x : Loop) : (s.setLoop i x).ledger = s.ledger := id rfl
@[simp] theorem State.setLoop_ledgerFull (i : Nat) (x : Loop) : (s.setLoop i x).ledgerFull = s.ledgerFull := id rfl
@[simp] theorem State.setLoop_channels (i : Nat) (x : Loop) : (s.setLoop i x).channels = s.channels := id rfl
@[simp] theorem State.setLoop_domains (i : Nat) (x : Loop) : (s.setLoop i x).domains = s.domains := id rfl
@[simp] theorem State.setLoop_islands (i : Nat) (x : Loop) : (s.setLoop i x).islands = s.islands := id rfl
@[simp] theorem State.setLoop_vault (i : Nat) (x : Loop) : (s.setLoop i x).vault = s.vault := id rfl
@[simp] theorem State.setLoop_pins (i : Nat) (x : Loop) : (s.setLoop i x).pins = s.pins := id rfl
@[simp] theorem State.setLoop_slots (i : Nat) (x : Loop) : (s.setLoop i x).slots = s.slots := id rfl
@[simp] theorem State.setLoop_preamp (i : Nat) (x : Loop) : (s.setLoop i x).preamp = s.preamp := id rfl
@[simp] theorem State.setLoop_pser (i : Nat) (x : Loop) : (s.setLoop i x).pser = s.pser := id rfl
@[simp] theorem State.setLoop_spins (i : Nat) (x : Loop) : (s.setLoop i x).spins = s.spins := id rfl
@[simp] theorem State.setLoop_acts (i : Nat) (x : Loop) : (s.setLoop i x).acts = s.acts := id rfl
@[simp] theorem State.setLoop_heads (i : Nat) (x : Loop) : (s.setLoop i x).heads = s.heads := id rfl
@[simp] theorem State.setLoop_mems (i : Nat) (x : Loop) : (s.setLoop i x).mems = s.mems := id rfl
@[simp] theorem State.setLoop_groups (i : Nat) (x : Loop) : (s.setLoop i x).groups = s.groups := id rfl
@[simp] theorem State.setLoop_voids (i : Nat) (x : Loop) : (s.setLoop i x).voids = s.voids := id rfl
@[simp] theorem State.setLoop_unwritten (i : Nat) (x : Loop) : (s.setLoop i x).unwritten = s.unwritten := id rfl
@[simp] theorem State.setLoop_pool (i : Nat) (x : Loop) : (s.setLoop i x).pool = s.pool := id rfl
@[simp] theorem State.setLoop_gates (i : Nat) (x : Loop) : (s.setLoop i x).gates = s.gates := id rfl
@[simp] theorem State.setLoop_outs (i : Nat) (x : Loop) : (s.setLoop i x).outs = s.outs := id rfl
@[simp] theorem State.setLoop_pending (i : Nat) (x : Loop) : (s.setLoop i x).pending = s.pending := id rfl
@[simp] theorem State.setLoop_vols (i : Nat) (x : Loop) : (s.setLoop i x).vols = s.vols := id rfl
@[simp] theorem State.setLoop_exts (i : Nat) (x : Loop) : (s.setLoop i x).exts = s.exts := id rfl
@[simp] theorem State.setLoop_shadows (i : Nat) (x : Loop) : (s.setLoop i x).shadows = s.shadows := id rfl
@[simp] theorem State.setLoop_zsets (i : Nat) (x : Loop) : (s.setLoop i x).zsets = s.zsets := id rfl
@[simp] theorem State.setLoop_brows (i : Nat) (x : Loop) : (s.setLoop i x).brows = s.brows := id rfl
@[simp] theorem State.setLoop_excs (i : Nat) (x : Loop) : (s.setLoop i x).excs = s.excs := id rfl
@[simp] theorem State.setLoop_stores (i : Nat) (x : Loop) : (s.setLoop i x).stores = s.stores := id rfl
@[simp] theorem State.setLoop_media (i : Nat) (x : Loop) : (s.setLoop i x).media = s.media := id rfl
@[simp] theorem State.setLoop_jn (i : Nat) (x : Loop) : (s.setLoop i x).jn = s.jn := id rfl
@[simp] theorem State.setLoop_stk (i : Nat) (x : Loop) : (s.setLoop i x).stk = s.stk := id rfl
@[simp] theorem State.setLoop_zrows (i : Nat) (x : Loop) : (s.setLoop i x).zrows = s.zrows := id rfl
@[simp] theorem State.setLoop_bops (i : Nat) (x : Loop) : (s.setLoop i x).bops = s.bops := id rfl
@[simp] theorem State.setLoop_stripe (i : Nat) (x : Loop) : (s.setLoop i x).stripe = s.stripe := id rfl
@[simp] theorem State.setLoop_lost (i : Nat) (x : Loop) : (s.setLoop i x).lost = s.lost := id rfl
@[simp] theorem State.setLoop_recs (i : Nat) (x : Loop) : (s.setLoop i x).recs = s.recs := id rfl
@[simp] theorem State.setLoop_weak (i : Nat) (x : Loop) : (s.setLoop i x).weak = s.weak := id rfl
@[simp] theorem State.setLoop_headRecs (i : Nat) (x : Loop) : (s.setLoop i x).headRecs = s.headRecs := id rfl
@[simp] theorem State.setLoop_sessions (i : Nat) (x : Loop) : (s.setLoop i x).sessions = s.sessions := id rfl
@[simp] theorem State.setLoop_cmds (i : Nat) (x : Loop) : (s.setLoop i x).cmds = s.cmds := id rfl
@[simp] theorem State.setLoop_que (i : Nat) (x : Loop) : (s.setLoop i x).que = s.que := id rfl
@[simp] theorem State.setLoop_addrs (i : Nat) (x : Loop) : (s.setLoop i x).addrs = s.addrs := id rfl
@[simp] theorem State.setLoop_lldp (i : Nat) (x : Loop) : (s.setLoop i x).lldp = s.lldp := id rfl
@[simp] theorem State.setLoop_cache (i : Nat) (x : Loop) : (s.setLoop i x).cache = s.cache := id rfl
@[simp] theorem State.setLoop_engs (i : Nat) (x : Loop) : (s.setLoop i x).engs = s.engs := id rfl
@[simp] theorem State.setLoop_pow (i : Nat) (x : Loop) : (s.setLoop i x).pow = s.pow := id rfl
@[simp] theorem State.setLoop_thm (i : Nat) (x : Loop) : (s.setLoop i x).thm = s.thm := id rfl
@[simp] theorem State.setLoop_cal (i : Nat) (x : Loop) : (s.setLoop i x).cal = s.cal := id rfl
@[simp] theorem State.setLoop_trims (i : Nat) (x : Loop) : (s.setLoop i x).trims = s.trims := id rfl
@[simp] theorem State.setLoop_tst (i : Nat) (x : Loop) : (s.setLoop i x).tst = s.tst := id rfl
@[simp] theorem State.setLoop_knd (i : Nat) (x : Loop) : (s.setLoop i x).knd = s.knd := id rfl

/-! ## State.setIsland -/

@[simp] theorem State.setIsland_run (i : Nat) (x : IslandSt) : (s.setIsland i x).run = s.run := id rfl
@[simp] theorem State.setIsland_now (i : Nat) (x : IslandSt) : (s.setIsland i x).now = s.now := id rfl
@[simp] theorem State.setIsland_opSub (i : Nat) (x : IslandSt) : (s.setIsland i x).opSub = s.opSub := id rfl
@[simp] theorem State.setIsland_opSec (i : Nat) (x : IslandSt) : (s.setIsland i x).opSec = s.opSec := id rfl
@[simp] theorem State.setIsland_pcycle (i : Nat) (x : IslandSt) : (s.setIsland i x).pcycle = s.pcycle := id rfl
@[simp] theorem State.setIsland_fresh (i : Nat) (x : IslandSt) : (s.setIsland i x).fresh = s.fresh := id rfl
@[simp] theorem State.setIsland_flds (i : Nat) (x : IslandSt) : (s.setIsland i x).flds = s.flds := id rfl
@[simp] theorem State.setIsland_snaps (i : Nat) (x : IslandSt) : (s.setIsland i x).snaps = s.snaps := id rfl
@[simp] theorem State.setIsland_latches (i : Nat) (x : IslandSt) : (s.setIsland i x).latches = s.latches := id rfl
@[simp] theorem State.setIsland_rcd (i : Nat) (x : IslandSt) : (s.setIsland i x).rcd = s.rcd := id rfl
@[simp] theorem State.setIsland_ledger (i : Nat) (x : IslandSt) : (s.setIsland i x).ledger = s.ledger := id rfl
@[simp] theorem State.setIsland_ledgerFull (i : Nat) (x : IslandSt) : (s.setIsland i x).ledgerFull = s.ledgerFull := id rfl
@[simp] theorem State.setIsland_channels (i : Nat) (x : IslandSt) : (s.setIsland i x).channels = s.channels := id rfl
@[simp] theorem State.setIsland_domains (i : Nat) (x : IslandSt) : (s.setIsland i x).domains = s.domains := id rfl
@[simp] theorem State.setIsland_vault (i : Nat) (x : IslandSt) : (s.setIsland i x).vault = s.vault := id rfl
@[simp] theorem State.setIsland_pins (i : Nat) (x : IslandSt) : (s.setIsland i x).pins = s.pins := id rfl
@[simp] theorem State.setIsland_slots (i : Nat) (x : IslandSt) : (s.setIsland i x).slots = s.slots := id rfl
@[simp] theorem State.setIsland_preamp (i : Nat) (x : IslandSt) : (s.setIsland i x).preamp = s.preamp := id rfl
@[simp] theorem State.setIsland_pser (i : Nat) (x : IslandSt) : (s.setIsland i x).pser = s.pser := id rfl
@[simp] theorem State.setIsland_spins (i : Nat) (x : IslandSt) : (s.setIsland i x).spins = s.spins := id rfl
@[simp] theorem State.setIsland_acts (i : Nat) (x : IslandSt) : (s.setIsland i x).acts = s.acts := id rfl
@[simp] theorem State.setIsland_heads (i : Nat) (x : IslandSt) : (s.setIsland i x).heads = s.heads := id rfl
@[simp] theorem State.setIsland_damper (i : Nat) (x : IslandSt) : (s.setIsland i x).damper = s.damper := id rfl
@[simp] theorem State.setIsland_mems (i : Nat) (x : IslandSt) : (s.setIsland i x).mems = s.mems := id rfl
@[simp] theorem State.setIsland_groups (i : Nat) (x : IslandSt) : (s.setIsland i x).groups = s.groups := id rfl
@[simp] theorem State.setIsland_voids (i : Nat) (x : IslandSt) : (s.setIsland i x).voids = s.voids := id rfl
@[simp] theorem State.setIsland_unwritten (i : Nat) (x : IslandSt) : (s.setIsland i x).unwritten = s.unwritten := id rfl
@[simp] theorem State.setIsland_pool (i : Nat) (x : IslandSt) : (s.setIsland i x).pool = s.pool := id rfl
@[simp] theorem State.setIsland_gates (i : Nat) (x : IslandSt) : (s.setIsland i x).gates = s.gates := id rfl
@[simp] theorem State.setIsland_outs (i : Nat) (x : IslandSt) : (s.setIsland i x).outs = s.outs := id rfl
@[simp] theorem State.setIsland_pending (i : Nat) (x : IslandSt) : (s.setIsland i x).pending = s.pending := id rfl
@[simp] theorem State.setIsland_vols (i : Nat) (x : IslandSt) : (s.setIsland i x).vols = s.vols := id rfl
@[simp] theorem State.setIsland_exts (i : Nat) (x : IslandSt) : (s.setIsland i x).exts = s.exts := id rfl
@[simp] theorem State.setIsland_shadows (i : Nat) (x : IslandSt) : (s.setIsland i x).shadows = s.shadows := id rfl
@[simp] theorem State.setIsland_zsets (i : Nat) (x : IslandSt) : (s.setIsland i x).zsets = s.zsets := id rfl
@[simp] theorem State.setIsland_brows (i : Nat) (x : IslandSt) : (s.setIsland i x).brows = s.brows := id rfl
@[simp] theorem State.setIsland_excs (i : Nat) (x : IslandSt) : (s.setIsland i x).excs = s.excs := id rfl
@[simp] theorem State.setIsland_stores (i : Nat) (x : IslandSt) : (s.setIsland i x).stores = s.stores := id rfl
@[simp] theorem State.setIsland_media (i : Nat) (x : IslandSt) : (s.setIsland i x).media = s.media := id rfl
@[simp] theorem State.setIsland_jn (i : Nat) (x : IslandSt) : (s.setIsland i x).jn = s.jn := id rfl
@[simp] theorem State.setIsland_stk (i : Nat) (x : IslandSt) : (s.setIsland i x).stk = s.stk := id rfl
@[simp] theorem State.setIsland_zrows (i : Nat) (x : IslandSt) : (s.setIsland i x).zrows = s.zrows := id rfl
@[simp] theorem State.setIsland_bops (i : Nat) (x : IslandSt) : (s.setIsland i x).bops = s.bops := id rfl
@[simp] theorem State.setIsland_stripe (i : Nat) (x : IslandSt) : (s.setIsland i x).stripe = s.stripe := id rfl
@[simp] theorem State.setIsland_lost (i : Nat) (x : IslandSt) : (s.setIsland i x).lost = s.lost := id rfl
@[simp] theorem State.setIsland_recs (i : Nat) (x : IslandSt) : (s.setIsland i x).recs = s.recs := id rfl
@[simp] theorem State.setIsland_weak (i : Nat) (x : IslandSt) : (s.setIsland i x).weak = s.weak := id rfl
@[simp] theorem State.setIsland_headRecs (i : Nat) (x : IslandSt) : (s.setIsland i x).headRecs = s.headRecs := id rfl
@[simp] theorem State.setIsland_sessions (i : Nat) (x : IslandSt) : (s.setIsland i x).sessions = s.sessions := id rfl
@[simp] theorem State.setIsland_cmds (i : Nat) (x : IslandSt) : (s.setIsland i x).cmds = s.cmds := id rfl
@[simp] theorem State.setIsland_que (i : Nat) (x : IslandSt) : (s.setIsland i x).que = s.que := id rfl
@[simp] theorem State.setIsland_addrs (i : Nat) (x : IslandSt) : (s.setIsland i x).addrs = s.addrs := id rfl
@[simp] theorem State.setIsland_lldp (i : Nat) (x : IslandSt) : (s.setIsland i x).lldp = s.lldp := id rfl
@[simp] theorem State.setIsland_cache (i : Nat) (x : IslandSt) : (s.setIsland i x).cache = s.cache := id rfl
@[simp] theorem State.setIsland_engs (i : Nat) (x : IslandSt) : (s.setIsland i x).engs = s.engs := id rfl
@[simp] theorem State.setIsland_pow (i : Nat) (x : IslandSt) : (s.setIsland i x).pow = s.pow := id rfl
@[simp] theorem State.setIsland_thm (i : Nat) (x : IslandSt) : (s.setIsland i x).thm = s.thm := id rfl
@[simp] theorem State.setIsland_cal (i : Nat) (x : IslandSt) : (s.setIsland i x).cal = s.cal := id rfl
@[simp] theorem State.setIsland_trims (i : Nat) (x : IslandSt) : (s.setIsland i x).trims = s.trims := id rfl
@[simp] theorem State.setIsland_tst (i : Nat) (x : IslandSt) : (s.setIsland i x).tst = s.tst := id rfl
@[simp] theorem State.setIsland_knd (i : Nat) (x : IslandSt) : (s.setIsland i x).knd = s.knd := id rfl

/-! ## State.setDomain -/

@[simp] theorem State.setDomain_run (r i : Nat) (x : Domain) : (s.setDomain r i x).run = s.run := id rfl
@[simp] theorem State.setDomain_now (r i : Nat) (x : Domain) : (s.setDomain r i x).now = s.now := id rfl
@[simp] theorem State.setDomain_opSub (r i : Nat) (x : Domain) : (s.setDomain r i x).opSub = s.opSub := id rfl
@[simp] theorem State.setDomain_opSec (r i : Nat) (x : Domain) : (s.setDomain r i x).opSec = s.opSec := id rfl
@[simp] theorem State.setDomain_pcycle (r i : Nat) (x : Domain) : (s.setDomain r i x).pcycle = s.pcycle := id rfl
@[simp] theorem State.setDomain_fresh (r i : Nat) (x : Domain) : (s.setDomain r i x).fresh = s.fresh := id rfl
@[simp] theorem State.setDomain_flds (r i : Nat) (x : Domain) : (s.setDomain r i x).flds = s.flds := id rfl
@[simp] theorem State.setDomain_snaps (r i : Nat) (x : Domain) : (s.setDomain r i x).snaps = s.snaps := id rfl
@[simp] theorem State.setDomain_latches (r i : Nat) (x : Domain) : (s.setDomain r i x).latches = s.latches := id rfl
@[simp] theorem State.setDomain_rcd (r i : Nat) (x : Domain) : (s.setDomain r i x).rcd = s.rcd := id rfl
@[simp] theorem State.setDomain_ledger (r i : Nat) (x : Domain) : (s.setDomain r i x).ledger = s.ledger := id rfl
@[simp] theorem State.setDomain_ledgerFull (r i : Nat) (x : Domain) : (s.setDomain r i x).ledgerFull = s.ledgerFull := id rfl
@[simp] theorem State.setDomain_channels (r i : Nat) (x : Domain) : (s.setDomain r i x).channels = s.channels := id rfl
@[simp] theorem State.setDomain_islands (r i : Nat) (x : Domain) : (s.setDomain r i x).islands = s.islands := id rfl
@[simp] theorem State.setDomain_vault (r i : Nat) (x : Domain) : (s.setDomain r i x).vault = s.vault := id rfl
@[simp] theorem State.setDomain_pins (r i : Nat) (x : Domain) : (s.setDomain r i x).pins = s.pins := id rfl
@[simp] theorem State.setDomain_slots (r i : Nat) (x : Domain) : (s.setDomain r i x).slots = s.slots := id rfl
@[simp] theorem State.setDomain_preamp (r i : Nat) (x : Domain) : (s.setDomain r i x).preamp = s.preamp := id rfl
@[simp] theorem State.setDomain_pser (r i : Nat) (x : Domain) : (s.setDomain r i x).pser = s.pser := id rfl
@[simp] theorem State.setDomain_spins (r i : Nat) (x : Domain) : (s.setDomain r i x).spins = s.spins := id rfl
@[simp] theorem State.setDomain_acts (r i : Nat) (x : Domain) : (s.setDomain r i x).acts = s.acts := id rfl
@[simp] theorem State.setDomain_heads (r i : Nat) (x : Domain) : (s.setDomain r i x).heads = s.heads := id rfl
@[simp] theorem State.setDomain_damper (r i : Nat) (x : Domain) : (s.setDomain r i x).damper = s.damper := id rfl
@[simp] theorem State.setDomain_mems (r i : Nat) (x : Domain) : (s.setDomain r i x).mems = s.mems := id rfl
@[simp] theorem State.setDomain_groups (r i : Nat) (x : Domain) : (s.setDomain r i x).groups = s.groups := id rfl
@[simp] theorem State.setDomain_voids (r i : Nat) (x : Domain) : (s.setDomain r i x).voids = s.voids := id rfl
@[simp] theorem State.setDomain_unwritten (r i : Nat) (x : Domain) : (s.setDomain r i x).unwritten = s.unwritten := id rfl
@[simp] theorem State.setDomain_pool (r i : Nat) (x : Domain) : (s.setDomain r i x).pool = s.pool := id rfl
@[simp] theorem State.setDomain_gates (r i : Nat) (x : Domain) : (s.setDomain r i x).gates = s.gates := id rfl
@[simp] theorem State.setDomain_outs (r i : Nat) (x : Domain) : (s.setDomain r i x).outs = s.outs := id rfl
@[simp] theorem State.setDomain_pending (r i : Nat) (x : Domain) : (s.setDomain r i x).pending = s.pending := id rfl
@[simp] theorem State.setDomain_vols (r i : Nat) (x : Domain) : (s.setDomain r i x).vols = s.vols := id rfl
@[simp] theorem State.setDomain_exts (r i : Nat) (x : Domain) : (s.setDomain r i x).exts = s.exts := id rfl
@[simp] theorem State.setDomain_shadows (r i : Nat) (x : Domain) : (s.setDomain r i x).shadows = s.shadows := id rfl
@[simp] theorem State.setDomain_zsets (r i : Nat) (x : Domain) : (s.setDomain r i x).zsets = s.zsets := id rfl
@[simp] theorem State.setDomain_brows (r i : Nat) (x : Domain) : (s.setDomain r i x).brows = s.brows := id rfl
@[simp] theorem State.setDomain_excs (r i : Nat) (x : Domain) : (s.setDomain r i x).excs = s.excs := id rfl
@[simp] theorem State.setDomain_stores (r i : Nat) (x : Domain) : (s.setDomain r i x).stores = s.stores := id rfl
@[simp] theorem State.setDomain_media (r i : Nat) (x : Domain) : (s.setDomain r i x).media = s.media := id rfl
@[simp] theorem State.setDomain_jn (r i : Nat) (x : Domain) : (s.setDomain r i x).jn = s.jn := id rfl
@[simp] theorem State.setDomain_stk (r i : Nat) (x : Domain) : (s.setDomain r i x).stk = s.stk := id rfl
@[simp] theorem State.setDomain_zrows (r i : Nat) (x : Domain) : (s.setDomain r i x).zrows = s.zrows := id rfl
@[simp] theorem State.setDomain_bops (r i : Nat) (x : Domain) : (s.setDomain r i x).bops = s.bops := id rfl
@[simp] theorem State.setDomain_stripe (r i : Nat) (x : Domain) : (s.setDomain r i x).stripe = s.stripe := id rfl
@[simp] theorem State.setDomain_lost (r i : Nat) (x : Domain) : (s.setDomain r i x).lost = s.lost := id rfl
@[simp] theorem State.setDomain_recs (r i : Nat) (x : Domain) : (s.setDomain r i x).recs = s.recs := id rfl
@[simp] theorem State.setDomain_weak (r i : Nat) (x : Domain) : (s.setDomain r i x).weak = s.weak := id rfl
@[simp] theorem State.setDomain_headRecs (r i : Nat) (x : Domain) : (s.setDomain r i x).headRecs = s.headRecs := id rfl
@[simp] theorem State.setDomain_sessions (r i : Nat) (x : Domain) : (s.setDomain r i x).sessions = s.sessions := id rfl
@[simp] theorem State.setDomain_cmds (r i : Nat) (x : Domain) : (s.setDomain r i x).cmds = s.cmds := id rfl
@[simp] theorem State.setDomain_que (r i : Nat) (x : Domain) : (s.setDomain r i x).que = s.que := id rfl
@[simp] theorem State.setDomain_addrs (r i : Nat) (x : Domain) : (s.setDomain r i x).addrs = s.addrs := id rfl
@[simp] theorem State.setDomain_lldp (r i : Nat) (x : Domain) : (s.setDomain r i x).lldp = s.lldp := id rfl
@[simp] theorem State.setDomain_cache (r i : Nat) (x : Domain) : (s.setDomain r i x).cache = s.cache := id rfl
@[simp] theorem State.setDomain_engs (r i : Nat) (x : Domain) : (s.setDomain r i x).engs = s.engs := id rfl
@[simp] theorem State.setDomain_pow (r i : Nat) (x : Domain) : (s.setDomain r i x).pow = s.pow := id rfl
@[simp] theorem State.setDomain_thm (r i : Nat) (x : Domain) : (s.setDomain r i x).thm = s.thm := id rfl
@[simp] theorem State.setDomain_cal (r i : Nat) (x : Domain) : (s.setDomain r i x).cal = s.cal := id rfl
@[simp] theorem State.setDomain_trims (r i : Nat) (x : Domain) : (s.setDomain r i x).trims = s.trims := id rfl
@[simp] theorem State.setDomain_tst (r i : Nat) (x : Domain) : (s.setDomain r i x).tst = s.tst := id rfl
@[simp] theorem State.setDomain_knd (r i : Nat) (x : Domain) : (s.setDomain r i x).knd = s.knd := id rfl

/-! ## State.setChannel -/

@[simp] theorem State.setChannel_run (k i : Nat) (x : Channel) : (s.setChannel k i x).run = s.run := id rfl
@[simp] theorem State.setChannel_now (k i : Nat) (x : Channel) : (s.setChannel k i x).now = s.now := id rfl
@[simp] theorem State.setChannel_opSub (k i : Nat) (x : Channel) : (s.setChannel k i x).opSub = s.opSub := id rfl
@[simp] theorem State.setChannel_opSec (k i : Nat) (x : Channel) : (s.setChannel k i x).opSec = s.opSec := id rfl
@[simp] theorem State.setChannel_pcycle (k i : Nat) (x : Channel) : (s.setChannel k i x).pcycle = s.pcycle := id rfl
@[simp] theorem State.setChannel_fresh (k i : Nat) (x : Channel) : (s.setChannel k i x).fresh = s.fresh := id rfl
@[simp] theorem State.setChannel_flds (k i : Nat) (x : Channel) : (s.setChannel k i x).flds = s.flds := id rfl
@[simp] theorem State.setChannel_snaps (k i : Nat) (x : Channel) : (s.setChannel k i x).snaps = s.snaps := id rfl
@[simp] theorem State.setChannel_latches (k i : Nat) (x : Channel) : (s.setChannel k i x).latches = s.latches := id rfl
@[simp] theorem State.setChannel_rcd (k i : Nat) (x : Channel) : (s.setChannel k i x).rcd = s.rcd := id rfl
@[simp] theorem State.setChannel_ledger (k i : Nat) (x : Channel) : (s.setChannel k i x).ledger = s.ledger := id rfl
@[simp] theorem State.setChannel_ledgerFull (k i : Nat) (x : Channel) : (s.setChannel k i x).ledgerFull = s.ledgerFull := id rfl
@[simp] theorem State.setChannel_domains (k i : Nat) (x : Channel) : (s.setChannel k i x).domains = s.domains := id rfl
@[simp] theorem State.setChannel_islands (k i : Nat) (x : Channel) : (s.setChannel k i x).islands = s.islands := id rfl
@[simp] theorem State.setChannel_vault (k i : Nat) (x : Channel) : (s.setChannel k i x).vault = s.vault := id rfl
@[simp] theorem State.setChannel_pins (k i : Nat) (x : Channel) : (s.setChannel k i x).pins = s.pins := id rfl
@[simp] theorem State.setChannel_slots (k i : Nat) (x : Channel) : (s.setChannel k i x).slots = s.slots := id rfl
@[simp] theorem State.setChannel_preamp (k i : Nat) (x : Channel) : (s.setChannel k i x).preamp = s.preamp := id rfl
@[simp] theorem State.setChannel_pser (k i : Nat) (x : Channel) : (s.setChannel k i x).pser = s.pser := id rfl
@[simp] theorem State.setChannel_spins (k i : Nat) (x : Channel) : (s.setChannel k i x).spins = s.spins := id rfl
@[simp] theorem State.setChannel_acts (k i : Nat) (x : Channel) : (s.setChannel k i x).acts = s.acts := id rfl
@[simp] theorem State.setChannel_heads (k i : Nat) (x : Channel) : (s.setChannel k i x).heads = s.heads := id rfl
@[simp] theorem State.setChannel_damper (k i : Nat) (x : Channel) : (s.setChannel k i x).damper = s.damper := id rfl
@[simp] theorem State.setChannel_mems (k i : Nat) (x : Channel) : (s.setChannel k i x).mems = s.mems := id rfl
@[simp] theorem State.setChannel_groups (k i : Nat) (x : Channel) : (s.setChannel k i x).groups = s.groups := id rfl
@[simp] theorem State.setChannel_voids (k i : Nat) (x : Channel) : (s.setChannel k i x).voids = s.voids := id rfl
@[simp] theorem State.setChannel_unwritten (k i : Nat) (x : Channel) : (s.setChannel k i x).unwritten = s.unwritten := id rfl
@[simp] theorem State.setChannel_pool (k i : Nat) (x : Channel) : (s.setChannel k i x).pool = s.pool := id rfl
@[simp] theorem State.setChannel_gates (k i : Nat) (x : Channel) : (s.setChannel k i x).gates = s.gates := id rfl
@[simp] theorem State.setChannel_outs (k i : Nat) (x : Channel) : (s.setChannel k i x).outs = s.outs := id rfl
@[simp] theorem State.setChannel_pending (k i : Nat) (x : Channel) : (s.setChannel k i x).pending = s.pending := id rfl
@[simp] theorem State.setChannel_vols (k i : Nat) (x : Channel) : (s.setChannel k i x).vols = s.vols := id rfl
@[simp] theorem State.setChannel_exts (k i : Nat) (x : Channel) : (s.setChannel k i x).exts = s.exts := id rfl
@[simp] theorem State.setChannel_shadows (k i : Nat) (x : Channel) : (s.setChannel k i x).shadows = s.shadows := id rfl
@[simp] theorem State.setChannel_zsets (k i : Nat) (x : Channel) : (s.setChannel k i x).zsets = s.zsets := id rfl
@[simp] theorem State.setChannel_brows (k i : Nat) (x : Channel) : (s.setChannel k i x).brows = s.brows := id rfl
@[simp] theorem State.setChannel_excs (k i : Nat) (x : Channel) : (s.setChannel k i x).excs = s.excs := id rfl
@[simp] theorem State.setChannel_stores (k i : Nat) (x : Channel) : (s.setChannel k i x).stores = s.stores := id rfl
@[simp] theorem State.setChannel_media (k i : Nat) (x : Channel) : (s.setChannel k i x).media = s.media := id rfl
@[simp] theorem State.setChannel_jn (k i : Nat) (x : Channel) : (s.setChannel k i x).jn = s.jn := id rfl
@[simp] theorem State.setChannel_stk (k i : Nat) (x : Channel) : (s.setChannel k i x).stk = s.stk := id rfl
@[simp] theorem State.setChannel_zrows (k i : Nat) (x : Channel) : (s.setChannel k i x).zrows = s.zrows := id rfl
@[simp] theorem State.setChannel_bops (k i : Nat) (x : Channel) : (s.setChannel k i x).bops = s.bops := id rfl
@[simp] theorem State.setChannel_stripe (k i : Nat) (x : Channel) : (s.setChannel k i x).stripe = s.stripe := id rfl
@[simp] theorem State.setChannel_lost (k i : Nat) (x : Channel) : (s.setChannel k i x).lost = s.lost := id rfl
@[simp] theorem State.setChannel_recs (k i : Nat) (x : Channel) : (s.setChannel k i x).recs = s.recs := id rfl
@[simp] theorem State.setChannel_weak (k i : Nat) (x : Channel) : (s.setChannel k i x).weak = s.weak := id rfl
@[simp] theorem State.setChannel_headRecs (k i : Nat) (x : Channel) : (s.setChannel k i x).headRecs = s.headRecs := id rfl
@[simp] theorem State.setChannel_sessions (k i : Nat) (x : Channel) : (s.setChannel k i x).sessions = s.sessions := id rfl
@[simp] theorem State.setChannel_cmds (k i : Nat) (x : Channel) : (s.setChannel k i x).cmds = s.cmds := id rfl
@[simp] theorem State.setChannel_que (k i : Nat) (x : Channel) : (s.setChannel k i x).que = s.que := id rfl
@[simp] theorem State.setChannel_addrs (k i : Nat) (x : Channel) : (s.setChannel k i x).addrs = s.addrs := id rfl
@[simp] theorem State.setChannel_lldp (k i : Nat) (x : Channel) : (s.setChannel k i x).lldp = s.lldp := id rfl
@[simp] theorem State.setChannel_cache (k i : Nat) (x : Channel) : (s.setChannel k i x).cache = s.cache := id rfl
@[simp] theorem State.setChannel_engs (k i : Nat) (x : Channel) : (s.setChannel k i x).engs = s.engs := id rfl
@[simp] theorem State.setChannel_pow (k i : Nat) (x : Channel) : (s.setChannel k i x).pow = s.pow := id rfl
@[simp] theorem State.setChannel_thm (k i : Nat) (x : Channel) : (s.setChannel k i x).thm = s.thm := id rfl
@[simp] theorem State.setChannel_cal (k i : Nat) (x : Channel) : (s.setChannel k i x).cal = s.cal := id rfl
@[simp] theorem State.setChannel_trims (k i : Nat) (x : Channel) : (s.setChannel k i x).trims = s.trims := id rfl
@[simp] theorem State.setChannel_tst (k i : Nat) (x : Channel) : (s.setChannel k i x).tst = s.tst := id rfl
@[simp] theorem State.setChannel_knd (k i : Nat) (x : Channel) : (s.setChannel k i x).knd = s.knd := id rfl

/-! ## State.setMem -/

@[simp] theorem State.setMem_run (i : Nat) (x : MemberSt) : (s.setMem i x).run = s.run := id rfl
@[simp] theorem State.setMem_now (i : Nat) (x : MemberSt) : (s.setMem i x).now = s.now := id rfl
@[simp] theorem State.setMem_opSub (i : Nat) (x : MemberSt) : (s.setMem i x).opSub = s.opSub := id rfl
@[simp] theorem State.setMem_opSec (i : Nat) (x : MemberSt) : (s.setMem i x).opSec = s.opSec := id rfl
@[simp] theorem State.setMem_pcycle (i : Nat) (x : MemberSt) : (s.setMem i x).pcycle = s.pcycle := id rfl
@[simp] theorem State.setMem_fresh (i : Nat) (x : MemberSt) : (s.setMem i x).fresh = s.fresh := id rfl
@[simp] theorem State.setMem_flds (i : Nat) (x : MemberSt) : (s.setMem i x).flds = s.flds := id rfl
@[simp] theorem State.setMem_snaps (i : Nat) (x : MemberSt) : (s.setMem i x).snaps = s.snaps := id rfl
@[simp] theorem State.setMem_latches (i : Nat) (x : MemberSt) : (s.setMem i x).latches = s.latches := id rfl
@[simp] theorem State.setMem_rcd (i : Nat) (x : MemberSt) : (s.setMem i x).rcd = s.rcd := id rfl
@[simp] theorem State.setMem_ledger (i : Nat) (x : MemberSt) : (s.setMem i x).ledger = s.ledger := id rfl
@[simp] theorem State.setMem_ledgerFull (i : Nat) (x : MemberSt) : (s.setMem i x).ledgerFull = s.ledgerFull := id rfl
@[simp] theorem State.setMem_channels (i : Nat) (x : MemberSt) : (s.setMem i x).channels = s.channels := id rfl
@[simp] theorem State.setMem_domains (i : Nat) (x : MemberSt) : (s.setMem i x).domains = s.domains := id rfl
@[simp] theorem State.setMem_islands (i : Nat) (x : MemberSt) : (s.setMem i x).islands = s.islands := id rfl
@[simp] theorem State.setMem_vault (i : Nat) (x : MemberSt) : (s.setMem i x).vault = s.vault := id rfl
@[simp] theorem State.setMem_pins (i : Nat) (x : MemberSt) : (s.setMem i x).pins = s.pins := id rfl
@[simp] theorem State.setMem_slots (i : Nat) (x : MemberSt) : (s.setMem i x).slots = s.slots := id rfl
@[simp] theorem State.setMem_preamp (i : Nat) (x : MemberSt) : (s.setMem i x).preamp = s.preamp := id rfl
@[simp] theorem State.setMem_pser (i : Nat) (x : MemberSt) : (s.setMem i x).pser = s.pser := id rfl
@[simp] theorem State.setMem_spins (i : Nat) (x : MemberSt) : (s.setMem i x).spins = s.spins := id rfl
@[simp] theorem State.setMem_acts (i : Nat) (x : MemberSt) : (s.setMem i x).acts = s.acts := id rfl
@[simp] theorem State.setMem_heads (i : Nat) (x : MemberSt) : (s.setMem i x).heads = s.heads := id rfl
@[simp] theorem State.setMem_damper (i : Nat) (x : MemberSt) : (s.setMem i x).damper = s.damper := id rfl
@[simp] theorem State.setMem_groups (i : Nat) (x : MemberSt) : (s.setMem i x).groups = s.groups := id rfl
@[simp] theorem State.setMem_voids (i : Nat) (x : MemberSt) : (s.setMem i x).voids = s.voids := id rfl
@[simp] theorem State.setMem_unwritten (i : Nat) (x : MemberSt) : (s.setMem i x).unwritten = s.unwritten := id rfl
@[simp] theorem State.setMem_pool (i : Nat) (x : MemberSt) : (s.setMem i x).pool = s.pool := id rfl
@[simp] theorem State.setMem_gates (i : Nat) (x : MemberSt) : (s.setMem i x).gates = s.gates := id rfl
@[simp] theorem State.setMem_outs (i : Nat) (x : MemberSt) : (s.setMem i x).outs = s.outs := id rfl
@[simp] theorem State.setMem_pending (i : Nat) (x : MemberSt) : (s.setMem i x).pending = s.pending := id rfl
@[simp] theorem State.setMem_vols (i : Nat) (x : MemberSt) : (s.setMem i x).vols = s.vols := id rfl
@[simp] theorem State.setMem_exts (i : Nat) (x : MemberSt) : (s.setMem i x).exts = s.exts := id rfl
@[simp] theorem State.setMem_shadows (i : Nat) (x : MemberSt) : (s.setMem i x).shadows = s.shadows := id rfl
@[simp] theorem State.setMem_zsets (i : Nat) (x : MemberSt) : (s.setMem i x).zsets = s.zsets := id rfl
@[simp] theorem State.setMem_brows (i : Nat) (x : MemberSt) : (s.setMem i x).brows = s.brows := id rfl
@[simp] theorem State.setMem_excs (i : Nat) (x : MemberSt) : (s.setMem i x).excs = s.excs := id rfl
@[simp] theorem State.setMem_stores (i : Nat) (x : MemberSt) : (s.setMem i x).stores = s.stores := id rfl
@[simp] theorem State.setMem_media (i : Nat) (x : MemberSt) : (s.setMem i x).media = s.media := id rfl
@[simp] theorem State.setMem_jn (i : Nat) (x : MemberSt) : (s.setMem i x).jn = s.jn := id rfl
@[simp] theorem State.setMem_stk (i : Nat) (x : MemberSt) : (s.setMem i x).stk = s.stk := id rfl
@[simp] theorem State.setMem_zrows (i : Nat) (x : MemberSt) : (s.setMem i x).zrows = s.zrows := id rfl
@[simp] theorem State.setMem_bops (i : Nat) (x : MemberSt) : (s.setMem i x).bops = s.bops := id rfl
@[simp] theorem State.setMem_stripe (i : Nat) (x : MemberSt) : (s.setMem i x).stripe = s.stripe := id rfl
@[simp] theorem State.setMem_lost (i : Nat) (x : MemberSt) : (s.setMem i x).lost = s.lost := id rfl
@[simp] theorem State.setMem_recs (i : Nat) (x : MemberSt) : (s.setMem i x).recs = s.recs := id rfl
@[simp] theorem State.setMem_weak (i : Nat) (x : MemberSt) : (s.setMem i x).weak = s.weak := id rfl
@[simp] theorem State.setMem_headRecs (i : Nat) (x : MemberSt) : (s.setMem i x).headRecs = s.headRecs := id rfl
@[simp] theorem State.setMem_sessions (i : Nat) (x : MemberSt) : (s.setMem i x).sessions = s.sessions := id rfl
@[simp] theorem State.setMem_cmds (i : Nat) (x : MemberSt) : (s.setMem i x).cmds = s.cmds := id rfl
@[simp] theorem State.setMem_que (i : Nat) (x : MemberSt) : (s.setMem i x).que = s.que := id rfl
@[simp] theorem State.setMem_addrs (i : Nat) (x : MemberSt) : (s.setMem i x).addrs = s.addrs := id rfl
@[simp] theorem State.setMem_lldp (i : Nat) (x : MemberSt) : (s.setMem i x).lldp = s.lldp := id rfl
@[simp] theorem State.setMem_cache (i : Nat) (x : MemberSt) : (s.setMem i x).cache = s.cache := id rfl
@[simp] theorem State.setMem_engs (i : Nat) (x : MemberSt) : (s.setMem i x).engs = s.engs := id rfl
@[simp] theorem State.setMem_pow (i : Nat) (x : MemberSt) : (s.setMem i x).pow = s.pow := id rfl
@[simp] theorem State.setMem_thm (i : Nat) (x : MemberSt) : (s.setMem i x).thm = s.thm := id rfl
@[simp] theorem State.setMem_cal (i : Nat) (x : MemberSt) : (s.setMem i x).cal = s.cal := id rfl
@[simp] theorem State.setMem_trims (i : Nat) (x : MemberSt) : (s.setMem i x).trims = s.trims := id rfl
@[simp] theorem State.setMem_tst (i : Nat) (x : MemberSt) : (s.setMem i x).tst = s.tst := id rfl
@[simp] theorem State.setMem_knd (i : Nat) (x : MemberSt) : (s.setMem i x).knd = s.knd := id rfl

/-! ## State.send -/

@[simp] theorem State.send_run (o : Out) : (s.send o).run = s.run := id rfl
@[simp] theorem State.send_now (o : Out) : (s.send o).now = s.now := id rfl
@[simp] theorem State.send_opSub (o : Out) : (s.send o).opSub = s.opSub := id rfl
@[simp] theorem State.send_opSec (o : Out) : (s.send o).opSec = s.opSec := id rfl
@[simp] theorem State.send_pcycle (o : Out) : (s.send o).pcycle = s.pcycle := id rfl
@[simp] theorem State.send_fresh (o : Out) : (s.send o).fresh = s.fresh := id rfl
@[simp] theorem State.send_flds (o : Out) : (s.send o).flds = s.flds := id rfl
@[simp] theorem State.send_snaps (o : Out) : (s.send o).snaps = s.snaps := id rfl
@[simp] theorem State.send_latches (o : Out) : (s.send o).latches = s.latches := id rfl
@[simp] theorem State.send_rcd (o : Out) : (s.send o).rcd = s.rcd := id rfl
@[simp] theorem State.send_ledger (o : Out) : (s.send o).ledger = s.ledger := id rfl
@[simp] theorem State.send_ledgerFull (o : Out) : (s.send o).ledgerFull = s.ledgerFull := id rfl
@[simp] theorem State.send_channels (o : Out) : (s.send o).channels = s.channels := id rfl
@[simp] theorem State.send_domains (o : Out) : (s.send o).domains = s.domains := id rfl
@[simp] theorem State.send_islands (o : Out) : (s.send o).islands = s.islands := id rfl
@[simp] theorem State.send_vault (o : Out) : (s.send o).vault = s.vault := id rfl
@[simp] theorem State.send_pins (o : Out) : (s.send o).pins = s.pins := id rfl
@[simp] theorem State.send_slots (o : Out) : (s.send o).slots = s.slots := id rfl
@[simp] theorem State.send_preamp (o : Out) : (s.send o).preamp = s.preamp := id rfl
@[simp] theorem State.send_pser (o : Out) : (s.send o).pser = s.pser := id rfl
@[simp] theorem State.send_spins (o : Out) : (s.send o).spins = s.spins := id rfl
@[simp] theorem State.send_acts (o : Out) : (s.send o).acts = s.acts := id rfl
@[simp] theorem State.send_heads (o : Out) : (s.send o).heads = s.heads := id rfl
@[simp] theorem State.send_damper (o : Out) : (s.send o).damper = s.damper := id rfl
@[simp] theorem State.send_mems (o : Out) : (s.send o).mems = s.mems := id rfl
@[simp] theorem State.send_groups (o : Out) : (s.send o).groups = s.groups := id rfl
@[simp] theorem State.send_voids (o : Out) : (s.send o).voids = s.voids := id rfl
@[simp] theorem State.send_unwritten (o : Out) : (s.send o).unwritten = s.unwritten := id rfl
@[simp] theorem State.send_pool (o : Out) : (s.send o).pool = s.pool := id rfl
@[simp] theorem State.send_gates (o : Out) : (s.send o).gates = s.gates := id rfl
@[simp] theorem State.send_pending (o : Out) : (s.send o).pending = s.pending := id rfl
@[simp] theorem State.send_vols (o : Out) : (s.send o).vols = s.vols := id rfl
@[simp] theorem State.send_exts (o : Out) : (s.send o).exts = s.exts := id rfl
@[simp] theorem State.send_shadows (o : Out) : (s.send o).shadows = s.shadows := id rfl
@[simp] theorem State.send_zsets (o : Out) : (s.send o).zsets = s.zsets := id rfl
@[simp] theorem State.send_brows (o : Out) : (s.send o).brows = s.brows := id rfl
@[simp] theorem State.send_excs (o : Out) : (s.send o).excs = s.excs := id rfl
@[simp] theorem State.send_stores (o : Out) : (s.send o).stores = s.stores := id rfl
@[simp] theorem State.send_media (o : Out) : (s.send o).media = s.media := id rfl
@[simp] theorem State.send_jn (o : Out) : (s.send o).jn = s.jn := id rfl
@[simp] theorem State.send_stk (o : Out) : (s.send o).stk = s.stk := id rfl
@[simp] theorem State.send_zrows (o : Out) : (s.send o).zrows = s.zrows := id rfl
@[simp] theorem State.send_bops (o : Out) : (s.send o).bops = s.bops := id rfl
@[simp] theorem State.send_stripe (o : Out) : (s.send o).stripe = s.stripe := id rfl
@[simp] theorem State.send_lost (o : Out) : (s.send o).lost = s.lost := id rfl
@[simp] theorem State.send_recs (o : Out) : (s.send o).recs = s.recs := id rfl
@[simp] theorem State.send_weak (o : Out) : (s.send o).weak = s.weak := id rfl
@[simp] theorem State.send_headRecs (o : Out) : (s.send o).headRecs = s.headRecs := id rfl
@[simp] theorem State.send_sessions (o : Out) : (s.send o).sessions = s.sessions := id rfl
@[simp] theorem State.send_cmds (o : Out) : (s.send o).cmds = s.cmds := id rfl
@[simp] theorem State.send_que (o : Out) : (s.send o).que = s.que := id rfl
@[simp] theorem State.send_addrs (o : Out) : (s.send o).addrs = s.addrs := id rfl
@[simp] theorem State.send_lldp (o : Out) : (s.send o).lldp = s.lldp := id rfl
@[simp] theorem State.send_cache (o : Out) : (s.send o).cache = s.cache := id rfl
@[simp] theorem State.send_engs (o : Out) : (s.send o).engs = s.engs := id rfl
@[simp] theorem State.send_pow (o : Out) : (s.send o).pow = s.pow := id rfl
@[simp] theorem State.send_thm (o : Out) : (s.send o).thm = s.thm := id rfl
@[simp] theorem State.send_cal (o : Out) : (s.send o).cal = s.cal := id rfl
@[simp] theorem State.send_trims (o : Out) : (s.send o).trims = s.trims := id rfl
@[simp] theorem State.send_tst (o : Out) : (s.send o).tst = s.tst := id rfl
@[simp] theorem State.send_knd (o : Out) : (s.send o).knd = s.knd := id rfl

/-! ## State.event -/

@[simp] theorem State.event_run (c o p q r u : Nat) : (s.event c o p q r u).run = s.run := id rfl
@[simp] theorem State.event_now (c o p q r u : Nat) : (s.event c o p q r u).now = s.now := id rfl
@[simp] theorem State.event_opSub (c o p q r u : Nat) : (s.event c o p q r u).opSub = s.opSub := id rfl
@[simp] theorem State.event_opSec (c o p q r u : Nat) : (s.event c o p q r u).opSec = s.opSec := id rfl
@[simp] theorem State.event_pcycle (c o p q r u : Nat) : (s.event c o p q r u).pcycle = s.pcycle := id rfl
@[simp] theorem State.event_fresh (c o p q r u : Nat) : (s.event c o p q r u).fresh = s.fresh := id rfl
@[simp] theorem State.event_flds (c o p q r u : Nat) : (s.event c o p q r u).flds = s.flds := id rfl
@[simp] theorem State.event_snaps (c o p q r u : Nat) : (s.event c o p q r u).snaps = s.snaps := id rfl
@[simp] theorem State.event_latches (c o p q r u : Nat) : (s.event c o p q r u).latches = s.latches := id rfl
@[simp] theorem State.event_ledger (c o p q r u : Nat) : (s.event c o p q r u).ledger = s.ledger := id rfl
@[simp] theorem State.event_ledgerFull (c o p q r u : Nat) : (s.event c o p q r u).ledgerFull = s.ledgerFull := id rfl
@[simp] theorem State.event_channels (c o p q r u : Nat) : (s.event c o p q r u).channels = s.channels := id rfl
@[simp] theorem State.event_domains (c o p q r u : Nat) : (s.event c o p q r u).domains = s.domains := id rfl
@[simp] theorem State.event_islands (c o p q r u : Nat) : (s.event c o p q r u).islands = s.islands := id rfl
@[simp] theorem State.event_vault (c o p q r u : Nat) : (s.event c o p q r u).vault = s.vault := id rfl
@[simp] theorem State.event_pins (c o p q r u : Nat) : (s.event c o p q r u).pins = s.pins := id rfl
@[simp] theorem State.event_slots (c o p q r u : Nat) : (s.event c o p q r u).slots = s.slots := id rfl
@[simp] theorem State.event_preamp (c o p q r u : Nat) : (s.event c o p q r u).preamp = s.preamp := id rfl
@[simp] theorem State.event_pser (c o p q r u : Nat) : (s.event c o p q r u).pser = s.pser := id rfl
@[simp] theorem State.event_spins (c o p q r u : Nat) : (s.event c o p q r u).spins = s.spins := id rfl
@[simp] theorem State.event_acts (c o p q r u : Nat) : (s.event c o p q r u).acts = s.acts := id rfl
@[simp] theorem State.event_heads (c o p q r u : Nat) : (s.event c o p q r u).heads = s.heads := id rfl
@[simp] theorem State.event_damper (c o p q r u : Nat) : (s.event c o p q r u).damper = s.damper := id rfl
@[simp] theorem State.event_mems (c o p q r u : Nat) : (s.event c o p q r u).mems = s.mems := id rfl
@[simp] theorem State.event_groups (c o p q r u : Nat) : (s.event c o p q r u).groups = s.groups := id rfl
@[simp] theorem State.event_voids (c o p q r u : Nat) : (s.event c o p q r u).voids = s.voids := id rfl
@[simp] theorem State.event_unwritten (c o p q r u : Nat) : (s.event c o p q r u).unwritten = s.unwritten := id rfl
@[simp] theorem State.event_pool (c o p q r u : Nat) : (s.event c o p q r u).pool = s.pool := id rfl
@[simp] theorem State.event_gates (c o p q r u : Nat) : (s.event c o p q r u).gates = s.gates := id rfl
@[simp] theorem State.event_outs (c o p q r u : Nat) : (s.event c o p q r u).outs = s.outs := id rfl
@[simp] theorem State.event_pending (c o p q r u : Nat) : (s.event c o p q r u).pending = s.pending := id rfl
@[simp] theorem State.event_vols (c o p q r u : Nat) : (s.event c o p q r u).vols = s.vols := id rfl
@[simp] theorem State.event_exts (c o p q r u : Nat) : (s.event c o p q r u).exts = s.exts := id rfl
@[simp] theorem State.event_shadows (c o p q r u : Nat) : (s.event c o p q r u).shadows = s.shadows := id rfl
@[simp] theorem State.event_zsets (c o p q r u : Nat) : (s.event c o p q r u).zsets = s.zsets := id rfl
@[simp] theorem State.event_brows (c o p q r u : Nat) : (s.event c o p q r u).brows = s.brows := id rfl
@[simp] theorem State.event_excs (c o p q r u : Nat) : (s.event c o p q r u).excs = s.excs := id rfl
@[simp] theorem State.event_stores (c o p q r u : Nat) : (s.event c o p q r u).stores = s.stores := id rfl
@[simp] theorem State.event_media (c o p q r u : Nat) : (s.event c o p q r u).media = s.media := id rfl
@[simp] theorem State.event_jn (c o p q r u : Nat) : (s.event c o p q r u).jn = s.jn := id rfl
@[simp] theorem State.event_stk (c o p q r u : Nat) : (s.event c o p q r u).stk = s.stk := id rfl
@[simp] theorem State.event_zrows (c o p q r u : Nat) : (s.event c o p q r u).zrows = s.zrows := id rfl
@[simp] theorem State.event_bops (c o p q r u : Nat) : (s.event c o p q r u).bops = s.bops := id rfl
@[simp] theorem State.event_stripe (c o p q r u : Nat) : (s.event c o p q r u).stripe = s.stripe := id rfl
@[simp] theorem State.event_lost (c o p q r u : Nat) : (s.event c o p q r u).lost = s.lost := id rfl
@[simp] theorem State.event_recs (c o p q r u : Nat) : (s.event c o p q r u).recs = s.recs := id rfl
@[simp] theorem State.event_weak (c o p q r u : Nat) : (s.event c o p q r u).weak = s.weak := id rfl
@[simp] theorem State.event_headRecs (c o p q r u : Nat) : (s.event c o p q r u).headRecs = s.headRecs := id rfl
@[simp] theorem State.event_sessions (c o p q r u : Nat) : (s.event c o p q r u).sessions = s.sessions := id rfl
@[simp] theorem State.event_cmds (c o p q r u : Nat) : (s.event c o p q r u).cmds = s.cmds := id rfl
@[simp] theorem State.event_que (c o p q r u : Nat) : (s.event c o p q r u).que = s.que := id rfl
@[simp] theorem State.event_addrs (c o p q r u : Nat) : (s.event c o p q r u).addrs = s.addrs := id rfl
@[simp] theorem State.event_lldp (c o p q r u : Nat) : (s.event c o p q r u).lldp = s.lldp := id rfl
@[simp] theorem State.event_cache (c o p q r u : Nat) : (s.event c o p q r u).cache = s.cache := id rfl
@[simp] theorem State.event_engs (c o p q r u : Nat) : (s.event c o p q r u).engs = s.engs := id rfl
@[simp] theorem State.event_pow (c o p q r u : Nat) : (s.event c o p q r u).pow = s.pow := id rfl
@[simp] theorem State.event_thm (c o p q r u : Nat) : (s.event c o p q r u).thm = s.thm := id rfl
@[simp] theorem State.event_cal (c o p q r u : Nat) : (s.event c o p q r u).cal = s.cal := id rfl
@[simp] theorem State.event_trims (c o p q r u : Nat) : (s.event c o p q r u).trims = s.trims := id rfl
@[simp] theorem State.event_tst (c o p q r u : Nat) : (s.event c o p q r u).tst = s.tst := id rfl
@[simp] theorem State.event_knd (c o p q r u : Nat) : (s.event c o p q r u).knd = s.knd := id rfl

/-! ## State.varEvent -/

@[simp] theorem State.varEvent_run (c : Nat) (l : List Nat) : (s.varEvent c l).run = s.run := id rfl
@[simp] theorem State.varEvent_now (c : Nat) (l : List Nat) : (s.varEvent c l).now = s.now := id rfl
@[simp] theorem State.varEvent_opSub (c : Nat) (l : List Nat) : (s.varEvent c l).opSub = s.opSub := id rfl
@[simp] theorem State.varEvent_opSec (c : Nat) (l : List Nat) : (s.varEvent c l).opSec = s.opSec := id rfl
@[simp] theorem State.varEvent_pcycle (c : Nat) (l : List Nat) : (s.varEvent c l).pcycle = s.pcycle := id rfl
@[simp] theorem State.varEvent_fresh (c : Nat) (l : List Nat) : (s.varEvent c l).fresh = s.fresh := id rfl
@[simp] theorem State.varEvent_flds (c : Nat) (l : List Nat) : (s.varEvent c l).flds = s.flds := id rfl
@[simp] theorem State.varEvent_snaps (c : Nat) (l : List Nat) : (s.varEvent c l).snaps = s.snaps := id rfl
@[simp] theorem State.varEvent_latches (c : Nat) (l : List Nat) : (s.varEvent c l).latches = s.latches := id rfl
@[simp] theorem State.varEvent_ledger (c : Nat) (l : List Nat) : (s.varEvent c l).ledger = s.ledger := id rfl
@[simp] theorem State.varEvent_ledgerFull (c : Nat) (l : List Nat) : (s.varEvent c l).ledgerFull = s.ledgerFull := id rfl
@[simp] theorem State.varEvent_channels (c : Nat) (l : List Nat) : (s.varEvent c l).channels = s.channels := id rfl
@[simp] theorem State.varEvent_domains (c : Nat) (l : List Nat) : (s.varEvent c l).domains = s.domains := id rfl
@[simp] theorem State.varEvent_islands (c : Nat) (l : List Nat) : (s.varEvent c l).islands = s.islands := id rfl
@[simp] theorem State.varEvent_vault (c : Nat) (l : List Nat) : (s.varEvent c l).vault = s.vault := id rfl
@[simp] theorem State.varEvent_pins (c : Nat) (l : List Nat) : (s.varEvent c l).pins = s.pins := id rfl
@[simp] theorem State.varEvent_slots (c : Nat) (l : List Nat) : (s.varEvent c l).slots = s.slots := id rfl
@[simp] theorem State.varEvent_preamp (c : Nat) (l : List Nat) : (s.varEvent c l).preamp = s.preamp := id rfl
@[simp] theorem State.varEvent_pser (c : Nat) (l : List Nat) : (s.varEvent c l).pser = s.pser := id rfl
@[simp] theorem State.varEvent_spins (c : Nat) (l : List Nat) : (s.varEvent c l).spins = s.spins := id rfl
@[simp] theorem State.varEvent_acts (c : Nat) (l : List Nat) : (s.varEvent c l).acts = s.acts := id rfl
@[simp] theorem State.varEvent_heads (c : Nat) (l : List Nat) : (s.varEvent c l).heads = s.heads := id rfl
@[simp] theorem State.varEvent_damper (c : Nat) (l : List Nat) : (s.varEvent c l).damper = s.damper := id rfl
@[simp] theorem State.varEvent_mems (c : Nat) (l : List Nat) : (s.varEvent c l).mems = s.mems := id rfl
@[simp] theorem State.varEvent_groups (c : Nat) (l : List Nat) : (s.varEvent c l).groups = s.groups := id rfl
@[simp] theorem State.varEvent_voids (c : Nat) (l : List Nat) : (s.varEvent c l).voids = s.voids := id rfl
@[simp] theorem State.varEvent_unwritten (c : Nat) (l : List Nat) : (s.varEvent c l).unwritten = s.unwritten := id rfl
@[simp] theorem State.varEvent_pool (c : Nat) (l : List Nat) : (s.varEvent c l).pool = s.pool := id rfl
@[simp] theorem State.varEvent_gates (c : Nat) (l : List Nat) : (s.varEvent c l).gates = s.gates := id rfl
@[simp] theorem State.varEvent_outs (c : Nat) (l : List Nat) : (s.varEvent c l).outs = s.outs := id rfl
@[simp] theorem State.varEvent_pending (c : Nat) (l : List Nat) : (s.varEvent c l).pending = s.pending := id rfl
@[simp] theorem State.varEvent_vols (c : Nat) (l : List Nat) : (s.varEvent c l).vols = s.vols := id rfl
@[simp] theorem State.varEvent_exts (c : Nat) (l : List Nat) : (s.varEvent c l).exts = s.exts := id rfl
@[simp] theorem State.varEvent_shadows (c : Nat) (l : List Nat) : (s.varEvent c l).shadows = s.shadows := id rfl
@[simp] theorem State.varEvent_zsets (c : Nat) (l : List Nat) : (s.varEvent c l).zsets = s.zsets := id rfl
@[simp] theorem State.varEvent_brows (c : Nat) (l : List Nat) : (s.varEvent c l).brows = s.brows := id rfl
@[simp] theorem State.varEvent_excs (c : Nat) (l : List Nat) : (s.varEvent c l).excs = s.excs := id rfl
@[simp] theorem State.varEvent_stores (c : Nat) (l : List Nat) : (s.varEvent c l).stores = s.stores := id rfl
@[simp] theorem State.varEvent_media (c : Nat) (l : List Nat) : (s.varEvent c l).media = s.media := id rfl
@[simp] theorem State.varEvent_jn (c : Nat) (l : List Nat) : (s.varEvent c l).jn = s.jn := id rfl
@[simp] theorem State.varEvent_stk (c : Nat) (l : List Nat) : (s.varEvent c l).stk = s.stk := id rfl
@[simp] theorem State.varEvent_zrows (c : Nat) (l : List Nat) : (s.varEvent c l).zrows = s.zrows := id rfl
@[simp] theorem State.varEvent_bops (c : Nat) (l : List Nat) : (s.varEvent c l).bops = s.bops := id rfl
@[simp] theorem State.varEvent_stripe (c : Nat) (l : List Nat) : (s.varEvent c l).stripe = s.stripe := id rfl
@[simp] theorem State.varEvent_lost (c : Nat) (l : List Nat) : (s.varEvent c l).lost = s.lost := id rfl
@[simp] theorem State.varEvent_recs (c : Nat) (l : List Nat) : (s.varEvent c l).recs = s.recs := id rfl
@[simp] theorem State.varEvent_weak (c : Nat) (l : List Nat) : (s.varEvent c l).weak = s.weak := id rfl
@[simp] theorem State.varEvent_headRecs (c : Nat) (l : List Nat) : (s.varEvent c l).headRecs = s.headRecs := id rfl
@[simp] theorem State.varEvent_sessions (c : Nat) (l : List Nat) : (s.varEvent c l).sessions = s.sessions := id rfl
@[simp] theorem State.varEvent_cmds (c : Nat) (l : List Nat) : (s.varEvent c l).cmds = s.cmds := id rfl
@[simp] theorem State.varEvent_que (c : Nat) (l : List Nat) : (s.varEvent c l).que = s.que := id rfl
@[simp] theorem State.varEvent_addrs (c : Nat) (l : List Nat) : (s.varEvent c l).addrs = s.addrs := id rfl
@[simp] theorem State.varEvent_lldp (c : Nat) (l : List Nat) : (s.varEvent c l).lldp = s.lldp := id rfl
@[simp] theorem State.varEvent_cache (c : Nat) (l : List Nat) : (s.varEvent c l).cache = s.cache := id rfl
@[simp] theorem State.varEvent_engs (c : Nat) (l : List Nat) : (s.varEvent c l).engs = s.engs := id rfl
@[simp] theorem State.varEvent_pow (c : Nat) (l : List Nat) : (s.varEvent c l).pow = s.pow := id rfl
@[simp] theorem State.varEvent_thm (c : Nat) (l : List Nat) : (s.varEvent c l).thm = s.thm := id rfl
@[simp] theorem State.varEvent_cal (c : Nat) (l : List Nat) : (s.varEvent c l).cal = s.cal := id rfl
@[simp] theorem State.varEvent_trims (c : Nat) (l : List Nat) : (s.varEvent c l).trims = s.trims := id rfl
@[simp] theorem State.varEvent_tst (c : Nat) (l : List Nat) : (s.varEvent c l).tst = s.tst := id rfl
@[simp] theorem State.varEvent_knd (c : Nat) (l : List Nat) : (s.varEvent c l).knd = s.knd := id rfl

/-! ## State.capture -/

@[simp] theorem State.capture_run (p : Path) (a : Nat) (ws : List Nat) : (s.capture p a ws).run = s.run := id rfl
@[simp] theorem State.capture_now (p : Path) (a : Nat) (ws : List Nat) : (s.capture p a ws).now = s.now := id rfl
@[simp] theorem State.capture_opSub (p : Path) (a : Nat) (ws : List Nat) : (s.capture p a ws).opSub = s.opSub := id rfl
@[simp] theorem State.capture_opSec (p : Path) (a : Nat) (ws : List Nat) : (s.capture p a ws).opSec = s.opSec := id rfl
@[simp] theorem State.capture_pcycle (p : Path) (a : Nat) (ws : List Nat) : (s.capture p a ws).pcycle = s.pcycle := id rfl
@[simp] theorem State.capture_fresh (p : Path) (a : Nat) (ws : List Nat) : (s.capture p a ws).fresh = s.fresh := id rfl
@[simp] theorem State.capture_flds (p : Path) (a : Nat) (ws : List Nat) : (s.capture p a ws).flds = s.flds := id rfl
@[simp] theorem State.capture_latches (p : Path) (a : Nat) (ws : List Nat) : (s.capture p a ws).latches = s.latches := id rfl
@[simp] theorem State.capture_rcd (p : Path) (a : Nat) (ws : List Nat) : (s.capture p a ws).rcd = s.rcd := id rfl
@[simp] theorem State.capture_ledger (p : Path) (a : Nat) (ws : List Nat) : (s.capture p a ws).ledger = s.ledger := id rfl
@[simp] theorem State.capture_ledgerFull (p : Path) (a : Nat) (ws : List Nat) : (s.capture p a ws).ledgerFull = s.ledgerFull := id rfl
@[simp] theorem State.capture_channels (p : Path) (a : Nat) (ws : List Nat) : (s.capture p a ws).channels = s.channels := id rfl
@[simp] theorem State.capture_domains (p : Path) (a : Nat) (ws : List Nat) : (s.capture p a ws).domains = s.domains := id rfl
@[simp] theorem State.capture_islands (p : Path) (a : Nat) (ws : List Nat) : (s.capture p a ws).islands = s.islands := id rfl
@[simp] theorem State.capture_vault (p : Path) (a : Nat) (ws : List Nat) : (s.capture p a ws).vault = s.vault := id rfl
@[simp] theorem State.capture_pins (p : Path) (a : Nat) (ws : List Nat) : (s.capture p a ws).pins = s.pins := id rfl
@[simp] theorem State.capture_slots (p : Path) (a : Nat) (ws : List Nat) : (s.capture p a ws).slots = s.slots := id rfl
@[simp] theorem State.capture_preamp (p : Path) (a : Nat) (ws : List Nat) : (s.capture p a ws).preamp = s.preamp := id rfl
@[simp] theorem State.capture_pser (p : Path) (a : Nat) (ws : List Nat) : (s.capture p a ws).pser = s.pser := id rfl
@[simp] theorem State.capture_spins (p : Path) (a : Nat) (ws : List Nat) : (s.capture p a ws).spins = s.spins := id rfl
@[simp] theorem State.capture_acts (p : Path) (a : Nat) (ws : List Nat) : (s.capture p a ws).acts = s.acts := id rfl
@[simp] theorem State.capture_heads (p : Path) (a : Nat) (ws : List Nat) : (s.capture p a ws).heads = s.heads := id rfl
@[simp] theorem State.capture_damper (p : Path) (a : Nat) (ws : List Nat) : (s.capture p a ws).damper = s.damper := id rfl
@[simp] theorem State.capture_mems (p : Path) (a : Nat) (ws : List Nat) : (s.capture p a ws).mems = s.mems := id rfl
@[simp] theorem State.capture_groups (p : Path) (a : Nat) (ws : List Nat) : (s.capture p a ws).groups = s.groups := id rfl
@[simp] theorem State.capture_voids (p : Path) (a : Nat) (ws : List Nat) : (s.capture p a ws).voids = s.voids := id rfl
@[simp] theorem State.capture_unwritten (p : Path) (a : Nat) (ws : List Nat) : (s.capture p a ws).unwritten = s.unwritten := id rfl
@[simp] theorem State.capture_pool (p : Path) (a : Nat) (ws : List Nat) : (s.capture p a ws).pool = s.pool := id rfl
@[simp] theorem State.capture_gates (p : Path) (a : Nat) (ws : List Nat) : (s.capture p a ws).gates = s.gates := id rfl
@[simp] theorem State.capture_outs (p : Path) (a : Nat) (ws : List Nat) : (s.capture p a ws).outs = s.outs := id rfl
@[simp] theorem State.capture_pending (p : Path) (a : Nat) (ws : List Nat) : (s.capture p a ws).pending = s.pending := id rfl
@[simp] theorem State.capture_vols (p : Path) (a : Nat) (ws : List Nat) : (s.capture p a ws).vols = s.vols := id rfl
@[simp] theorem State.capture_exts (p : Path) (a : Nat) (ws : List Nat) : (s.capture p a ws).exts = s.exts := id rfl
@[simp] theorem State.capture_shadows (p : Path) (a : Nat) (ws : List Nat) : (s.capture p a ws).shadows = s.shadows := id rfl
@[simp] theorem State.capture_zsets (p : Path) (a : Nat) (ws : List Nat) : (s.capture p a ws).zsets = s.zsets := id rfl
@[simp] theorem State.capture_brows (p : Path) (a : Nat) (ws : List Nat) : (s.capture p a ws).brows = s.brows := id rfl
@[simp] theorem State.capture_excs (p : Path) (a : Nat) (ws : List Nat) : (s.capture p a ws).excs = s.excs := id rfl
@[simp] theorem State.capture_stores (p : Path) (a : Nat) (ws : List Nat) : (s.capture p a ws).stores = s.stores := id rfl
@[simp] theorem State.capture_media (p : Path) (a : Nat) (ws : List Nat) : (s.capture p a ws).media = s.media := id rfl
@[simp] theorem State.capture_jn (p : Path) (a : Nat) (ws : List Nat) : (s.capture p a ws).jn = s.jn := id rfl
@[simp] theorem State.capture_stk (p : Path) (a : Nat) (ws : List Nat) : (s.capture p a ws).stk = s.stk := id rfl
@[simp] theorem State.capture_zrows (p : Path) (a : Nat) (ws : List Nat) : (s.capture p a ws).zrows = s.zrows := id rfl
@[simp] theorem State.capture_bops (p : Path) (a : Nat) (ws : List Nat) : (s.capture p a ws).bops = s.bops := id rfl
@[simp] theorem State.capture_stripe (p : Path) (a : Nat) (ws : List Nat) : (s.capture p a ws).stripe = s.stripe := id rfl
@[simp] theorem State.capture_lost (p : Path) (a : Nat) (ws : List Nat) : (s.capture p a ws).lost = s.lost := id rfl
@[simp] theorem State.capture_recs (p : Path) (a : Nat) (ws : List Nat) : (s.capture p a ws).recs = s.recs := id rfl
@[simp] theorem State.capture_weak (p : Path) (a : Nat) (ws : List Nat) : (s.capture p a ws).weak = s.weak := id rfl
@[simp] theorem State.capture_headRecs (p : Path) (a : Nat) (ws : List Nat) : (s.capture p a ws).headRecs = s.headRecs := id rfl
@[simp] theorem State.capture_sessions (p : Path) (a : Nat) (ws : List Nat) : (s.capture p a ws).sessions = s.sessions := id rfl
@[simp] theorem State.capture_cmds (p : Path) (a : Nat) (ws : List Nat) : (s.capture p a ws).cmds = s.cmds := id rfl
@[simp] theorem State.capture_que (p : Path) (a : Nat) (ws : List Nat) : (s.capture p a ws).que = s.que := id rfl
@[simp] theorem State.capture_addrs (p : Path) (a : Nat) (ws : List Nat) : (s.capture p a ws).addrs = s.addrs := id rfl
@[simp] theorem State.capture_lldp (p : Path) (a : Nat) (ws : List Nat) : (s.capture p a ws).lldp = s.lldp := id rfl
@[simp] theorem State.capture_cache (p : Path) (a : Nat) (ws : List Nat) : (s.capture p a ws).cache = s.cache := id rfl
@[simp] theorem State.capture_engs (p : Path) (a : Nat) (ws : List Nat) : (s.capture p a ws).engs = s.engs := id rfl
@[simp] theorem State.capture_pow (p : Path) (a : Nat) (ws : List Nat) : (s.capture p a ws).pow = s.pow := id rfl
@[simp] theorem State.capture_thm (p : Path) (a : Nat) (ws : List Nat) : (s.capture p a ws).thm = s.thm := id rfl
@[simp] theorem State.capture_cal (p : Path) (a : Nat) (ws : List Nat) : (s.capture p a ws).cal = s.cal := id rfl
@[simp] theorem State.capture_trims (p : Path) (a : Nat) (ws : List Nat) : (s.capture p a ws).trims = s.trims := id rfl
@[simp] theorem State.capture_tst (p : Path) (a : Nat) (ws : List Nat) : (s.capture p a ws).tst = s.tst := id rfl
@[simp] theorem State.capture_knd (p : Path) (a : Nat) (ws : List Nat) : (s.capture p a ws).knd = s.knd := id rfl

/-! ## State.settle -/

@[simp] theorem State.settle_run : (s.settle).run = s.run := id rfl
@[simp] theorem State.settle_now : (s.settle).now = s.now := id rfl
@[simp] theorem State.settle_opSub : (s.settle).opSub = s.opSub := id rfl
@[simp] theorem State.settle_opSec : (s.settle).opSec = s.opSec := id rfl
@[simp] theorem State.settle_pcycle : (s.settle).pcycle = s.pcycle := id rfl
@[simp] theorem State.settle_fresh : (s.settle).fresh = s.fresh := id rfl
@[simp] theorem State.settle_flds : (s.settle).flds = s.flds := id rfl
@[simp] theorem State.settle_snaps : (s.settle).snaps = s.snaps := id rfl
@[simp] theorem State.settle_latches : (s.settle).latches = s.latches := id rfl
@[simp] theorem State.settle_rcd : (s.settle).rcd = s.rcd := id rfl
@[simp] theorem State.settle_ledger : (s.settle).ledger = s.ledger := id rfl
@[simp] theorem State.settle_ledgerFull : (s.settle).ledgerFull = s.ledgerFull := id rfl
@[simp] theorem State.settle_channels : (s.settle).channels = s.channels := id rfl
@[simp] theorem State.settle_domains : (s.settle).domains = s.domains := id rfl
@[simp] theorem State.settle_islands : (s.settle).islands = s.islands := id rfl
@[simp] theorem State.settle_vault : (s.settle).vault = s.vault := id rfl
@[simp] theorem State.settle_pins : (s.settle).pins = s.pins := id rfl
@[simp] theorem State.settle_slots : (s.settle).slots = s.slots := id rfl
@[simp] theorem State.settle_preamp : (s.settle).preamp = s.preamp := id rfl
@[simp] theorem State.settle_pser : (s.settle).pser = s.pser := id rfl
@[simp] theorem State.settle_spins : (s.settle).spins = s.spins := id rfl
@[simp] theorem State.settle_acts : (s.settle).acts = s.acts := id rfl
@[simp] theorem State.settle_heads : (s.settle).heads = s.heads := id rfl
@[simp] theorem State.settle_damper : (s.settle).damper = s.damper := id rfl
@[simp] theorem State.settle_mems : (s.settle).mems = s.mems := id rfl
@[simp] theorem State.settle_groups : (s.settle).groups = s.groups := id rfl
@[simp] theorem State.settle_voids : (s.settle).voids = s.voids := id rfl
@[simp] theorem State.settle_unwritten : (s.settle).unwritten = s.unwritten := id rfl
@[simp] theorem State.settle_pool : (s.settle).pool = s.pool := id rfl
@[simp] theorem State.settle_outs : (s.settle).outs = s.outs := id rfl
@[simp] theorem State.settle_pending : (s.settle).pending = s.pending := id rfl
@[simp] theorem State.settle_vols : (s.settle).vols = s.vols := id rfl
@[simp] theorem State.settle_exts : (s.settle).exts = s.exts := id rfl
@[simp] theorem State.settle_shadows : (s.settle).shadows = s.shadows := id rfl
@[simp] theorem State.settle_zsets : (s.settle).zsets = s.zsets := id rfl
@[simp] theorem State.settle_brows : (s.settle).brows = s.brows := id rfl
@[simp] theorem State.settle_excs : (s.settle).excs = s.excs := id rfl
@[simp] theorem State.settle_stores : (s.settle).stores = s.stores := id rfl
@[simp] theorem State.settle_media : (s.settle).media = s.media := id rfl
@[simp] theorem State.settle_jn : (s.settle).jn = s.jn := id rfl
@[simp] theorem State.settle_stk : (s.settle).stk = s.stk := id rfl
@[simp] theorem State.settle_zrows : (s.settle).zrows = s.zrows := id rfl
@[simp] theorem State.settle_bops : (s.settle).bops = s.bops := id rfl
@[simp] theorem State.settle_stripe : (s.settle).stripe = s.stripe := id rfl
@[simp] theorem State.settle_lost : (s.settle).lost = s.lost := id rfl
@[simp] theorem State.settle_recs : (s.settle).recs = s.recs := id rfl
@[simp] theorem State.settle_weak : (s.settle).weak = s.weak := id rfl
@[simp] theorem State.settle_headRecs : (s.settle).headRecs = s.headRecs := id rfl
@[simp] theorem State.settle_sessions : (s.settle).sessions = s.sessions := id rfl
@[simp] theorem State.settle_cmds : (s.settle).cmds = s.cmds := id rfl
@[simp] theorem State.settle_que : (s.settle).que = s.que := id rfl
@[simp] theorem State.settle_addrs : (s.settle).addrs = s.addrs := id rfl
@[simp] theorem State.settle_lldp : (s.settle).lldp = s.lldp := id rfl
@[simp] theorem State.settle_cache : (s.settle).cache = s.cache := id rfl
@[simp] theorem State.settle_engs : (s.settle).engs = s.engs := id rfl
@[simp] theorem State.settle_pow : (s.settle).pow = s.pow := id rfl
@[simp] theorem State.settle_thm : (s.settle).thm = s.thm := id rfl
@[simp] theorem State.settle_cal : (s.settle).cal = s.cal := id rfl
@[simp] theorem State.settle_trims : (s.settle).trims = s.trims := id rfl
@[simp] theorem State.settle_tst : (s.settle).tst = s.tst := id rfl
@[simp] theorem State.settle_knd : (s.settle).knd = s.knd := id rfl

/-! ## State.after -/

@[simp] theorem State.after_run (o : State) : (s.after o).run = s.run := id rfl
@[simp] theorem State.after_now (o : State) : (s.after o).now = s.now := id rfl
@[simp] theorem State.after_opSub (o : State) : (s.after o).opSub = s.opSub := id rfl
@[simp] theorem State.after_opSec (o : State) : (s.after o).opSec = s.opSec := id rfl
@[simp] theorem State.after_pcycle (o : State) : (s.after o).pcycle = s.pcycle := id rfl
@[simp] theorem State.after_fresh (o : State) : (s.after o).fresh = s.fresh := id rfl
@[simp] theorem State.after_flds (o : State) : (s.after o).flds = s.flds := id rfl
@[simp] theorem State.after_snaps (o : State) : (s.after o).snaps = s.snaps := id rfl
@[simp] theorem State.after_latches (o : State) : (s.after o).latches = s.latches := id rfl
@[simp] theorem State.after_rcd (o : State) : (s.after o).rcd = s.rcd := id rfl
@[simp] theorem State.after_ledger (o : State) : (s.after o).ledger = s.ledger := id rfl
@[simp] theorem State.after_ledgerFull (o : State) : (s.after o).ledgerFull = s.ledgerFull := id rfl
@[simp] theorem State.after_channels (o : State) : (s.after o).channels = s.channels := id rfl
@[simp] theorem State.after_domains (o : State) : (s.after o).domains = s.domains := id rfl
@[simp] theorem State.after_islands (o : State) : (s.after o).islands = s.islands := id rfl
@[simp] theorem State.after_vault (o : State) : (s.after o).vault = s.vault := id rfl
@[simp] theorem State.after_pins (o : State) : (s.after o).pins = s.pins := id rfl
@[simp] theorem State.after_slots (o : State) : (s.after o).slots = s.slots := id rfl
@[simp] theorem State.after_preamp (o : State) : (s.after o).preamp = s.preamp := id rfl
@[simp] theorem State.after_pser (o : State) : (s.after o).pser = s.pser := id rfl
@[simp] theorem State.after_spins (o : State) : (s.after o).spins = s.spins := id rfl
@[simp] theorem State.after_acts (o : State) : (s.after o).acts = s.acts := id rfl
@[simp] theorem State.after_heads (o : State) : (s.after o).heads = s.heads := id rfl
@[simp] theorem State.after_damper (o : State) : (s.after o).damper = s.damper := id rfl
@[simp] theorem State.after_mems (o : State) : (s.after o).mems = s.mems := id rfl
@[simp] theorem State.after_groups (o : State) : (s.after o).groups = s.groups := id rfl
@[simp] theorem State.after_voids (o : State) : (s.after o).voids = s.voids := id rfl
@[simp] theorem State.after_unwritten (o : State) : (s.after o).unwritten = s.unwritten := id rfl
@[simp] theorem State.after_pool (o : State) : (s.after o).pool = s.pool := id rfl
@[simp] theorem State.after_outs (o : State) : (s.after o).outs = s.outs := id rfl
@[simp] theorem State.after_vols (o : State) : (s.after o).vols = s.vols := id rfl
@[simp] theorem State.after_exts (o : State) : (s.after o).exts = s.exts := id rfl
@[simp] theorem State.after_shadows (o : State) : (s.after o).shadows = s.shadows := id rfl
@[simp] theorem State.after_zsets (o : State) : (s.after o).zsets = s.zsets := id rfl
@[simp] theorem State.after_brows (o : State) : (s.after o).brows = s.brows := id rfl
@[simp] theorem State.after_excs (o : State) : (s.after o).excs = s.excs := id rfl
@[simp] theorem State.after_stores (o : State) : (s.after o).stores = s.stores := id rfl
@[simp] theorem State.after_media (o : State) : (s.after o).media = s.media := id rfl
@[simp] theorem State.after_jn (o : State) : (s.after o).jn = s.jn := id rfl
@[simp] theorem State.after_stk (o : State) : (s.after o).stk = s.stk := id rfl
@[simp] theorem State.after_zrows (o : State) : (s.after o).zrows = s.zrows := id rfl
@[simp] theorem State.after_bops (o : State) : (s.after o).bops = s.bops := id rfl
@[simp] theorem State.after_stripe (o : State) : (s.after o).stripe = s.stripe := id rfl
@[simp] theorem State.after_lost (o : State) : (s.after o).lost = s.lost := id rfl
@[simp] theorem State.after_recs (o : State) : (s.after o).recs = s.recs := id rfl
@[simp] theorem State.after_weak (o : State) : (s.after o).weak = s.weak := id rfl
@[simp] theorem State.after_headRecs (o : State) : (s.after o).headRecs = s.headRecs := id rfl
@[simp] theorem State.after_sessions (o : State) : (s.after o).sessions = s.sessions := id rfl
@[simp] theorem State.after_cmds (o : State) : (s.after o).cmds = s.cmds := id rfl
@[simp] theorem State.after_que (o : State) : (s.after o).que = s.que := id rfl
@[simp] theorem State.after_addrs (o : State) : (s.after o).addrs = s.addrs := id rfl
@[simp] theorem State.after_lldp (o : State) : (s.after o).lldp = s.lldp := id rfl
@[simp] theorem State.after_cache (o : State) : (s.after o).cache = s.cache := id rfl
@[simp] theorem State.after_engs (o : State) : (s.after o).engs = s.engs := id rfl
@[simp] theorem State.after_pow (o : State) : (s.after o).pow = s.pow := id rfl
@[simp] theorem State.after_thm (o : State) : (s.after o).thm = s.thm := id rfl
@[simp] theorem State.after_cal (o : State) : (s.after o).cal = s.cal := id rfl
@[simp] theorem State.after_trims (o : State) : (s.after o).trims = s.trims := id rfl
@[simp] theorem State.after_tst (o : State) : (s.after o).tst = s.tst := id rfl
@[simp] theorem State.after_knd (o : State) : (s.after o).knd = s.knd := id rfl

/-! ## What the accessors read after an update that does not write them -/

@[simp] theorem State.slot_set (f : Fld) (v : Nat) (j : Nat) : (s.set f v).slot j = s.slot j := id rfl
@[simp] theorem State.spin_set (f : Fld) (v : Nat) (j : Nat) : (s.set f v).spin j = s.spin j := id rfl
@[simp] theorem State.actu_set (f : Fld) (v : Nat) (j : Nat) : (s.set f v).actu j = s.actu j := id rfl
@[simp] theorem State.head_set (f : Fld) (v : Nat) (j : Nat) : (s.set f v).head j = s.head j := id rfl
@[simp] theorem State.loop_set (f : Fld) (v : Nat) (j : Nat) : (s.set f v).loop j = s.loop j := id rfl
@[simp] theorem State.island_set (f : Fld) (v : Nat) (j : Nat) : (s.set f v).island j = s.island j := id rfl
@[simp] theorem State.domain_set (f : Fld) (v : Nat) (j e : Nat) : (s.set f v).domain j e = s.domain j e := id rfl
@[simp] theorem State.channel_set (f : Fld) (v : Nat) (j e : Nat) : (s.set f v).channel j e = s.channel j e := id rfl
@[simp] theorem State.mem_set (f : Fld) (v : Nat) (j : Nat) : (s.set f v).mem j = s.mem j := id rfl
@[simp] theorem State.isCut_set (f : Fld) (v : Nat)  : (s.set f v).isCut = s.isCut := id rfl
@[simp] theorem State.get_bump  (g : Fld) : (s.bump).get g = s.get g := id rfl
@[simp] theorem State.slot_bump  (j : Nat) : (s.bump).slot j = s.slot j := id rfl
@[simp] theorem State.spin_bump  (j : Nat) : (s.bump).spin j = s.spin j := id rfl
@[simp] theorem State.actu_bump  (j : Nat) : (s.bump).actu j = s.actu j := id rfl
@[simp] theorem State.head_bump  (j : Nat) : (s.bump).head j = s.head j := id rfl
@[simp] theorem State.loop_bump  (j : Nat) : (s.bump).loop j = s.loop j := id rfl
@[simp] theorem State.island_bump  (j : Nat) : (s.bump).island j = s.island j := id rfl
@[simp] theorem State.domain_bump  (j e : Nat) : (s.bump).domain j e = s.domain j e := id rfl
@[simp] theorem State.channel_bump  (j e : Nat) : (s.bump).channel j e = s.channel j e := id rfl
@[simp] theorem State.mem_bump  (j : Nat) : (s.bump).mem j = s.mem j := id rfl
@[simp] theorem State.isCut_bump   : (s.bump).isCut = s.isCut := id rfl
@[simp] theorem State.get_setSlot (i : Nat) (x : SlotSt) (g : Fld) : (s.setSlot i x).get g = s.get g := id rfl
@[simp] theorem State.spin_setSlot (i : Nat) (x : SlotSt) (j : Nat) : (s.setSlot i x).spin j = s.spin j := id rfl
@[simp] theorem State.actu_setSlot (i : Nat) (x : SlotSt) (j : Nat) : (s.setSlot i x).actu j = s.actu j := id rfl
@[simp] theorem State.head_setSlot (i : Nat) (x : SlotSt) (j : Nat) : (s.setSlot i x).head j = s.head j := id rfl
@[simp] theorem State.loop_setSlot (i : Nat) (x : SlotSt) (j : Nat) : (s.setSlot i x).loop j = s.loop j := id rfl
@[simp] theorem State.island_setSlot (i : Nat) (x : SlotSt) (j : Nat) : (s.setSlot i x).island j = s.island j := id rfl
@[simp] theorem State.domain_setSlot (i : Nat) (x : SlotSt) (j e : Nat) : (s.setSlot i x).domain j e = s.domain j e := id rfl
@[simp] theorem State.channel_setSlot (i : Nat) (x : SlotSt) (j e : Nat) : (s.setSlot i x).channel j e = s.channel j e := id rfl
@[simp] theorem State.mem_setSlot (i : Nat) (x : SlotSt) (j : Nat) : (s.setSlot i x).mem j = s.mem j := id rfl
@[simp] theorem State.isCut_setSlot (i : Nat) (x : SlotSt)  : (s.setSlot i x).isCut = s.isCut := id rfl
@[simp] theorem State.get_setSpin (i : Nat) (x : Spindle) (g : Fld) : (s.setSpin i x).get g = s.get g := id rfl
@[simp] theorem State.slot_setSpin (i : Nat) (x : Spindle) (j : Nat) : (s.setSpin i x).slot j = s.slot j := id rfl
@[simp] theorem State.actu_setSpin (i : Nat) (x : Spindle) (j : Nat) : (s.setSpin i x).actu j = s.actu j := id rfl
@[simp] theorem State.head_setSpin (i : Nat) (x : Spindle) (j : Nat) : (s.setSpin i x).head j = s.head j := id rfl
@[simp] theorem State.loop_setSpin (i : Nat) (x : Spindle) (j : Nat) : (s.setSpin i x).loop j = s.loop j := id rfl
@[simp] theorem State.island_setSpin (i : Nat) (x : Spindle) (j : Nat) : (s.setSpin i x).island j = s.island j := id rfl
@[simp] theorem State.domain_setSpin (i : Nat) (x : Spindle) (j e : Nat) : (s.setSpin i x).domain j e = s.domain j e := id rfl
@[simp] theorem State.channel_setSpin (i : Nat) (x : Spindle) (j e : Nat) : (s.setSpin i x).channel j e = s.channel j e := id rfl
@[simp] theorem State.mem_setSpin (i : Nat) (x : Spindle) (j : Nat) : (s.setSpin i x).mem j = s.mem j := id rfl
@[simp] theorem State.isCut_setSpin (i : Nat) (x : Spindle)  : (s.setSpin i x).isCut = s.isCut := id rfl
@[simp] theorem State.get_setActu (i : Nat) (x : Actu) (g : Fld) : (s.setActu i x).get g = s.get g := id rfl
@[simp] theorem State.slot_setActu (i : Nat) (x : Actu) (j : Nat) : (s.setActu i x).slot j = s.slot j := id rfl
@[simp] theorem State.spin_setActu (i : Nat) (x : Actu) (j : Nat) : (s.setActu i x).spin j = s.spin j := id rfl
@[simp] theorem State.head_setActu (i : Nat) (x : Actu) (j : Nat) : (s.setActu i x).head j = s.head j := id rfl
@[simp] theorem State.loop_setActu (i : Nat) (x : Actu) (j : Nat) : (s.setActu i x).loop j = s.loop j := id rfl
@[simp] theorem State.island_setActu (i : Nat) (x : Actu) (j : Nat) : (s.setActu i x).island j = s.island j := id rfl
@[simp] theorem State.domain_setActu (i : Nat) (x : Actu) (j e : Nat) : (s.setActu i x).domain j e = s.domain j e := id rfl
@[simp] theorem State.channel_setActu (i : Nat) (x : Actu) (j e : Nat) : (s.setActu i x).channel j e = s.channel j e := id rfl
@[simp] theorem State.mem_setActu (i : Nat) (x : Actu) (j : Nat) : (s.setActu i x).mem j = s.mem j := id rfl
@[simp] theorem State.isCut_setActu (i : Nat) (x : Actu)  : (s.setActu i x).isCut = s.isCut := id rfl
@[simp] theorem State.get_setHead (i : Nat) (x : HeadSt) (g : Fld) : (s.setHead i x).get g = s.get g := id rfl
@[simp] theorem State.slot_setHead (i : Nat) (x : HeadSt) (j : Nat) : (s.setHead i x).slot j = s.slot j := id rfl
@[simp] theorem State.spin_setHead (i : Nat) (x : HeadSt) (j : Nat) : (s.setHead i x).spin j = s.spin j := id rfl
@[simp] theorem State.actu_setHead (i : Nat) (x : HeadSt) (j : Nat) : (s.setHead i x).actu j = s.actu j := id rfl
@[simp] theorem State.loop_setHead (i : Nat) (x : HeadSt) (j : Nat) : (s.setHead i x).loop j = s.loop j := id rfl
@[simp] theorem State.island_setHead (i : Nat) (x : HeadSt) (j : Nat) : (s.setHead i x).island j = s.island j := id rfl
@[simp] theorem State.domain_setHead (i : Nat) (x : HeadSt) (j e : Nat) : (s.setHead i x).domain j e = s.domain j e := id rfl
@[simp] theorem State.channel_setHead (i : Nat) (x : HeadSt) (j e : Nat) : (s.setHead i x).channel j e = s.channel j e := id rfl
@[simp] theorem State.mem_setHead (i : Nat) (x : HeadSt) (j : Nat) : (s.setHead i x).mem j = s.mem j := id rfl
@[simp] theorem State.isCut_setHead (i : Nat) (x : HeadSt)  : (s.setHead i x).isCut = s.isCut := id rfl
@[simp] theorem State.get_setLoop (i : Nat) (x : Loop) (g : Fld) : (s.setLoop i x).get g = s.get g := id rfl
@[simp] theorem State.slot_setLoop (i : Nat) (x : Loop) (j : Nat) : (s.setLoop i x).slot j = s.slot j := id rfl
@[simp] theorem State.spin_setLoop (i : Nat) (x : Loop) (j : Nat) : (s.setLoop i x).spin j = s.spin j := id rfl
@[simp] theorem State.actu_setLoop (i : Nat) (x : Loop) (j : Nat) : (s.setLoop i x).actu j = s.actu j := id rfl
@[simp] theorem State.head_setLoop (i : Nat) (x : Loop) (j : Nat) : (s.setLoop i x).head j = s.head j := id rfl
@[simp] theorem State.island_setLoop (i : Nat) (x : Loop) (j : Nat) : (s.setLoop i x).island j = s.island j := id rfl
@[simp] theorem State.domain_setLoop (i : Nat) (x : Loop) (j e : Nat) : (s.setLoop i x).domain j e = s.domain j e := id rfl
@[simp] theorem State.channel_setLoop (i : Nat) (x : Loop) (j e : Nat) : (s.setLoop i x).channel j e = s.channel j e := id rfl
@[simp] theorem State.mem_setLoop (i : Nat) (x : Loop) (j : Nat) : (s.setLoop i x).mem j = s.mem j := id rfl
@[simp] theorem State.isCut_setLoop (i : Nat) (x : Loop)  : (s.setLoop i x).isCut = s.isCut := id rfl
@[simp] theorem State.get_setIsland (i : Nat) (x : IslandSt) (g : Fld) : (s.setIsland i x).get g = s.get g := id rfl
@[simp] theorem State.slot_setIsland (i : Nat) (x : IslandSt) (j : Nat) : (s.setIsland i x).slot j = s.slot j := id rfl
@[simp] theorem State.spin_setIsland (i : Nat) (x : IslandSt) (j : Nat) : (s.setIsland i x).spin j = s.spin j := id rfl
@[simp] theorem State.actu_setIsland (i : Nat) (x : IslandSt) (j : Nat) : (s.setIsland i x).actu j = s.actu j := id rfl
@[simp] theorem State.head_setIsland (i : Nat) (x : IslandSt) (j : Nat) : (s.setIsland i x).head j = s.head j := id rfl
@[simp] theorem State.loop_setIsland (i : Nat) (x : IslandSt) (j : Nat) : (s.setIsland i x).loop j = s.loop j := id rfl
@[simp] theorem State.domain_setIsland (i : Nat) (x : IslandSt) (j e : Nat) : (s.setIsland i x).domain j e = s.domain j e := id rfl
@[simp] theorem State.channel_setIsland (i : Nat) (x : IslandSt) (j e : Nat) : (s.setIsland i x).channel j e = s.channel j e := id rfl
@[simp] theorem State.mem_setIsland (i : Nat) (x : IslandSt) (j : Nat) : (s.setIsland i x).mem j = s.mem j := id rfl
@[simp] theorem State.isCut_setIsland (i : Nat) (x : IslandSt)  : (s.setIsland i x).isCut = s.isCut := id rfl
@[simp] theorem State.get_setDomain (r i : Nat) (x : Domain) (g : Fld) : (s.setDomain r i x).get g = s.get g := id rfl
@[simp] theorem State.slot_setDomain (r i : Nat) (x : Domain) (j : Nat) : (s.setDomain r i x).slot j = s.slot j := id rfl
@[simp] theorem State.spin_setDomain (r i : Nat) (x : Domain) (j : Nat) : (s.setDomain r i x).spin j = s.spin j := id rfl
@[simp] theorem State.actu_setDomain (r i : Nat) (x : Domain) (j : Nat) : (s.setDomain r i x).actu j = s.actu j := id rfl
@[simp] theorem State.head_setDomain (r i : Nat) (x : Domain) (j : Nat) : (s.setDomain r i x).head j = s.head j := id rfl
@[simp] theorem State.loop_setDomain (r i : Nat) (x : Domain) (j : Nat) : (s.setDomain r i x).loop j = s.loop j := id rfl
@[simp] theorem State.island_setDomain (r i : Nat) (x : Domain) (j : Nat) : (s.setDomain r i x).island j = s.island j := id rfl
@[simp] theorem State.channel_setDomain (r i : Nat) (x : Domain) (j e : Nat) : (s.setDomain r i x).channel j e = s.channel j e := id rfl
@[simp] theorem State.mem_setDomain (r i : Nat) (x : Domain) (j : Nat) : (s.setDomain r i x).mem j = s.mem j := id rfl
@[simp] theorem State.isCut_setDomain (r i : Nat) (x : Domain)  : (s.setDomain r i x).isCut = s.isCut := id rfl
@[simp] theorem State.get_setChannel (k i : Nat) (x : Channel) (g : Fld) : (s.setChannel k i x).get g = s.get g := id rfl
@[simp] theorem State.slot_setChannel (k i : Nat) (x : Channel) (j : Nat) : (s.setChannel k i x).slot j = s.slot j := id rfl
@[simp] theorem State.spin_setChannel (k i : Nat) (x : Channel) (j : Nat) : (s.setChannel k i x).spin j = s.spin j := id rfl
@[simp] theorem State.actu_setChannel (k i : Nat) (x : Channel) (j : Nat) : (s.setChannel k i x).actu j = s.actu j := id rfl
@[simp] theorem State.head_setChannel (k i : Nat) (x : Channel) (j : Nat) : (s.setChannel k i x).head j = s.head j := id rfl
@[simp] theorem State.loop_setChannel (k i : Nat) (x : Channel) (j : Nat) : (s.setChannel k i x).loop j = s.loop j := id rfl
@[simp] theorem State.island_setChannel (k i : Nat) (x : Channel) (j : Nat) : (s.setChannel k i x).island j = s.island j := id rfl
@[simp] theorem State.domain_setChannel (k i : Nat) (x : Channel) (j e : Nat) : (s.setChannel k i x).domain j e = s.domain j e := id rfl
@[simp] theorem State.mem_setChannel (k i : Nat) (x : Channel) (j : Nat) : (s.setChannel k i x).mem j = s.mem j := id rfl
@[simp] theorem State.isCut_setChannel (k i : Nat) (x : Channel)  : (s.setChannel k i x).isCut = s.isCut := id rfl
@[simp] theorem State.get_setMem (i : Nat) (x : MemberSt) (g : Fld) : (s.setMem i x).get g = s.get g := id rfl
@[simp] theorem State.slot_setMem (i : Nat) (x : MemberSt) (j : Nat) : (s.setMem i x).slot j = s.slot j := id rfl
@[simp] theorem State.spin_setMem (i : Nat) (x : MemberSt) (j : Nat) : (s.setMem i x).spin j = s.spin j := id rfl
@[simp] theorem State.actu_setMem (i : Nat) (x : MemberSt) (j : Nat) : (s.setMem i x).actu j = s.actu j := id rfl
@[simp] theorem State.head_setMem (i : Nat) (x : MemberSt) (j : Nat) : (s.setMem i x).head j = s.head j := id rfl
@[simp] theorem State.loop_setMem (i : Nat) (x : MemberSt) (j : Nat) : (s.setMem i x).loop j = s.loop j := id rfl
@[simp] theorem State.island_setMem (i : Nat) (x : MemberSt) (j : Nat) : (s.setMem i x).island j = s.island j := id rfl
@[simp] theorem State.domain_setMem (i : Nat) (x : MemberSt) (j e : Nat) : (s.setMem i x).domain j e = s.domain j e := id rfl
@[simp] theorem State.channel_setMem (i : Nat) (x : MemberSt) (j e : Nat) : (s.setMem i x).channel j e = s.channel j e := id rfl
@[simp] theorem State.isCut_setMem (i : Nat) (x : MemberSt)  : (s.setMem i x).isCut = s.isCut := id rfl
@[simp] theorem State.get_send (o : Out) (g : Fld) : (s.send o).get g = s.get g := id rfl
@[simp] theorem State.slot_send (o : Out) (j : Nat) : (s.send o).slot j = s.slot j := id rfl
@[simp] theorem State.spin_send (o : Out) (j : Nat) : (s.send o).spin j = s.spin j := id rfl
@[simp] theorem State.actu_send (o : Out) (j : Nat) : (s.send o).actu j = s.actu j := id rfl
@[simp] theorem State.head_send (o : Out) (j : Nat) : (s.send o).head j = s.head j := id rfl
@[simp] theorem State.loop_send (o : Out) (j : Nat) : (s.send o).loop j = s.loop j := id rfl
@[simp] theorem State.island_send (o : Out) (j : Nat) : (s.send o).island j = s.island j := id rfl
@[simp] theorem State.domain_send (o : Out) (j e : Nat) : (s.send o).domain j e = s.domain j e := id rfl
@[simp] theorem State.channel_send (o : Out) (j e : Nat) : (s.send o).channel j e = s.channel j e := id rfl
@[simp] theorem State.mem_send (o : Out) (j : Nat) : (s.send o).mem j = s.mem j := id rfl
@[simp] theorem State.isCut_send (o : Out)  : (s.send o).isCut = s.isCut := id rfl
@[simp] theorem State.get_event (c o p q r u : Nat) (g : Fld) : (s.event c o p q r u).get g = s.get g := id rfl
@[simp] theorem State.slot_event (c o p q r u : Nat) (j : Nat) : (s.event c o p q r u).slot j = s.slot j := id rfl
@[simp] theorem State.spin_event (c o p q r u : Nat) (j : Nat) : (s.event c o p q r u).spin j = s.spin j := id rfl
@[simp] theorem State.actu_event (c o p q r u : Nat) (j : Nat) : (s.event c o p q r u).actu j = s.actu j := id rfl
@[simp] theorem State.head_event (c o p q r u : Nat) (j : Nat) : (s.event c o p q r u).head j = s.head j := id rfl
@[simp] theorem State.loop_event (c o p q r u : Nat) (j : Nat) : (s.event c o p q r u).loop j = s.loop j := id rfl
@[simp] theorem State.island_event (c o p q r u : Nat) (j : Nat) : (s.event c o p q r u).island j = s.island j := id rfl
@[simp] theorem State.domain_event (c o p q r u : Nat) (j e : Nat) : (s.event c o p q r u).domain j e = s.domain j e := id rfl
@[simp] theorem State.channel_event (c o p q r u : Nat) (j e : Nat) : (s.event c o p q r u).channel j e = s.channel j e := id rfl
@[simp] theorem State.mem_event (c o p q r u : Nat) (j : Nat) : (s.event c o p q r u).mem j = s.mem j := id rfl
@[simp] theorem State.isCut_event (c o p q r u : Nat)  : (s.event c o p q r u).isCut = s.isCut := id rfl
@[simp] theorem State.get_varEvent (c : Nat) (l : List Nat) (g : Fld) : (s.varEvent c l).get g = s.get g := id rfl
@[simp] theorem State.slot_varEvent (c : Nat) (l : List Nat) (j : Nat) : (s.varEvent c l).slot j = s.slot j := id rfl
@[simp] theorem State.spin_varEvent (c : Nat) (l : List Nat) (j : Nat) : (s.varEvent c l).spin j = s.spin j := id rfl
@[simp] theorem State.actu_varEvent (c : Nat) (l : List Nat) (j : Nat) : (s.varEvent c l).actu j = s.actu j := id rfl
@[simp] theorem State.head_varEvent (c : Nat) (l : List Nat) (j : Nat) : (s.varEvent c l).head j = s.head j := id rfl
@[simp] theorem State.loop_varEvent (c : Nat) (l : List Nat) (j : Nat) : (s.varEvent c l).loop j = s.loop j := id rfl
@[simp] theorem State.island_varEvent (c : Nat) (l : List Nat) (j : Nat) : (s.varEvent c l).island j = s.island j := id rfl
@[simp] theorem State.domain_varEvent (c : Nat) (l : List Nat) (j e : Nat) : (s.varEvent c l).domain j e = s.domain j e := id rfl
@[simp] theorem State.channel_varEvent (c : Nat) (l : List Nat) (j e : Nat) : (s.varEvent c l).channel j e = s.channel j e := id rfl
@[simp] theorem State.mem_varEvent (c : Nat) (l : List Nat) (j : Nat) : (s.varEvent c l).mem j = s.mem j := id rfl
@[simp] theorem State.isCut_varEvent (c : Nat) (l : List Nat)  : (s.varEvent c l).isCut = s.isCut := id rfl
@[simp] theorem State.get_capture (p : Path) (a : Nat) (ws : List Nat) (g : Fld) : (s.capture p a ws).get g = s.get g := id rfl
@[simp] theorem State.slot_capture (p : Path) (a : Nat) (ws : List Nat) (j : Nat) : (s.capture p a ws).slot j = s.slot j := id rfl
@[simp] theorem State.spin_capture (p : Path) (a : Nat) (ws : List Nat) (j : Nat) : (s.capture p a ws).spin j = s.spin j := id rfl
@[simp] theorem State.actu_capture (p : Path) (a : Nat) (ws : List Nat) (j : Nat) : (s.capture p a ws).actu j = s.actu j := id rfl
@[simp] theorem State.head_capture (p : Path) (a : Nat) (ws : List Nat) (j : Nat) : (s.capture p a ws).head j = s.head j := id rfl
@[simp] theorem State.loop_capture (p : Path) (a : Nat) (ws : List Nat) (j : Nat) : (s.capture p a ws).loop j = s.loop j := id rfl
@[simp] theorem State.island_capture (p : Path) (a : Nat) (ws : List Nat) (j : Nat) : (s.capture p a ws).island j = s.island j := id rfl
@[simp] theorem State.domain_capture (p : Path) (a : Nat) (ws : List Nat) (j e : Nat) : (s.capture p a ws).domain j e = s.domain j e := id rfl
@[simp] theorem State.channel_capture (p : Path) (a : Nat) (ws : List Nat) (j e : Nat) : (s.capture p a ws).channel j e = s.channel j e := id rfl
@[simp] theorem State.mem_capture (p : Path) (a : Nat) (ws : List Nat) (j : Nat) : (s.capture p a ws).mem j = s.mem j := id rfl
@[simp] theorem State.isCut_capture (p : Path) (a : Nat) (ws : List Nat)  : (s.capture p a ws).isCut = s.isCut := id rfl
@[simp] theorem State.get_settle  (g : Fld) : (s.settle).get g = s.get g := id rfl
@[simp] theorem State.slot_settle  (j : Nat) : (s.settle).slot j = s.slot j := id rfl
@[simp] theorem State.spin_settle  (j : Nat) : (s.settle).spin j = s.spin j := id rfl
@[simp] theorem State.actu_settle  (j : Nat) : (s.settle).actu j = s.actu j := id rfl
@[simp] theorem State.head_settle  (j : Nat) : (s.settle).head j = s.head j := id rfl
@[simp] theorem State.loop_settle  (j : Nat) : (s.settle).loop j = s.loop j := id rfl
@[simp] theorem State.island_settle  (j : Nat) : (s.settle).island j = s.island j := id rfl
@[simp] theorem State.domain_settle  (j e : Nat) : (s.settle).domain j e = s.domain j e := id rfl
@[simp] theorem State.channel_settle  (j e : Nat) : (s.settle).channel j e = s.channel j e := id rfl
@[simp] theorem State.mem_settle  (j : Nat) : (s.settle).mem j = s.mem j := id rfl
@[simp] theorem State.isCut_settle   : (s.settle).isCut = s.isCut := id rfl
@[simp] theorem State.get_after (o : State) (g : Fld) : (s.after o).get g = s.get g := id rfl
@[simp] theorem State.slot_after (o : State) (j : Nat) : (s.after o).slot j = s.slot j := id rfl
@[simp] theorem State.spin_after (o : State) (j : Nat) : (s.after o).spin j = s.spin j := id rfl
@[simp] theorem State.actu_after (o : State) (j : Nat) : (s.after o).actu j = s.actu j := id rfl
@[simp] theorem State.head_after (o : State) (j : Nat) : (s.after o).head j = s.head j := id rfl
@[simp] theorem State.loop_after (o : State) (j : Nat) : (s.after o).loop j = s.loop j := id rfl
@[simp] theorem State.island_after (o : State) (j : Nat) : (s.after o).island j = s.island j := id rfl
@[simp] theorem State.domain_after (o : State) (j e : Nat) : (s.after o).domain j e = s.domain j e := id rfl
@[simp] theorem State.channel_after (o : State) (j e : Nat) : (s.after o).channel j e = s.channel j e := id rfl
@[simp] theorem State.mem_after (o : State) (j : Nat) : (s.after o).mem j = s.mem j := id rfl
@[simp] theorem State.isCut_after (o : State)  : (s.after o).isCut = s.isCut := id rfl
@[simp] theorem State.host_set (f : Fld) (v : Nat) : hostView (s.set f v) = hostView s := id rfl
@[simp] theorem State.host_bump : hostView (s.bump) = hostView s := id rfl
@[simp] theorem State.host_setSlot (i : Nat) (x : SlotSt) : hostView (s.setSlot i x) = hostView s := id rfl
@[simp] theorem State.host_setSpin (i : Nat) (x : Spindle) : hostView (s.setSpin i x) = hostView s := id rfl
@[simp] theorem State.host_setActu (i : Nat) (x : Actu) : hostView (s.setActu i x) = hostView s := id rfl
@[simp] theorem State.host_setHead (i : Nat) (x : HeadSt) : hostView (s.setHead i x) = hostView s := id rfl
@[simp] theorem State.host_setLoop (i : Nat) (x : Loop) : hostView (s.setLoop i x) = hostView s := id rfl
@[simp] theorem State.host_setIsland (i : Nat) (x : IslandSt) : hostView (s.setIsland i x) = hostView s := id rfl
@[simp] theorem State.host_setDomain (r i : Nat) (x : Domain) : hostView (s.setDomain r i x) = hostView s := id rfl
@[simp] theorem State.host_setChannel (k i : Nat) (x : Channel) : hostView (s.setChannel k i x) = hostView s := id rfl
@[simp] theorem State.host_setMem (i : Nat) (x : MemberSt) : hostView (s.setMem i x) = hostView s := id rfl
@[simp] theorem State.host_send (o : Out) : hostView (s.send o) = hostView s := id rfl
@[simp] theorem State.host_event (c o p q r u : Nat) : hostView (s.event c o p q r u) = hostView s := id rfl
@[simp] theorem State.host_varEvent (c : Nat) (l : List Nat) : hostView (s.varEvent c l) = hostView s := id rfl
@[simp] theorem State.host_capture (p : Path) (a : Nat) (ws : List Nat) : hostView (s.capture p a ws) = hostView s := id rfl
@[simp] theorem State.host_settle : hostView (s.settle) = hostView s := id rfl
@[simp] theorem State.host_after (o : State) : hostView (s.after o) = hostView s := id rfl

end Sys2Proof.Machine
end

