-- ==== Sys2Proof/Laws/Ops.lean ====
section
/-! SUPPORT. What the shared operations do, said once: sparse tables, the register file, the accessors of the typed tables,
folds over elements, and the outcome of a command. -/

namespace Sys2Proof.Machine

/-! ## Sparse tables -/

section Tables
variable {α : Type}

@[simp] theorem tget_nil (k : Nat) : tget k ([] : Tbl α) = none := rfl

/-- What a table reads at any key after a write at one key. -/
theorem tget_tset (j k : Nat) (v : α) (t : Tbl α) : tget j (tset k v t) = if j = k then some v else tget j t := by
  induction t with
  | nil => simp [tset, tget]
  | cons e t ih =>
    obtain ⟨k', v'⟩ := e
    simp only [tset]
    split
    · subst_vars; simp only [tget]; split <;> simp_all
    · split
      · simp only [tget]
      · simp only [tget, ih]; split <;> split <;> simp_all

@[simp] theorem tget_tset_same (k : Nat) (v : α) (t : Tbl α) : tget k (tset k v t) = some v := by simp [tget_tset]

theorem tget_tset_ne {j k : Nat} (h : j ≠ k) (v : α) (t : Tbl α) : tget j (tset k v t) = tget j t := by
  simp [tget_tset, h]

/-- What a table reads at any key after a removal. -/
theorem tget_tdel (j k : Nat) (t : Tbl α) : tget j (tdel k t) = if j = k then none else tget j t := by
  induction t with
  | nil => simp [tdel, tget]
  | cons e t ih =>
    obtain ⟨k', v'⟩ := e
    simp only [tdel]
    split
    · subst_vars; simp only [tget, ih]; split <;> simp_all
    · simp only [tget, ih]; split <;> split <;> simp_all

@[simp] theorem tget_tdel_same (k : Nat) (t : Tbl α) : tget k (tdel k t) = none := by simp [tget_tdel]

theorem tgetD_tset (j k : Nat) (d v : α) (t : Tbl α) : tgetD j d (tset k v t) = if j = k then v else tgetD j d t := by
  simp only [tgetD, tget_tset]; split <;> rfl

@[simp] theorem tgetD_tset_same (k : Nat) (d v : α) (t : Tbl α) : tgetD k d (tset k v t) = v := by simp [tgetD_tset]

theorem tgetD_tdel (j k : Nat) (d : α) (t : Tbl α) : tgetD j d (tdel k t) = if j = k then d else tgetD j d t := by
  simp only [tgetD, tget_tdel]; split <;> rfl

@[simp] theorem tgetD_nil (k : Nat) (d : α) : tgetD k d ([] : Tbl α) = d := rfl

/-- A table whose keys rise has no entry below its first key. -/
theorem rising_le {k k' : Nat} {v v' : α} {t : Tbl α} (h : rising ((k, v) :: t) = true) (m : (k', v') ∈ t) : k < k' := by
  induction t generalizing k v with
  | nil => cases m
  | cons e t ih =>
    obtain ⟨a, b⟩ := e
    simp only [rising, Bool.and_eq_true, decide_eq_true_eq] at h
    rcases List.mem_cons.1 m with m | m
    · cases m; exact h.1
    · exact Nat.lt_trans h.1 (ih h.2 m)

theorem rising_tail {e : Nat × α} {t : Tbl α} (h : rising (e :: t) = true) : rising t = true := by
  cases t with
  | nil => rfl
  | cons a t => simp only [rising, Bool.and_eq_true] at h; exact h.2

theorem rising_cons {k : Nat} {v : α} {t : Tbl α} (h : rising t = true) (hk : ∀ e ∈ t, k < e.1) :
    rising ((k, v) :: t) = true := by
  cases t with
  | nil => rfl
  | cons a t => simp only [rising, Bool.and_eq_true, decide_eq_true_eq]; exact ⟨hk a (by simp), h⟩

theorem mem_tset {k : Nat} {v : α} {t : Tbl α} {e : Nat × α} (h : e ∈ tset k v t) : e = (k, v) ∨ e ∈ t := by
  induction t with
  | nil => simpa [tset] using h
  | cons a t ih =>
    simp only [tset] at h
    split at h
    · rcases List.mem_cons.1 h with h | h <;> simp_all
    · split at h
      · simpa using h
      · rcases List.mem_cons.1 h with h | h
        · simp_all
        · rcases ih h with h | h <;> simp_all

theorem mem_tdel {k : Nat} {t : Tbl α} {e : Nat × α} (h : e ∈ tdel k t) : e ∈ t := by
  induction t with
  | nil => exact h
  | cons a t ih =>
    simp only [tdel] at h
    split at h
    · exact List.mem_cons_of_mem _ (ih h)
    · rcases List.mem_cons.1 h with h | h
      · simp [h]
      · exact List.mem_cons_of_mem _ (ih h)

/-- A write keeps the keys rising. -/
theorem rising_tset {t : Tbl α} (k : Nat) (v : α) (h : rising t = true) : rising (tset k v t) = true := by
  induction t with
  | nil => rfl
  | cons a t ih =>
    obtain ⟨k', v'⟩ := a
    simp only [tset]
    split
    · subst_vars; exact rising_cons (rising_tail h) fun e m => rising_le (v := v') h (v' := e.2) m
    · split
      · rename_i _ hlt
        refine rising_cons h fun e m => ?_
        rcases List.mem_cons.1 m with m | m
        · simpa [m] using hlt
        · exact Nat.lt_trans hlt (rising_le (v' := e.2) h m)
      · rename_i hne hlt
        refine rising_cons (ih (rising_tail h)) fun e m => ?_
        rcases mem_tset m with m | m
        · simp only [m]; omega
        · exact rising_le (v' := e.2) h m

/-- A removal keeps the keys rising. -/
theorem rising_tdel {t : Tbl α} (k : Nat) (h : rising t = true) : rising (tdel k t) = true := by
  induction t with
  | nil => rfl
  | cons a t ih =>
    simp only [tdel]
    split
    · exact ih (rising_tail h)
    · exact rising_cons (ih (rising_tail h)) fun e m => rising_le (v' := e.2) h (mem_tdel m)

end Tables

/-! ## Addressed memories -/

/-- What an addressed memory reads at any address after a write at one. -/
theorem tgetD_putWord {w : Nat} (j k : Nat) (v : BitVec w) (t : Tbl (BitVec w)) :
    tgetD j 0 (putWord k v t) = if j = k then v else tgetD j 0 t := by
  simp only [putWord]
  split
  · simp only [tgetD_tdel]; split <;> simp_all
  · simp only [tgetD_tset]

/-- Every write keeps the canonical form of an addressed memory. -/
theorem putWord_wf {w : Nat} {t : Tbl (BitVec w)} (k : Nat) (v : BitVec w) (h : Memory.wf t = true) :
    Memory.wf (putWord k v t) = true := by
  simp only [Memory.wf, Bool.and_eq_true, List.all_eq_true, bne_iff_ne, ne_eq] at *
  simp only [putWord]
  split
  · exact ⟨rising_tdel k h.1, fun e m => h.2 e (mem_tdel m)⟩
  · rename_i hv
    refine ⟨rising_tset k v h.1, fun e m => ?_⟩
    rcases mem_tset m with m | m
    · subst m; exact hv
    · exact h.2 e m

/-! ## The register file -/

variable (s : State)

/-- What a field reads after a write of any field. -/
theorem State.get_set (f g : Fld) (v : Nat) (h : g.key = f.key → g = f) :
    (s.set f v).get g = if g.key = f.key then v % 2 ^ f.w else s.get g := by
  simp only [State.get, State.set, tgetD]
  split
  · rename_i hv
    simp only [tget_tdel]
    split
    · rename_i hk; rw [h hk, hv]; rfl
    · rfl
  · simp only [tget_tset]
    split <;> rfl

@[simp] theorem State.get_set_same (f : Fld) (v : Nat) : (s.set f v).get f = v % 2 ^ f.w := by
  rw [State.get_set s f f v (fun _ => rfl), if_pos rfl]

@[simp] theorem State.get_set_ne {f g : Fld} (h : g.key ≠ f.key) (v : Nat) : (s.set f v).get g = s.get g := by
  rw [State.get_set s f g v (fun e => absurd e h), if_neg h]

/-- Two states with one register file read alike. -/
theorem State.get_congr {s t : State} (h : t.flds = s.flds) (f : Fld) : t.get f = s.get f := by
  simp [State.get, h]

@[simp] theorem State.bit_eq (f : Fld) : s.bit f = decide (s.get f = 1) := rfl
@[simp] theorem State.setB_eq (f : Fld) (b : Bool) : s.setB f b = s.set f b.toNat := rfl
@[simp] theorem State.setI_eq (f : Fld) (v : Int) : s.setI f v = s.set f (toBits f.w v) := rfl
theorem State.count_eq (f : Fld) (n : Nat) : s.count f n = s.set f (min (s.get f + n) (2 ^ f.w - 1)) := rfl

/-! ## The register file as a list: proofs that unfold a command read and write `flds` through these two -/

/-- The value of a field in a register file. -/
def rd (f : Fld) (l : List (Nat × Nat)) : Nat := tgetD f.key f.rst l

/-- A register file with a field set. -/
def wr (f : Fld) (v : Nat) (l : List (Nat × Nat)) : List (Nat × Nat) :=
  if v % 2 ^ f.w = f.rst then tdel f.key l else tset f.key (v % 2 ^ f.w) l

theorem State.get_rd (f : Fld) : s.get f = rd f s.flds := rfl
theorem State.set_wr (f : Fld) (v : Nat) : s.set f v = { s with flds := wr f v s.flds } := rfl
@[simp] theorem State.set_flds' (f : Fld) (v : Nat) : (s.set f v).flds = wr f v s.flds := rfl

@[simp] theorem rd_wr_same (f : Fld) (v : Nat) (l : List (Nat × Nat)) : rd f (wr f v l) = v % 2 ^ f.w := by
  simp only [rd, wr]; split
  · rename_i h; rw [tgetD_tdel, if_pos rfl, h]
  · simp

@[simp] theorem rd_wr_ne {f g : Fld} (h : g.key ≠ f.key) (v : Nat) (l : List (Nat × Nat)) : rd g (wr f v l) = rd g l := by
  simp only [rd, wr]; split
  · rw [tgetD_tdel, if_neg h]
  · rw [tgetD_tset, if_neg h]

/-! ## The accessors of the typed tables -/

theorem State.slot_setSlot (i j : Nat) (x : SlotSt) : (s.setSlot i x).slot j = if j = i then x else s.slot j := tgetD_tset _ _ _ _ _
theorem State.spin_setSpin (i j : Nat) (x : Spindle) : (s.setSpin i x).spin j = if j = i then x else s.spin j := tgetD_tset _ _ _ _ _
theorem State.actu_setActu (i j : Nat) (x : Actu) : (s.setActu i x).actu j = if j = i then x else s.actu j := tgetD_tset _ _ _ _ _
theorem State.head_setHead (i j : Nat) (x : HeadSt) : (s.setHead i x).head j = if j = i then x else s.head j := tgetD_tset _ _ _ _ _
theorem State.loop_setLoop (i j : Nat) (x : Loop) : (s.setLoop i x).loop j = if j = i then x else s.loop j := tgetD_tset _ _ _ _ _
theorem State.island_setIsland (i j : Nat) (x : IslandSt) : (s.setIsland i x).island j = if j = i then x else s.island j :=
  tgetD_tset _ _ _ _ _
theorem State.mem_setMem (i j : Nat) (x : MemberSt) : (s.setMem i x).mem j = if j = i then x else s.mem j := tgetD_tset _ _ _ _ _

@[simp] theorem State.slot_setSlot_same (i : Nat) (x : SlotSt) : (s.setSlot i x).slot i = x := by simp [State.slot_setSlot]
@[simp] theorem State.spin_setSpin_same (i : Nat) (x : Spindle) : (s.setSpin i x).spin i = x := by simp [State.spin_setSpin]
@[simp] theorem State.actu_setActu_same (i : Nat) (x : Actu) : (s.setActu i x).actu i = x := by simp [State.actu_setActu]
@[simp] theorem State.head_setHead_same (i : Nat) (x : HeadSt) : (s.setHead i x).head i = x := by simp [State.head_setHead]
@[simp] theorem State.loop_setLoop_same (i : Nat) (x : Loop) : (s.setLoop i x).loop i = x := by simp [State.loop_setLoop]
@[simp] theorem State.island_setIsland_same (i : Nat) (x : IslandSt) : (s.setIsland i x).island i = x := by
  simp [State.island_setIsland]
@[simp] theorem State.mem_setMem_same (i : Nat) (x : MemberSt) : (s.setMem i x).mem i = x := by simp [State.mem_setMem]
@[simp] theorem State.domain_setDomain_same (r i : Nat) (x : Domain) : (s.setDomain r i x).domain r i = x := tgetD_tset_same _ _ _ _
@[simp] theorem State.channel_setChannel_same (k i : Nat) (x : Channel) : (s.setChannel k i x).channel k i = x :=
  tgetD_tset_same _ _ _ _

/-! ## Folds and conditional updates -/

@[simp] theorem State.forAll_nil {α : Type} (f : α → State → State) : s.forAll [] f = s := rfl

@[simp] theorem State.forAll_cons {α : Type} (a : α) (l : List α) (f : α → State → State) :
    s.forAll (a :: l) f = (f a s).forAll l f := rfl

/-- What every round of a fold leaves, the fold leaves. -/
theorem State.forAll_keeps {α β : Type} (q : State → β) (l : List α) (f : α → State → State)
    (h : ∀ a t, q (f a t) = q t) : q (s.forAll l f) = q s := by
  induction l generalizing s with
  | nil => rfl
  | cons a l ih => rw [State.forAll_cons, ih, h]

@[simp] theorem State.when_true (f : State → State) : s.when true f = f s := rfl
@[simp] theorem State.when_false (f : State → State) : s.when false f = s := rfl

theorem State.when_keeps {β : Type} (q : State → β) (c : Bool) (f : State → State) (h : ∀ t, q (f t) = q t) :
    q (s.when c f) = q s := by cases c <;> simp [h]

/-! ## What hosts have stored -/

theorem kept_of_host {s t : State} (h : hostView t = hostView s) : dataKept s t ∧ hostKept s t := by
  simp only [hostView, Prod.mk.injEq] at h
  obtain ⟨h1, h2, h3, h4, h5, h6, h7, h8, h9, h10⟩ := h
  exact ⟨⟨h1, h2, h3, h4, h5, h6, h7⟩, h8, h9, h10⟩

/-! ## Outcomes -/

@[simp] theorem done_eq (t : State) : done s t = .next (t.after s) := rfl

/-- A running module carries a command out. -/
theorem act_up {s : State} (h : s.run = .up) (f : State → State) : act s f = .next ((f s).after s) := by simp [act, h]

/-- A module that does not run does nothing with a command (R7, R437). -/
theorem act_not_up {s : State} (h : s.run ≠ .up) (f : State → State) : act s f = .next s := by simp [act, h]

/-- A running module that has made no cut carries out work for a host. -/
theorem actHost_up {s : State} (h : s.run = .up) (hc : s.isCut = false) (f : State → State) :
    actHost s f = .next ((f s).after s) := by simp [actHost, act, h, hc]

@[simp] theorem State.after_pending (t : State) : (t.after s).pending = s.pending := rfl

/-- After a command every open gate meets R151. -/
theorem State.after_gates (t : State) : (t.after s).gates = t.gates.filter t.gateKeeps := rfl

end Sys2Proof.Machine
end

