-- ==== Sys2Proof/Laws/Kept.lean ====
section
/-! SUPPORT. Shared operations that leave what hosts have stored, their sessions and their commands as they were. -/

namespace Sys2Proof.Machine

variable (s : State)

/-- A choice between two states leaves a view as it was when each does. -/
theorem view_ite {β : Type} (q : State → β) (c : Prop) [Decidable c] (a b : State) :
    q (if c then a else b) = if c then q a else q b := apply_ite q c a b

@[simp] theorem host_forAll {α : Type} (l : List α) (f : α → State → State)
    (h : ∀ a t, hostView (f a t) = hostView t) : hostView (s.forAll l f) = hostView s :=
  State.forAll_keeps s hostView l f h

@[simp] theorem host_when (c : Bool) (f : State → State) (h : ∀ t, hostView (f t) = hostView t) :
    hostView (s.when c f) = hostView s := State.when_keeps s hostView c f h

@[simp] theorem host_count (f : Fld) (n : Nat) : hostView (s.count f n) = hostView s := id rfl
@[simp] theorem host_plan (r i t : Nat) : hostView (s.plan r i t) = hostView s := id rfl
@[simp] theorem host_replan (r i : Nat) : hostView (s.replan r i) = hostView s := by
  simp [State.replan, view_ite hostView]
@[simp] theorem host_attention (k i : Nat) : hostView (s.attention k i) = hostView s := by
  simp only [State.attention]; (repeat' split) <;> rfl
@[simp] theorem host_enterLedger (k i r : Nat) (h : Bool) : hostView (s.enterLedger k i r h) = hostView s := by
  simp only [State.enterLedger]; (repeat' split) <;> rfl
@[simp] theorem host_retire (k i r e : Nat) (h : Bool) (a b c d : Nat) : hostView (s.retire k i r e h a b c d) = hostView s := by
  simp [State.retire]
@[simp] theorem host_release (k i : Nat) : hostView (s.release k i) = hostView s := id rfl
@[simp] theorem host_chanOk (k i : Nat) : hostView (s.chanOk k i) = hostView s := by simp [State.chanOk, view_ite hostView]
@[simp] theorem host_chanCount (k i : Nat) (b : Bool) : hostView (s.chanCount k i b) = hostView s := id rfl
@[simp] theorem host_chanPermanent (k i o : Nat) : hostView (s.chanPermanent k i o) = hostView s := id rfl
@[simp] theorem host_fence (m : Nat) (c : Fence) : hostView (s.fence m c) = hostView s := id rfl
@[simp] theorem host_unfence (m : Nat) (c : Fence) : hostView (s.unfence m c) = hostView s := id rfl
@[simp] theorem host_noteLost (m : Nat) : hostView (s.noteLost m) = hostView s := id rfl
@[simp] theorem host_loseMember (m : Nat) : hostView (s.loseMember m) = hostView s := by
  simp [State.loseMember, view_ite hostView]
@[simp] theorem host_markRebuild (m : Nat) : hostView (s.markRebuild m) = hostView s := id rfl
@[simp] theorem host_retireMember (m : Nat) : hostView (s.retireMember m) = hostView s := id rfl

@[simp] theorem host_gates (l : List Nat) : hostView { s with gates := l } = hostView s := id rfl
@[simp] theorem host_voidRun (g t n : Nat) : hostView (s.voidRun g t n) = hostView s := id rfl
@[simp] theorem host_noteUnwritten (g t n : Nat) : hostView (s.noteUnwritten g t n) = hostView s := id rfl
@[simp] theorem host_mayRewrite (g t n : Nat) : hostView (s.mayRewrite g t n) = hostView s := id rfl

/-- Closing a gate, with the sector it was writing torn. -/
@[simp] theorem host_tear (t : Nat) (b : Bool) (g : Nat) : hostView (s.tear t b g) = hostView s := by
  simp only [State.tear]
  split
  · rfl
  · simp [view_ite hostView]

@[simp] theorem host_tearAll (t : Nat) (gs : List Nat) : hostView (s.tearAll t gs) = hostView s := by
  simp [State.tearAll]

end Sys2Proof.Machine
end

