-- ==== Sys2Proof/Laws/KeptMech.lean ====
section
/-! SUPPORT. Positioning, spindle, slot and channel operations leave what hosts have stored, their sessions and their commands as they
were. -/

namespace Sys2Proof.Machine

@[simp] theorem host_mk (x : State) (run_ : Run) (now_ : Nat) (opSub_ : Nat) (opSec_ : Nat) (pcycle_ : Nat) (fresh_ : Nat) (flds_ : List (Nat × Nat)) (snaps_ : Tbl Nat) (latches_ : Tbl Nat) (rcd_ : Recorder) (ledger_ : List LedgerEntry) (ledgerFull_ : Bool) (channels_ : Tbl Channel) (domains_ : Tbl Domain) (islands_ : Tbl IslandSt) (vault_ : Vault) (pins_ : Pins) (slots_ : Tbl SlotSt) (preamp_ : Tbl Nat) (pser_ : Tbl (List PserCmd)) (spins_ : Tbl Spindle) (acts_ : Tbl Actu) (heads_ : Tbl HeadSt) (damper_ : Damper) (mems_ : Tbl MemberSt) (groups_ : Tbl GroupSt) (voids_ : List (Nat × Nat × Nat)) (unwritten_ : List (Nat × Nat × Nat)) (pool_ : Pool) (gates_ : List Nat) (outs_ : List Out) (pending_ : List Instr) (shadows_ : Tbl Extent) (excs_ : Tbl (List (Nat × Nat × Nat × Nat))) (stores_ : Tbl Store) (jn_ : MapJournal) (stk_ : Stoker) (zrows_ : List ZoneRow) (bops_ : List BandOp) (stripe_ : Stripe) (recs_ : Tbl Recovery) (weak_ : List Weak) (headRecs_ : Tbl HeadRec) (addrs_ : Tbl AddrSt) (lldp_ : Tbl (List Nat)) (engs_ : Tbl Engine) (pow_ : Power) (thm_ : Thermal) (cal_ : Calib) (trims_ : Tbl Trim) (tst_ : Tests) (knd_ : Kindle) :
    hostView ⟨run_, now_, opSub_, opSec_, pcycle_, fresh_, flds_, snaps_, latches_, rcd_, ledger_, ledgerFull_, channels_, domains_, islands_, vault_, pins_, slots_, preamp_, pser_, spins_, acts_, heads_, damper_, mems_, groups_, voids_, unwritten_, pool_, gates_, outs_, pending_, x.vols, x.exts, shadows_, x.zsets, x.brows, excs_, stores_, x.media, jn_, stk_, zrows_, bops_, stripe_, x.lost, recs_, weak_, headRecs_, x.sessions, x.cmds, x.que, addrs_, lldp_, x.cache, engs_, pow_, thm_, cal_, trims_, tst_, knd_⟩ = hostView x := id rfl
@[simp] theorem host_modPool (f : Pool → Pool) (s : State) : hostView (s.modPool f) = hostView s := id rfl
/-! ## Positioning -/
@[simp] theorem host_masks (m : Nat) (s : State) : hostView (State.masks m s) = hostView s := by
  simp [State.masks]
@[simp] theorem host_setPreamp (m a v : Nat) (s : State) : hostView (State.setPreamp m a v s) = hostView s := by
  simp [State.setPreamp]
@[simp] theorem host_preampWrite (m a v : Nat) (s : State) : hostView (State.preampWrite m a v s) = hostView s := by
  simp [State.preampWrite, view_ite hostView]
@[simp] theorem host_preampRest (m mode : Nat) (s : State) : hostView (State.preampRest m mode s) = hostView s := by
  simp [State.preampRest]
@[simp] theorem host_reportBlocks (row col : Nat) (bs : List Nat) (s : State) : hostView (State.reportBlocks row col bs s) = hostView s := by
  simp [State.reportBlocks]
@[simp] theorem host_endReads (gs : List Nat) (s : State) : hostView (State.endReads gs s) = hostView s := by
  simp [State.endReads]
@[simp] theorem host_endTransfer (m : Nat) (s : State) : hostView (State.endTransfer m s) = hostView s := by
  simp [State.endTransfer]; (repeat' split) <;> simp
@[simp] theorem host_setException (row col : Nat) (ex : List (Nat × Nat × Nat × Nat)) (s : State) : hostView (State.setException row col ex s) = hostView s := by
  exact id rfl
@[simp] theorem host_shiftRun (g : Nat) (s : State) : hostView (State.shiftRun g s) = hostView s := by
  simp only [State.shiftRun]; (repeat' split) <;> simp
@[simp] theorem host_tearStay (trigger g : Nat) (s : State) : hostView (State.tearStay trigger g s) = hostView s := by
  simp [State.tearStay]
@[simp] theorem host_leave (stays : Bool) (g : Nat) (s : State) : hostView (State.leave stays g s) = hostView s := by
  simp [State.leave, view_ite hostView]
@[simp] theorem host_leaveTorn (g : Nat) (s : State) : hostView (State.leaveTorn g s) = hostView s := by
  simp [State.leaveTorn]
@[simp] theorem host_fitSet (m : Nat) (s : State) : hostView (State.fitSet m s) = hostView s := by
  simp [State.fitSet]
@[simp] theorem host_sectorBoundary (g : Nat) (s : State) : hostView (State.sectorBoundary g s) = hostView s := by
  simp [State.sectorBoundary, view_ite hostView]
@[simp] theorem host_unload (emerg : Bool) (trigger m : Nat) (s : State) : hostView (State.unload emerg trigger m s) = hostView s := by
  simp [State.unload, view_ite hostView]
@[simp] theorem host_restPositioners (s : State) : hostView (State.restPositioners s) = hostView s := by
  simp [State.restPositioners]
@[simp] theorem host_laneRefresh (s : State) : hostView (State.laneRefresh s) = hostView s := by
  simp [State.laneRefresh, view_ite hostView]
@[simp] theorem host_retireLaneFor (reason n : Nat) (s : State) : hostView (State.retireLaneFor reason n s) = hostView s := by
  simp [State.retireLaneFor, view_ite hostView]
@[simp] theorem host_retireLane (n : Nat) (s : State) : hostView (State.retireLane n s) = hostView s := by
  simp [State.retireLane]
@[simp] theorem host_outvote (n : Nat) (s : State) : hostView (State.outvote n s) = hostView s := by
  simp [State.outvote, view_ite hostView]
@[simp] theorem host_fenceLanes (ns : List Nat) (s : State) : hostView (State.fenceLanes ns s) = hostView s := by
  simp [State.fenceLanes]
@[simp] theorem host_vote (s : State) (v : Int) (runs : List LaneRun) : hostView (s.vote v runs).2 = hostView s := by
  simp only [State.vote]; (repeat' split) <;> simp
@[simp] theorem host_evalLoop (l : Nat) (e : Int) (runs : List LaneRun) (s : State) : hostView (State.evalLoop l e runs s) = hostView s := by
  simp only [State.evalLoop]; (repeat' split) <;> simp_all
@[simp] theorem host_arbitrate (m : Nat) (out ff : Int) (i : VcmIn) (s : State) : hostView (State.arbitrate m out ff i s) = hostView s := by
  simp [State.arbitrate]
@[simp] theorem host_applyOut (l : Nat) (i : VcmIn) (ff : Int) (s : State) : hostView (State.applyOut l i ff s) = hostView s := by
  simp [State.applyOut, view_ite hostView]
@[simp] theorem host_accelEnds (m : Nat) (i : VcmIn) (s : State) : hostView (State.accelEnds m i s) = hostView s := by
  simp [State.accelEnds, view_ite hostView]
@[simp] theorem host_damperEvaluation (l : Nat) (runs : List LaneRun) (i : VcmIn) (ff : Int) (ns : Nat) (s : State) : hostView (damperEvaluation l runs i ff ns s) = hostView s := by
  simp [damperEvaluation, view_ite hostView]
@[simp] theorem host_deriveLoop (l : Nat) (s : State) : hostView (State.deriveLoop l s) = hostView s := by
  simp [State.deriveLoop]
@[simp] theorem host_headWedge (g : Nat) (o : WedgeObs) (s : State) : hostView (State.headWedge g o s) = hostView s := by
  simp [State.headWedge, view_ite hostView]
@[simp] theorem host_writeUnsafe (g : Nat) (s : State) : hostView (State.writeUnsafe g s) = hostView s := by
  simp [State.writeUnsafe]
@[simp] theorem host_passTurn (g : Nat) (s : State) : hostView (State.passTurn g s) = hostView s := by
  simp only [State.passTurn]; split <;> simp [view_ite hostView]
@[simp] theorem host_sectorWritten (g : Nat) (s : State) : hostView (State.sectorWritten g s) = hostView s := by
  simp [State.sectorWritten]
@[simp] theorem host_wedgeSector (g : Nat) (s : State) : hostView (State.wedgeSector g s) = hostView s := by
  simp only [State.wedgeSector]; split <;> simp [view_ite hostView]
@[simp] theorem host_tornDue (g : Nat) (s : State) : hostView (State.tornDue g s) = hostView s := by
  simp [State.tornDue, view_ite hostView]
@[simp] theorem host_combine (m : Nat) (s : State) : hostView (State.combine m s) = hostView s := by
  simp [State.combine]
@[simp] theorem host_spreadDeparture (m : Nat) (s : State) : hostView (State.spreadDeparture m s) = hostView s := by
  simp only [State.spreadDeparture]; split <;> simp [view_ite hostView]
@[simp] theorem host_acquireStart (g : Nat) (s : State) : hostView (State.acquireStart g s) = hostView s := by
  simp [State.acquireStart, view_ite hostView]
@[simp] theorem host_shock (m : Nat) (s : State) : hostView (State.shock m s) = hostView s := by
  simp [State.shock, view_ite hostView]
@[simp] theorem host_chooseSets (m : Nat) (s : State) : hostView (State.chooseSets m s) = hostView s := by
  simp [State.chooseSets]
@[simp] theorem host_preampMode (m : Nat) (s : State) : hostView (State.preampMode m s) = hostView s := by
  simp [State.preampMode, view_ite hostView]
@[simp] theorem host_wedgeOf (m : Nat) (obs : List WedgeObs) (h : Nat) (s : State) : hostView (State.wedgeOf m obs h s) = hostView s := by
  simp only [State.wedgeOf]; split <;> simp
@[simp] theorem host_servoWedge (m : Nat) (obs : List WedgeObs) (s : State) : hostView (servoWedge m obs s) = hostView s := by
  simp [servoWedge, view_ite hostView]
@[simp] theorem host_shockShelfHoldEnd (s : State) : hostView (shockShelfHoldEnd s) = hostView s := by
  simp [shockShelfHoldEnd]
@[simp] theorem host_recoveredCheck (s : State) : hostView (State.recoveredCheck s) = hostView s := by
  simp [State.recoveredCheck, view_ite hostView]
@[simp] theorem host_headJoin (g : Nat) (s : State) : hostView (headJoin g s) = hostView s := by
  simp [headJoin, view_ite hostView]
@[simp] theorem host_headAcquireTimeout (g : Nat) (s : State) : hostView (headAcquireTimeout g s) = hostView s := by
  simp [headAcquireTimeout, view_ite hostView]
@[simp] theorem host_headGone (g : Nat) (s : State) : hostView (State.headGone g s) = hostView s := by
  simp [State.headGone, view_ite hostView]
@[simp] theorem host_retireHead (reason ev : Nat) (p0 p1 p2 p3 : Nat) (g : Nat) (s : State) : hostView (State.retireHead reason ev p0 p1 p2 p3 g s) = hostView s := by
  simp [State.retireHead, view_ite hostView]
@[simp] theorem host_retireActuator (reason ev : Nat) (p0 p1 p2 p3 : Nat) (m : Nat) (s : State) : hostView (State.retireActuator reason ev p0 p1 p2 p3 m s) = hostView s := by
  simp [State.retireActuator, view_ite hostView]
@[simp] theorem host_phases (i : Nat) (on : Bool) (s : State) : hostView (State.phases i on s) = hostView s := by
  simp [State.phases]
@[simp] theorem host_setRef (i ref : Nat) (s : State) : hostView (State.setRef i ref s) = hostView s := by
  simp [State.setRef]
@[simp] theorem host_serviceShown (i : Nat) (s : State) : hostView (State.serviceShown i s) = hostView s := by
  simp [State.serviceShown]
@[simp] theorem host_enterSp (i st : Nat) (s : State) : hostView (State.enterSp i st s) = hostView s := by
  simp [State.enterSp, view_ite hostView]
@[simp] theorem host_retireHda (reason ev : Nat) (p0 p1 p2 p3 : Nat) (i : Nat) (s : State) : hostView (State.retireHda reason ev p0 p1 p2 p3 i s) = hostView s := by
  simp [State.retireHda, view_ite hostView]
@[simp] theorem host_headUpSaturated (g : Nat) (s : State) : hostView (headUpSaturated g s) = hostView s := by
  simp [headUpSaturated, view_ite hostView]
@[simp] theorem host_pesInvalidDeparture (g : Nat) (s : State) : hostView (pesInvalidDeparture g s) = hostView s := by
  simp [pesInvalidDeparture, view_ite hostView]
@[simp] theorem host_setEmptyTimeout (m : Nat) (s : State) : hostView (setEmptyTimeout m s) = hostView s := by
  simp [setEmptyTimeout, view_ite hostView]
@[simp] theorem host_startSeek (m target : Nat) (s : State) : hostView (State.startSeek m target s) = hostView s := by
  simp [State.startSeek]
@[simp] theorem host_seekRequest (m target : Nat) (write : Bool) (s : State) : hostView (seekRequest m target write s) = hostView s := by
  simp [seekRequest, view_ite hostView]
@[simp] theorem host_seekLoopsResume (m : Nat) (s : State) : hostView (seekLoopsResume m s) = hostView s := by
  simp [seekLoopsResume, view_ite hostView]
@[simp] theorem host_load (m reserveMv : Nat) (s : State) : hostView (State.load m reserveMv s) = hostView s := by
  simp [State.load, view_ite hostView]
@[simp] theorem host_loadServoAcquired (m : Nat) (s : State) : hostView (loadServoAcquired m s) = hostView s := by
  simp [loadServoAcquired, view_ite hostView]
@[simp] theorem host_loadFail (m : Nat) (s : State) : hostView (loadFail m s) = hostView s := by
  simp [loadFail, view_ite hostView]
@[simp] theorem host_reload (m reserveMv : Nat) (s : State) : hostView (reload m reserveMv s) = hostView s := by
  simp [reload, view_ite hostView]
@[simp] theorem host_headsParked (m : Nat) (s : State) : hostView (headsParked m s) = hostView s := by
  simp [headsParked, view_ite hostView]
@[simp] theorem host_positionFault (m : Nat) (s : State) : hostView (State.positionFault m s) = hostView s := by
  simp [State.positionFault]
@[simp] theorem host_vcmSaturated (m : Nat) (s : State) : hostView (vcmSaturated m s) = hostView s := by
  simp [vcmSaturated, view_ite hostView]
@[simp] theorem host_servoLost (m : Nat) (s : State) : hostView (servoLost m s) = hostView s := by
  simp [servoLost, view_ite hostView]
@[simp] theorem host_vcmCoilHot (m : Nat) (s : State) : hostView (vcmCoilHot m s) = hostView s := by
  simp [vcmCoilHot, view_ite hostView]
@[simp] theorem host_unloadRequested (m : Nat) (s : State) : hostView (State.unloadRequested m s) = hostView s := by
  simp [State.unloadRequested, view_ite hostView]
@[simp] theorem host_offsetWritten (g : Nat) (s : State) : hostView (State.offsetWritten g s) = hostView s := by
  simp [State.offsetWritten, view_ite hostView]
@[simp] theorem host_commitLoop (l : Nat) (s : State) : hostView (State.commitLoop l s) = hostView s := by
  simp [State.commitLoop]
/-! ## Spindle -/
@[simp] theorem host_startSense (i : Nat) (s : State) : hostView (State.startSense i s) = hostView s := by
  simp [State.startSense]
@[simp] theorem host_waitStart (i : Nat) (s : State) : hostView (State.waitStart i s) = hostView s := by
  simp [State.waitStart]
@[simp] theorem host_spinupOn (s : State) : hostView (State.spinupOn s) = hostView s := by
  simp [State.spinupOn, view_ite hostView]
@[simp] theorem host_startSpindle (i : Nat) (s : State) : hostView (State.startSpindle i s) = hostView s := by
  simp [State.startSpindle, view_ite hostView]
@[simp] theorem host_startWaiting (s : State) : hostView (State.startWaiting s) = hostView s := by
  simp [State.startWaiting, view_ite hostView]
@[simp] theorem host_retarget (i : Nat) (s : State) : hostView (State.retarget i s) = hostView s := by
  simp [State.retarget]
@[simp] theorem host_setSetpoint (i v : Nat) (s : State) : hostView (State.setSetpoint i v s) = hostView s := by
  simp [State.setSetpoint, view_ite hostView]
@[simp] theorem host_catchAt (i : Nat) (o : Origin) (speed emf : Nat) (times : List (Nat × Bool)) (s : State) : hostView (State.catchAt i o speed emf times s) = hostView s := by
  simp [State.catchAt]
@[simp] theorem host_senseShown (i speed : Nat) (rev : Bool) (res : Nat) (s : State) : hostView (State.senseShown i speed rev res s) = hostView s := by
  simp [State.senseShown]
@[simp] theorem host_recoverFound (i : Nat) (o : SenseObs) (s : State) : hostView (State.recoverFound i o s) = hostView s := by
  simp only [State.recoverFound]; split <;> simp [view_ite hostView]
@[simp] theorem host_spinSenseEnd (i : Nat) (o : SenseObs) (s : State) : hostView (spinSenseEnd i o s) = hostView s := by
  simp only [spinSenseEnd]
  split
  · simp
  · split
    · cases senseFound o <;> simp [view_ite hostView]
    · rfl
@[simp] theorem host_brakeSense (i : Nat) (o : SenseObs) (s : State) : hostView (brakeSense i o s) = hostView s := by
  simp only [brakeSense]
  split
  · cases senseFound o <;> simp [view_ite hostView]
  · rfl
@[simp] theorem host_blindShown (i : Nat) (s : State) : hostView (State.blindShown i s) = hostView s := by
  simp [State.blindShown, view_ite hostView]
@[simp] theorem host_alignElapsed (i : Nat) (s : State) : hostView (alignElapsed i s) = hostView s := by
  simp [alignElapsed, view_ite hostView]
@[simp] theorem host_blindHandover (i : Nat) (s0 : State) : hostView (blindHandover i s0) = hostView s0 := by
  simp [blindHandover, view_ite hostView]
@[simp] theorem host_startFailure (i : Nat) (s : State) : hostView (State.startFailure i s) = hostView s := by
  simp [State.startFailure, view_ite hostView]
@[simp] theorem host_blindHandoverFail (i : Nat) (s0 : State) : hostView (blindHandoverFail i s0) = hostView s0 := by
  simp [blindHandoverFail, view_ite hostView]
@[simp] theorem host_spinBrakeTimeout (i : Nat) (s : State) : hostView (spinBrakeTimeout i s) = hostView s := by
  simp [spinBrakeTimeout, view_ite hostView]
@[simp] theorem host_spinRampTimeout (i : Nat) (s : State) : hostView (spinRampTimeout i s) = hostView s := by
  simp [spinRampTimeout, view_ite hostView]
@[simp] theorem host_spinStartRetry (i : Nat) (s : State) : hostView (spinStartRetry i s) = hostView s := by
  simp [spinStartRetry, view_ite hostView]
@[simp] theorem host_restartSpindle (i : Nat) (s : State) : hostView (State.restartSpindle i s) = hostView s := by
  simp [State.restartSpindle, view_ite hostView]
@[simp] theorem host_moveRef (i dt speed : Nat) (s : State) : hostView (State.moveRef i dt speed s) = hostView s := by
  simp [State.moveRef]
@[simp] theorem host_atSpeed (i : Nat) (s : State) : hostView (State.atSpeed i s) = hostView s := by
  simp [State.atSpeed, view_ite hostView]
@[simp] theorem host_speedMeasured (i speed : Nat) (s : State) : hostView (State.speedMeasured i speed s) = hostView s := by
  simp [State.speedMeasured, view_ite hostView]
@[simp] theorem host_commutate (i t : Nat) (s : State) : hostView (State.commutate i t s) = hostView s := by
  simp [State.commutate]
@[simp] theorem host_ilimTrip (i ma ns : Nat) (s : State) : hostView (ilimTrip i ma ns s) = hostView s := by
  simp only [ilimTrip]; split <;> simp [view_ite hostView]
@[simp] theorem host_spindleLoop (i : Nat) (e : Int) (runs : List LaneRun) (ns : Nat) (s : State) : hostView (State.spindleLoop i e runs ns s) = hostView s := by
  simp [State.spindleLoop, view_ite hostView]
@[simp] theorem host_zeroCrossing (i : Nat) (samples : List PhaseSample) (runs : List LaneRun) (ns : Nat) (s0 : State) : hostView (zeroCrossing i samples runs ns s0) = hostView s0 := by
  simp only [zeroCrossing]; (repeat' split) <;> simp <;> split <;> simp
@[simp] theorem host_transferWindowResume (i : Nat) (s : State) : hostView (transferWindowResume i s) = hostView s := by
  simp [transferWindowResume, view_ite hostView]
@[simp] theorem host_spinObserverLost (i : Nat) (s : State) : hostView (spinObserverLost i s) = hostView s := by
  simp [spinObserverLost, view_ite hostView]
@[simp] theorem host_spinRecatch (i us emf : Nat) (s : State) : hostView (spinRecatch i us emf s) = hostView s := by
  simp [spinRecatch, view_ite hostView]
@[simp] theorem host_spinRecatchFail (i : Nat) (s : State) : hostView (spinRecatchFail i s) = hostView s := by
  simp [spinRecatchFail, view_ite hostView]
@[simp] theorem host_spinSupplyLimited (i : Nat) (s : State) : hostView (spinSupplyLimited i s) = hostView s := by
  simp [spinSupplyLimited, view_ite hostView]
@[simp] theorem host_spinSupplyLimitDusk (i : Nat) (s : State) : hostView (spinSupplyLimitDusk i s) = hostView s := by
  simp [spinSupplyLimitDusk, view_ite hostView]
@[simp] theorem host_spinupGroupStart (j : Nat) (s : State) : hostView (spinupGroupStart j s) = hostView s := by
  simp [spinupGroupStart, view_ite hostView]
/-! ## Slot -/
@[simp] theorem host_driveEn5 (i v : Nat) (s : State) : hostView (State.driveEn5 i v s) = hostView s := by
  simp [State.driveEn5]
@[simp] theorem host_driveEn12 (i v : Nat) (s : State) : hostView (State.driveEn12 i v s) = hostView s := by
  simp [State.driveEn12]
@[simp] theorem host_drives (i : Nat) (on : Bool) (s : State) : hostView (State.drives i on s) = hostView s := by
  simp [State.drives]
@[simp] theorem host_sleepPreamps (i : Nat) (s : State) : hostView (State.sleepPreamps i s) = hostView s := by
  simp [State.sleepPreamps]
@[simp] theorem host_resetPreamp (m : Nat) (s : State) : hostView (State.resetPreamp m s) = hostView s := by
  simp [State.resetPreamp]
@[simp] theorem host_measFail (i order head value : Nat) (s : State) : hostView (State.measFail i order head value s) = hostView s := by
  simp [State.measFail]
@[simp] theorem host_measHeads (i order : Nat) (bad : Nat → Bool) (value : Nat → Nat) (s : State) : hostView (State.measHeads i order bad value s) = hostView s := by
  simp [State.measHeads]
@[simp] theorem host_showMeas (i : Nat) (f : Factory) (m : Meas) (s : State) : hostView (State.showMeas i f m s) = hostView s := by
  simp [State.showMeas]
@[simp] theorem host_loadTrims (g : Nat) (f : Factory) (m : Meas) (s : State) : hostView (State.loadTrims g f m s) = hostView s := by
  simp [State.loadTrims]
@[simp] theorem host_loadComps (g : Nat) (s : State) : hostView (State.loadComps g s) = hostView s := by
  simp only [State.loadComps]; split <;> simp [view_ite hostView]
@[simp] theorem host_loadActTrims (m : Nat) (meas : Meas) (s : State) : hostView (State.loadActTrims m meas s) = hostView s := by
  simp [State.loadActTrims, view_ite hostView]
@[simp] theorem host_refuseSlot (i ev : Nat) (s : State) : hostView (State.refuseSlot i ev s) = hostView s := by
  simp [State.refuseSlot]
@[simp] theorem host_releaseCable (i : Nat) (s : State) : hostView (State.releaseCable i s) = hostView s := by
  simp [State.releaseCable]
@[simp] theorem host_retireCable (i : Nat) (s : State) : hostView (State.retireCable i s) = hostView s := by
  simp [State.retireCable, view_ite hostView]
@[simp] theorem host_recallRetired (i : Nat) (s : State) : hostView (State.recallRetired i s) = hostView s := by
  simp [State.recallRetired, view_ite hostView]
@[simp] theorem host_retireAgain (i : Nat) (c : ModCopy) (s : State) : hostView (State.retireAgain i c s) = hostView s := by
  simp [State.retireAgain, view_ite hostView]
@[simp] theorem host_freshElements (i : Nat) (s : State) : hostView (State.freshElements i s) = hostView s := by
  simp [State.freshElements]
@[simp] theorem host_foreign (i : Nat) (s : State) : hostView (State.foreign i s) = hostView s := by
  simp [State.foreign]
@[simp] theorem host_inactiveHda (i : Nat) (s : State) : hostView (State.inactiveHda i s) = hostView s := by
  simp [State.inactiveHda]
@[simp] theorem host_slotRemoved (i : Nat) (s : State) : hostView (slotRemoved i s) = hostView s := by
  simp [slotRemoved, view_ite hostView]
@[simp] theorem host_powerOffSpindleStopped (i : Nat) (s : State) : hostView (powerOffSpindleStopped i s) = hostView s := by
  simp [powerOffSpindleStopped, view_ite hostView]
@[simp] theorem host_linkError (m : Nat) (s : State) : hostView (State.linkError m s) = hostView s := by
  simp [State.linkError, view_ite hostView]
@[simp] theorem host_preampHolds (m a v : Nat) (s : State) : hostView (State.preampHolds m a v s) = hostView s := by
  simp [State.preampHolds, view_ite hostView]
@[simp] theorem host_preampSees (m a data : Nat) (s : State) : hostView (State.preampSees m a data s) = hostView s := by
  simp [State.preampSees, view_ite hostView]
@[simp] theorem host_preampBadFrame (m : Nat) (s : State) : hostView (State.preampBadFrame m s) = hostView s := by
  simp [State.preampBadFrame]
@[simp] theorem host_sendReads (m a bad : Nat) (s : State) : hostView (State.sendReads m a bad s) = hostView s := by
  simp [State.sendReads]
@[simp] theorem host_pserEnd (m : Nat) (bad : Bool) (s : State) : hostView (State.pserEnd m bad s) = hostView s := by
  simp [State.pserEnd, view_ite hostView]
@[simp] theorem host_pserRun (m : Nat) (c : PserCmd) (run : LinkRun) (s : State) : hostView (State.pserRun m c run s) = hostView s := by
  simp [State.pserRun, view_ite hostView]
@[simp] theorem host_pserGo (m : Nat) (c : PserCmd) (run : LinkRun) (s : State) : hostView (State.pserGo m c run s) = hostView s := by
  simp [State.pserGo, view_ite hostView]
@[simp] theorem host_pserHeldWriteApply (m : Nat) (run : LinkRun) (s : State) : hostView (pserHeldWriteApply m run s) = hostView s := by
  simp only [pserHeldWriteApply]; split <;> simp [view_ite hostView]
@[simp] theorem host_psfltNAsserted (m status : Nat) (s : State) : hostView (psfltNAsserted m status s) = hostView s := by
  simp [psfltNAsserted, view_ite hostView]
@[simp] theorem host_moduleAreaWrite (i bad : Nat) (s : State) : hostView (moduleAreaWrite i bad s) = hostView s := by
  simp only [moduleAreaWrite]; split <;> simp [view_ite hostView]
/-! ## Channel -/
@[simp] theorem host_enterZone (g : Nat) (s : State) : hostView (State.enterZone g s) = hostView s := by
  simp [State.enterZone, view_ite hostView]
@[simp] theorem host_endLoops (g : Nat) (o : ReadObs) (hold : Bool) (s : State) : hostView (State.endLoops g o hold s) = hostView s := by
  simp [State.endLoops, view_ite hostView]
@[simp] theorem host_countFrame (g : Nat) (k : FrameKind) (s : State) : hostView (State.countFrame g k s) = hostView s := by
  simp only [State.countFrame]; split <;> simp
@[simp] theorem host_missGrant (g n : Nat) (s : State) : hostView (State.missGrant g n s) = hostView s := by
  simp only [State.missGrant]; split <;> simp [view_ite hostView]
@[simp] theorem host_abandonAt (g target n : Nat) (s : State) : hostView (State.abandonAt g target n s) = hostView s := by
  simp [State.abandonAt]
@[simp] theorem host_lastSector (g : Nat) (s : State) : hostView (State.lastSector g s) = hostView s := by
  simp only [State.lastSector]; split <;> simp
@[simp] theorem host_sectorWrite (g n : Nat) (block : Sealed) (duty : Nat) (s0 : State) : hostView (sectorWrite g n block duty s0) = hostView s0 := by
  simp [sectorWrite, view_ite hostView]
@[simp] theorem host_writeFifoEmpty (g : Nat) (s : State) : hostView (writeFifoEmpty g s) = hostView s := by
  simp [writeFifoEmpty, view_ite hostView]
@[simp] theorem host_assistSetpointRewrite (g : Nat) (temp : Int) (s : State) : hostView (assistSetpointRewrite g temp s) = hostView s := by
  simp [assistSetpointRewrite, view_ite hostView]
@[simp] theorem host_assistDutyWindow (m : Nat) (duty : List Nat) (s : State) : hostView (assistDutyWindow m duty s) = hostView s := by
  simp [assistDutyWindow]
@[simp] theorem host_headRejoinBound (g row col : Nat) (s : State) : hostView (headRejoinBound g row col s) = hostView s := by
  simp [headRejoinBound, view_ite hostView]

end Sys2Proof.Machine
end

