-- ==== Sys2Proof/WellFormed.lean ====
section
/-!
DEFINITION. Which commands are well formed: every number fits the field the spec gives it (R8, R260, R287 to R292, R302,
R310) or the range it is drawn from. Slots, members, heads and the other element numbers are bounded by their types.
-/

namespace Sys2Proof

/-- Sessions of R291: 0x0001 to 0x0080 on the host ports, 0x0100 to 0x0103 on MP. -/
def hostSession (n : Nat) : Bool := 1 ≤ n && n ≤ 0x80
/-- Sessions of R291 on MP. -/
def mpSession (n : Nat) : Bool := 0x100 ≤ n && n ≤ 0x103

/-- Every number of a list is a byte. -/
def bytesOk (l : List Nat) : Bool := l.all (· < 256)

/-- A tuple fits its 8 bytes (R260). -/
def Pi.ok (p : Pi) : Bool := p.guard < 2 ^ 16 && p.app < 2 ^ 16 && p.ref < 2 ^ 32

/-- A seal fits its 16 bytes (R260). -/
def Sealed.ok (b : Sealed) : Bool := b.pi.ok && b.row < 2 ^ 32 && b.gen < 2 ^ 24 && b.q < 64

/-- A command reference: session, queue and tag in their ranges (R291, R302). Session 0 is the UART's (R485). -/
def CmdRef.ok (r : CmdRef) : Bool := (r.session = 0 || hostSession r.session || mpSession r.session) && r.queue < 64 && r.tag ≤ 0xFFFE

/-- A path names a session of its kind (R480). -/
def Path.ok : Path → Bool
  | .host n => hostSession n
  | .mp n => mpSession n
  | _ => true

/-- A request's command or path. -/
def Req.ok : Req → Bool
  | .cmd r => r.ok
  | .reg p _ => p.ok

/-- A column of a row and a block of its chunk (R214, R223). -/
def Place.ok (p : Place) : Bool := p.col < 32 && p.block < 256

/-- A path address (R290). -/
def PathAddr.ok (a : PathAddr) : Bool := a.port < 3 && a.link < 2 && a.local_ < 2 ^ 128 && a.host < 2 ^ 128 && a.udp < 2 ^ 16

/-- A CTRL body (R292). -/
def Ctrl.ok (c : Ctrl) : Bool :=
  c.op < 256 && c.reason < 256 && c.hostId < 2 ^ 128 && c.queues < 256 && c.path < 256 && c.depth < 2 ^ 16 && c.window < 2 ^ 16 &&
    c.through < 2 ^ 32

/-- A payload within R289. -/
def Body.ok : Body → Bool
  | .cmd l => 1 ≤ l.length && l.length ≤ 128 && l.all fun c => c.length = 64 && bytesOk c
  | .blocks o l => o < 2 ^ 32 && 1 ≤ l.length && l.length ≤ 2 && l.all fun b => b.2.ok
  | .bytes o l => o < 2 ^ 32 && 1 ≤ l.length && l.length ≤ 8192 && bytesOk l
  | .ctrl c => c.ok
  | .none => true

/-- A frame's header fields fit (R288). -/
def Frame.ok (f : Frame) : Bool :=
  f.addr.ok && f.session < 2 ^ 16 && f.queue < 64 && f.seq < 2 ^ 32 && f.ack < 2 ^ 32 && f.tag < 2 ^ 16 && f.window < 2 ^ 16 &&
    f.sack < 2 ^ 32 && f.body.ok

/-- A pool request's place. -/
def PoolReq.ok (r : PoolReq) : Bool := r.place.ok && r.expect.q < 64 && r.expect.gen < 2 ^ 24

/-- A card's listed bytes lie in it and are bytes other than the erased value. -/
def Card.ok (c : Card) : Bool := c.mode < 3 && c.bytes.all fun e => e.1 < c.mib * 2 ^ 20 && e.2 < 255

/-- What a start finds names feeds A and B, banked blocks and places that exist. -/
def StartObs.ok (o : StartObs) : Bool :=
  o.feeds.all (· < 2) && o.torn.all (fun t => t.2.1 < 32 && t.2.2 < 256) && match o.card with | some (some c) => c.ok | _ => true

/-- What a word senses: queue groups of R374. -/
def WordObs.ok (o : WordObs) : Bool := o.groups.all (· < 256)

/-- An ID memory's bytes fill no more than their areas (R50). -/
def Hda.ok (h : Hda) : Bool :=
  bytesOk h.fac && h.fac.length ≤ 0x4000 && bytesOk h.areaA && h.areaA.length ≤ 0x6000 && bytesOk h.areaB && h.areaB.length ≤ 0x6000

/-- At most three retries, and 16 bits of data (R46). -/
def LinkRun.ok (r : LinkRun) : Bool := r.badReads ≤ 4 && r.data < 2 ^ 16

/-- Crossings of a sense come in the order of their times. -/
def SenseObs.ok (o : SenseObs) : Bool := (o.crossings.zip o.crossings.tail).all fun e => e.1.1 < e.2.1

/-- Samples of a crossing come in the order of their times. -/
def samplesOk (l : List PhaseSample) : Bool := (l.zip l.tail).all fun e => e.1.ns < e.2.ns

/-- ADC codes of six bits and a VGA code of eight (R135, R138). -/
def ReadObs.ok (o : ReadObs) : Bool := o.samples.all (· < 64) && o.vga < 256

/-- The well-formed commands. -/
def Instr.wf : Instr → Bool
  | .slotInsertion _ hda _ => hda.ok
  | .slotRemoved _ => true
  | .slotCtrlRebring p _ _ => p.ok
  | .slotCtrlPowerOff p _ _ => p.ok
  | .powerOffSpindleStopped _ => true
  | .powerOffEn5Timer _ => true
  | .pserCmdGo p _ _ run => p.ok && run.ok
  | .pserHeldWriteApply _ run => run.ok
  | .psfltNAsserted _ status => status < 2 ^ 16
  | .moduleAreaWrite _ _ => true
  | .spinSenseEnd _ o => o.ok
  | .brakeSense _ o => o.ok
  | .alignElapsed _ => true
  | .blindHandover _ => true
  | .blindHandoverFail _ => true
  | .zeroCrossing _ samples _ => samplesOk samples
  | .transferWindowResume _ => true
  | .ilimTrip _ => true
  | .spinObserverLost _ => true
  | .spinRecatch _ _ _ => true
  | .spinRecatchFail _ => true
  | .spinBrakeTimeout _ => true
  | .spinRampTimeout _ => true
  | .spinStartRetry _ => true
  | .spinSupplyLimited _ => true
  | .spinSupplyLimitDusk _ => true
  | .spinCtrlSetpoint p _ _ => p.ok
  | .spinCtrlRestart p _ _ => p.ok
  | .spinAdvWrite p _ _ _ => p.ok
  | .spinupGroupStart _ => true
  | .servoWedge _ _ => true
  | .shockShelfHoldEnd => true
  | .headJoin _ => true
  | .headAcquireTimeout _ => true
  | .headUpSaturated _ => true
  | .pesInvalidDeparture _ => true
  | .setEmptyTimeout _ => true
  | .damperEvaluation _ _ _ _ _ => true
  | .dampCommitGo p _ => p.ok
  | .dampStateSel p _ => p.ok
  | .dampCtrlLaneEn p _ => p.ok
  | .seekRequest _ _ _ => true
  | .seekLoopsResume _ => true
  | .loadRequest _ _ => true
  | .loadServoAcquired _ => true
  | .loadFail _ => true
  | .loadRetry _ _ => true
  | .actCtrlUnload p _ _ => p.ok
  | .headsParked _ => true
  | .vcmSaturated _ => true
  | .servoLost _ => true
  | .servoReload _ _ => true
  | .vcmCoilHot _ => true
  | .headOffsetWrite p _ _ => p.ok
  | .sectorRead _ _ o => o.ok
  | .sectorWrite _ _ block _ => block.ok
  | .writeFifoEmpty _ => true
  | .assistSetpointRewrite _ _ => true
  | .assistDutyWindow _ _ => true
  | .headRejoinBound _ _ _ _ => true
  | .departedHeadReadAround _ cmd _ => cmd.ok
  | .decGrant r => r.ok
  | .contextAssign _ => true
  | .globalIterationEnd _ _ => true
  | .deferredHoldExpiry _ => true
  | .decCancel _ => true
  | .recoveryReadSubmit r _ => r.ok
  | .retentionTimeout _ => true
  | .retainRelease _ => true
  | .katTimer _ _ _ => true
  | .decCoreEnWrite p _ _ => p.ok
  | .decStatSel p _ => p.ok
  | .linkUp _ _ => true
  | .linkDown _ _ => true
  | .hostPortFault _ => true
  | .osfpModuleInserted _ _ => true
  | .dadResult _ _ _ _ => true
  | .routerAdvertisement _ _ _ _ => true
  | .neighbourDiscovery _ _ _ => true
  | .arpRequest _ _ _ => true
  | .echoRequest _ _ _ _ => true
  | .lldpTimer => true
  | .lldpReceive _ _ _ bytes => bytesOk bytes
  | .cmdFrame f => f.ok
  | .dataFrame f => f.ok
  | .ackFrame f => f.ok
  | .nakFrame f => f.ok
  | .open_ f => f.ok
  | .addPath f => f.ok
  | .close f => f.ok
  | .closed f => f.ok
  | .keepalive f => f.ok
  | .failover f => f.ok
  | .ackDelayTimer _ _ => true
  | .retransmissionTimeout _ _ => true
  | .keepaliveTimer _ _ => true
  | .pathSilenceTimeout _ _ => true
  | .sessionHoldExpiry _ => true
  | .dataTimeout r => r.ok
  | .receivedPacketDropped _ _ => true
  | .pfcFrameReceived _ _ _ => true
  | .stagingCommit r => r.ok
  | .stagingCommitComplete r => r.ok
  | .cacheFillComplete _ _ => true
  | .cacheWritebackDone _ _ _ => true
  | .cacheTagError _ => true
  | .invalidateAllDone => true
  | .dramUncorrectable _ _ => true
  | .dramCeLimit _ _ _ => true
  | .dramScrubPass _ _ _ => true
  | .mapSegmentReload _ _ => true
  | .read r _ => r.ok
  | .write r => r.ok
  | .writeZeroes r => r.ok
  | .deallocate r => r.ok
  | .flush r => r.ok
  | .verify r _ => r.ok
  | .abort r => r.ok
  | .readFailure _ r _ _ _ => r.ok
  | .ladderReadEnd _ _ _ => true
  | .reconstructionResult pl _ => pl.ok
  | .weakListFull => true
  | .weakRelocation pl _ => pl.ok
  | .extentWriteback _ _ => true
  | .journalAppendDurable _ => true
  | .zoneRowFillWait _ _ _ => true
  | .extentCopy _ _ => true
  | .heatEpochAdvance => true
  | .heatSweep => true
  | .backgroundOpStart _ _ _ _ _ => true
  | .backgroundOpEnd _ _ => true
  | .mapCheckpoint _ => true
  | .stokerSetpoint _ _ _ _ _ => true
  | .zoneEvacuated _ => true
  | .zoneRowCommit _ _ => true
  | .bandRowLockGrant _ => true
  | .bandRowWriteDone _ => true
  | .intentBitDurable _ => true
  | .journalBatch _ => true
  | .copyMemberLost _ => true
  | .memberReturn _ => true
  | .rebuildStart _ => true
  | .rebuildUnitComplete _ _ _ _ => true
  | .ledgerCopy => true
  | .volumeCreate r => r.ok
  | .volumeDelete r => r.ok
  | .volumeSet r => r.ok
  | .layoutReshape r => r.ok
  | .layoutReshapeCancel r => r.ok
  | .writeback r => r.ok
  | .purge r => r.ok
  | .dropClean r => r.ok
  | .resumeContinue q => q.ok
  | .resumeDiscard q => q.ok
  | .setKeyUnlock q => q.ok
  | .setKeyEstablish q => q.ok
  | .setKeyClear q => q.ok
  | .invalidateAll q => q.ok
  | .cacheEnable q => q.ok
  | .cacheDisable q => q.ok
  | .slotReassign _ => true
  | .slotOwnerMove _ => true
  | .hobEngineFail _ _ => true
  | .flueEngineFail _ _ => true
  | .engineFault _ _ => true
  | .microword _ obs => obs.ok
  | .engineTimerExpiry _ _ => true
  | .doorbellSet _ _ => true
  | .engineFence p _ _ => p.ok
  | .engineFenceComplete _ => true
  | .engineUnfence p _ _ => p.ok
  | .engineHalt p _ _ => p.ok
  | .engineRun p _ _ => p.ok
  | .engineStep p _ _ => p.ok
  | .engineReset p _ _ => p.ok
  | .engDbgWrite p _ _ => p.ok
  | .engCsRead p _ _ => p.ok
  | .engCsWrite p _ _ => p.ok
  | .engMatchWrite p _ _ => p.ok
  | .engSlotOwnerWrite p _ _ => p.ok
  | .feedAbsent _ => true
  | .feedPresent _ => true
  | .feedOutOfRange _ => true
  | .feedRestored _ => true
  | .pfcFault _ => true
  | .dcdcFault half => half < 2
  | .powerCapCheck _ _ => true
  | .powerCapUndo _ => true
  | .supplyWarning => true
  | .supplyQualifies => true
  | .supplyStopsQualifying => true
  | .supplyCut => true
  | .powerDownBlocks => true
  | .bankComplete _ => true
  | .supplyQualified50ms obs => obs.ok
  | .bulkBusBelow230v => true
  | .handleLatchRelease => true
  | .thermalSensorRead _ => true
  | .thermalRestart obs => obs.ok
  | .calibrationDue _ _ _ _ => true
  | .calibrationStart _ _ _ => true
  | .calibrationRunEnd _ _ _ _ _ _ => true
  | .calSuspectRetry _ _ => true
  | .marginMeasurement _ _ => true
  | .calReqGo p _ => p.ok
  | .calElemSel p _ => p.ok
  | .ageSel p _ => p.ok
  | .coldStart obs => obs.ok
  | .startLate => true
  | .brownOutRestart obs => obs.ok
  | .modResetNLow => true
  | .rstModule p _ => p.ok
  | .moduleResetRestart obs => obs.ok
  | .modResetNHighAtStart obs => obs.ok
  | .rstPort p _ => p.ok
  | .portResetEnd _ => true
  | .unlitPoll obs => obs.ok
  | .selfTest q => q.ok
  | .selfTestEnd _ _ _ _ _ _ => true
  | .selfTestRetest _ _ => true
  | .stSel p _ => p.ok
  | .tapExtest => true
  | .tapIdcode => true
  | .tapSamplePreload => true
  | .tapClamp => true
  | .tapHighz => true
  | .tapRegAccess => true
  | .tapScanEn => true
  | .tapBypass => true
  | .regAccessUpdateDr _ _ _ => true
  | .uartRead _ => true
  | .uartWrite _ _ => true
  | .uartData _ => true
  | .uartCapsule _ => true
  | .uartMalformedLine => true
  | .islandLossOfLock _ => true
  | .bridgeStall _ => true
  | .mgmtIslandFault => true
  | .vaultFault => true
  | .channelBucketLeak _ _ => true
  | .recoveryComplete _ _ => true
  | .retirementLedgerCopy => true
  | .eventFlush => true
  | .evtFlushGo p _ => p.ok
  | .eventTokenAdd _ => true
  | .evtTimeMarkHi p _ => p.ok
  | .operatingSecondsSave => true
  | .retCtrlAttnAck p _ => p.ok
  | .fltSel p _ => p.ok
  | .rmgrSel p _ => p.ok
  | .islSel p _ => p.ok
  | .queSel p _ => p.ok
  | .stkVolSel p _ => p.ok
  | .stkLookupGo p _ => p.ok
  | .recHeadSel p _ => p.ok
  | .thmZoneSel p _ => p.ok
  | .thmSensorSel p _ => p.ok
  | .lqpSessSel p _ => p.ok
  | .portAddrSnapshot p _ => p.ok
  | .portAddrWrite p _ => p.ok
  | .portCfgDisable p _ _ => p.ok
  | .cacheProbeGo p _ => p.ok
  | .readLoLatch p _ => p.ok
  | .registerWrite p _ _ => p.ok
  | .stkHeatHalfWrite p _ => p.ok
  | .identify r => r.ok
  | .getLog r => r.ok
  | .regRead r => r.ok
  | .regWrite r => r.ok
  | .eventRead r => r.ok
  | .eventClear r => r.ok
  | .kindlingWrite r => r.ok
  | .kindlingWriteFinal r _ => r.ok
  | .rekindle r obs => r.ok && obs.ok
  | .kndRekindle p _ obs => p.ok && obs.ok

end Sys2Proof
end

