-- ==== Sys2Proof/Tests/Slice0.lean ====
section
/-! SUPPORT. Tests of one command each on small states, with values worked out from the rules; the terms the
well-formedness check refuses; and for each statement with hypotheses, states and operands that meet them. -/

set_option Elab.async false

open Sys2Proof Sys2Proof.Machine

/-! ## States and operands -/

/-- The state after reset with some register fields set. -/
def tst (l : List (Fld × Nat)) : State := l.foldl (fun s e => s.set e.1 e.2) State.reset

/-- The word with some fields set. -/
def twd (l : List (Fld × Nat)) : Word := BitVec.ofNat 32 (l.foldl (fun n e => n + e.2 * 2 ^ e.1.lo) 0)

/-- A factory area, a module area copy, an HDA and measurements that agree. -/
def tFactory : Factory :=
  { sound := true, assistKind := 1, polePairs := 4, wedges := 640, maxSpeed := 7200, cyl := 350000, serial := List.replicate 24 0x41,
    made := 9000, ident := [256, 256], phaseRes := 400, vcmRes := [800, 800], vcmInd := [100, 100], upGain := 100, loopPs := 500,
    upCap := List.replicate 20 1000, rdrRes := List.replicate 20 500, assist := List.replicate 20 ⟨3000, 1800, 10, 6000⟩ }
def tFac : List Nat := factoryBytes tFactory
def tHda : Hda := ⟨true, tFac, [], []⟩

theorem tFac_length : (factoryBody tFactory).length = 0x3FFC := by
  unfold factoryBody
  simp only [List.length_append, List.length_replicate]
  have : ∀ n k : Nat, n = 304 → k = 16380 → n + (k - n) = k := by omega
  exact this _ _ (by decide +kernel) rfl
theorem tFac_magic : (factoryBody tFactory).take 4 = magicFactory := by decide +kernel
theorem tFac_version : leVal (((factoryBody tFactory).drop 4).take 2) = 1 := by decide +kernel
theorem tFac_sound : areaSound magicFactory 0x4000 tFac = true :=
  areaSound_closed (by rw [tFac_length]) (by rw [tFac_length]; decide) tFac_magic tFac_version

/-- The bytes of the factory area say what was put into them, and the area is sound (R51). -/
theorem tHda_factory : tHda.factory = tFactory := by
  show readFactory tFac = tFactory
  unfold readFactory
  rw [tFac_sound]
  decide +kernel

theorem tHda_none : modInForce tHda = none := by decide +kernel
def tMeas : Meas :=
  ⟨[400, 400, 400], [800, 800], [100, 100], List.replicate 20 1000, List.replicate 20 500,
    List.replicate 20 ⟨some 1800, 50, 3000, 1800⟩, List.replicate 20 5000, List.replicate 20 3, List.replicate 20 5500,
    [256, 256], 300⟩

/-- A path of port 0, link 0, and a session of two queues on it. -/
def tAddr : PathAddr := ⟨0, 0, 1, 2, 3⟩
def tPath : PathSt := { addr := tAddr, opener := (1, 7, 99), rx := 100, tx := 5, window := 64 }
def tSession : Session := { hostId := 7, queues := 2, depth := 8, paths := [tPath] }

/-- A running module that serves hosts, link 0 of port 0 up, with session 1. -/
def tHost : State := { tst [(R.GLB_STATUS_STATE, 0), (R.PORT_STATUS_LINK0 0, 1)] with sessions := [(1, tSession)] }

/-- A capsule from its first bytes. -/
def tCap (l : List Nat) : Capsule := l ++ List.replicate (64 - l.length) 0

/-- A command of session 1, queue 1, tag 5. -/
def tRef : CmdRef := ⟨1, 1, 5⟩
def tCmd (l : List Nat) : Cmd := { ref := tRef, cap := tCap l, arrival := 4, path := 0, port := 0, since := 0 }

/-- An admin command of session 1, tag 5. -/
def aRef : CmdRef := ⟨1, 0, 5⟩
def aCmd (l : List Nat) : Cmd := { ref := aRef, cap := tCap l, arrival := 4, path := 0, port := 0, since := 0 }

/-- A frame on the path of session 1, at the SEQ it expects. -/
def tFrame (queue tag : Nat) (b : Body) : Frame :=
  { addr := tAddr, session := 1, queue := queue, last := true, solicit := false, seq := 100, ack := 5, tag := tag,
    window := 64, sack := 0, crcOk := true, body := b }

/-- An unencrypted and an encrypted volume of four extents. -/
def tVol : Volume :=
  { size := 4, group := 0, k := 10, p := 2, buffered := true, latency := 1, budget := 0, hint := 0, encrypt := false }
def tVolKey : Volume := { tVol with encrypt := true, kcv := some 9, key := some 3 }

theorem writable_host {s : State} (h : s.run = .up) (i : s.islands = []) (e : s.engs = []) (k : s.knd = {}) :
    writable (.host 1) s := by
  refine ⟨h, rfl, fun j _ => ?_, fun j _ => ?_, ?_, ?_⟩
  · simp [State.islandUp, State.island, i, tgetD]
  · simp [State.eng, e, tgetD]
  · simp [k]
  · simp [k]

theorem inFlight_of {s : State} {r : CmdRef} {c : Cmd} (h : s.run = .up) (hc : s.isCut = false) (hr : s.cmdOf r = some c)
    (hh : c.held = false) (hs : r.session = 1) (hx : s.session 1 = some tSession) (hp : c.path = 0) : inFlight r c s :=
  ⟨h, hc, hr, hh, by omega, tSession, tPath, by rw [hs]; exact hx, rfl, by rw [hp]; rfl, rfl⟩

/-- What a member of 350,000 servo tracks with a 6 % band holds (R212, R213), worked out once. -/
def tStore : Store := { n := 350000 }
theorem tNumbers : bandSlots 350000 6 10 = 665794 ∧ zoneCount 350000 6 = 3932 ∧ tStore.zoneChunks = 9373888 ∧
    zoneCapacity 350000 6 0 0 10 = 2384 := by decide +kernel

/-! ## Hypotheses of the statements that can be met, in the order of the statements -/

theorem witness_StepRunsTheFrontCommand :
    ({ tHost with pending := [.lldpTimer, .shockShelfHoldEnd] } : State).pending = .lldpTimer :: [.shockShelfHoldEnd] ∧
      State.reset.pending = [] := by decide

/-- An open gate of a lawful head, and a step to keep it through. -/
theorem witness_OpenGatesStayLawful :
    (∀ g ∈ ({ tst [(R.ACT_STATUS_STATE 0, 4), (R.HEAD_PES_IN_SET 3, 1)] with gates := [3] } : State).gates,
      State.get (R.ACT_STATUS_STATE (g / 10)) { tst [(R.ACT_STATUS_STATE 0, 4), (R.HEAD_PES_IN_SET 3, 1)] with gates := [3] } = 4 ∧
      State.get (R.HEAD_PES_IN_SET g) { tst [(R.ACT_STATUS_STATE 0, 4), (R.HEAD_PES_IN_SET 3, 1)] with gates := [3] } = 1 ∧
      State.get (R.HEAD_OFFSET_OFFSET g) { tst [(R.ACT_STATUS_STATE 0, 4), (R.HEAD_PES_IN_SET 3, 1)] with gates := [3] } = 0) := by
  decide

theorem witness_SlotInsertionIsRecorded :
    (tHost.run = .up ∧ tHost.get (R.SLOT_STATUS_PRESENT 0) = 0 ∧ State.get (R.SLOT_CTRL_ENABLE 0) (tst [(R.SLOT_CTRL_ENABLE 0, 0)]) = 0) ∧
    (State.get (R.SLOT_CTRL_ENABLE 0) (tst [(R.SLOT_CTRL_ENABLE 0, 1)]) = 1 ∧ (State.reset.slot 0).cableRetired = false ∧
      (State.reset.slot 0).frontRetired = false ∧
      (let h : Hda := ⟨true, [], [], []⟩
       (h.answers && h.factory.sound && (h.factory.assistKind = 1 || h.factory.assistKind = 2)) = false)) := by decide +kernel

theorem witness_SlotRemovalStopsTheSlot :
    (tst [(R.SLOT_STATUS_PRESENT 31, 1)]).run = .up ∧ State.get (R.SLOT_STATUS_PRESENT 31) (tst [(R.SLOT_STATUS_PRESENT 31, 1)]) = 1 := by
  decide

/-- A ready slot 0 with an HDA, and the steps of its power-off. -/
def tReady : State := { tst [(R.SLOT_STATUS_STATE 0, 4), (R.SLOT_STATUS_PRESENT 0, 1)] with slots := [(0, { hda := some tHda, meas := some tMeas })] }

theorem witness_SlotPowerOffSequenceRuns :
    (writable (.host 1) tReady ∧ tReady.get (R.SLOT_STATUS_STATE 0) = 4 ∧ (tReady.slot 0).offStep = 0 ∧
      field (R.SLOT_CTRL_POWER_OFF 0) (twd [(R.SLOT_CTRL_POWER_OFF 0, 1)]) = 1 ∧
      field (R.SLOT_CTRL_REBRING 0) (twd [(R.SLOT_CTRL_POWER_OFF 0, 1)]) = 0) ∧
    ((State.reset.setSlot 0 { offStep := 2 }).run = .up ∧ ((State.reset.setSlot 0 { offStep := 2 }).slot 0).offStep = 2) ∧
    (let s := (tst [(R.SLOT_CTRL_POWER_OFF 0, 1)]).setSlot 0 { offStep := 4 }
     s.run = .up ∧ (s.slot 0).offStep = 4 ∧ s.get (R.SLOT_CTRL_POWER_OFF 0) = 1) := by
  refine ⟨⟨writable_host rfl rfl rfl rfl, by decide⟩, by decide, by decide⟩

theorem witness_PreampLinkAndIdMemory :
    (let w := twd [(R.SLOT_PSER_CMD_GO 63, 1), (R.SLOT_PSER_CMD_ADDR 63, 5), (R.SLOT_PSER_CMD_WDATA 63, 77)]
     writable (.host 1) State.reset ∧ tget 63 State.reset.pser = none ∧ field (R.SLOT_PSER_CMD_GO 63) w = 1 ∧
      (⟨0, false, 77⟩ : LinkRun).badReads = 0 ∧ (⟨0, true, 77⟩ : LinkRun).badWrite = true ∧ field (R.SLOT_PSER_CMD_DIR 63) w = 0 ∧
      State.reset.pserHeld 63 (field (R.SLOT_PSER_CMD_ADDR 63) w) = false ∧
      State.reset.preampTakes 63 (field (R.SLOT_PSER_CMD_ADDR 63) w) (field (R.SLOT_PSER_CMD_WDATA 63) w) < 65536) ∧
    (let w := twd [(R.SLOT_PSER_CMD_GO 63, 1), (R.SLOT_PSER_CMD_DIR 63, 1), (R.SLOT_PSER_CMD_ADDR 63, 0x3F)]
     field (R.SLOT_PSER_CMD_GO 63) w = 1 ∧ field (R.SLOT_PSER_CMD_DIR 63) w = 1 ∧ field (R.SLOT_PSER_CMD_ADDR 63) w ∉ [1, 6, 8]) ∧
    (let s : State := { State.reset with pser := [(3, [⟨0x30, 0, 9⟩])] }
     s.run = .up ∧ tget 3 s.pser = some [⟨0x30, 0, 9⟩] ∧ s.pserHeld 3 0x30 = false ∧ s.preampTakes 3 (0x30 % 128) 9 < 65536) ∧
    (tReady.run = .up ∧ tReady.isCut = false ∧ (tReady.slot 0).hda = some tHda ∧ (tReady.slot 0).idFailed = false ∧
      (tReady.slot 0).trimWrittenAt = 0) := by
  refine ⟨⟨writable_host rfl rfl rfl rfl, by decide⟩, by decide, by decide, by decide, by decide, rfl, by decide, by decide⟩

theorem passes_tHda (s : State) (h : s.ledger = []) : passesBringUp s 0 tHda tMeas := by
  unfold passesBringUp
  rw [tHda_factory, tHda_none]
  refine ⟨by decide, fun a ha => ?_, by simp [h], by simp, by decide, by decide⟩
  have : a = 0 ∨ a = 1 := by omega
  rcases this with rfl | rfl <;> decide

theorem witness_SlotBecomesReady :
    passesBringUp tReady 0 tHda tMeas ∧
    (let s := tst [(R.SLOT_CTRL_ENABLE 0, 1)]
     s.run = .up ∧ s.get (R.SLOT_STATUS_PRESENT 0) = 0 ∧ s.get (R.SLOT_CTRL_ENABLE 0) = 1 ∧ (s.slot 0).cableRetired = false ∧
      (s.slot 0).frontRetired = false) ∧
    (let s := tReady.set (R.SLOT_STATUS_STATE 0) 5
     let w := twd [(R.SLOT_CTRL_REBRING 0, 1)]
     writable (.host 1) s ∧ s.get (R.SLOT_STATUS_STATE 0) = 5 ∧ (s.slot 0).cableRetired = false ∧ (s.slot 0).hda = some tHda ∧
      (s.slot 0).meas = some tMeas ∧ field (R.SLOT_CTRL_REBRING 0) w = 1 ∧ field (R.SLOT_CTRL_POWER_OFF 0) w = 0) := by
  refine ⟨passes_tHda _ rfl, by decide, writable_host rfl rfl rfl rfl, by decide, by decide, rfl, rfl, by decide, by decide⟩

/-- A sense that finds the spindle turning forward at v, 0.1 rpm: crossings of U, W and V, a twenty-fourth of a revolution apart (R64). -/
def tSense (v : Nat) : SenseObs := ⟨0, [(0, 0), (25000000000 / v, 2), (50000000000 / v, 1)], 100⟩

theorem witness_SpindleSenseDecides :
    (let s := tst [(R.SPIN_STATUS_STATE 4, 1)]
     s.run = .up ∧ s.get (R.SPIN_STATUS_STATE 4) = 1 ∧ (s.spin 4).recoverSense = false ∧ (s.spin 4).waiting = false) ∧
    State.get (R.SPIN_STATUS_STATE 4) (tst [(R.SPIN_STATUS_STATE 4, 2)]) = 2 ∧
    State.get (R.SPIN_STATUS_STATE 4) (tst [(R.SPIN_STATUS_STATE 4, 3)]) = 3 ∧
    (let s := (tst [(R.SPIN_STATUS_STATE 4, 1), (R.SPIN_CTRL_SETPOINT 4, 2)]).setSpin 4 { recoverSense := true }
     s.run = .up ∧ s.get (R.SPIN_STATUS_STATE 4) = 1 ∧ (s.spin 4).recoverSense = true ∧ s.get (R.SPIN_CTRL_SETPOINT 4) ≠ 0 ∧
      senseFound (tSense 48000) = .forward 48000 100) := by decide +kernel

/-- R72, R73: what a sense tells: forward, backward, rest below 20 mV, slow otherwise; crossings past the first 150 ms do not count
where some came before. -/
theorem test_senseFound :
    senseFound (tSense 6001) = .forward 6001 100 ∧
      senseFound ⟨0, [(0, 0), (4166666, 1), (8333333, 2)], 100⟩ = .backward 6000 ∧ senseFound ⟨0, [], 19⟩ = .rest ∧
      senseFound ⟨0, [], 20⟩ = .slow ∧ senseFound ⟨0, [(0, 0), (1, 2), (150000001, 1)], 100⟩ = .slow := by decide +kernel

/-- Ten seconds into a blind ramp of the spindle of slot 4. -/
def tBlind (measured : Nat) : State :=
  { (tst [(R.SPIN_STATUS_STATE 4, 5)]).setSpin 4 { measured := measured, blindAt := 1 } with now := 60000001 }

theorem witness_SpindleStartAdvances :
    State.reset.run = .up ∧ State.get (R.SPIN_STATUS_STATE 4) (tst [(R.SPIN_STATUS_STATE 4, 4)]) = 4 ∧
    ((tBlind 6).get (R.SPIN_STATUS_STATE 4) = 5 ∧ 6 ≤ ((tBlind 6).spin 4).measured ∧ 6000 ≤ (tBlind 6).blindRef 4) ∧
    (let s := (tst [(R.SPIN_STATUS_STATE 4, 6), (R.SPIN_CTRL_SETPOINT 4, 1), (R.SPIN_SPEED_SPEED 4, 54270)]).setSpin 4 { inside := 48 }
     inWindow (s.get (R.SPIN_CTRL_SETPOINT 4)) (s.get (R.SPIN_SPEED_SPEED 4)) = true ∧ 48 ≤ (s.spin 4).inside ∧
      (s.get (R.SPIN_STATUS_STATE 4) = 6 ∨ s.get (R.SPIN_STATUS_STATE 4) = 7)) ∧
    (let s := (tst [(R.SPIN_STATUS_STATE 4, 7), (R.SPIN_CTRL_SETPOINT 4, 2), (R.SPIN_SPEED_SPEED 4, 71639)]).setSpin 4 { duty := 10000 }
     s.get (R.SPIN_STATUS_STATE 4) = 7 ∧ s.get (R.SPIN_CTRL_SETPOINT 4) = 2 ∧ s.get (R.SPIN_SPEED_SPEED 4) < 71640 ∧
      10000 ≤ (s.spin 4).duty) ∧
    (let s := (tst [(R.SPIN_STATUS_STATE 4, 8)]).setSpin 4 { measured := 6 }
     s.get (R.SPIN_STATUS_STATE 4) = 8 ∧ 6 ≤ (s.spin 4).measured) ∧
    (let s := tst [(R.SPIN_STATUS_STATE 4, 9), (R.SPIN_STATUS_START_FAILS 4, 2)]
     s.get (R.SPIN_STATUS_STATE 4) = 9 ∧ s.get (R.SPIN_STATUS_START_FAILS 4) < 3) := by decide +kernel

theorem witness_SpindleFailuresCount :
    ((tBlind 5).run = .up ∧ (tBlind 5).get (R.SPIN_STATUS_STATE 4) = 5 ∧ 7200 ≤ (tBlind 5).blindRef 4 ∧ ((tBlind 5).spin 4).measured < 6) ∧
    State.get (R.SPIN_STATUS_STATE 4) (tst [(R.SPIN_STATUS_STATE 4, 3)]) = 3 ∧
    (let s := (tst [(R.SPIN_STATUS_STATE 4, 6)]).setSpin 4 { origin := .caught }
     s.get (R.SPIN_STATUS_STATE 4) = 6 ∧ (s.spin 4).origin = .caught) ∧
    (let s := (tst [(R.SPIN_STATUS_STATE 4, 7)]).setSpin 4 { losses := [0, 0], missing := 3 }
     s.get (R.SPIN_STATUS_STATE 4) = 7 ∧ 3 ≤ (s.spin 4).missing ∧ (s.within 3600 (s.spin 4).losses).length < 4) ∧
    State.get (R.SPIN_STATUS_STATE 4) (tst [(R.SPIN_STATUS_STATE 4, 8)]) = 8 ∧
    (let s := tst [(R.SPIN_STATUS_STATE 4, 4)]
     let s := { s with pins := { s.pins with phases := [4] } }
     s.currentLimit 4 = some (500 + 50 * s.get (R.SPIN_ILIM_ALIGN_ILIM 4))) ∧
    2 ≤ State.get (R.SPIN_STATUS_STATE 4) (tst [(R.SPIN_STATUS_STATE 4, 7)]) := by decide +kernel

/-- Two samples of the floating phase of opposite sign, 25 µs apart, both with their window of 2.0 µs. -/
def tCross : List PhaseSample := [⟨1000000000, 2000, false, -100⟩, ⟨1000025000, 2000, false, 300⟩]

theorem witness_SpindleIsCommandedAndMeasured :
    (writable (.host 1) State.reset ∧ field (R.SPIN_CTRL_RESTART 4) (twd [(R.SPIN_CTRL_SETPOINT 4, 3)]) = 0 ∧
      field (R.SPIN_CTRL_SETPOINT 4) (twd [(R.SPIN_CTRL_SETPOINT 4, 3)]) = 3 ∧
      field (R.SPIN_CTRL_SETPOINT 4) (twd [(R.SPIN_CTRL_SETPOINT 4, 2)]) ≤ 2) ∧
    (let s := tst [(R.SPIN_STATUS_STATE 4, 9), (R.SPIN_CTRL_SETPOINT 4, 2)]
     let w := twd [(R.SPIN_CTRL_RESTART 4, 1), (R.SPIN_CTRL_SETPOINT 4, 2)]
     writable (.host 1) s ∧ s.get (R.SLOT_STATUS_STATE 4) ≠ 7 ∧ s.get (R.SPIN_STATUS_STATE 4) = 9 ∧
      field (R.SPIN_CTRL_RESTART 4) w = 1 ∧ field (R.SPIN_CTRL_SETPOINT 4) w = s.get (R.SPIN_CTRL_SETPOINT 4) ∧
      field (R.SPIN_CTRL_SETPOINT 4) w ≤ 2) ∧
    (let adv := fun (k : Fin 4) (w : Word) =>
       ((State.reset.set (R.SPIN_ADV_ENTRY_LO 4 k) (field (R.SPIN_ADV_ENTRY_LO 4 k) w)).set (R.SPIN_ADV_ENTRY_HI 4 k)
         (field (R.SPIN_ADV_ENTRY_HI 4 k) w)).advRises 4
     adv 3 (twd [(R.SPIN_ADV_ENTRY_LO 4 3, 1022), (R.SPIN_ADV_ENTRY_HI 4 3, 1023)]) = true ∧ adv 3 0#32 = false) ∧
    (let s := (tst [(R.SPINUP_CTRL_BUDGET, 63), (R.SLOT_STATUS_STATE 9, 4)]).setSpin 9 { waiting := true }
     s.run = .up ∧ s.isCut = false ∧ s.get R.PWR_CAP_ACTIONS = 0 ∧ s.nextGroup = some (1 : Fin 8).val ∧ s.groupGap = true ∧
      s.allowanceUsed + (s.waitingSlots.filter fun i => i % 8 = (1 : Fin 8).val).foldl (fun n i => n + s.allowance i) 0 ≤
        2 * s.get R.SPINUP_CTRL_BUDGET) ∧
    (let s := (tst [(R.SPIN_STATUS_STATE 4, 7)]).setSpin 4 { times := [(7, true)] }
     5 ≤ s.get (R.SPIN_STATUS_STATE 4) ∧ s.get (R.SPIN_STATUS_STATE 4) ≤ 8 ∧ (s.spin 4).times.length < 12 ∧
      crossingOf none false [] = .absent ∧ crossingOf none false tCross = .located 1000006250) ∧
    (let sp : Spindle := { times := (List.range 24).map fun i => (1000006250 - 400000 * (i + 1), true) }
     classify sp (crossingOf none false tCross) = (0, 1000006250) ∧
      measuredSpeed (((1000006250, true) :: sp.times).take 50) = some 62500) := by
  refine ⟨⟨writable_host rfl rfl rfl rfl, by decide⟩, ⟨writable_host rfl rfl rfl rfl, by decide⟩, by decide, by decide +kernel,
    by decide +kernel, by decide +kernel⟩

/-- The wedge of number 5 of track 3 with a runout of 16, its bursts at 45°. -/
def tWedge : WedgeObs := ⟨wedgeBits 5 3 16, 9000, 9000, 8⟩

/-- R93, R94: what the wedge tells: 5 mod 7 is 5, and equal bursts are a quarter of a track. -/
theorem test_readWedge : readWedge tWedge.bits tWedge.a tWedge.b = ⟨true, some (5, 5), some 3, some 16, some 256⟩ := by decide +kernel

theorem witness_ServoWedgeMeasuresHeads :
    (let s : State := { tst [(R.ACT_STATUS_STATE 5, 6)] with trims := [(58, [(0, 0xA5), (420, 100)])] }
     s.run = .up ∧ s.loaded 5 = true ∧ [tWedge][0]? = some tWedge ∧ (readWedge tWedge.bits tWedge.a tWedge.b).track = some 3 ∧
      (readWedge tWedge.bits tWedge.a tWedge.b).fine = some 256 ∧ (s.actu 5).leaver ≠ some (10 * 5 + 0) ∧
      s.wedgeValid (10 * 5 + 0) tWedge (readWedge tWedge.bits tWedge.a tWedge.b) 3 = true) := by
  rw [test_readWedge]; decide +kernel

theorem witness_HeadsJoinAndLeaveTheSet :
    (let s := (tst [(R.HEAD_PES_FOLLOWING 57, 1), (R.ACT_STATUS_STATE 5, 3), (R.HEAD_PES_WRITE_SAFE 57, 1)]).setHead 57 { acquiring := true, settleRun := 8 }
     let s := s.setActu 5 { writing := true }
     s.run = .up ∧ (s.head 57).acquiring = true ∧ s.following 57 = true ∧ s.joinFits 57 = true ∧
      (if (s.actu 5).writing then 8 else 4) ≤ (s.head 57).settleRun ∧ s.get (R.HEAD_PES_WRITE_SAFE 57) = 1 ∧
      s.get (R.ACT_STATUS_STATE 5) = 3 ∧ s.get (R.ACT_STATUS_REID_PENDING 5) = 0 ∧
      State.get (R.ACT_STATUS_REID_PENDING 5) (s.set (R.ACT_STATUS_REID_PENDING 5) 1) = 1 ∧
      (s.within 86400 (s.head 57).upSatAt).length < 8) ∧
    (let s := (tst [(R.HEAD_PES_IN_SET 57, 1)]).setHead 57 { invalidRun := 2 }
     s.inSet 57 = true ∧ 2 ≤ (s.head 57).invalidRun) ∧
    (let s := (State.reset.setActu 5 { transferring := true }).setHead 57 { sector := some (1024, 3, 40), unread := [⟨1, 2, 3⟩] }
     s.setOf 5 = [] ∧ (s.actu 5).transferring = true ∧ (s.head (10 * 5 + 7)).sector = some (1024, 3, 40) ∧
      ⟨1, 2, 3⟩ ∈ (s.head (10 * 5 + 7)).unread) := by decide +kernel

theorem witness_DamperLoopEvaluates :
    (let s := (tst [(R.ACT_STATUS_STATE 5, 4), (R.DAMP_CTRL_LANE_EN, 65535)]).setLoop 645 { active := some ⟨[], 1, 1, 0, 0⟩ }
     let runs : List LaneRun := [⟨0, 0⟩, ⟨8, 0⟩]
     s.run = .up ∧ (645 : LoopIx).val < 768 ∧ s.loopRuns 645 = true ∧ s.lanesFit runs = true ∧
      (∀ r ∈ runs, r.dev = 0) ∧ (s.loop 645).pending = false ∧ ((s.loop 645).active.getD (romLoop 645)).en = 1) ∧
    (writable (.host 1) State.reset ∧ field R.DAMP_COMMIT_GO (twd [(R.DAMP_COMMIT_GO, 1), (R.DAMP_COMMIT_LOOP, 799)]) = 1 ∧
      field R.DAMP_COMMIT_LOOP (twd [(R.DAMP_COMMIT_GO, 1), (R.DAMP_COMMIT_LOOP, 799)]) < 800) := by
  refine ⟨by decide +kernel, writable_host rfl rfl rfl rfl, by decide⟩

theorem witness_ActuatorSeeksLoadsUnloads :
    (let s := tst [(R.ACT_STATUS_STATE 5, 4), (R.HEAD_PES_FOLLOWING 57, 1)]
     s.run = .up ∧ s.get (R.ACT_STATUS_STATE 5) = 4 ∧ (∀ g ∈ s.gates, g / 10 ≠ 5) ∧ (∀ h, h < 10 → s.inSector (10 * 5 + h) = false)) ∧
    State.get (R.ACT_STATUS_STATE 5) (tst [(R.ACT_STATUS_STATE 5, 2)]) = 2 ∧
    (let s := (tst [(R.SPIN_SPEED_SPEED 2, 48001), (R.SPIN_CTRL_SETPOINT 2, 1), (R.SLOT_STATUS_STATE 2, 4), (R.DAMP_STATUS_LANE_LIMIT, 1)]).setActu 5 { reloadDue := true }
     s.get (R.ACT_STATUS_STATE 5) = 0 ∧ s.loadPermitted 5 11000 = true ∧ (s.actu 5).reloadDue = true) ∧
    (let s := (tst [(R.ACT_STATUS_STATE 5, 1)]).setActu 5 { loadFails := 1 }
     s.get (R.ACT_STATUS_STATE 5) = 1 ∧ (s.actu 5).loadFails < 2 ∧ s.loaded 5 = true ∧ writable (.host 1) s ∧
      field (R.ACT_CTRL_UNLOAD 5) (twd [(R.ACT_CTRL_UNLOAD 5, 1)]) = 1) ∧
    (let s := (tst [(R.ACT_STATUS_STATE 5, 1), (R.HEAD_PES_FOLLOWING 50, 1)]).setHead 50 { validRun := 8 }
     ∃ g, s.refHead 5 = some g ∧ 8 ≤ (s.head g).validRun) ∧
    State.get (R.ACT_STATUS_STATE 5) (tst [(R.ACT_STATUS_STATE 5, 5)]) = 5 ∧
    field (R.HEAD_OFFSET_OFFSET 57) (twd [(R.HEAD_OFFSET_OFFSET 57, 1)]) ≠ 0 := by
  refine ⟨by decide +kernel, by decide, by decide, ⟨by decide, by decide, by decide, writable_host rfl rfl rfl rfl, by decide⟩,
    ⟨50, by decide +kernel⟩, by decide, by decide⟩

theorem witness_ActuatorFaultsUnload :
    (let s := (tst [(R.ACT_STATUS_STATE 5, 3), (R.ACT_CURRENT_SATURATED 5, 1), (R.ACT_COIL_T_EST 5, 1350)]).setActu 5 { satAt := [0], lostAt := [0], invalidRun := 8 }
     s.run = .up ∧ s.get (R.ACT_STATUS_STATE 5) = 3 ∧ s.get (R.ACT_CURRENT_SATURATED 5) = 1 ∧ s.get (R.ACT_TARGET_ACCEL 5) = 0 ∧
      (s.within 86400 (s.actu 5).satAt).length < 3 ∧ s.loaded 5 = true ∧ 8 ≤ (s.actu 5).invalidRun ∧ s.setOf 5 = [] ∧
      (s.within 3600 (s.actu 5).lostAt).length < 3 ∧ 1350 ≤ s.get (R.ACT_COIL_T_EST 5) ∧ (s.actu 5).hotAt = 0) ∧
    (let s : State := { tst [] with acts := [(5, { hotAt := 1 })], opSec := 60 }
     (s.actu 5).hotAt + 60 ≤ s.opSec + 1) := by decide +kernel

/-- Head 57 writing. -/
def tWriting : State :=
  { tst [(R.ACT_STATUS_STATE 5, 4), (R.HEAD_PES_IN_SET 57, 1), (R.HEAD_PES_WRITE_SAFE 57, 1), (R.SPIN_STATUS_IN_WINDOW 2, 1),
      (R.HEAD_CH_STATUS_ZONE 57, 0), (R.HEAD_CH_CTRL_ERASE_DEFECTS 57, 0), (R.PWR_STATUS_SUPPLY, 0)] with
    preamp := [(642, 3)], slots := [(2, { hda := some tHda })], acts := [(5, { writing := true })],
    heads := [(57, { assistSet := true, chunk := some (9, 0), sector := some (0, 4, 30) })] }

/-- A foreground read of the head that an entry is granted to, and what its channel gives: SM1 at bit 141, and nothing after it. -/
def tRead : PoolReq := ⟨57, 0, some 4, none, [], ⟨3, 1, 0⟩, ⟨0, 2, true⟩⟩
def tSector (st : PoolSt) (iters : Nat) : PoolSector := { req := tRead, cls := 0, st := st, iters := iters, arrival := 0 }
def tPassing : State := { tWriting.setActu 5 {} with pool := { sectors := [(1, tSector .granted 0)], nextId := 2 } }
def tRecv : ReadObs :=
  ⟨[], [], 16, [], List.replicate (256 + 141) false ++ (List.range 32).map fun i => sm1Mark.testBit (31 - i), [], 0, {}⟩

theorem witness_SectorsAreReadAndWritten :
    (tPassing.run = .up ∧
      tPassing.pool.sectors.filter (fun e => decide (e.2.st = .granted) && decide (e.2.req.head.val = (57 : GHead).val)) =
        [(1, tSector .granted 0)] ∧
      tRead.budget = none ∧ (tPassing.head 57).leaving = false ∧ (tPassing.enterZone 57).readsNow 57 5 = true ∧
      tPassing.get (R.HEAD_CH_CTRL_ERASE_DEFECTS 57) = 0 ∧
      findSm1 (tPassing.get (R.HEAD_CH_CTRL_SM1_MAXERR 57)) (sm1Errs tRecv.hard) = some 141 ∧
      findSm2 (tPassing.get (R.HEAD_CH_CTRL_SM2_MAXERR 57)) (sm2Errs tRecv.hard) = (none : Option Nat).toList ∧
      frameOf (tPassing.bit (R.HEAD_CH_CTRL_SM2_ONLY 57)) (some 141) none ≠ .fail) ∧
    (let s := tWriting.setHead 57 { assistSet := true }
     (s.actu 5).writing = true ∧ (s.head 57).sector = none ∧ (s.head 57).resumes 9 0 = true ∧ (s.slot 2).dutyCap = 100 ∧
      0 < sectorsPerTrack ((s.enterZone 57).get (R.HEAD_CH_STATUS_ZONE 57)) ∧
      ((s.enterZone 57).setHead 57 { (s.enterZone 57).head 57 with fifoFull := true }).gateOpens 57 = true ∧
      s.get (R.ACT_STATUS_STATE 5) = 4) ∧
    ((tWriting.actu 5).writing = true ∧ (tWriting.head 57).chunk = some (9, 0) ∧ (tWriting.head 57).sector = some (0, 4, 30)) ∧
    (let s := tst [(R.SLOT_STATUS_STATE 2, 4)]
     57 ∉ s.gates ∧ s.get (R.SLOT_STATUS_STATE 2) = 4 ∧ (s.head 57).assistSet = false) := by decide +kernel

/-- A recovery read, and one of a head of the set. -/
def tPool : PoolReq := { tRead with budget := some 40 }
def tBlock : Sealed := ⟨0, ⟨0, 0, 0⟩, 3, 2, 0, true, false⟩
/-- All cores in service, a sector waiting, one being decoded in core 4, one deferred; head 57 in the set. -/
def tDec : State :=
  { tst [(R.DEC_CORE_EN_EN 0, 2 ^ 32 - 1), (R.HEAD_PES_IN_SET 57, 1)] with
    pool := { sectors := [(1, tSector .waiting 0), (2, tSector (.running 4) 1), (3, tSector (.deferred 0) 0)], nextId := 4,
              busy := [(4, 2)] } }

theorem witness_PoolGrantsAndAssigns :
    (tDec.run = .up ∧ tDec.coreCount ≠ 0 ∧ tDec.inSet 57 = true ∧ tDec.reading 57 = false ∧ (tDec.head 57).waits tPool.place = false ∧
      tDec.pool.occupancy < 896 ∧ tDec.coreOk 0 = true ∧ tDec.pool.contexts 0 < 4 ∧
      (∃ e ∈ tDec.pool.sectors, e.2.st = .waiting ∧ e.2.cross ≠ some (0 : Core).val)) ∧
    (tPool.budget = some 40 ∧ tPool.handles.length ≤ 7 ∧ tget (placeKey tPool.place) tDec.recs = none ∧ State.reset.inSet 57 = false) ∧
    (let s : State := { tDec with pool := { sectors := (List.range 896).map fun i => (i, tSector .waiting 0) } }
     896 ≤ s.pool.occupancy) ∧ writable (.host 1) State.reset := by
  refine ⟨by decide +kernel, by decide, by decide +kernel, writable_host rfl rfl rfl rfl⟩

theorem witness_PoolSectorsEnd :
    (tDec.run = .up ∧ tDec.coreBusy 4 = some (2, tSector (.running 4) 1) ∧
      decoded (codeword tBlock (tSector (.running 4) 1).target (tSector (.running 4) 1).n) (tSector (.running 4) 1).target
        (tSector (.running 4) 1).n = some tBlock ∧ sealPasses tRead tBlock = true ∧
      (tSector (.running 4) 1).cross = none ∧ (tSector (.running 4) 1).cancel = false) ∧
    (tget 3 tDec.pool.sectors = some (tSector (.deferred 0) 0) ∧ (∀ c, (tSector (.deferred 0) 0).st ≠ .running c) ∧
      tget 2 tDec.pool.sectors = some (tSector (.running 4) 1) ∧ (tSector (.running 4) 1).iters ≠ 0) ∧
    (writable (.host 1) State.reset ∧
      field R.DEC_STAT_SEL_G (twd [(R.DEC_STAT_SEL_G, 639), (R.DEC_STAT_SEL_CLEAR, 1)]) < 640 ∧
      field R.DEC_STAT_SEL_CLEAR (twd [(R.DEC_STAT_SEL_G, 639), (R.DEC_STAT_SEL_CLEAR, 1)]) = 1) := by
  refine ⟨⟨rfl, by decide, decoded_codeword tBlock _ _ ?_ ?_ ?_ ?_ ?_ ?_, by decide +kernel, rfl, rfl⟩,
    ⟨by decide, by intro c; simp [tSector], by decide, by decide⟩, writable_host rfl rfl rfl rfl, by decide⟩ <;> decide

theorem witness_LinksComeAndGo :
    (State.reset.run = .up ∧ State.reset.get (R.PORT_STATUS_RETIRED 1) = 0 ∧ State.get (R.PORT_CFG_DISABLE 1) (tst [(R.PORT_CFG_MODE 1, 1)]) = 0 ∧
      State.reset.get (R.PORT_STATUS_LOW_POWER 1) = 0 ∧ (State.reset.island 1).state = 0 ∧
      State.get (R.PORT_CFG_MODE 1) (tst [(R.PORT_CFG_MODE 1, 1)]) = 1) ∧ State.reset.ledger.length < 16384 := by decide

theorem witness_AddressesAreDetectedAndAnswered :
    (let s : State := { tHost with addrs := [(5, ⟨9, 24, false, false⟩)] }
     s.run = .up ∧ s.hears (0 : Fin 3) (0 : Fin 2) = true ∧ tget (addrKey 0 0 5) s.addrs = some ⟨9, 24, false, false⟩ ∧
      s.isPaused 0 = false) ∧
    (let s : State := { tHost.set (R.PORT_CFG_SLAAC_EN 0) 1 with addrs := [(1, ⟨8, 64, true, false⟩), (2, ⟨7, 64, true, false⟩), (3, ⟨6, 64, true, false⟩)] }
     s.get (R.PORT_CFG_SLAAC_EN 0) = 1 ∧ (∀ e ∈ s.addrs, e.1 / 8 = 8 * (0 : Fin 3).val + (0 : Fin 2).val → e.2.addr ≠ 5) ∧
      tget (addrKey 0 0 4) s.addrs = none ∧ (∀ j, j < 4 → 1 ≤ j → (tget (addrKey 0 0 j) s.addrs).isSome = true)) ∧
    (let w := twd [(R.PORT_ADDR_SEL_PORT, 2), (R.PORT_ADDR_SEL_WR, 1), (R.PORT_ADDR_SEL_SLOT, 5)]
     writable (.host 1) tHost ∧ field R.PORT_ADDR_SEL_PORT w ≤ 2 ∧ field R.PORT_ADDR_SEL_WR w = 1 ∧ 1 ≤ field R.PORT_ADDR_SEL_SLOT w ∧
      field R.PORT_ADDR_SEL_SLOT w ≤ 5) ∧
    field (R.PORT_CFG_DISABLE 1) (twd [(R.PORT_CFG_DISABLE 1, 1)]) = 1 := by
  refine ⟨by decide, by decide, ⟨writable_host rfl rfl rfl rfl, by decide⟩, by decide⟩

/-- A CTRL body. -/
def tCtrl (op queues depth : Nat) : Ctrl := ⟨op, 0, 7, queues, 1, depth, 64, 0⟩

theorem tHost_arrives (q tag : Nat) (b : Body) : arrives (tFrame q tag b) 1 0 tPath tHost :=
  ⟨rfl, (by decide : tHost.hears 0 0 = true), (by decide : tHost.findPath tAddr = some (1, 0)), rfl, rfl, rfl,
    (by decide : seqDist 100 100 = 0), by decide, rfl⟩

theorem witness_SessionsOpenAndClose :
    (let a : PathAddr := ⟨1, 0, 1, 2, 4⟩
     let s := tHost.set (R.PORT_STATUS_LINK0 1) 1
     let f : Frame := { tFrame 0 0 (.ctrl (tCtrl 1 70 2000)) with addr := a }
     s.run = .up ∧ s.hears 1 0 = true ∧ f.body = .ctrl (tCtrl 1 70 2000) ∧ f.crcOk = true ∧ s.findPath a = none ∧
      s.serviceOn 1 = true ∧ s.pathsOn 1 < 64 ∧ s.session 2 = none ∧ (∀ k, k < 2 → 1 ≤ k → (s.session k).isSome = true) ∧
      s.session f.session = some tSession ∧ tSession.paths = [tPath] ∧ tPath.up = true ∧ tPath.addr.port ≠ f.addr.port ∧
      isMp f.session = false ∧ State.serviceOn (s.set R.GLB_STATUS_STATE 1) 1 = false ∧ s.isPaused 1 = false) ∧
    arrives (tFrame 0 0 (.ctrl (tCtrl 5 0 0))) 1 0 tPath tHost ∧ (∀ d ∈ tHost.cmds, d.ref.session ≠ 1) ∧
    (let s : State := { tHost with cmds := [tCmd [1]] }
     arrives (tFrame 0 0 (.ctrl (tCtrl 5 0 0))) 1 0 tPath s ∧ ∃ d ∈ s.cmds, d.ref.session = 1) := by
  refine ⟨by decide, tHost_arrives _ _ _, by decide, ⟨rfl, by decide, by decide, rfl, rfl, rfl, by decide, by decide, rfl⟩, by decide⟩

theorem witness_FramesAreDelivered :
    arrives (tFrame 1 0 (.cmd [tCap [1, 0, 0, 9]])) 1 0 tPath tHost ∧ tHost.session 1 = some tSession ∧
    (tSession.closing = false ∧ tHost.rekindling = false ∧ tHost.holdsQueue 1 1 = true ∧
      tHost.cmdOf ⟨1, 1, capF (tCap [1, 0, 0, 9]) 2 2⟩ = none ∧ (tHost.queueCmds 1 1).length < tSession.depth ∧
      opDefined (isMp 1) 1 (capB (tCap [1, 0, 0, 9]) 0) = true) ∧
    (let c := tCmd [2, 8, 0, 5, 0, 0, 0, 0, 0, 0, 0, 0, 0, 0, 0, 0, 0, 0, 0, 1]
     let s : State := { tHost with cmds := [c] }
     arrives (tFrame 1 5 (.blocks 0 [(0, ⟨0, 0, 0⟩)])) 1 0 tPath s ∧ s.cmdOf ⟨1, 1, 5⟩ = some c ∧ c.op = 2 ∧ c.commit = .opened ∧
      0 + [((0 : Block), (⟨0, 0, 0⟩ : Pi))].length ≤ c.blocks ∧ piFails c 0 0 ⟨0, 0, 0⟩ = none) ∧
    (let s : State := { tHost with sessions := [(1, { tSession with paths := [tPath, { tPath with addr := ⟨1, 0, 1, 2, 3⟩ }] })] }
     arrives (tFrame 0 0 (.ctrl (tCtrl 8 0 0))) 1 0 tPath s ∧ (tCtrl 8 0 0).path ≠ 0 ∧ (s.path 1 (tCtrl 8 0 0).path).isSome = true) := by
  refine ⟨tHost_arrives _ _ _, rfl, by decide, ⟨⟨rfl, by decide, by decide, rfl, rfl, rfl, by decide, by decide, rfl⟩, by decide⟩,
    ⟨rfl, by decide, by decide, rfl, rfl, rfl, by decide, by decide, rfl⟩, by decide⟩

theorem tHost_inFlight (c : Cmd) (h : c.held = false) (hp : c.path = 0) (hr : c.ref = tRef ∨ c.ref = aRef) :
    inFlight c.ref c { tHost with cmds := [c] } := by
  refine inFlight_of rfl rfl (by simp [State.cmdOf]) h ?_ rfl hp
  rcases hr with e | e <;> rw [e] <;> rfl

theorem witness_AcknowledgementAndTimers :
    (let f : Frame := { tFrame 0 0 .none with crcOk := true }
     tHost.run = .up ∧ tHost.hears f.addr.port f.addr.link = true ∧ tHost.findPath f.addr = some (1, 0) ∧ f.session = 1 ∧
      tHost.path 1 0 = some tPath ∧ f.crcOk = true ∧ f.body = .none ∧ tPath.queue = []) ∧
    (let x : PathSt := { tPath with unacked := 1, sent := [(4, .ctrl 7 0 0 0 0 0, false, 0)], timeouts := 1 }
     let s : State := { tHost with sessions := [(1, { tSession with paths := [x] })] }
     s.path 1 0 = some x ∧ x.up = true ∧ x.unacked ≠ 0 ∧ s.isPaused x.addr.port = false ∧ x.sent ≠ []) ∧
    (let y : Session := { tSession with paths := [{ tPath with up := false }] }
     State.session { tHost with sessions := [(1, y)] } 1 = some y ∧ ∀ x ∈ y.paths, x.up = false) ∧
    (let c := tCmd [2, 0, 0, 5, 0, 0, 0, 0, 0, 0, 0, 0, 0, 0, 0, 0, 0, 0, 0, 1]
     inFlight tRef c { tHost with cmds := [c] } ∧ c.op = 2 ∧ c.commit = .opened ∧ c.data.length < c.blocks) ∧
    (let s := tst [(R.PORT_CFG_PFC_EN 1, 1), (R.PORT_CFG_PFC_PRIO 1, 7)]
     s.get (R.PORT_CFG_PFC_EN 1) = 1 ∧ s.get (R.PORT_CFG_PFC_PRIO 1) = (7 : Fin 8).val) := by
  refine ⟨by decide, by decide, by decide, ⟨tHost_inFlight _ rfl rfl (.inl rfl), by decide⟩, by decide⟩

theorem witness_SelectionTakesASnapshot :
    writable (.host 1) State.reset ∧
    (field R.THM_ZONE_SEL_ZONE (twd [(R.THM_ZONE_SEL_ZONE, 35)]) ≤ 35 ∧
      field R.THM_SENSOR_SEL_SENSOR (twd [(R.THM_SENSOR_SEL_SENSOR, 100)]) ≤ 100 ∧
      field R.ISL_SEL_ISLAND (twd [(R.ISL_SEL_ISLAND, 74)]) ≤ 74 ∧ field R.FLT_SEL_KIND (twd [(R.FLT_SEL_KIND, 5)]) ≤ 5 ∧
      field R.RMGR_SEL_DOMAIN (twd [(R.RMGR_SEL_DOMAIN, 9)]) ≤ 9 ∧ field R.ST_SEL_KIND (twd [(R.ST_SEL_KIND, 6)]) ≤ 6 ∧
      field R.REC_HEAD_SEL_G (twd [(R.REC_HEAD_SEL_G, 639)]) ≤ 639 ∧ field R.AGE_SEL_G (twd [(R.AGE_SEL_G, 639)]) ≤ 639 ∧
      (let w := twd [(R.PORT_ADDR_SEL_PORT, 2), (R.PORT_ADDR_SEL_SLOT, 5)]
       field R.PORT_ADDR_SEL_PORT w ≤ 2 ∧ field R.PORT_ADDR_SEL_SLOT w ≤ 5 ∧ field R.PORT_ADDR_SEL_WR w = 0)) := by
  refine ⟨writable_host rfl rfl rfl rfl, by decide⟩

/-- A one-block WRITE of volume 0, ready to commit, and the same at other stages. -/
def tWrite : Cmd :=
  { tCmd [2, 0, 0, 5, 0, 0, 0, 0, 0, 0, 0, 0, 0, 0, 0, 0, 0, 0, 0, 1] with stage := .begun, lock := .granted, data := [(0, (0, ⟨0, 0, 0⟩))] }
def tBuf (c : Cmd) : State := { tHost with cmds := [c], vols := [(0, tVol)] }

theorem tBuf_inFlight (c : Cmd) (h : c.held = false) (hp : c.path = 0) (hr : c.ref = tRef ∨ c.ref = aRef) :
    inFlight c.ref c (tBuf c) := by
  refine inFlight_of rfl rfl (by simp [State.cmdOf, tBuf]) h ?_ rfl hp
  rcases hr with e | e <;> rw [e] <;> rfl

theorem witness_WritesAreCommittedToStaging :
    (inFlight tRef tWrite (tBuf tWrite) ∧ tWrite.ready = true ∧
      (∀ d ∈ (tBuf tWrite).cmds, d.stage = .space → ¬d.arrival < tWrite.arrival) ∧ tWrite.blocks = 1 ∧
      (let s := (tBuf tWrite).set R.PWR_HOLDUP_HOLD_LIMIT 128
       s.dirtyUsed + (s.toReserve tWrite.vol tWrite.lba tWrite.blocks).length ≤ s.dirtyLimit) ∧
      (let s := (tBuf tWrite).set R.PWR_HOLDUP_HOLD_LIMIT 0
       s.dirtyLimit < s.dirtyUsed + (s.toReserve tWrite.vol tWrite.lba tWrite.blocks).length)) ∧
    (let c : Cmd := { tWrite with stage := .commit, lines := [(0, 0)] }
     let s := (tBuf c).set R.CACHE_STATUS_STATE 2
     inFlight tRef c (tBuf c) ∧ c.stage = .commit ∧ tget c.vol s.vols = some tVol ∧ tVol.buffered = true ∧ c.forceDurable = false ∧
      s.durableForced = false ∧ s.jn.seq ≤ s.jn.durable ∧ (tBuf c).durableForced = true ∧ c.lines ≠ []) := by
  refine ⟨⟨tBuf_inFlight tWrite rfl rfl (.inl rfl), by decide +kernel⟩, ?_⟩
  exact ⟨tBuf_inFlight { tWrite with stage := .commit, lines := [(0, 0)] } rfl rfl (.inl rfl), by decide⟩

/-- A line of volume 0 in way 3, dirty and being written back, with a fill of it. -/
def tLine : State :=
  { tst [(R.CACHE_STATUS_WAYS, 65535)] with cache := { tags := [(16 * lineSet 0 0 + 3, { valid := 1, dirty := 1, wb := true, wbDirty := 1, kind := 1 })], fills := [(0, 0, [(1, (0, ⟨0, 0, 0⟩))])], durable := [(0, 0)] } }

theorem witness_CacheLinesFillAndClean :
    (tLine.cache.fills.find? (fun f => f.1 = (0 : Vol).val && f.2.1 = 0) = some (0, 0, [(1, (0, ⟨0, 0, 0⟩))])) ∧
    (tLine.run = .up ∧ tLine.isCut = false ∧ tLine.findLine 0 0 = some 3 ∧ (∀ c ∈ tLine.cmds, c.op ≠ 0x4A) ∧ (tLine.tag (lineSet 0 0) 3).wb = true ∧
      ((0 : Vol).val, 0) ∈ tLine.cache.durable ∧ (tLine.tag (lineSet 0 0) 3).written = 0 ∧
      (tLine.tag (lineSet 0 0) 3).wbDirty = (tLine.tag (lineSet 0 0) 3).dirty ∧ (∀ c ∈ tLine.cmds, c.stage ≠ .space)) ∧
    (let e : TagErr := { set := lineSet 0 0, bad := [3] }
     let x : Tag := { valid := 1, dirty := 1, wb := true, wbDirty := 1, kind := 1 }
     3 ∈ e.bad ∧ tget (16 * e.set + 3) tLine.cache.tags = some x ∧ x.dirty ≠ 0 ∧ x.partner ∉ e.bad) ∧
    State.get R.CACHE_STATUS_STATE (tst [(R.CACHE_STATUS_STATE, 1)]) = 1 := by
  refine ⟨rfl, by decide +kernel, by decide +kernel, by decide⟩

theorem witness_DramPackagesRetire :
    (let s := tst [(R.DRAM_STATUS_RETIRED, 1)]
     s.run = .up ∧ (s.get R.DRAM_STATUS_RETIRED).testBit (15 : Pkg) = false) ∧
    (let s : State := { tst [(R.DRAM_CTRL_SCRUB_EN, 1), (R.DRAM_CTRL_CE_LIMIT, 3), (R.DRAM_STATUS_IN_SERVICE, 65535)] with cache := { ceAt := [(15, [0, 0])] } }
     s.get R.DRAM_CTRL_SCRUB_EN = 1 ∧ (s.get R.DRAM_STATUS_IN_SERVICE).testBit (15 : Pkg) = true ∧
      0 + ((tgetD (15 : Pkg) [] s.cache.ceAt).filter fun a => decide (s.opSec < a + 86400)).length < s.get R.DRAM_CTRL_CE_LIMIT ∧
      s.get R.DRAM_CTRL_CE_LIMIT ≤ 1 + ((tgetD (15 : Pkg) [] s.cache.ceAt).filter fun a => decide (s.opSec < a + 86400)).length) ∧
    (let s : State := { tst [] with cache := { reload := [9] } }
     9 ∈ s.cache.reload ∧ 9 ∉ s.knd.mapWait ∧ delId 9 s.cache.reload = []) := by decide

/-- A one-block command of volume 0 with its lock, by opcode. -/
def tIo (op : Nat) : Cmd := { tCmd [op, 0, 0, 5, 0, 0, 0, 0, 0, 0, 0, 0, 0, 0, 0, 0, 0, 0, 0, 1] with lock := .granted }
/-- The same of volume 1, which does not exist. -/
def tIo1 (op : Nat) : Cmd := { tCmd [op, 0, 0, 5, 0, 1, 0, 0, 0, 0, 0, 0, 0, 0, 0, 0, 0, 0, 0, 1] with lock := .granted }

theorem witness_ReadsAndVerifiesComplete :
    inFlight tRef (tIo 1) (tBuf (tIo 1)) ∧ inFlight tRef (tIo 6) (tBuf (tIo 6)) ∧ inFlight tRef (tIo1 1) (tBuf (tIo1 1)) ∧
    ((tBuf (tIo 1)).cache.capacityLost = false ∧ (tBuf (tIo 1)).beginFails (tIo 1) = none ∧ (tIo 1).checkRef = false ∧
      (tIo 1).checkApp = false ∧ (tIo 1).mayBegin 1 = true ∧ (tIo 6).mayBegin 6 = true ∧
      (tget (tIo1 1).vol (tBuf (tIo1 1)).vols).isNone = true ∧ (tIo1 6).mayBegin 6 = true) ∧
    (tBuf (tIo 1)).readBlock 0 0 false = .zeros ∧ (tBuf (tIo 6)).readBlock 0 0 true = .zeros ∧
    (let s : State := { tBuf (tIo 1) with lost := [⟨0, 1, 0, 1, 0, 0, 0⟩] }
     s.readBlock 0 0 false = .lost ∧ s.readBlock 0 0 true = .lost) := by
  refine ⟨tBuf_inFlight (tIo 1) rfl rfl (.inl rfl), tBuf_inFlight (tIo 6) rfl rfl (.inl rfl), tBuf_inFlight (tIo1 1) rfl rfl (.inl rfl), by decide +kernel,
    rfl, rfl, rfl, rfl⟩

theorem witness_WritesZeroesFlushesAndAborts :
    (inFlight tRef (tIo 2) (tBuf (tIo 2)) ∧ (tIo 2).mayBegin 2 = true ∧ (tBuf (tIo 2)).beginFails (tIo 2) = none ∧
      (tIo 2).piAction < 2 ∧ tget (tIo 2).vol (tBuf (tIo 2)).vols = some tVol ∧
      (let s : State := { tBuf (tIo 2) with exts := [(0, { st := 1 })] }
       s.needsStorage (tIo 2) = false)) ∧
    (inFlight tRef (tIo 3) (tBuf (tIo 3)) ∧ inFlight tRef (tIo 4) (tBuf (tIo 4)) ∧ (tIo 3).mayBegin 3 = true ∧ (tIo 4).mayBegin 4 = true ∧
      (let s := (tBuf (tIo 3)).set R.PWR_HOLDUP_HOLD_LIMIT 128
       s.dirtyUsed + (s.zeroBlocks (tIo 3).vol (tIo 3).lba (tIo 3).blocks).length ≤ s.dirtyLimit) ∧
      (let s : State := { (tBuf (tIo 3)).set R.PWR_HOLDUP_HOLD_LIMIT 0 with cache := { reserved := [(1, 0)] } }
       s.dirtyLimit < s.dirtyUsed)) ∧
    (let c := tIo 5
     let d : Cmd := { tIo 2 with arrival := 3, ref := ⟨1, 1, 6⟩ }
     inFlight tRef c (tBuf c) ∧ c.mayBegin 5 = true ∧ (tget c.vol (tBuf c).vols).isSome = true ∧
      (∀ d ∈ (tBuf c).cmds, opExclusive d.op = true → d.arrival < c.arrival → c.vol ≠ 0xFFFF ∧ d.vol ≠ c.vol) ∧
      (∀ e ∈ (tBuf c).dirtyTags, c.vol ≠ 0xFFFF ∧ e.2.vol ≠ c.vol) ∧
      (∀ e ∈ (tBuf c).cache.staged, c.vol ≠ 0xFFFF ∧ e.1 / 2 ^ 41 ≠ c.vol) ∧
      (let s : State := { tBuf c with cmds := [d, c] }
       d ∈ s.cmds ∧ opExclusive d.op = true ∧ d.arrival < c.arrival ∧ d.vol = c.vol)) ∧
    (let c := aCmd ([8] ++ List.replicate 31 0 ++ [1, 0, 0, 6])
     let d : Cmd := { tIo 2 with arrival := 3, ref := ⟨1, 1, 6⟩ }
     let s : State := { tBuf c with cmds := [d, c] }
     inFlight aRef c (tBuf c) ∧ c.op = 8 ∧ c.stage = .fresh ∧ s.holdsQueue 1 (capB c.cap 32) = true ∧
      s.cmdOf ⟨1, capB c.cap 32, capF c.cap 34 2⟩ = some d ∧ d.ref ≠ aRef ∧ d.commit = .opened ∧ opNeverHeld d.op = false ∧
      (tBuf c).cmdOf ⟨1, capB c.cap 32, capF c.cap 34 2⟩ = none) := by
  refine ⟨⟨tBuf_inFlight (tIo 2) rfl rfl (.inl rfl), by decide +kernel⟩,
    ⟨tBuf_inFlight (tIo 3) rfl rfl (.inl rfl), tBuf_inFlight (tIo 4) rfl rfl (.inl rfl), by decide +kernel⟩,
    ⟨tBuf_inFlight (tIo 5) rfl rfl (.inl rfl), by decide +kernel⟩,
    ⟨tBuf_inFlight (aCmd ([8] ++ List.replicate 31 0 ++ [1, 0, 0, 6])) rfl rfl (.inr rfl), by decide +kernel⟩⟩

theorem witness_QueuesResume :
    (let c := aCmd ([9] ++ List.replicate 31 0 ++ [1, 1])
     let s : State := { tBuf c with sessions := [(1, { tSession with qs := [(1, { frozen := some (3, 6) })] })] }
     inFlight aRef c (tBuf c) ∧ c.op = 9 ∧ c.stage = .fresh ∧ capB c.cap 33 = 1 ∧ s.holdsQueue 1 (capB c.cap 32) = true ∧
      (s.queueSt 1 (capB c.cap 32)).frozen.isSome = true ∧ ((tBuf c).queueSt 1 (capB c.cap 32)).frozen = none) ∧
    (let s : State := { tHost with flds := (tst [(R.QUE_SEL_SESSION, 1), (R.QUE_SEL_QUEUE, 1)]).flds }
     let w := twd [(R.QUE_RESUME_GO, 1), (R.QUE_RESUME_ACTION, 1)]
     writable (.host 1) s ∧ field R.QUE_RESUME_GO w = 1 ∧ field R.QUE_RESUME_ACTION w = 1 ∧
      s.holdsQueue (s.get R.QUE_SEL_SESSION) (s.get R.QUE_SEL_QUEUE) = true ∧
      (s.queueSt (s.get R.QUE_SEL_SESSION) (s.get R.QUE_SEL_QUEUE)).frozen = none ∧ (s.session 1).isSome = true) := by
  refine ⟨⟨tBuf_inFlight (aCmd ([9] ++ List.replicate 31 0 ++ [1, 1])) rfl rfl (.inr rfl), by decide⟩, writable_host rfl rfl rfl rfl, by decide⟩

theorem witness_KeysAreSetAndCleared :
    (let c : Cmd := { aCmd [0x47, 0, 0, 5, 0, 0, 1] with bytes := List.replicate 64 1 }
     let v : Volume := { tVol with encrypt := true }
     let s : State := { tBuf c with vols := [(0, v)] }
     inFlight aRef c (tBuf c) ∧ s.get R.GLB_STATUS_STATE ≠ 2 ∧ s.adminCmd 0x47 aRef = some c ∧ tget c.vol s.vols = some v ∧
      capB c.cap 6 = 1 ∧ v.encrypt = true ∧ v.kcv = none) ∧
    (let c : Cmd := { aCmd [0x47] with bytes := List.replicate 64 1 }
     let v : Volume := { tVol with kcv := some (keyCheck (keyOf c.bytes)) }
     capB c.cap 6 = 0 ∧ v.kcv = some (keyCheck (keyOf c.bytes)) ∧ keyCheck (keyOf c.bytes) ≠ keyCheck (keyOf c.bytes) + 1) ∧
    (let c := aCmd [0x47, 0, 0, 5, 0, 0, 2]
     capB c.cap 6 = 2 ∧ (tBuf c).adminCmd 0x47 aRef = some c) ∧
    (let w := twd [(R.VOL_KEY_SEL_GO, 1), (R.VOL_KEY_SEL_OP, 2)]
     writable (.host 1) (tBuf (tIo 1)) ∧ field R.VOL_KEY_SEL_GO w = 1 ∧ field R.VOL_KEY_SEL_OP w = 2 ∧
      tget (field R.VOL_KEY_SEL_VOLUME w) (tBuf (tIo 1)).vols = some tVol) := by
  refine ⟨⟨tBuf_inFlight { aCmd [0x47, 0, 0, 5, 0, 0, 1] with bytes := List.replicate 64 1 } rfl rfl (.inr rfl), by decide, rfl,
      rfl, by decide, rfl, rfl⟩, ⟨by decide, rfl, by omega⟩, ⟨by decide, rfl⟩, writable_host rfl rfl rfl rfl, by decide, by decide, by decide⟩

/-- A group of 14 positions with one formatted member, and a module that serves one volume. -/
def tGroup : GroupSt := { h := 14, seed := 1, k := 10, p := 2 }
def tAdmin (c : Cmd) : State := { tBuf c with groups := [(0, tGroup)], stores := [(0, tStore)] }

theorem tOutside (s : State) (hs : s.stores = [(0, tStore)]) (hz : s.zsets = []) (hb : s.brows = [])
    (hg : s.groups = [(0, tGroup)]) (hf : s.get R.STK_CAP_CTRL_SPARE = 1) :
    s.outside 0 = 9041346 ∧ (s.capacity 0).2.2.2 = 0 ∧ s.usable 0 = 7534455 := by
  have f : (s.store 0 0) = tStore := by simp [State.store, storeKey, tgetD, tget, hs]
  have n : tStore.n = 350000 ∧ tStore.share = 6 ∧ tStore.heads.length = 10 ∧ tStore.bad = [] ∧ tStore.begun = false :=
    ⟨rfl, rfl, rfl, rfl, rfl⟩
  have o : s.outside 0 = 9041346 ∧ (s.capacity 0).2.2.2 = 0 := by
    simp [State.outside, State.capacity, State.formattedMembers, State.formatted, hs, hz, hb, hg, hf, f, n, tNumbers, tGroup,
      tget]
  exact ⟨o.1, o.2, by simp [State.usable, o.1, hg, tget, tGroup]⟩

theorem tAdmin_inFlight (c : Cmd) (h : c.held = false) (hp : c.path = 0) (hr : c.ref = tRef ∨ c.ref = aRef) :
    inFlight c.ref c (tAdmin c) := by
  refine inFlight_of rfl rfl (by simp [State.cmdOf, tBuf, tAdmin]) h ?_ rfl hp
  rcases hr with e | e <;> rw [e] <;> rfl

/-- VOLUME-CREATE of volume 5, VOLUME-SET of a hint and of a size, LAYOUT-RESHAPE and its CANCEL. -/
def tCreate : Cmd := aCmd ([0x44, 0, 0, 5, 0, 5] ++ List.replicate 33 0 ++ [1])
def tSetHint : Cmd := aCmd ([0x46, 0, 0, 5, 0, 0, 0, 8] ++ List.replicate 35 0 ++ [8])
def tSetSize : Cmd := aCmd ([0x46, 0, 0, 5, 0, 0, 0, 1] ++ List.replicate 31 0 ++ [4])
def tReshape : Cmd := aCmd [0x48, 0, 0, 5, 0, 0, 0, 0, 4, 1]
def tCancel : Cmd := aCmd [0x48, 0, 0, 5, 0, 0, 0, 0, 4, 1, 0, 1]

theorem witness_VolumesAreManaged :
    (inFlight aRef (aCmd [0x45]) (tAdmin (aCmd [0x45])) ∧ State.get R.GLB_STATUS_STATE (tAdmin tCreate) ≠ 2) ∧
    ((tAdmin tCreate).adminCmd 0x44 aRef = some tCreate ∧
      ((tAdmin tCreate).attributes tCreate.cap).isSome = true ∧ (tAdmin tCreate).overProvisioned 0 1 = false ∧
      capF tCreate.cap 4 2 < 1024 ∧ tget (capF tCreate.cap 4 2) (tAdmin tCreate).vols = none) ∧
    ((tAdmin (aCmd [0x45])).adminCmd 0x45 aRef = some (aCmd [0x45]) ∧ tget (aCmd [0x45]).vol (tAdmin (aCmd [0x45])).vols = some tVol ∧
      (tAdmin (aCmd [0x45])).volumeBusy 0 tVol = false ∧
      (tAdmin (aCmd [0x45])).volumeBusy 0 { tVol with reshape := some ⟨4, 1, 0, 0, 1⟩ } = true) ∧
    ((tAdmin tSetHint).adminCmd 0x46 aRef = some tSetHint ∧ capF tSetHint.cap 6 2 = 8 ∧
      (tAdmin tSetSize).adminCmd 0x46 aRef = some tSetSize ∧ capF tSetSize.cap 6 2 = 1 ∧ tVol.size ≤ capF tSetSize.cap 32 8 ∧
      tVol.latency ≠ 3 ∧ tVol.budget ≤ 60000 ∧
      (∀ e ∈ (tAdmin tSetSize).exts, e.1 / 2 ^ 33 = tSetSize.vol → e.2.st ≠ 0 → e.1 % 2 ^ 33 < tVol.size) ∧
      (tAdmin tSetSize).overProvisioned 0 (capF tSetSize.cap 32 8 - tVol.size) = false) ∧
    ((tAdmin tReshape).adminCmd 0x48 aRef = some tReshape ∧ (capB tReshape.cap 11).testBit 0 = false ∧ tVol.reshape = none ∧
      (tAdmin tReshape).validLayout (capB tReshape.cap 10) (capB tReshape.cap 8) (capB tReshape.cap 9) = true ∧
      (let s : State := { tAdmin tReshape with exts := [(0, { st := 5 })] }
       (s.capacity 0).2.2.2 + Machine.ceilDiv (s.mapped 0 * 5) 4 ≤ s.outside 0 ∧ (s.nextMapped 0 0).isSome = true) ∧
      (tAdmin tCancel).adminCmd 0x48 aRef = some tCancel ∧ (capB tCancel.cap 11).testBit 0 = true) := by
  have ovp (s : State) (n : Nat) (hs : s.stores = [(0, tStore)]) (hz : s.zsets = []) (hb : s.brows = [])
      (hg : s.groups = [(0, tGroup)]) (hf : s.get R.STK_CAP_CTRL_SPARE = 1) (hv : s.provisioned 0 = 4) (hn : n ≤ 4) :
      s.overProvisioned 0 n = false := by
    simp only [State.overProvisioned, (tOutside s hs hz hb hg hf).2.2, hv, decide_eq_false_iff_not]; omega
  refine ⟨⟨tAdmin_inFlight (aCmd [0x45]) rfl rfl (.inr rfl), by decide⟩,
    ⟨rfl, by decide, ovp _ _ rfl rfl rfl rfl (by decide) (by decide) (by decide), by decide, rfl⟩,
    ⟨rfl, rfl, by decide, by decide⟩,
    ⟨rfl, by decide, rfl, by decide, by decide, by decide, by decide, by decide,
      ovp _ _ rfl rfl rfl rfl (by decide) (by decide) (by decide)⟩,
    rfl, by decide, rfl, by decide, ⟨?_, by decide⟩, rfl, by decide⟩
  have h := tOutside { tAdmin tReshape with exts := [(0, { st := 5 })] } rfl rfl rfl rfl (by decide)
  show (State.capacity { tAdmin tReshape with exts := [(0, { st := 5 })] } 0).2.2.2 + _ ≤ State.outside { tAdmin tReshape with exts := [(0, { st := 5 })] } 0
  rw [h.1, h.2.1]; decide

theorem witness_CacheIsMaintained :
    (let c (op : Nat) : Cmd := aCmd [0x4A, 0, 0, 5, op, 0xFF, 0xFF]
     inFlight aRef (c 3) (tBuf (c 3)) ∧ (tBuf (c 3)).adminCmd 0x4A aRef = some (c 3) ∧ capB (c 0).cap 4 = 0 ∧ capB (c 1).cap 4 = 1 ∧
      capB (c 2).cap 4 = 2 ∧ capB (c 3).cap 4 = 3 ∧ capB (c 4).cap 4 = 4 ∧ capB (c 5).cap 4 = 5 ∧ capF (c 3).cap 5 2 = 0xFFFF ∧
      (∀ e ∈ (tBuf (c 3)).cache.tags, e.2.fill = false) ∧ (tBuf (c 3)).dirtyTags = [] ∧ (tBuf (c 3)).cache.staged = []) ∧
    (State.get R.CACHE_STATUS_STATE (tst [(R.CACHE_STATUS_STATE, 0), (R.CACHE_STATUS_INV_DONE, 1)]) = 0 ∧
      State.get R.CACHE_STATUS_INV_DONE (tst [(R.CACHE_STATUS_INV_DONE, 1)]) = 1 ∧
      State.get R.CACHE_STATUS_INV_DONE (tst [(R.CACHE_STATUS_INV_DONE, 0)]) = 0 ∧
      State.get R.CACHE_STATUS_STATE (tst [(R.CACHE_STATUS_STATE, 2)]) = 2 ∧
      State.get R.GLB_STATUS_STATE (tst [(R.GLB_STATUS_STATE, 0)]) ≠ 2) ∧
    (let w (en inv : Nat) := twd [(R.CACHE_CTRL_DIRTY_LIMIT, 128), (R.CACHE_CTRL_SET_DIRTY_MAX, 1), (R.CACHE_CTRL_EN, en), (R.CACHE_CTRL_INV_ALL, inv)]
     writable (.host 1) tHost ∧ field R.CACHE_CTRL_DIRTY_LIMIT (w 1 0) = 128 ∧ 1 ≤ field R.CACHE_CTRL_SET_DIRTY_MAX (w 1 0) ∧
      field R.CACHE_CTRL_INV_ALL (w 1 0) = 0 ∧ field R.CACHE_CTRL_EN (w 1 0) = 1 ∧ field R.CACHE_CTRL_INV_ALL (w 0 1) = 1 ∧
      field R.CACHE_CTRL_EN (w 0 0) = 0 ∧ (∀ d ∈ tHost.cmds, d.stage ≠ .space)) := by
  refine ⟨⟨tBuf_inFlight (aCmd [0x4A, 0, 0, 5, 3, 0xFF, 0xFF]) rfl rfl (.inr rfl), rfl, by decide⟩, by decide, writable_host rfl rfl rfl rfl, by decide⟩

/-- A read failed at row 0 of zone set 0, and its recovery. -/
def tPlace : Place := ⟨0, 0, 0⟩
def tPost (st : PoolStatus) (b : Option Sealed) : Post := ⟨7, { tPool with place := tPlace }, st, 3, none, b⟩
def tRec : Recovery :=
  { head := 57, rz := 0, place := tPlace, vol := 0, lba := 0, waiting := [(tRef, 9)], step := 1, idx := 0, sum := none, sumCount := 0,
    last := none, revs := 0, ra := .running, bg := false, recon := none, noLadder := false }
/-- Five members that serve, one column each of a row of four data and one parity. -/
def tSlots : Tbl SlotSt := (List.range 5).map fun i => (i, { pos := some (0, i), hda := some tHda })
def tServing : State :=
  { tst ((List.range 5).flatMap fun i => [(R.SLOT_STATUS_STATE i, 4), (R.SPIN_CTRL_SETPOINT i, 2)]) with
    slots := tSlots, groups := [(0, { tGroup with h := 5, k := 4, p := 1 })],
    stores := (List.range 5).map fun i => (2 * i, { n := 350000 }) }
def tZset : ZoneSet := ⟨0, 4, 1, 0, (List.range 5).map fun i => (2 * i, 0), .opened, 3, 0, false, []⟩
def tBrow : BandRow := ⟨0, 4, 1, 0, (List.range 5).map fun i => (2 * i, 0), 6⟩

/-- A journal with no record has room. -/
theorem tRoom (s : State) (h : s.jn.seq = 0) : s.journalFull = false :=
  decide_eq_false (by rw [State.journalUsed, h, Nat.zero_sub]; exact Nat.not_succ_le_zero _)

theorem witness_FailedReadsRecover :
    (let s : State := { tBuf (tIo 1) with exts := [(0, { st := 3, row := 0, col := 0 })], pool := { posts := [tPost .budget none] } }
     s.run = .up ∧ s.isCut = false ∧ (∀ e ∈ s.recs, s.recEnds e.2 = false) ∧
      s.pool.posts.find? (fun q => q.id = 7) = some (tPost .budget none) ∧ (tIo 1).lba ≤ 0 ∧ 0 < (tIo 1).lba + (tIo 1).blocks ∧
      s.find (tIo 1).vol 0 = some tPlace ∧ s.recs = [] ∧ (tPost .budget none).req.vol.isSome = true ∧ (tIo 1).vol ≠ noVolume ∧ (tPost .budget none).status = .budget ∧
      (s.get R.REC_CTRL_STEP_EN).testBit 0 = true ∧ State.get R.REC_CTRL_RA_MAX (s.set R.REC_CTRL_RA_MAX 0) ≤ s.raInFlight ∧
      (tPost .sealBad none).status = .sealBad ∧ s.redundant 0 0 = false ∧ s.lost.length < 2097152) ∧
    (let p := tPost .converged (some ⟨0, ⟨0, 0, 0⟩, 0, 0, 0, false, false⟩)
     let s : State := { State.reset with recs := [(placeKey tPlace, tRec)], pool := { posts := [p] } }
     p.status = .converged ∧ p.block.isSome = true ∧ p.req.budget = some 40 ∧ p.req.head.val = tRec.head ∧
      tget (placeKey p.req.place) s.recs = some tRec ∧ tRec.place = p.req.place ∧ tRec.bg = false ∧ tRec.noLadder = false ∧
      1 ≤ tRec.step ∧ tRec.step ≤ 8 ∧ tRec.ra = .running ∧ (∀ e ∈ s.recs, s.recEnds e.2 = false) ∧ s.placePasses tPlace = true ∧
      (false && s.placePasses tPlace) = false) ∧
    (let s : State := { tServing with exts := [(0, { st := 3, row := 0, col := 0 })], zsets := [(0, tZset)], cmds := [tIo 1] }
     s.cmdOf tRef = some (tIo 1) ∧ (tIo 1).op = 1 ∧ 0 < (tIo 1).blocks ∧ s.find 0 ((tIo 1).lba + 0) = some tPlace ∧
      (s.position tPlace).isSome = true ∧ s.get (R.HEAD_PES_IN_SET 0) = 0 ∧ s.redundant 0 0 = true ∧ s.departedDue 0 (tIo 1) = true) := by
  refine ⟨by decide, ⟨rfl, rfl, rfl, rfl, rfl, rfl, rfl, rfl, by decide, by decide, rfl, by decide, rfl, rfl⟩, rfl, by decide +kernel⟩

theorem witness_WeakBlocksAndRejoins :
    (let w : Weak := ⟨tPlace, 0, 0, ⟨0, ⟨0, 0, 0⟩, 0, 0, 0, false, false⟩⟩
     let s : State := { tBuf (tIo 1) with weak := [w] }
     s.run = .up ∧ s.isCut = false ∧ s.weak.find? (fun x => x.place = tPlace) = some w ∧ s.journalFull = false ∧ s.find w.vol w.lba ≠ some tPlace) ∧
    (let pl : Place := ⟨2 ^ 31, 1, 0⟩
     let s : State := { tBuf (tIo 1) with exts := [(0, { st := 2, row := 2 ^ 31, col := 1 })] }
     s.find 0 0 = some pl ∧ (tget 0 s.vols).isSome = true ∧ isBand pl.row = true) ∧
    (∃ s : State, s.run = .up ∧ 4096 ≤ s.weak.length) ∧
    (let s : State := { tServing with acts := [(4, { writing := true, transferring := true })], brows := [(0, tBrow)] }
     s.inSet 45 = false ∧ (s.actu (45 / 10)).writing = true ∧ (s.actu (45 / 10)).transferring = true ∧ s.colOf (45 / 10) (2 ^ 31) = some 2) := by
  refine ⟨⟨rfl, rfl, rfl, tRoom _ rfl, by decide⟩, by decide,
    ⟨{ State.reset with weak := List.replicate 4096 ⟨tPlace, 0, 0, ⟨0, ⟨0, 0, 0⟩, 0, 0, 0, false, false⟩⟩ }, rfl,
      Nat.le_of_eq List.length_replicate.symm⟩, by decide⟩

theorem witness_ExtentsAreWrittenBackAndCopied :
    (let s : State := { tServing with vols := [(0, tVol)], exts := [(0, { st := 2, row := 2 ^ 31, col := 1 })], brows := [(0, tBrow)], cache := { staged := [(stageKey 0 255, (0, ⟨0, 0, 0⟩))] } }
     s.run = .up ∧ s.isCut = false ∧ tget 0 s.vols = some tVol ∧ (∀ l ∈ extLines 0 0, s.lineInWb l = false) ∧ s.journalFull = false ∧
      tVol.reshape = none ∧ (s.ext 0 0).st = 2 ∧ (s.ext 0 0).copying = none ∧ s.rowShape (s.ext 0 0).row = some (0, 4, 1, [0, 2, 4, 6, 8]) ∧
      s.missing 0 [0, 2, 4, 6, 8] = 0 ∧ (tget (stageKey 0 (256 * 0 + 255)) s.cache.staged).isSome = true) ∧
    State.journalFull { State.reset with jn := { seq := Config.journalCap } } = true ∧
    (let x : Copying := { before := 3, written := true, dest := some (0, 0) }
     let s : State := { State.reset with exts := [(0, { st := 5, copying := some x })] }
     s.journalFull = false ∧ (s.ext 0 0).copying = some x ∧ x.dest = some (0, 0) ∧ x.written = true ∧ x.reshape = false) ∧
    (let c : Cmd := { tIo 2 with stage := .journal 3 }
     inFlight tRef c (tBuf c) ∧ (tBuf c).vault.faulted = false ∧ c.stage = .journal 3 ∧ 3 ≤ (State.jn { tBuf c with jn := { seq := 3 } }).seq) := by
  refine ⟨⟨rfl, rfl, rfl, by decide +kernel, tRoom _ rfl, rfl, rfl, rfl, rfl, by decide, rfl⟩, ?_, ⟨tRoom _ rfl, by decide⟩,
    tBuf_inFlight { tIo 2 with stage := .journal 3 } rfl rfl (.inl rfl), rfl, rfl, Nat.le_refl _⟩
  · exact decide_eq_true (Nat.le_refl Config.journalCap)

theorem witness_HeatDraftAndCheckpoints :
    (State.reset.run = .up ∧ State.reset.isCut = false ∧
      State.epochDue { State.reset with opSec := 3600 * State.reset.get R.STK_CTRL_HEAT_HALF } = true ∧
      State.epochDue { tst [(R.STK_CTRL_HEAT_HALF, 1)] with opSec := 3599 } = false ∧ tget 0 State.reset.stk.bg = none) ∧
    (let s : State := { State.reset with slots := [(0, { pos := some (0, 0) })] }
     tget 0 s.stk.bg = none ∧ 0 ≤ s.creditAfter 0 0 ∧ s.workAhead 0 2 = false ∧ s.workAhead 0 8 = false ∧ s.ixOf 0 = some (0, 0)) ∧
    (let s : State := { State.reset with stk := { bg := [(3, ⟨8, true⟩)] } }
     tget 3 s.stk.bg = some ⟨8, true⟩ ∧ 0 ≤ s.creditAfter 3 0) ∧
    (let s : State := { tst [(R.SPIN_CTRL_AUTO 0, 1), (R.STK_CTRL_SPEED_EN, 1), (R.SPIN_CTRL_SETPOINT 0, 0)] with slots := tSlots }
     (s.slot 0).pos.isSome = true ∧ s.get (R.SPIN_CTRL_AUTO 0) = 1 ∧ s.get R.STK_CTRL_SPEED_EN = 1 ∧
      (tgetD 4 ({} : ThermZone) s.thm.zones).shutdown = false ∧ s.get (R.SPIN_CTRL_SETPOINT 0) = 0) ∧
    (writable (.host 1) State.reset ∧ 1 ≤ field R.STK_CTRL_HEAT_HALF (twd [(R.STK_CTRL_HEAT_HALF, 1)]) ∧
      field R.STK_LOOKUP_SEL_GO (twd [(R.STK_LOOKUP_SEL_GO, 1)]) = 1) := by
  refine ⟨by decide, by decide +kernel, by decide, by decide, writable_host rfl rfl rfl rfl, by decide⟩

/-- A chunk of extent 0 of volume 0, and a state with an open zone set, a band row, a row and a write in flight. -/
def tChunk : Chunk := { vol := 0, pieces := [(0, 8)], blocks := [], group := 0, k := 4, p := 1, durable := false, stream := false }
def tOp : BandOp := { row := 2 ^ 31, vol := 0, ext := 0, col := 1, blocks := [(5, (0, ⟨0, 0, 0⟩))], granted := true, g1 := 7 }
def tStripe : State :=
  { tServing with
    zsets := [(0, tZset)], brows := [(0, tBrow)], zrows := [⟨3, [tChunk]⟩],
    stk := { waiting := [tChunk] }, stripe := { intent := [0], asked := [1] } }

theorem tOpen : tStripe.closeSets.rowSet 0 4 1 [tChunk] = some (0, tStripe.closeSets) := by
  have a : ∀ q ∈ [0, 2, 4, 6, 8], tStripe.closeSets.zoneCap 0 q 0 = 2384 := by
    intro q h
    have st : tStripe.closeSets.store 0 q = tStore := by
      revert h; revert q; decide +kernel
    have n : tStore.n = 350000 ∧ tStore.share = 6 ∧ tStore.heads.length = 10 ∧ tStore.zones = [] := ⟨rfl, rfl, rfl, rfl⟩
    simp [State.zoneCap, st, n, tgetD, tNumbers]
  have z : tStripe.closeSets.setCap tZset = 2384 := by
    have c : tZset.cols = [(0, 0), (2, 0), (4, 0), (6, 0), (8, 0)] := rfl
    simp [State.setCap, c, show tZset.group = 0 from rfl, a]
  have q : tStripe.closeSets.zsets = [(0, tZset)] := by decide +kernel
  have m : tStripe.closeSets.missing 0 (tZset.cols.map (·.1)) = 0 := by decide +kernel
  have r : tStripe.closeSets.rowsInFlight 0 = 1 := by decide +kernel
  have e : tZset.st = .opened ∧ tZset.group = 0 ∧ tZset.k = 4 ∧ tZset.p = 1 ∧ tZset.wp = 3 ∧ tZset.short = false :=
    ⟨rfl, rfl, rfl, rfl, rfl, rfl⟩
  have d : tStripe.closeSets.soundSet (0, tZset) = true := by decide +kernel
  have w : ([tChunk].findSome? fun c => if c.stream then tget c.vol tStripe.closeSets.stk.streams else none) = none := rfl
  have p : ([tChunk].any fun c => !(c.cold || c.stream || c.copy)) = true := rfl
  simp only [State.rowSet, State.openSet, q, List.find?, z, m, r, e, d, w, p]; rfl

theorem witness_ZoneRowsAndBandRowsCommit :
    (tStripe.run = .up ∧ tStripe.isCut = false ∧ (tStripe.stk.waiting.filter fun c => c.group = 0 && c.k = 4 && c.p = 1) ≠ [] ∧
      tStripe.closeSets.rowSet 0 4 1 ((tStripe.stk.waiting.filter fun c => c.group = 0 && c.k = 4 && c.p = 1).take 4) =
        some (0, tStripe.closeSets) ∧ tget 0 tStripe.closeSets.zsets = some tZset ∧ tStripe.stripe.opened.length < 16384) ∧
    (tStripe.zrows.find? (fun x => x.row = 3) = some ⟨3, [tChunk]⟩ ∧ tget (zsetIx 3) tStripe.zsets = some tZset ∧
      tStripe.journalFull = false ∧
      (∀ c, c < tZset.k + tZset.p → c ∈ [0, 1, 2, 3, 4]) ∧ tStripe.unwritten = [] ∧ tStripe.voids = [] ∧
      (∀ x ∈ tStripe.stk.rewrites, x.1 ≠ 3) ∧
      ((List.range (tZset.k + tZset.p)).filter ([0, 1, 2] : List Nat).contains).length < tZset.k ∧
      tChunk.pieces = [(0, 8)] ∧ tChunk.shadow = false ∧ tChunk.copy = false ∧ tChunk.from_ = none) ∧
    (tget (bandIx (2 ^ 31)) tStripe.brows = some tBrow ∧
      (let o : BandOp := { tOp with granted := false }
       let s : State := { tStripe with bops := [o] }
       (∀ x ∈ s.bops, x.row = 2 ^ 31 → x.granted = false) ∧ s.bops.find? (fun x => x.row = 2 ^ 31) = some o ∧
        (s.bandMissing (2 ^ 31) o.col).length ≤ tBrow.p) ∧
      (let s : State := { tStripe with bops := [tOp] }
       s.journalFull = false ∧ s.bops.find? (fun y => y.row = 2 ^ 31 && y.granted) = some tOp ∧ s.regionOf (2 ^ 31) ∈ s.stripe.intent ∧
        s.rowShape (2 ^ 31) = some (0, 4, 1, [0, 2, 4, 6, 8]) ∧ tOp.col < 4 ∧ tOp.copy = false ∧
        s.unwritten = [] ∧ (∀ x ∈ s.stk.rewrites, x.1 ≠ 2 ^ 31))) ∧
    1 ∈ tStripe.stripe.asked ∧
    (let z : ZoneSet := { tZset with st := .evacuating }
     let s : State := { State.reset with zsets := [(4, z)] }
     tget 4 s.zsets = some z ∧ z.st = .evacuating ∧ s.noLive 4 = true ∧ s.journalFull = false) := by
  refine ⟨⟨rfl, rfl, by decide, tOpen, by decide +kernel, by decide⟩,
    ⟨rfl, rfl, tRoom _ rfl, by decide, rfl, rfl, by decide, by decide, rfl, rfl, rfl, rfl⟩,
    ⟨rfl, ⟨by decide, rfl, by decide +kernel⟩, tRoom _ rfl, rfl, by decide, rfl, by decide, rfl, rfl, by decide⟩, by decide, rfl, rfl,
    by decide, tRoom _ rfl⟩

/-- Column 1 of the row is a member of slot 31, position 20; slot 9 holds a substitute, position 9. -/
def tRebuild : State :=
  { tst [(R.SLOT_STATUS_STATE 9, 4), (R.SPIN_CTRL_SETPOINT 9, 2)] with
    slots := [(9, { pos := some (0, 9) }), (31, { pos := some (0, 20) })], groups := [(0, { tGroup with h := 21 })],
    mems := [(62, { rebuild := true })], stores := [(18, tStore), (40, { tStore with rebuild := 2 })],
    brows := [(0, { tBrow with cols := [(0, 0), (40, 0)] })],
    zsets := [(0, { tZset with cols := [(0, 0), (40, 0)] })] }

theorem tRebuild_free : tRebuild.freeSlot 0 18 = some 0 ∧ tRebuild.freeZone 0 18 = some 0 := by
  have a : lowestFree (tRebuild.slotsTaken 0 18) = 0 := by decide +kernel
  have b : lowestFree (tRebuild.zonesTaken 0 18) = 0 := by decide +kernel
  have st : tRebuild.store 0 18 = tStore := by decide +kernel
  have n : tStore.n = 350000 ∧ tStore.share = 6 ∧ tStore.heads.length = 10 := ⟨rfl, rfl, rfl⟩
  exact ⟨by simp [State.freeSlot, a, st, n, tNumbers], by simp [State.freeZone, b, st, n, tNumbers]⟩

theorem tRebuild_substitute (has : Nat → Bool) (h : has 18 = true) :
    tRebuild.substitute 0 [0, 40] none has = some 18 := by
  have m : tRebuild.formattedMembers 0 = [18, 40] := by decide +kernel
  have a : tRebuild.ixServes 0 18 = true := by decide +kernel
  have b : tRebuild.ixServes 0 40 = false := by decide +kernel
  simp [State.substitute, m, a, b, h]

theorem tPick (n : Nat) (same fits : Nat → Bool) (h : same 0 = true) (g : fits 0 = true) (hn : 0 < n) :
    pickZone n same fits = some 0 := by
  have f : (List.range n).find? (fun i => same i && fits i) = some 0 :=
    List.find?_range_eq_some.mpr ⟨by simp [h, g], List.mem_range.mpr hn, fun _ hj => absurd hj (Nat.not_lt_zero _)⟩
  unfold pickZone
  rw [f]

theorem tRebuild_fits : tRebuild.zoneFits 0 { tZset with cols := [(0, 0), (40, 0)] } 1 18 = true := by
  have a : ∀ q, q = 18 ∨ q = 40 → tRebuild.zoneCap 0 q 0 = 2384 := by
    intro q h
    rcases h with rfl | rfl
    · show zoneCapacity 350000 6 0 0 10 = 2384; exact tNumbers.2.2.2
    · show zoneCapacity 350000 6 0 0 10 = 2384; exact tNumbers.2.2.2
  have u : tRebuild.zonesTaken 0 18 = [] := by decide +kernel
  have c : tRebuild.setCap { tZset with cols := [(0, 0), (40, 0)] } ≤ 2384 := by
    simp only [State.setCap, List.map, List.foldl, show tZset.group = 0 from rfl]
    rw [a 40 (.inr rfl)]; exact Nat.min_le_right _ _
  unfold State.zoneFits State.zoneFor
  have h : ∀ n same fits, same 0 = true → fits 0 = true → 0 < n → (pickZone n same fits).isSome = true :=
    fun n same fits x y z => by rw [tPick n same fits x y z]; rfl
  refine h _ _ _ (by decide +kernel) ?_ ?_
  · rw [u, a 18 (.inl rfl)]; simp [c]
  · have st : tRebuild.store 0 18 = tStore := by decide +kernel
    rw [st]; show 0 < zoneCount 350000 6; rw [tNumbers.2.1]; decide

theorem witness_MembersReturnAndRebuild :
    (tServing.run = .up ∧ tServing.isCut = false ∧ tServing.ixOf 0 = some (0, 0) ∧ tServing.serves 0 = true) ∧
    (tRebuild.ixOf 62 = some (0, 40) ∧ (tRebuild.mem 62).rebuild = true ∧
      (let s : State := { tRebuild with stores := [(18, tStore), (40, tStore)] }
       (s.store 0 40).rebuild ≠ 2 ∧ (s.store 0 40).rebuild ≠ 5 ∧ s.heldChunks 0 40 ≠ 0) ∧
      (tRebuild.store 0 40).rebuild = 2 ∧ (tRebuild.store 0 40).owed = []) ∧ tRebuild.journalFull = false ∧
    (∃ b : BandRow, tget 0 tRebuild.brows = some b ∧ (b.cols.map (·.1)).findIdx? (· = 40) = some 1 ∧
      tRebuild.substitute 0 (b.cols.map (·.1)) none (fun n => (tRebuild.freeSlot 0 n).isSome) = some 18) ∧
    (∃ z : ZoneSet, tget 0 tRebuild.zsets = some z ∧ (z.cols.map (·.1)).findIdx? (· = 40) = some 1 ∧
      tRebuild.substitute 0 (z.cols.map (·.1)) none (tRebuild.zoneFits 0 z 1) = some 18 ∧ z.moving = []) ∧ tRebuild.get R.RED_CTRL_REBUILD_EN = 1 ∧
    (let s : State := { State.reset with stripe := { copies := [5, 9] } }
     (5 : Member).val ∈ s.stripe.copies ∧ ∀ i, i < 64 → s.serves i = false) := by
  refine ⟨by decide +kernel, by decide +kernel, tRoom _ rfl, ⟨_, rfl, by decide, tRebuild_substitute _ (by rw [tRebuild_free.1]; rfl)⟩,
    ⟨_, rfl, by decide, tRebuild_substitute _ tRebuild_fits, rfl⟩, by decide, by decide +kernel⟩

theorem witness_SlotsAndRolesMoveOnFailure :
    (let s := tst ((List.range 20).map fun n => (R.ENG_STATUS_STATE n, 1))
     s.run = .up ∧ s.engState 3 = 1 ∧ s.stk.moves = [] ∧ s.tst.running = [] ∧ s.engServes (partner 3) = true ∧
      (s.owned 3).length + (s.owned (partner 3)).length ≤ 4 ∧ s.nextFlue (16 - 16) = some 1) ∧
    (let s := tst ((List.range 16).map (fun n => (R.ENG_STATUS_STATE n, if n = 0 then 4 else 1)) ++ [(R.ENG_SLOT_OWNER 1, 4), (R.ENG_SLOT_OWNER 2, 5)])
     s.engState (s.owner 0) = 4 ∧ s.chooseEngine [] (s.mayTake 3) = some 2 ∧
      ∀ j, j < 32 → j ≠ 0 → s.engState (s.owner j) ≠ 4 ∧ s.owner j ≠ partner (j / 2)) ∧
    (let s : State := { State.reset with stk := { moves := [(0, 2)] } }
     s.stk.moves.find? (fun e => e.1 = (0 : Slot).val) = some (0, 2) ∧ s.owner 0 ≠ 2 ∧ s.engState 2 ≠ 4 ∧ (s.owned 2).length < 4) := by
  decide +kernel

/-- Engine 3 fenced and halted on a no-operation word, with its timers loaded. -/
def tHalted (state halt : Nat) : State :=
  tst [(R.ENG_STATUS_STATE 3, state), (R.ENG_CTRL_FENCE 3, 1), (R.ENG_CTRL_HALT 3, halt), (R.ENG_PC_PC 3, 0xF800)]

theorem witness_EnginesAreFencedHaltedAndReset :
    (writable (.host 1) (tHalted 3 1) ∧ (tHalted 3 1).engState 3 ≠ 4) ∧
    (let w := twd [(R.ENG_CTRL_FENCE 3, 1)]
     field (R.ENG_CTRL_STEP 3) w = 0 ∧ field (R.ENG_CTRL_RESET 3) w = 0 ∧ field (R.ENG_CTRL_HALT 3) w = 0 ∧
      field (R.ENG_CTRL_FENCE 3) w = 1 ∧ State.get (R.ENG_CTRL_FENCE 3) (tst []) = 0 ∧ field (R.ENG_CTRL_FENCE 3) 0#32 = 0 ∧
      (tHalted 1 0).get (R.ENG_CTRL_FENCE 3) = 1 ∧ (tHalted 1 0).get (R.ENG_CTRL_HALT 3) = 0 ∧ (tHalted 3 1).get (R.ENG_CTRL_HALT 3) = 1 ∧
      (tHalted 3 1).engState 3 = 3) ∧
    (let w := twd [(R.ENG_CTRL_FENCE 3, 1), (R.ENG_CTRL_HALT 3, 1)]
     field (R.ENG_CTRL_STEP 3) w = 0 ∧ field (R.ENG_CTRL_HALT 3) w = 1 ∧ (tHalted 2 0).engState 3 = 2 ∧ (tHalted 1 0).engState 3 = 1) ∧
    (let w := twd [(R.ENG_CTRL_FENCE 3, 1), (R.ENG_CTRL_HALT 3, 1), (R.ENG_CTRL_STEP 3, 1)]
     field (R.ENG_CTRL_STEP 3) w = 1 ∧ field (R.ENG_CTRL_RESET 3) w = 0 ∧ (tHalted 3 1).get (R.ENG_PC_PC 3) < 65535 ∧
      ((tHalted 3 1).eng 3).fetch 3 ((tHalted 3 1).get (R.ENG_PC_PC 3)) = some 0 ∧ Micro.illegal 0 = false ∧ Micro.mem 0 = 0 ∧
      Micro.port 0 = 0 ∧ Micro.seq 0 = 0) ∧
    (let w := twd [(R.ENG_CTRL_FENCE 3, 1), (R.ENG_CTRL_RESET 3, 1)]
     field (R.ENG_CTRL_RESET 3) w = 1 ∧ field (R.ENG_CTRL_HALT 3) w = 0) ∧
    (let s : State := { tst (((List.range 32).filter (· / 2 = 3)).map (fun i => (R.ENG_SLOT_OWNER i, 4)) ++ [(R.ENG_CTRL_FENCE 3, 1), (R.ENG_STATUS_STATE 3, 1)]) with
       engs := [(3, { t0 := some (5, 0), t1 := some (6, 0) })] }
     s.run = .up ∧ s.get (R.ENG_CTRL_FENCE 3) = 1 ∧ s.engState 3 = 1 ∧ s.owned 3 = [] ∧ (s.eng 3).t0.isSome = true ∧
      (s.eng 3).t1.isSome = true) := by
  refine ⟨⟨writable_host rfl rfl rfl rfl, by decide⟩, by decide +kernel, by decide +kernel, by decide +kernel, by decide +kernel, by decide +kernel⟩

theorem witness_EngineWindowsReadAndWrite :
    (writable (.host 1) (tHalted 3 1) ∧ (tHalted 3 1).engState 3 = 3) ∧
    (let w := twd [(R.ENG_DBG_SEL_WR 3, 1), (R.ENG_DBG_SEL_ITEM 3, 63)]
     field (R.ENG_DBG_SEL_WR 3) w = 1 ∧ field (R.ENG_DBG_SEL_ITEM 3) w < 64) ∧
    (let w := twd [(R.ENG_CS_SEL_WR 3, 1), (R.ENG_CS_SEL_ADDR 3, 0xF800)]
     field (R.ENG_CS_SEL_WR 3) w = 1 ∧ field (R.ENG_CS_SEL_GO 3) w = 0 ∧ 0xF800 ≤ field (R.ENG_CS_SEL_ADDR 3) w) ∧
    (let w := twd [(R.ENG_MATCH_SEL_WR 3, 1), (R.ENG_MATCH_SEL_INDEX 3, 7)]
     field (R.ENG_MATCH_SEL_WR 3) w = 1) ∧
    (let w := twd [(R.ENG_CS_SEL_GO 3, 1), (R.ENG_CS_SEL_ADDR 3, 0xFFFF)]
     field (R.ENG_CS_SEL_WR 3) w = 0 ∧ field (R.ENG_CS_SEL_GO 3) w = 1 ∧
      ((tHalted 3 1).eng 3).store 3 (field (R.ENG_CS_SEL_ADDR 3) w) = some 0) ∧
    (let s := tst ((List.range 16).map fun n => (R.ENG_STATUS_STATE n, 1))
     let w := twd ([(R.ENG_SLOT_OWNER 1, 2)] ++ [2, 3, 4, 5, 6, 7, 0].map fun i => (R.ENG_SLOT_OWNER i, i / 2))
     let s2 := s.set (R.ENG_SLOT_OWNER 4) 9
     let w2 := twd ([(R.ENG_SLOT_OWNER 1, 2), (R.ENG_SLOT_OWNER 4, 9)] ++ [2, 3, 5, 6, 7, 0].map fun i => (R.ENG_SLOT_OWNER i, i / 2))
     writable (.host 1) s ∧ (1 : Nat) / 8 = (0 : Fin 4).val ∧ field (R.ENG_SLOT_OWNER 1) w = 2 ∧ s.engServes 2 = true ∧
      s.nextOwner 1 ≠ 2 ∧ s.willOwn 2 < 4 ∧ field (R.ENG_SLOT_OWNER 1) w2 = 2 ∧ s2.engServes 2 = true ∧
      (∀ j, j < 8 → j ≠ 1 → field (R.ENG_SLOT_OWNER j) w = s.nextOwner j ∧ s.engServes (s.nextOwner j) = true)) := by
  refine ⟨⟨writable_host rfl rfl rfl rfl, by decide⟩, by decide, by decide, by decide, by decide +kernel,
    writable_host rfl rfl rfl rfl, by decide +kernel⟩

/-- Words of engine 3 in its patch RAM: nothing, a 64-bit store, a load to r5, an illegal one. -/
def tMicro (u : BitVec 128) : State :=
  { tst [(R.ENG_STATUS_STATE 3, 1), (R.ENG_PC_PC 3, 0xF800)] with engs := [(3, { patch := putWord 0 u [] })] }

/-- An observation of a word with nothing arriving. -/
def tObs : WordObs := ⟨[], [], false, false, false, 0, false, false, none⟩

theorem tMicro_writable (u : BitVec 128) : writable (.engine 3) (tMicro u) := by
  refine ⟨rfl, by rfl, fun i _ => rfl, fun i hi => ?_, rfl, rfl⟩
  by_cases h : i = 3
  · subst h; rfl
  · simp [State.eng, tMicro, tgetD, tget, h]

theorem tMicro_fetch (u : BitVec 128) : ((tMicro u).eng 3).fetch 3 ((tMicro u).get (R.ENG_PC_PC 3)) = some u := by
  have p : (tMicro u).get (R.ENG_PC_PC 3) = 0xF800 := by rfl
  have e : (tMicro u).eng 3 = { patch := putWord 0 u [] } := by rfl
  rw [p, e]
  by_cases h : u = 0
  · subst h; rfl
  · have h' : ¬u = 0#128 := h
    simp [Engine.fetch, Engine.store, putWord, h', tset, tgetD, tget, isHob]

/-- A word whose fields are given as a low bit, and a value. -/
def tWord (l : List (Nat × Nat)) : BitVec 128 := BitVec.ofNat 128 (l.foldl (fun n e => n + e.2 * 2 ^ e.1) 0)

theorem witness_MicrowordsExecute :
    (∀ u, writable (.engine 3) (tMicro u) ∧ ((tMicro u).eng 3).fetch 3 ((tMicro u).get (R.ENG_PC_PC 3)) = some u) ∧
    ((tMicro 0).engState 3 = 1 ∧ tObs.rx = [] ∧ tObs.csCe = false ∧ tObs.dmCe = false ∧ (tMicro 0).get (R.ENG_PC_PC 3) < 65535) ∧
    (Micro.illegal 0 = false ∧ Micro.port 0 = 0 ∧ Micro.seq 0 = 0 ∧ Micro.mem 0 = 0 ∧ Micro.setf 0 = false) ∧
    (let u := tWord [(65, 1), (64, 1), (92, 5)]
     Micro.illegal u = false ∧ Micro.port u = 0 ∧ Micro.seq u = 0 ∧ Micro.mem u = 0 ∧ Micro.setf u = true ∧ Micro.we u = true) ∧
    (let u := tWord [(70, 2), (32, 262136)]
     Micro.illegal u = false ∧ Micro.mem u = 2 ∧ (Micro.address u 0).toNat % 8 = 0 ∧ (Micro.address u 0).toNat < 8 * dmWords 3) ∧
    (let u := tWord [(70, 1), (64, 1), (92, 5), (32, 8)]
     Micro.illegal u = false ∧ Micro.mem u = 1 ∧ Micro.we u = true ∧ aluWrites (Micro.alu u) = true ∧
      (Micro.address u 0).toNat % 8 = 0 ∧ (Micro.address u 0).toNat < 8 * dmWords 3) ∧
    Micro.illegal (tWord [(70, 7)]) = true := by
  refine ⟨fun u => ⟨tMicro_writable u, tMicro_fetch u⟩, by decide +kernel, by decide +kernel, by decide +kernel, by decide +kernel,
    by decide +kernel, by decide +kernel⟩

theorem witness_FeedsConvertersAndTheCapAct :
    (let s : State := { tst [(feedFld 1, 1)] with pow := { lostFeeds := [1] } }
     s.run = .up ∧ s.get (feedFld (1 : Feed)) = 1 ∧ (1 : Feed).val ∉ s.pow.feedRetired ∧ (1 : Feed).val ∈ s.pow.lostFeeds ∧
      s.ledger.length < 16384) ∧
    (1 : Feed).val ∈ (State.pow { State.reset with pow := { feedRetired := [1] } }).feedRetired ∧
    (639 < State.reset.capW ∧ State.reset.capW ≤ 640 ∧ State.reset.get R.PWR_CAP_ACTIONS = 0 ∧ 619 + 20 < State.reset.capW) ∧
    (State.get R.PWR_CAP_ACTIONS (tst [(R.PWR_CAP_ACTIONS, 3)]) = 3 ∧ State.capW (tst [(R.PWR_CAP_ACTIONS, 3)]) ≤ 1023) := by decide

theorem witness_SupplyFollowsItsTable :
    (let s := tst [(R.PWR_STATUS_FEED_A, 0), (R.PWR_STATUS_FEED_B, 0), (R.PWR_STATUS_SUPPLY, 0)]
     s.run = .up ∧ s.cal.running = [] ∧ s.tst.running = [] ∧ s.tst.waiting = [] ∧ s.get R.PWR_STATUS_FEED_A = 0 ∧
      s.get R.PWR_STATUS_FEED_B = 0 ∧ s.supply = 0) ∧
    (tst [(R.PWR_STATUS_SUPPLY, 2)]).supply = 2 ∧
    (let s := tst [(R.PWR_STATUS_FEED_B, 1), (R.PWR_STATUS_SUPPLY, 1)]
     s.get R.PWR_STATUS_FEED_B = 1 ∧ s.supply = 1) ∧
    (tst [(R.PWR_STATUS_SUPPLY, 3)]).supply = 3 ∧ (tst [(R.PWR_STATUS_SUPPLY, 4)]).supply = 4 ∧
    (let s := tst [(R.PWR_STATUS_SUPPLY, 1), (R.GLB_STATUS_SERVICE, 1)]
     s.supply = 1 ∧ s.isCut = false ∧ s.banks = true) ∧
    (let s : State := { tst [(R.PWR_STATUS_SUPPLY, 4), (R.PWR_BANK_STATE, 1)] with pow := { cut := some .supply } }
     s.run = .up ∧ s.isCut = true ∧ s.pow.blocksDown = false ∧ s.mgmtOk = true ∧ s.pow.cut = some .supply ∧
      s.get R.PWR_BANK_STATE = 1 ∧ s.supply = 4) := by decide

/-- All sensors at 20.0 °C, and the same with those of slot 0 at a value. -/
def tCool : List Reading := List.replicate 101 (some 40)
def tHot (v : Int) : List Reading := (List.range 101).map fun n => some (if n = 37 ∨ n = 38 then v else 40)

theorem tCool_reads (s : State) (l : List Reading) (z : Nat) (hz : z < 36) (ht : s.thm = {})
    (hl : ∀ n ∈ zoneSensors z, l.getD n none = some 40)
    (hx : ∀ c, c < 5 → 40 < 2 * ((s.limits c).warn - (s.limits c).hyst) ∧ 40 < 2 * ((s.limits c).throttle - (s.limits c).hyst) ∧
      40 < 2 * (s.limits c).shut) : readsCool l z s := by
  intro n hn _
  have hc : zoneClass z < 5 := (by decide : ∀ z, z < 36 → zoneClass z < 5) z hz
  have hs : s.sensor n = {} := by simp [State.sensor, ht, tgetD]
  refine ⟨⟨by rw [hs], 40, hl n hn, by omega, by omega, ?_⟩, 40, hl n hn, (hx _ hc).1, (hx _ hc).2.1, (hx _ hc).2.2⟩
  rw [hs]; intro h; cases h

theorem witness_ZonesFollowTheirReadings :
    (State.reset.run = .up ∧ ∀ z, z < 36 → readsCool tCool z State.reset) ∧
    (let s := tst [(R.SLOT_STATUS_EN5 0, 1), (R.SLOT_STATUS_STATE 0, 4)]
     let v := 2 * (s.limits 2).throttle
     let u := 2 * (s.limits 2).shut
     (∀ z, z < 36 → z ≠ 4 → readsCool (tHot v) z s ∧ readsCool (tHot u) z s) ∧ s.get (R.SLOT_STATUS_EN5 0) = 1 ∧
      (∀ n ∈ zoneSensors 4, readsSound (tHot v) n s ∧ (tHot v).getD n none = some v ∧ readsSound (tHot u) n s ∧
        (tHot u).getD n none = some u) ∧
      v < 2 * (s.limits 2).shut ∧ (s.zone 4).shutdown = false ∧ s.get (R.SLOT_STATUS_STATE 0) = 4 ∧
      (s.within 86400 (s.zone 4).shutAt).length < 3) ∧
    State.reset.vault.faulted = false := by
  have h37 : zoneSensors 4 = [37, 38] := rfl
  have hot (v : Int) : ∀ z, z < 36 → z ≠ 4 → ∀ n ∈ zoneSensors z, (tHot v).getD n none = some 40 := by
    intro z hz h4 n hn
    have hn' : n ≠ 37 ∧ n ≠ 38 ∧ n < 101 := by
      revert hn; revert n; revert h4; revert hz; revert z; decide
    simp [tHot, List.getD_eq_getElem?_getD, hn']
  refine ⟨⟨rfl, fun z hz => tCool_reads _ _ z hz rfl (by revert hz; revert z; decide) (by decide)⟩, ?_, rfl⟩
  refine ⟨fun z hz h4 => ⟨tCool_reads _ _ z hz rfl (hot _ z hz h4) (by decide), tCool_reads _ _ z hz rfl (hot _ z hz h4) (by decide)⟩,
    by decide, ?_, by decide, by decide, by decide, by decide⟩
  have read (s : State) (v : Int) (ht : s.thm = {}) (h1 : -80 ≤ v) (h2 : v ≤ 300) (n : Nat) (hn : n = 37 ∨ n = 38) :
      readsSound (tHot v) n s ∧ (tHot v).getD n none = some v := by
    have hs : s.sensor n = {} := by simp [State.sensor, ht, tgetD]
    have g : (tHot v).getD n none = some v := by
      rcases hn with rfl | rfl <;> simp [tHot, List.getD_eq_getElem?_getD]
    exact ⟨⟨by rw [hs], v, g, h1, h2, by rw [hs]; intro h; cases h⟩, g⟩
  intro n hn
  have hn' : n = 37 ∨ n = 38 := by rw [h37] at hn; simpa using hn
  have a := read (tst [(R.SLOT_STATUS_EN5 0, 1), (R.SLOT_STATUS_STATE 0, 4)]) (2 * (State.limits (tst [(R.SLOT_STATUS_EN5 0, 1), (R.SLOT_STATUS_STATE 0, 4)]) 2).throttle) rfl (by decide) (by decide) n hn'
  have b := read (tst [(R.SLOT_STATUS_EN5 0, 1), (R.SLOT_STATUS_STATE 0, 4)]) (2 * (State.limits (tst [(R.SLOT_STATUS_EN5 0, 1), (R.SLOT_STATUS_STATE 0, 4)]) 2).shut) rfl (by decide) (by decide) n hn'
  exact ⟨a.1, a.2, b.1, b.2⟩

theorem witness_CalibrationsFallDueRunAndApply :
    (let s := tst [(R.CAL_CTRL_KIND_EN, 127), (R.SLOT_STATUS_STATE 0, 4)]
     s.run = .up ∧ s.kindOn 5 7 = true ∧ s.calAlive 5 7 = true ∧ s.noTrim 5 7 = true ∧ s.cal.running = []) ∧
    (let s : State := { tst [(R.CAL_CTRL_KIND_EN, 127), (R.SLOT_STATUS_STATE 0, 4)] with trims := [(7, [(1, 4)])], opSec := 60 * 4095 }
     s.kindOn 2 7 = true ∧ s.calAlive 2 7 = true ∧ (s.calHist 2 7).2.2.2.2 = true ∧
      (s.calHist 2 7).2.2.2.1 + 60 * s.get R.CAL_CTRL_SUSPECT_RETRY ≤ s.opSec) ∧
    (let w := twd [(R.CAL_REQ_KIND, 2), (R.CAL_REQ_ELEM, 7), (R.CAL_REQ_GO, 1)]
     writable (.host 1) State.reset ∧ field R.CAL_REQ_KIND w = (2 : Fin 7) ∧ field R.CAL_REQ_ELEM w = 7 ∧ field R.CAL_REQ_GO w = 1) ∧
    (let s : State := { tst [(R.SLOT_STATUS_STATE 0, 4), (R.CAL_CTRL_CAL_HEADS, 1), (R.PWR_STATUS_SUPPLY, 0)] with cal := { due := [(2, 7, 0)] } }
     s.cal.due = [(2, 7, 0)] ∧ (∀ c ∈ s.cal.running, s.calAlive c.kind c.elem = true) ∧ s.calMay (2, 7, 0) = true) ∧
    (let s : State := { tst [(R.SLOT_STATUS_STATE 0, 4), (R.CAL_CTRL_SUSPECT_LIMIT, 255)] with cal := { running := [⟨5, 7, 31, [[0], [100]], false⟩] } }
     s.cal.running.find? (fun c => c.kind = 5 && c.elem = 7 && c.rz = 31) = some ⟨5, 7, 31, [[0], [100]], false⟩ ∧
      s.calAlive 5 7 = true ∧ runsAgree 5 [0] [0] = true ∧ calPair 5 [[0], [100], [200]] = none ∧
      (s.calHist 5 7).2.1 + 1 < s.get R.CAL_CTRL_SUSPECT_LIMIT ∧ s.get R.CAL_CTRL_SUSPECT_LIMIT < 256) ∧
    ((tgetD (statKey 0 57 0) {} State.reset.pool.stats).counted < 1024 ∧
      (let d : DecStat := { counted := 1024, bins := [(1, 1024)] }
       let s : State := { tst [(R.AGE_CTRL_HEADROOM_FLOOR, 38)] with pool := { stats := [(statKey 0 57 0, d)] } }
       tget (statKey 0 57 0) s.pool.stats = some d ∧ 1024 ≤ d.counted ∧ s.get R.AGE_CTRL_HEADROOM_FLOOR < d.headroom ∧
        s.get R.AGE_CTRL_SNR_FLOOR ≤ d.snr ∧ (∀ e ∈ s.cal.margins, e.2.replanning = false)) ∧
      (let d : DecStat := { counted := 1024, bins := [(12, 1024)] }
       d.headroom ≤ State.reset.get R.AGE_CTRL_HEADROOM_FLOOR ∧ (State.reset.margin 57 0).run = 0)) := by
  refine ⟨by decide, by decide, ⟨writable_host rfl rfl rfl rfl, by decide⟩, by decide, by decide, by decide⟩

/-- What a start finds: a feed, no card, nothing failing. -/
def tObsStart : StartObs :=
  { feeds := [0], card := some none, pinLow := false, cap := 560, sharedBad := false, bist := [], slots := [], bankBad := [],
    tailBad := false, ledgerBad := false, segments := [], torn := [], ms := 60000 }
/-- A module held for a cut of a cause. -/
def tHeld (c : CutFor) : State := { tst [(R.KND_STATUS_STATE, 1)] with run := .held, pow := { cut := some c } }

theorem witness_StartsKeepWhatTheirResetKeeps :
    ((tHeld .supply).run = .held ∧ ({ tObsStart with pinLow := true } : StartObs).pinLow = true ∧
      ({ tObsStart with sharedBad := true } : StartObs).sharedBad = true ∧ tObsStart.pinLow = false ∧ tObsStart.sharedBad = false ∧
      tObsStart.bist = [] ∧ tObsStart.ledgerBad = false ∧ tObsStart.card = some none ∧
      (∀ e ∈ (tHeld .supply).ledger, e.active = true → e.kind ≠ 4)) ∧
    ((tHeld .pin).run = .held ∧ (tHeld .pin).pow.cut = some .pin ∧ (tHeld .register).pow.cut = some .register ∧
      (tHeld .thermal).pow.cut = some .thermal ∧ tObsStart.feeds ≠ [] ∧ (tHeld .pin).get R.KND_STATUS_STATE = 1 ∧
      tObsStart.segments = [] ∧ ({ tObsStart with feeds := [] } : StartObs).feeds = []) ∧
    (let s : State := { tst [(R.ST_START_KIND, 1)] with run := .waitPin }
     s.run = .waitPin ∧ s.get R.ST_START_KIND = 1) ∧
    (let s : State := { tst [(R.GLB_STATUS_STATE, 1)] with knd := { mapWait := [7] } }
     s.run = .up ∧ s.get R.GLB_STATUS_STATE = 1 ∧ s.knd.mapWait ≠ []) := by decide

/-- An image of no records and no patches, and a card that holds it in slot A. -/
def tHeader : List Nat := [0x43, 0x4C, 0x41, 0x54, 1, 0, 0, 0, 0, 0, 0, 0, 0, 0, 0, 0, 164] ++ List.replicate 47 0
def tImage : List Nat := tHeader ++ leBytes 4 (crc32c tHeader) ++ List.replicate 96 0
def tRecord : List Nat := [0x4B, 0x53, 0x4C, 0x54, 1, 0, 0, 0, 1, 0, 0, 0, 164, 0, 0, 0] ++ List.replicate 12 0
def tCard : Card :=
  ⟨16, 0, false, true, (List.range 32).map (fun i => (i, (tRecord ++ leBytes 4 (crc32c tRecord)).getD i 0)) ++
    (List.range 164).map fun i => (0x1000 + i, tImage.getD i 0)⟩

theorem tImage_check (h : Config.sigOk 0 (tImage.take 68) (List.replicate 96 0) = true) : imageCheck tImage 164 = 0 := by
  have a : (tImage.take 4 = [0x43, 0x4C, 0x41, 0x54] && leAt tImage 4 2 = 1) = true := by decide +kernel
  have b : leAt tImage 16 4 = 164 := by decide +kernel
  have c : leAt tImage (164 - 100) 4 = crc32c (tImage.take (164 - 100)) := by decide +kernel
  have d : leAt tImage 6 1 = 0 := by decide +kernel
  have e : (tImage.drop (164 - 96)).take 96 = List.replicate 96 0 := by decide +kernel
  have f : sectionsOk tImage 164 = true := by decide +kernel
  have g : imageRecs tImage = some [] := by rfl
  have p : ([0, 1].any fun c => (patchOf tImage c).any fun p => leAt p 6 1 != c) = false := by decide +kernel
  have h' : Config.sigOk 0 (tImage.take (164 - 96)) (List.replicate 96 0) = true := h
  simp only [imageCheck, b, a, c, d, e, f, g, h', p, maxImage]
  decide +kernel

/-- Where the signature passes (log entry 25), the card holds an image that loads. -/
theorem tCard_loads (h : Config.sigOk 0 (tImage.take 68) (List.replicate 96 0) = true) :
    cardUsable tCard = true ∧ cardTry tCard 0 = 0 := by
  have r : cardRecord tCard 0 = some (1, 164) := by decide +kernel
  have i : cardImage tCard 0 164 = tImage := by decide +kernel
  refine ⟨by decide, ?_⟩
  simp only [cardTry, r, i]; exact tImage_check h

theorem witness_ResetsAndRekindlesBegin :
    (State.reset.run = .up ∧ State.reset.isCut = false ∧ (tst [(R.GLB_STATUS_SERVICE, 1)]).banks = true ∧
      (tst [(R.GLB_STATUS_SERVICE, 0)]).banks = false ∧ (State.run { State.reset with run := .scan }) = .scan) ∧
    (let w := twd [(R.RST_PORT_HP1, 1)]
     writable (.host 1) State.reset ∧ field R.RST_PORT_HP1 w = 1 ∧ field R.RST_PORT_HP0 w = 0 ∧
      State.reset.get (R.PORT_STATUS_RETIRED 1) = 0 ∧ (State.reset.island 1).state = 0) ∧
    (let s : State := { tst [(R.CACHE_STATUS_STATE, 3)] with islands := [] }
     s.get R.CACHE_STATUS_STATE = 3 ∧ s.isCut = false ∧ s.rekindling = false) ∧
    (let s : State := { State.reset with islands := [(1, { state := 1 })] }
     s.run = .up ∧ (s.island (1 : Port)).state = 1) ∧
    (let c := aCmd [0x4E, 0, 0, 5, 0, 0, 0, 0, 0x4B, 0x49, 0x4E, 0x44]
     inFlight aRef c (tBuf c) ∧ (tBuf c).adminCmd 0x4E aRef = some c ∧ capF c.cap 8 4 = 0x4B494E44 ∧ (tBuf c).mgmtOk = true ∧
      (tBuf (aCmd [0x4E])).adminCmd 0x4E aRef = some (aCmd [0x4E]) ∧ capF (aCmd [0x4E]).cap 8 4 ≠ 0x4B494E44 ∧
      State.mgmtOk { tBuf c with islands := [(73, { state := 1 })] } = false) ∧
    (let s : State := { tst [(R.GLB_STATUS_STATE, 2), (R.CACHE_STATUS_STATE, 3)] with islands := [] }
     s.run = .up ∧ s.get R.GLB_STATUS_STATE = 2 ∧ s.mgmtOk = true ∧ s.rekindling = false ∧ s.isCut = false ∧
      tObsStart.card = some none ∧ ({ tObsStart with card := some (some tCard) } : StartObs).card = some (some tCard) ∧
      s.get R.CACHE_STATUS_STATE = 3) := by
  refine ⟨by decide, ⟨writable_host rfl rfl rfl rfl, by decide⟩, by decide, by decide,
    ⟨tBuf_inFlight (aCmd [0x4E, 0, 0, 5, 0, 0, 0, 0, 0x4B, 0x49, 0x4E, 0x44]) rfl rfl (.inr rfl), rfl, by decide, by decide, rfl, by decide, by decide⟩,
    rfl, by decide, by decide, by decide, by decide, by decide, rfl, by decide⟩

theorem witness_SelfTestsRunAndEnd :
    (let c (k i : Nat) := aCmd [0x49, 0, 0, 5, k, i / 256, i % 256]
     inFlight aRef (c 5 57) (tBuf (c 5 57)) ∧ (tBuf (c 5 57)).run = .up ∧ (tBuf (c 5 57)).isCut = false ∧
      (tBuf (c 5 57)).get R.GLB_STATUS_STATE ≠ 2 ∧ (tBuf (c 5 57)).adminCmd 0x49 aRef = some (c 5 57) ∧ 6 ≤ capB (c 6 0).cap 4 ∧
      testBlocks (capB (c 5 640).cap 4) ≤ capF (c 5 640).cap 5 2 ∧ capB (c 5 57).cap 4 = 5 ∧
      capF (c 5 57).cap 5 2 < testBlocks (capB (c 5 57).cap 4) ∧
      ((tBuf (c 5 57)).set R.PWR_STATUS_SUPPLY 1).testRefused 5 57 = true ∧
      ((tBuf (c 5 57)).set (R.HEAD_PES_IN_SET 58) 1).testRefused 5 57 = false ∧ (tBuf (c 5 57)).testFits 5 = true ∧
      ((tBuf (c 5 57)).set R.ST_CTRL_BUDGET 0).testFits 0 = false ∧ (tBuf (c 5 57)).tst.waiting = []) ∧
    (let w := twd [(R.ST_REQ_GO, 1), (R.ST_REQ_KIND, 5), (R.ST_REQ_INDEX, 639)]
     writable (.host 1) tHost ∧ field R.ST_REQ_GO w = 1 ∧ field R.ST_REQ_KIND w = 5 ∧ field R.ST_REQ_INDEX w < 640) ∧
    (let s : State := { tHost with tst := { running := [⟨5, 57, .reg⟩] } }
     s.tst.running = [⟨5, 57, .reg⟩] ∧ s.tst.waiting = [] ∧ (s.head 57).retired = false ∧ s.cal.running = []) ∧
    (let s : State := { tHost with tst := { retest := [(1, 3, 0)] } }
     (1, 3, 0) ∈ s.tst.retest ∧ s.tst.waiting = [] ∧ s.testFits 1 = true) := by
  refine ⟨⟨tBuf_inFlight (aCmd [0x49, 0, 0, 5, 5, 0, 57]) rfl rfl (.inr rfl), by decide⟩, ⟨writable_host rfl rfl rfl rfl, by decide⟩, by decide, by decide⟩

/-- KINDLING-WRITE of an image at offset 0, FINAL or not. -/
def tKindle (final : Nat) (l : List Nat) : Cmd :=
  { aCmd ([0x4D] ++ [0, 0, 5] ++ List.replicate 11 0 ++ [l.length, final]) with bytes := l }

theorem tGathered (n : Nat) (l : List Nat) (s : State) (hl : l = tImage) (hn : n ≤ 164) :
    (s.gather 0 l).gathered n = tImage.take n := by
  subst hl
  have e : (State.gather 0 tImage s).knd.buf = (State.gather 0 tImage State.reset).knd.buf := by
    simp only [State.gather]; rfl
  have g : ∀ i, i < 164 → tgetD i 0xFF (State.gather 0 tImage State.reset).knd.buf = tImage.getD i 0xFF := by decide +kernel
  have len : tImage.length = 164 := by decide +kernel
  simp only [State.gathered, e]
  apply List.ext_getElem
  · simp [len]; omega
  · intro i h1 h2
    simp only [List.length_map, List.length_range] at h1
    simp only [List.getElem_map, List.getElem_range, List.getElem_take]
    rw [g i (by omega), List.getD_eq_getElem?_getD, List.getElem?_eq_getElem (by omega)]; rfl

theorem witness_AdminCommandsComplete :
    (inFlight aRef (aCmd [0x40]) (tBuf (aCmd [0x40])) ∧ (tBuf (aCmd [0x40])).adminCmd 0x40 aRef = some (aCmd [0x40]) ∧
      capB (aCmd [0x40]).cap 4 = 0 ∧ 2 < capB (aCmd [0x40, 0, 0, 5, 3]).cap 4) ∧
    (let c := aCmd ([0x41, 0, 0, 5, 2] ++ List.replicate 14 0 ++ [16])
     (tBuf c).adminCmd 0x41 aRef = some c ∧ ((tBuf c).logPage c).isSome = true ∧ 0 < capF c.cap 16 4 ∧ capF c.cap 16 4 ≤ 1048576 ∧
      ((tBuf c).logPage (aCmd [0x41, 0, 0, 5, 9])).isNone = true) ∧
    (let c := aCmd [0x42, 0, 0, 5, 0, 0, 0, 0, 0, 1, 0, 0x14, 0, 0, 0, 1]
     (tBuf c).adminCmd 0x42 aRef = some c ∧ c.span = some [A.PWR_CTRL] ∧ (tBuf c).regOut A.PWR_CTRL = false ∧
      (aCmd [0x42]).span = none) ∧
    (let c (v : Nat) := aCmd [0x43, 0, 0, 5, 0, 0, 0, 0, 0, 1, 0, 0x14, 0, 0, 0, 1, 0, 0, v / 256, v % 256]
     (tBuf (c 640)).adminCmd 0x43 aRef = some (c 640) ∧ (c 640).span = some [A.PWR_CTRL] ∧ (c 640).values.length = 1 ∧
      (c 640).values.headD 0 % 1024 = 640 ∧ (c 340).values.headD 0 % 1024 = 340 ∧ 640 < (c 641).values.headD 0 % 1024 ∧
      (c 640).regPath = .host 1 ∧ writable (.host 1) (tBuf (c 640))) ∧
    ((tBuf (aCmd [0x4B])).adminCmd 0x4B aRef = some (aCmd [0x4B]) ∧ capB (aCmd [0x4B]).cap 4 = 0 ∧
      capF (aCmd [0x4B]).cap 8 8 % 32 = 0 ∧ 1 < capB (aCmd [0x4B, 0, 0, 5, 2]).cap 4 ∧
      (tBuf (aCmd [0x4C])).adminCmd 0x4C aRef = some (aCmd [0x4C]) ∧ (tBuf (aCmd [0x4C])).vault.faulted = false) ∧
    (let c := tKindle 0 tImage
     (tBuf c).adminCmd 0x4D aRef = some c ∧ (capB c.cap 16).testBit 0 = false ∧ 0 < capF c.cap 12 4 ∧ capF c.cap 12 4 ≤ 1048576 ∧
      capF c.cap 8 4 + capF c.cap 12 4 ≤ maxImage ∧ capF c.cap 12 4 = c.bytes.length ∧ capF c.cap 8 4 = 0 ∧
      maxImage < capF (aCmd [0x4D, 0, 0, 5, 0, 0, 0, 0, 0x80]).cap 8 4) ∧
    (let c := tKindle 1 [0]
     (tBuf c).adminCmd 0x4D aRef = some c ∧ (capB c.cap 16).testBit 0 = true ∧ (tBuf c).mgmtOk = true ∧
      (let v := (tBuf c).gather 0 (List.replicate 64 0)
       (v.gathered (min (leAt (v.gathered 20) 16 4) maxImage)).length < 64 ∧ v.finalCheck (v.gathered 64) = 2)) := by
  refine ⟨⟨tBuf_inFlight (aCmd [0x40]) rfl rfl (.inr rfl), rfl, by decide, by decide⟩, ⟨rfl, by decide⟩, ⟨rfl, by decide⟩,
    ⟨rfl, by decide, by decide, by decide, by decide, by decide, by decide, writable_host rfl rfl rfl rfl⟩,
    ⟨rfl, by decide, by decide, by decide, rfl, by decide⟩, by decide +kernel, by decide +kernel⟩

/-- Where the signature passes (log entry 25), a FINAL of the image passes its checks. -/
theorem witness_AdminCommandsComplete_final (h : Config.sigOk 0 (tImage.take 68) (List.replicate 96 0) = true) :
    let c := tKindle 1 tImage
    let s : State := { tBuf c with knd := { card := some tCard } }
    let u := s.gather (capF c.cap 8 4) (c.bytes.take (capF c.cap 12 4))
    let img := u.gathered (min (leAt (u.gathered 20) 16 4) maxImage)
    s.adminCmd 0x4D aRef = some c ∧ (capB c.cap 16).testBit 0 = true ∧ s.mgmtOk = true ∧ s.knd.card = some tCard ∧
      cardUsable tCard = true ∧ 64 ≤ img.length ∧ u.finalCheck img = 0 := by
  intro c s u img
  have o : capF c.cap 8 4 = 0 ∧ c.bytes.take (capF c.cap 12 4) = tImage := by decide +kernel
  have g (n : Nat) (hn : n ≤ 164) : u.gathered n = tImage.take n := by
    have e : u = s.gather 0 tImage := by show s.gather _ _ = _; rw [o.1, o.2]
    rw [e]; exact tGathered n tImage s rfl hn
  have l : min (leAt (u.gathered 20) 16 4) maxImage = 164 := by rw [g 20 (by omega)]; decide +kernel
  have i : img = tImage := by
    show u.gathered _ = _
    rw [l, g 164 (by omega)]; decide +kernel
  have p0 : patchOf tImage 0 = none := by decide +kernel
  have p1 : patchOf tImage 1 = none := by decide +kernel
  have b : leAt tImage 16 4 = 164 := by decide +kernel
  refine ⟨by decide +kernel, by decide +kernel, rfl, rfl, by decide, by rw [i]; decide +kernel, ?_⟩
  rw [i]
  simp only [State.finalCheck, b, tImage_check h, p0, p1]; rfl

theorem writable_path {s : State} (p : Path) (hp : s.pathOk p = true) (h : s.run = .up) (i : s.islands = []) (e : s.engs = [])
    (k : s.knd.resetAsked = false ∧ s.knd.rekindleAsked = false) : writable p s := by
  refine ⟨h, hp, fun j _ => ?_, fun j _ => ?_, k.1, k.2⟩
  · simp [State.islandUp, State.island, i, tgetD]
  · simp [State.eng, e, tgetD]

/-- REG-READ as a UART capsule. -/
def tLine64 : List Byte := [0x42, 0, 0, 5] ++ List.replicate 60 0

theorem witness_UartAndTapAreServed :
    (State.reset.run = .up ∧ State.reset.mgmtOk = true ∧ inMap (0x10014#32).toNat = true ∧ (0x10014#32).toNat % 4 = 0 ∧
      State.reset.regOut (0x10014#32).toNat = false ∧ inMap (0x130000#32).toNat = false ∧ (0x10015#32).toNat % 4 ≠ 0) ∧
    (writable .uart State.reset ∧ 340 ≤ field R.PWR_CTRL_CAP_LIMIT 340#32 ∧ field R.PWR_CTRL_CAP_LIMIT 340#32 ≤ 640 ∧
      640 < field R.PWR_CTRL_CAP_LIMIT 641#32) ∧
    (let s := State.reset
     let c : Cmd := { ref := ⟨0, 0, capF (tLine64.map (·.toNat)) 2 2⟩, cap := tLine64.map (·.toNat), arrival := s.que.arrival, path := 0, port := 3, since := s.now, bytes := s.knd.uartData }
     tLine64.length = 64 ∧ s.rekindling = false ∧ (∀ d ∈ s.cmds, d.ref.session ≠ 0) ∧ opAdmin c.op = true ∧
      c.bytes.length = adminBytes c ∧ tLine64.tail.length ≤ 64 ∧ tLine64.tail.length ≠ 64) ∧
    (State.reset.get R.GLB_STATUS_SCAN = 0 ∧ State.reset.isCut = false ∧ (tst [(R.GLB_STATUS_SERVICE, 1)]).banks = true ∧
      (tst [(R.GLB_STATUS_SERVICE, 0)]).banks = false) ∧
    (let s : State := { State.reset with knd := { tapIr := 0x10 } }
     s.knd.tapIr = 0x10 ∧ writable .tap s) := by
  refine ⟨by decide +kernel, ⟨writable_path .uart rfl rfl rfl rfl ⟨rfl, rfl⟩, by decide⟩, by decide, by decide, rfl,
    writable_path .tap rfl rfl rfl rfl ⟨rfl, rfl⟩⟩

theorem witness_IslandsFaultAndTimersRun :
    (State.reset.run = .up ∧ State.reset.islandUp (51 : Island) = true ∧ (State.reset.island 51).synSpent = false ∧
      (State.reset.island 51).bridgeSpent = false ∧ State.reset.mgmtOk = true ∧ State.reset.islandUp (74 : Island) = true) ∧
    (let s : State := { State.reset with islands := [(52, { synSpent := true, bridgeSpent := true })] }
     s.islandUp (52 : Island) = true ∧ (s.island 52).synSpent = true ∧ (s.island 52).bridgeSpent = true) ∧
    (let s := State.reset.setChannel 3 7 { b := 1 }
     chanBucket (3 : Fin 6) ≠ 0 ∧ (s.channel 3 7).b ≠ 0) ∧
    (let s := State.reset.setDomain 9 0 { active := true, queue := [5] }
     (s.domain 9 0).active = true) ∧ State.reset.isCut = false ∧
    (let s : State := { tst [(R.EVT_CTRL_BURST, 2)] with rcd := { tokens := [(7, 0), (8, 1)] } }
     tget 7 s.rcd.tokens = some 0 ∧ 0 + 1 < s.get R.EVT_CTRL_BURST ∧ tget 8 s.rcd.tokens = some 1 ∧ s.get R.EVT_CTRL_BURST ≤ 1 + 1) := by
  decide

theorem witness_RecorderAndRegistersAreServed :
    (State.reset.run = .up ∧ State.reset.vault.faulted = false ∧ (State.vault { State.reset with vault := { faulted := true } }).faulted = true) ∧
    (writable (.host 1) State.reset ∧ field R.EVT_FLUSH_GO (twd [(R.EVT_FLUSH_GO, 1)]) = 1 ∧
      varSize State.reset.rcd.varBuf + 1024 ≤ varBufCap ∧ field R.RET_CTRL_ATTN_ACK (twd [(R.RET_CTRL_ATTN_ACK, 1)]) = 1 ∧
      field R.CACHE_PROBE_SEL_GO (twd [(R.CACHE_PROBE_SEL_GO, 1), (R.CACHE_PROBE_SEL_VOLUME, 1023)]) = 1 ∧
      field R.CACHE_PROBE_SEL_VOLUME (twd [(R.CACHE_PROBE_SEL_GO, 1), (R.CACHE_PROBE_SEL_VOLUME, 1023)]) < 1024 ∧
      340 ≤ field R.PWR_CTRL_CAP_LIMIT 340#32 ∧ field R.PWR_CTRL_CAP_LIMIT 640#32 ≤ 640 ∧ 640 < field R.PWR_CTRL_CAP_LIMIT 641#32) ∧
    (State.reset.pathOk (.host 1) = true ∧ hiOf (BitVec.ofNat 32 A.ID_MAC_LO).toNat = some A.ID_MAC_HI ∧
      State.reset.regOut (BitVec.ofNat 32 A.ID_MAC_LO).toNat = false) := by
  refine ⟨by decide, ⟨writable_host rfl rfl rfl rfl, by decide⟩, by decide⟩

theorem witness_HandoverFailureAndFourthLoss :
    State.reset.run = .up ∧ State.get (R.SPIN_STATUS_STATE 4) (tst [(R.SPIN_STATUS_STATE 4, 5)]) = 5 ∧
    (let s : State := { tst [(R.SPIN_STATUS_STATE 4, 7)] with spins := [(4, { losses := [3, 2, 1] })], opSec := 3600 }
     s.get (R.SPIN_STATUS_STATE 4) = 7 ∧ 3 ≤ ((s.spin 4).losses.filter fun a => s.opSec < a + 3600).length) ∧
    (let s := (tst [(R.SPIN_STATUS_STATE 4, 6)]).setSpin 4 { origin := .caught }
     s.get (R.SPIN_STATUS_STATE 4) = 6 ∧ (s.spin 4).origin ≠ .start) := by decide

theorem witness_UndefinedAddressesReadZero :
    (let a := 0x12FFFC#32
     inMap a.toNat = true ∧ a.toNat % 4 = 0 ∧ layout a.toNat = [] ∧ isSnap a.toNat = false ∧ State.reset.regOut a.toNat = false) ∧
    writable (.host 1) State.reset ∧
    (State.reset.run = .up ∧ State.reset.mgmtOk = true ∧ (tget (pathKey .uart 0x12FFFC) State.reset.latches).isNone = true) ∧
    (let c := aCmd [0x42, 0, 0, 5, 0, 0, 0, 0, 0, 0x12, 0xFF, 0xFC, 0, 0, 0, 1]
     inFlight aRef c (tBuf c) ∧ (tBuf c).adminCmd 0x42 aRef = some c ∧ capF c.cap 8 4 = (0x12FFFC#32).toNat ∧ capF c.cap 12 4 = 1) ∧
    (let c := aCmd [0x43, 0, 0, 5, 0, 0, 0, 0, 0, 0x13, 0, 0, 0, 0, 0, 1]
     inFlight aRef c (tBuf c) ∧ (tBuf c).adminCmd 0x43 aRef = some c ∧ 0x130000 < capF c.cap 8 4 + 4 * capF c.cap 12 4 ∧
      capF (aCmd [0x42, 0, 0, 5, 0, 0, 0, 0, 0, 0, 0, 1, 0, 0, 0, 1]).cap 8 4 % 4 ≠ 0) := by
  refine ⟨⟨by decide, by decide, List.isEmpty_iff.1 (by decide +kernel), by decide +kernel, by decide +kernel⟩, writable_host rfl rfl rfl rfl, by decide,
    ⟨tBuf_inFlight (aCmd [0x42, 0, 0, 5, 0, 0, 0, 0, 0, 0x12, 0xFF, 0xFC, 0, 0, 0, 1]) rfl rfl (.inr rfl), rfl, by decide, by decide⟩,
    tBuf_inFlight (aCmd [0x43, 0, 0, 5, 0, 0, 0, 0, 0, 0x13, 0, 0, 0, 0, 0, 1]) rfl rfl (.inr rfl), rfl, by decide, by decide⟩

theorem witness_LayoutsAreValidWithinTheirGroup :
    (let c := aCmd ([0x44, 0, 0, 5, 0xFF, 0xFF] ++ List.replicate 35 0 ++ [24, 3])
     inFlight aRef c (tAdmin c) ∧ (tAdmin c).get R.GLB_STATUS_STATE ≠ 2 ∧ (tAdmin c).adminCmd 0x44 aRef = some c ∧ capB c.cap 41 ≠ 0 ∧
      capB c.cap 42 ≠ 0 ∧ capF c.cap 4 2 = 0xFFFF ∧ (tget 1 (tAdmin c).vols).isNone = true ∧
      tget (capB c.cap 40) (tAdmin c).groups = some tGroup ∧ ¬capB c.cap 41 + capB c.cap 42 ≤ tGroup.h) ∧
    (let c := aCmd [0x48, 0, 0, 5, 0, 0, 0, 0, 3, 1]
     inFlight aRef c (tAdmin c) ∧ (tAdmin c).adminCmd 0x48 aRef = some c ∧ (capB c.cap 11).testBit 0 = false ∧
      (tget c.vol (tAdmin c).vols).isSome = true ∧ ¬4 ≤ capB c.cap 8) := by
  refine ⟨⟨tAdmin_inFlight (aCmd ([0x44, 0, 0, 5, 0xFF, 0xFF] ++ List.replicate 35 0 ++ [24, 3])) rfl rfl (.inr rfl), by decide, rfl, by decide, by decide,
      by decide, by decide, rfl, by decide⟩,
    tAdmin_inFlight (aCmd [0x48, 0, 0, 5, 0, 0, 0, 0, 3, 1]) rfl rfl (.inr rfl), rfl, by decide, by decide, by decide⟩

/-! ## Terms the well-formedness check refuses, one for each of its checks, beside terms it takes -/

/-- The sessions, queue and tag of a command reference. -/
theorem test_wf_refs :
    (Instr.read tRef none).wf = true ∧ (Instr.read ⟨0x81, 1, 5⟩ none).wf = false ∧ (Instr.read ⟨0x104, 1, 5⟩ none).wf = false ∧
      (Instr.read ⟨1, 64, 5⟩ none).wf = false ∧ (Instr.read ⟨1, 1, 0xFFFF⟩ none).wf = false := by decide

/-- The sessions of a path, and the command or path of a request. -/
theorem test_wf_paths :
    (Instr.rstModule (.host 0x80) 0).wf = true ∧ (Instr.rstModule (.host 0) 0).wf = false ∧ (Instr.rstModule (.mp 0xFF) 0).wf = false ∧
      (Instr.cacheEnable (.cmd ⟨1, 64, 5⟩)).wf = false ∧ (Instr.cacheEnable (.reg (.host 0x81) 0)).wf = false := by decide

/-- Places: column and block. -/
theorem test_wf_places :
    (Instr.weakRelocation ⟨0, 31, 255⟩ true).wf = true ∧ (Instr.weakRelocation ⟨0, 32, 0⟩ true).wf = false ∧
      (Instr.weakRelocation ⟨0, 0, 256⟩ true).wf = false := by decide

/-- Sealed blocks: tuple, row, generation and Q. -/
theorem test_wf_seals :
    (Instr.sectorWrite 0 0 ⟨0, ⟨65535, 65535, 2 ^ 32 - 1⟩, 2 ^ 32 - 1, 2 ^ 24 - 1, 63, false, false⟩ 0).wf = true ∧
      (Instr.sectorWrite 0 0 ⟨0, ⟨65536, 0, 0⟩, 0, 0, 0, false, false⟩ 0).wf = false ∧
      (Instr.sectorWrite 0 0 ⟨0, ⟨0, 0, 0⟩, 2 ^ 32, 0, 0, false, false⟩ 0).wf = false ∧
      (Instr.sectorWrite 0 0 ⟨0, ⟨0, 0, 0⟩, 0, 2 ^ 24, 0, false, false⟩ 0).wf = false ∧
      (Instr.sectorWrite 0 0 ⟨0, ⟨0, 0, 0⟩, 0, 0, 64, false, false⟩ 0).wf = false := by decide

/-- Frames: header fields, capsules of 64 bytes, and bodies. -/
theorem test_wf_frames :
    (Instr.cmdFrame (tFrame 1 0 (.cmd [tCap [1]]))).wf = true ∧ (Instr.cmdFrame (tFrame 64 0 (.cmd [tCap [1]]))).wf = false ∧
      (Instr.cmdFrame (tFrame 1 0 (.cmd [[1]]))).wf = false ∧ (Instr.cmdFrame (tFrame 1 0 (.cmd [tCap [256]]))).wf = false ∧
      (Instr.cmdFrame (tFrame 1 0 (.cmd []))).wf = false ∧
      (Instr.dataFrame (tFrame 1 0 (.blocks 0 [(0, ⟨65536, 0, 0⟩)]))).wf = false ∧
      (Instr.dataFrame (tFrame 1 0 (.bytes 0 [256]))).wf = false ∧
      (Instr.keepalive (tFrame 0 0 (.ctrl (tCtrl 256 0 0)))).wf = false ∧
      (Instr.keepalive { tFrame 0 0 .none with addr := ⟨3, 0, 0, 0, 0⟩ }).wf = false := by decide

/-- ID memory bytes, link data, crossings and samples in order, ADC codes. -/
theorem test_wf_observations :
    (Instr.slotInsertion 0 ⟨true, [256], [], []⟩ tMeas).wf = false ∧ (Instr.pserHeldWriteApply 0 ⟨5, false, 0⟩).wf = false ∧
      (Instr.pserHeldWriteApply 0 ⟨0, false, 65536⟩).wf = false ∧ (Instr.psfltNAsserted 0 65536).wf = false ∧
      (Instr.spinSenseEnd 0 ⟨0, [(5, 0), (5, 1)], 0⟩).wf = false ∧
      (Instr.zeroCrossing 0 [⟨5, 2000, false, 0⟩, ⟨4, 2000, false, 0⟩] ⟨[], 0⟩).wf = false ∧
      (Instr.sectorRead 0 0 { tRecv with samples := [64] }).wf = false ∧
      (Instr.spinSenseEnd 0 (tSense 6000)).wf = true := by decide +kernel

/-- Converter halves, LLDP bytes, queue groups, feeds and card bytes. -/
theorem test_wf_others :
    (Instr.dcdcFault 2).wf = false ∧ (Instr.lldpReceive 0 0 0 [256]).wf = false ∧ (Instr.microword 0 { tObs with groups := [256] }).wf = false ∧
      (Instr.coldStart { tObsStart with feeds := [2] }).wf = false ∧
      (Instr.coldStart { tObsStart with card := some (some ⟨16, 0, false, true, [(0, 255)]⟩) }).wf = false ∧
      (Instr.recoveryReadSubmit { tPool with place := ⟨0, 32, 0⟩ } true).wf = false := by decide

/-! ## Commands on small states, values from the rules -/

/-- The state a command leads to, the state before it where it does not answer one. -/
def tRun (c : Instr) (s : State) : State := match exec c s with | .next t => t | _ => s

/-- R14: a write of 641 to CAP_LIMIT (340 to 640) is refused, and the address is kept. -/
theorem test_capLimit_refused :
    (tRun (.registerWrite (.host 1) 0x10014 641#32) State.reset).get R.PWR_CTRL_CAP_LIMIT = 640 ∧
      (tRun (.registerWrite (.host 1) 0x10014 641#32) State.reset).get R.GLB_REFUSED_ADDR = 0x10014 := by decide +kernel

/-- R73: forward at 600.1 rpm is caught, at 600.0 rpm braked to rest. -/
theorem test_sense_catch :
    (tRun (.spinSenseEnd 4 (tSense 6001)) (tst [(R.SPIN_STATUS_STATE 4, 1), (R.SPIN_CTRL_SETPOINT 4, 2)])).get (R.SPIN_STATUS_STATE 4) = 6 ∧
      (tRun (.spinSenseEnd 4 (tSense 6000)) (tst [(R.SPIN_STATUS_STATE 4, 1), (R.SPIN_CTRL_SETPOINT 4, 2)])).get (R.SPIN_STATUS_STATE 4) = 3 := by
  decide +kernel

/-- R86: the third start failure in a row fails the spindle and retires its HDA. -/
theorem test_third_start_failure :
    (tRun (.blindHandoverFail 4) ((tBlind 5).set (R.SPIN_STATUS_START_FAILS 4) 2)).get (R.SLOT_STATUS_STATE 4) = 7 := by
  decide +kernel

/-- R55: an HDA pulled out leaves its slot empty, with both enables low. -/
theorem test_removal : (tRun (.slotRemoved 0) tReady).get (R.SLOT_STATUS_STATE 0) = 0 ∧
    (tRun (.slotRemoved 0) tReady).get (R.SLOT_STATUS_PRESENT 0) = 0 := by decide +kernel

/-- R293, R287: an OPEN on a port out of service gets a REFUSE of reason 3 with the SEQ answered plus one, in a frame of 100 bytes. -/
theorem test_open_refused :
    (tRun (.open_ { tFrame 0 0 (.ctrl (tCtrl 1 4 16)) with addr := ⟨0, 0, 1, 2, 9⟩ }) (tHost.set R.GLB_STATUS_STATE 1)).outs.head?.map
      (fun o => match o with | .refuse a n h b => (a.udp, n, h.ack, b.length, b.take 4) | _ => (0, 0, 0, 0, [])) =
      some (9, 3, 101, 100, [0x4C, 0x51, 1, 6]) := by decide +kernel

/-- R303: a capsule of an undefined opcode completes at once with INVALID-OPCODE. -/
theorem test_undefined_opcode :
    (((tRun (.cmdFrame (tFrame 1 0 (.cmd [tCap [7]]))) tHost).path 1 0).map fun x => x.sent.map fun e => match e.2.1 with
      | .cpl c => c.status
      | _ => 0) = some [St.invalidOpcode] := by decide +kernel

/-- R333: a FLUSH with nothing before it completes at once. -/
theorem test_flush : (tRun (.flush tRef) (tBuf (tIo 5))).cmds = [] := by decide +kernel

/-- R391, R392: with both feeds there, the loss of A clears FEED_A alone. -/
theorem test_feed_lost :
    (tRun (.feedAbsent 0) (tst [(R.PWR_STATUS_FEED_A, 1), (R.PWR_STATUS_FEED_B, 1)])).get R.PWR_STATUS_FEED_A = 0 ∧
      (tRun (.feedAbsent 0) (tst [(R.PWR_STATUS_FEED_A, 1), (R.PWR_STATUS_FEED_B, 1)])).get R.PWR_STATUS_FEED_B = 1 := by decide +kernel

/-- R368: ADD of 2⁶⁴ − 1 and 1 gives 0 with Z and C set, N and V clear. -/
theorem test_microword_add :
    (let s : State := { tst [(R.ENG_STATUS_STATE 3, 1), (R.ENG_PC_PC 3, 0xF800)] with engs := [(3, { patch := [(0, tWord [(65, 1), (64, 1), (92, 5), (86, 1), (80, 2)])], regs := [(1, 0xFFFFFFFFFFFFFFFF#64), (2, 1#64)] })] }
     let e := (tRun (.microword 3 tObs) s).eng 3
     (e.z, e.n, e.c, e.v, tgetD 5 7 e.regs)) = (true, false, true, false, 0#64) := by decide +kernel

/-- R370: a word of PORT code 7 is illegal, and stops its engine. -/
theorem test_microword_illegal :
    (tRun (.microword 3 tObs) { tst [(R.ENG_STATUS_STATE 3, 1), (R.ENG_PC_PC 3, 0xF800)] with engs := [(3, { patch := [(0, tWord [(67, 7)])] })] }).engState 3 = 4 := by
  decide +kernel

/-- R124: with eight lanes in service ten heads may follow. -/
theorem test_lanes : laneLimit 8 = 10 ∧ laneLimit 4 = 4 ∧ laneLimit 1 = 1 ∧ laneLimit 0 = 0 := by decide

/-- The check value of CRC32C: the bytes of "123456789" give 0xE3069283. -/
theorem test_crc32c : crc32c [0x31, 0x32, 0x33, 0x34, 0x35, 0x36, 0x37, 0x38, 0x39] = 0xE3069283 := by decide +kernel

/-- The check value of the T10 CRC of R260: the same bytes give 0xD0DB. -/
theorem test_crc16 : crc16 [0x31, 0x32, 0x33, 0x34, 0x35, 0x36, 0x37, 0x38, 0x39] = 0xD0DB := by decide +kernel

/-- R479: an undefined address reads 0 on the UART. -/
theorem test_uart_undefined :
    (tRun (.uartRead 0x12FFFC#32) State.reset).outs.head? = some (.uart (hexWord 0)) := by decide +kernel

/-- The worked example of R150: LAUNCH_PS 6,400 in zone 31 at Noon gives A = 16 and a delay of 130.6 ps, and tap 44 of a
nominal line; with a transition at n − 1 and PC1 = 6, 92.2 ps. -/
theorem test_write_launch :
    (edgeDelay 6400 (zoneBits 31 * 640 * 72000) 0).1 = 16 ∧ (edgeDelay 6400 (zoneBits 31 * 640 * 72000) 0).2.1 = false ∧
      (edgeDelay 6400 (zoneBits 31 * 640 * 72000) 0).2.2 / (64 * (zoneBits 31 * 640 * 72000)) = 1306 ∧
      (edgeDelay 6400 (zoneBits 31 * 640 * 72000) 6).2.2 / (64 * (zoneBits 31 * 640 * 72000)) = 923 ∧
      nearestTap (fun _ => true) (fun k => 1680 * k) (zoneBits 31 * 640 * 72000)
        (edgeDelay 6400 (zoneBits 31 * 640 * 72000) 0).2.2 = 44 := by decide +kernel

/-- The worked examples of R134 and R146: sector 1 of zone 0 splits with 23,722 bits before the wedge; SM1 taken at 141 and
SM2 at 1,200 frame on SM2, D1 at bit 176 and D2 at bit 1,232. -/
theorem test_sector_layout :
    fragsFrom (fragLast 0) (fragFirst 0) 4 0 41318 37376 = [(0, 41318, 23722), (1, 4006, 13654)] ∧
      frameOf false (some 141) (some 1200) = .xcheck ∧
      FrameKind.starts .xcheck (some 141) (some 1200) 0 = (176, 1232) := by decide +kernel
end

namespace Sys2Proof.Machine

/-! ## Writes of registers whose effect is one of their block (R479 to R484) -/

/-- A register in no island of its own, outside the engine and slot blocks, with no rule over several fields and no snapshot words:
a write takes its fields one by one and has the effect of its block alone. -/
structure PlainReg (a : Nat) : Prop where
  inMap : inMap a = true
  aligned : a % 4 = 0
  noIsland : (regIsland a).isNone = true
  fields : (layout a).isEmpty = false
  noSnap : isSnap a = false
  noJoints : (jointsAt a).isEmpty = true
  noAdv : (advSlot a).isNone = true
  noCtrl : (engineAt a 0).isNone = true
  noOwner : ¬(0x50010 ≤ a ∧ a < 0x50020)
  noSlot : ¬(0x100000 ≤ a ∧ a < 0x120000)
  noEngine : ¬(0x50100 ≤ a ∧ a < 0x50600)

theorem plainReg_PWR_CTRL : PlainReg A.PWR_CTRL := by constructor <;> decide +kernel
theorem plainReg_CACHE_PROBE_SEL : PlainReg A.CACHE_PROBE_SEL := by constructor <;> decide +kernel
theorem plainReg_EVT_FLUSH : PlainReg A.EVT_FLUSH := by constructor <;> decide +kernel
theorem plainReg_EVT_TIME_MARK_HI : PlainReg A.EVT_TIME_MARK_HI := by constructor <;> decide +kernel
theorem plainReg_RET_CTRL : PlainReg A.RET_CTRL := by constructor <;> decide +kernel

variable {s t : State} {p : Path} {a w : Nat}

/-- Taking a word of such a register: refused if one of its fields is, and each field taken in turn. -/
theorem takeWord_plain (h : PlainReg a) (s : State) (p : Path) (w : Nat) :
    s.takeWord p a w = ((layout a).any fun f => s.refuses f (f.fld.of w), s.forAll (layout a) (State.takeField w)) := by
  have hj := List.isEmpty_iff.1 h.noJoints
  have hadv := Option.isNone_iff_eq_none.1 h.noAdv
  simp [State.takeWord, State.judge, h.noSnap, hj, hadv]

/-- A write of such a register (R482, R484, R487): counted, its fields taken, its block's effect, and a refusal shown. -/
theorem writeReg_plain (h : PlainReg a) (hw : w < 2 ^ 32) {s1 : State} (h1 : s.count (R.GLB_ACCESS_WRITES (pathKind p)) 1 = s1)
    {bad : Bool} (hb : ((layout a).any fun f => s1.refuses f (f.fld.of w)) = bad) :
    (s.writeReg none p a w).2 =
      if bad then (State.blockEffect p a w false (s1.forAll (layout a) (State.takeField w))).regRefused a w
      else State.blockEffect p a w true (s1.forAll (layout a) (State.takeField w)) := by
  have hout : s1.regOut a = false := by simp [State.regOut, Option.isNone_iff_eq_none.1 h.noIsland]
  have hctrl := Option.isNone_iff_eq_none.1 h.noCtrl
  have hperf : s1.performWrite none p a w = (bad, State.blockEffect p a w (!bad) (s1.forAll (layout a) (State.takeField w))) := by
    simp [State.performWrite, hctrl, h.noOwner, h.noSlot, h.noEngine, takeWord_plain h, hb]
  simp only [State.writeReg, h1, h.inMap, h.aligned, hout, h.fields, Nat.mod_eq_of_lt hw, hperf]
  cases bad <;> rfl

/-! ## What follows a write -/

/-- With no write posted and no reset or rekindle asked for, nothing follows a write. -/
theorem afterWrite_idle (hpost : ∀ n, n < 20 → (t.eng n).posted = []) (hreset : t.knd.resetAsked = false)
    (hrekindle : t.knd.rekindleAsked = false) : t.afterWrite none = t := by
  have hnone : ((List.range 20).find? fun n => !(t.eng n).posted.isEmpty) = none := by
    simpa [List.find?_eq_none] using hpost
  simp [State.afterWrite, State.drainPosted, hnone, hreset, hrekindle]

/-! ## ADMIN_ACTION of a register write (R469) leaves all but the recorder's variable buffer -/

@[simp] theorem recordWrite_get (f : Fld) : (s.recordWrite p a w).get f = s.get f := by cases p <;> rfl
@[simp] theorem recordWrite_vault : (s.recordWrite p a w).vault = s.vault := by cases p <;> rfl
@[simp] theorem recordWrite_pins : (s.recordWrite p a w).pins = s.pins := by cases p <;> rfl
@[simp] theorem recordWrite_snaps : (s.recordWrite p a w).snaps = s.snaps := by cases p <;> rfl
@[simp] theorem recordWrite_engs : (s.recordWrite p a w).engs = s.engs := by cases p <;> rfl
@[simp] theorem recordWrite_knd : (s.recordWrite p a w).knd = s.knd := by cases p <;> rfl
@[simp] theorem host_recordWrite : hostView (s.recordWrite p a w) = hostView s := by cases p <;> rfl

@[simp] theorem pushVar_fixBuf (t : Stamp) (c : Nat) (l : List Nat) (r : Recorder) : (r.pushVar t c l).fixBuf = r.fixBuf := by
  simp only [Recorder.pushVar]; split <;> rfl

/-- A record stays in the buffer when another is put there or dropped. -/
theorem mem_pushVar {e : VarRec} {r : Recorder} (h : e ∈ r.varBuf) (t : Stamp) (c : Nat) (l : List Nat) :
    e ∈ (r.pushVar t c l).varBuf := by
  simp only [Recorder.pushVar]
  split
  · exact List.mem_append_left _ h
  · exact h

/-- A record the buffer has room for is put there (R472). -/
theorem pushVar_takes {r : Recorder} {l : List Nat} (h : varSize r.varBuf + (l.length + 35) / 16 * 16 ≤ varBufCap) (t : Stamp)
    (c : Nat) : ⟨c, t.opSec, t.pcycle, r.seq, l⟩ ∈ (r.pushVar t c l).varBuf := by
  have hroom : varSize r.varBuf + VarRec.size ⟨c, t.opSec, t.pcycle, r.seq, l⟩ ≤ varBufCap := h
  simp [Recorder.pushVar, hroom]

/-- An engine's write leaves the recorder as it was; any other path's puts one variable record in its buffer. -/
theorem recordWrite_rcd (s : State) (p : Path) (a w : Nat) :
    (s.recordWrite p a w).rcd = s.rcd ∨ ∃ l, (s.recordWrite p a w).rcd = s.rcd.pushVar s.stamp Ev.ADMIN_ACTION l := by
  cases p with
  | engine n => exact .inl rfl
  | host n => exact .inr ⟨_, rfl⟩
  | mp n => exact .inr ⟨_, rfl⟩
  | uart => exact .inr ⟨_, rfl⟩
  | tap => exact .inr ⟨_, rfl⟩

@[simp] theorem recordWrite_fixBuf : (s.recordWrite p a w).rcd.fixBuf = s.rcd.fixBuf := by
  obtain h | ⟨l, h⟩ := recordWrite_rcd s p a w <;> simp [h]

theorem mem_recordWrite {e : VarRec} (h : e ∈ s.rcd.varBuf) : e ∈ (s.recordWrite p a w).rcd.varBuf := by
  obtain hr | ⟨l, hr⟩ := recordWrite_rcd s p a w
  · rwa [hr]
  · rw [hr]; exact mem_pushVar h _ _ _

/-- A register write on a writable module: what the register does, recorded, and nothing after it while no register of the engines
or of the starts is touched (R469, R480, R481). -/
theorem act_row (hw : writable p s) (h : PlainReg a) (w : Word) (ht : (s.writeReg none p a w.toNat).2 = t)
    (he : t.engs = s.engs) (hk : t.knd = s.knd) :
    act s (State.row p a w) = .next ((t.recordWrite p a w.toNat).after s) := by
  obtain ⟨hrun, hpath, -, hpost, hreset, hrekindle⟩ := hw
  have hidle : (t.recordWrite p a w.toNat).afterWrite none = t.recordWrite p a w.toNat :=
    afterWrite_idle (fun n hn => by simpa [State.eng, he] using hpost n hn) (by simp [hk, hreset]) (by simp [hk, hrekindle])
  have hrow : State.row p a w s = t.recordWrite p a w.toNat := by
    rw [← hidle]
    simp [State.row, regWriteRow, State.pathWrite, hpath, h.inMap, h.aligned, ht]
  rw [act_up hrun, hrow]

/-! ## A flush of the recorder (R470, R472, R473) -/

@[simp] theorem appendFix_bufs (t : Stamp) (e : EvRec) (r : Recorder) :
    (r.appendFix t e).fixBuf = r.fixBuf ∧ (r.appendFix t e).varBuf = r.varBuf := by
  simp only [Recorder.appendFix]; (repeat' split) <;> simp

@[simp] theorem appendVar_bufs (t : Stamp) (e : VarRec) (r : Recorder) :
    (r.appendVar t e).fixBuf = r.fixBuf ∧ (r.appendVar t e).varBuf = r.varBuf := by
  simp only [Recorder.appendVar]; (repeat' split) <;> simp

theorem foldl_appendFix_bufs (t : Stamp) (l : List EvRec) (r : Recorder) :
    (l.foldl (fun q e => q.appendFix t e) r).fixBuf = r.fixBuf ∧ (l.foldl (fun q e => q.appendFix t e) r).varBuf = r.varBuf := by
  induction l generalizing r with
  | nil => simp
  | cons e l ih => simp [ih]

theorem foldl_appendVar_bufs (t : Stamp) (l : List VarRec) (r : Recorder) :
    (l.foldl (fun q e => q.appendVar t e) r).fixBuf = r.fixBuf ∧ (l.foldl (fun q e => q.appendVar t e) r).varBuf = r.varBuf := by
  induction l generalizing r with
  | nil => simp
  | cons e l ih => simp [ih]

/-- A flush leaves both buffers empty. -/
@[simp] theorem flush_bufs (t : Stamp) (r : Recorder) : (r.flush t).fixBuf = [] ∧ (r.flush t).varBuf = [] := by
  simp [Recorder.flush, foldl_appendFix_bufs, foldl_appendVar_bufs]

/-- A flush with the vault in service (R470, R472). -/
theorem State.flush_inService (h : s.vault.faulted = false) :
    s.flush = { s with rcd := s.rcd.flush s.stamp, vault := { s.vault with savedOpSec := s.opSec } } := by simp [State.flush, h]

/-- A flush while the vault is faulted (R473). -/
theorem State.flush_faulted (h : s.vault.faulted = true) : s.flush = s := by simp [State.flush, h]

/-! ## The write count (R487) and the fields of the registers written -/

@[simp] theorem host_write_count : hostView (s.count (R.GLB_ACCESS_WRITES (pathKind p)) 1) = hostView s := rfl

theorem get_write_count_same :
    (s.count (R.GLB_ACCESS_WRITES (pathKind p)) 1).get (R.GLB_ACCESS_WRITES (pathKind p)) =
      counted (R.GLB_ACCESS_WRITES (pathKind p)) s := by
  rw [State.count_eq, State.get_set_same, counted]
  exact Nat.mod_eq_of_lt (by have := Nat.two_pow_pos (R.GLB_ACCESS_WRITES (pathKind p)).w; omega)

theorem get_count_ne {f g : Fld} (h : g.key ≠ f.key) (n : Nat) : (s.count f n).get g = s.get g := by
  rw [State.count_eq, State.get_set_ne s h]

/-- Fields other than the write count keep their values while it counts. -/
theorem get_write_count_ne {f : Fld} (h : f.key ≠ (R.GLB_ACCESS_WRITES (pathKind p)).key) :
    (s.count (R.GLB_ACCESS_WRITES (pathKind p)) 1).get f = s.get f := get_count_ne h 1

/-- The counts of writes lie in the five words of GLB_ACCESS: no other field does. -/
theorem ne_write_count {f : Fld} (h : f.key < 32 * 0x110 ∨ 32 * 0x124 ≤ f.key) (p : Path) :
    f.key ≠ (R.GLB_ACCESS_WRITES (pathKind p)).key := by
  have hkey : 32 * 0x110 ≤ (R.GLB_ACCESS_WRITES (pathKind p)).key ∧ (R.GLB_ACCESS_WRITES (pathKind p)).key < 32 * 0x124 := by
    cases p <;> simp [Fld.key, pathKind]
  omega

theorem layout_PWR_CTRL : layout A.PWR_CTRL = [⟨R.PWR_CTRL_CAP_LIMIT, .rw, .k, [(340, 640)]⟩] := by decide +kernel
theorem layout_CACHE_PROBE_SEL : layout A.CACHE_PROBE_SEL =
    [⟨R.CACHE_PROBE_SEL_VOLUME, .rw, .v, []⟩, ⟨R.CACHE_PROBE_SEL_GO, .wo, .v, []⟩] := by decide +kernel
theorem layout_EVT_FLUSH : layout A.EVT_FLUSH = [⟨R.EVT_FLUSH_GO, .wo, .v, []⟩] := by decide +kernel
theorem layout_EVT_TIME_MARK_HI : layout A.EVT_TIME_MARK_HI = [⟨R.EVT_TIME_MARK_HI_HI, .wo, .v, []⟩] := by decide +kernel
theorem layout_RET_CTRL : layout A.RET_CTRL = [⟨R.RET_CTRL_ATTN_ACK, .wo, .v, []⟩] := by decide +kernel

/-- Outside the engine windows, the sample limits of the damper and the thermal limits a field refuses only what is not legal (R14). -/
theorem refuses_eq {f : FSpec} (hd : ¬(0xDE004 ≤ f.fld.addr ∧ f.fld.addr < 0xDF404))
    (he : ¬(0x50100 ≤ f.fld.addr ∧ f.fld.addr < 0x50600)) (ht : ∀ c, c < 5 → f.fld.addr ≠ A.THM_LIMIT c) (s : State) (v : Nat) :
    s.refuses f v = (f.takes && !f.ok v) := by
  have hthm : ∀ c < 5, f.fld ≠ R.THM_LIMIT_WARN c ∧ f.fld ≠ R.THM_LIMIT_THROTTLE c ∧ f.fld ≠ R.THM_LIMIT_SHUTDOWN c := fun c hc =>
    ⟨fun e => ht c hc (by rw [e]), fun e => ht c hc (by rw [e]), fun e => ht c hc (by rw [e])⟩
  have hok : fieldOk f v = f.ok v := by
    simp +contextual [fieldOk, hthm]
  have heng : ∀ o, engineAt f.fld.addr o = none := fun o => by
    simp only [engineAt, Bool.and_eq_true, decide_eq_true_eq]; rw [if_neg]; omega
  have hd' : (decide (0xDE004 ≤ f.fld.addr) && decide (f.fld.addr < 0xDF404)) = false := by simpa using hd
  simp [State.refuses, hok, heng, hd']

theorem refuses_unranged {f : FSpec} (hl : f.legal = []) (hd : ¬(0xDE004 ≤ f.fld.addr ∧ f.fld.addr < 0xDF404))
    (he : ¬(0x50100 ≤ f.fld.addr ∧ f.fld.addr < 0x50600)) (ht : ∀ c, c < 5 → f.fld.addr ≠ A.THM_LIMIT c) (s : State) (v : Nat) :
    s.refuses f v = false := by
  rw [refuses_eq hd he ht]; simp [FSpec.ok, hl]

/-! ## What the blocks do with a word -/

theorem blockEffect_PWR_CTRL (b : Bool) (s : State) : State.blockEffect p A.PWR_CTRL w b s = s := by
  simp [State.blockEffect, State.takeSnapshot, State.snapshotOf]

theorem blockEffect_EVT_FLUSH (b : Bool) (s : State) :
    State.blockEffect p A.EVT_FLUSH w b s = s.when (R.EVT_FLUSH_GO.of w = 1) State.flush := by
  simp [State.blockEffect]

theorem blockEffect_EVT_TIME_MARK_HI (b : Bool) (s : State) :
    State.blockEffect p A.EVT_TIME_MARK_HI w b s =
      (s.set R.EVT_TIME_MARK_HI_HI w).varEvent Ev.TIME_MARK (leBytes 4 (s.get R.EVT_TIME_MARK_LO_LO) ++ leBytes 4 w) := by
  simp [State.blockEffect]

theorem blockEffect_RET_CTRL (b : Bool) (s : State) (h : R.RET_CTRL_ATTN_ACK.of w = 1) :
    State.blockEffect p A.RET_CTRL w b s = { s with pins := { s.pins with attnRetired := false } } := by
  simp [State.blockEffect, h]

theorem blockEffect_CACHE_PROBE_SEL (s : State) (h : R.CACHE_PROBE_SEL_GO.of w = 1) :
    State.blockEffect p A.CACHE_PROBE_SEL w true s =
      s.capture p (A.CACHE_PROBE_DATA 0) (s.probeWords (s.get R.CACHE_PROBE_SEL_VOLUME)
        (s.get (R.CACHE_PROBE_LBA_LBA 0) + 2 ^ 32 * s.get (R.CACHE_PROBE_LBA_LBA 1))) := by
  simp [State.blockEffect, h]

/-! ## What a write of each register leaves -/

theorem writeReg_PWR_CTRL_legal (hw : w < 2 ^ 32) (h1 : 340 ≤ R.PWR_CTRL_CAP_LIMIT.of w) (h2 : R.PWR_CTRL_CAP_LIMIT.of w ≤ 640) :
    (s.writeReg none p A.PWR_CTRL w).2 =
      (s.count (R.GLB_ACCESS_WRITES (pathKind p)) 1).set R.PWR_CTRL_CAP_LIMIT (R.PWR_CTRL_CAP_LIMIT.of w) := by
  have hr (u : State) : u.refuses ⟨R.PWR_CTRL_CAP_LIMIT, .rw, .k, [(340, 640)]⟩ (R.PWR_CTRL_CAP_LIMIT.of w) = false := by
    rw [refuses_eq (by decide) (by decide) (by decide)]; simp [FSpec.ok, h1, h2]
  rw [writeReg_plain plainReg_PWR_CTRL hw rfl (bad := false) (by simp [layout_PWR_CTRL, hr])]
  simp [layout_PWR_CTRL, blockEffect_PWR_CTRL, State.takeField, hr]

theorem writeReg_PWR_CTRL_above (hw : w < 2 ^ 32) (h : 640 < R.PWR_CTRL_CAP_LIMIT.of w) :
    (s.writeReg none p A.PWR_CTRL w).2 = (s.count (R.GLB_ACCESS_WRITES (pathKind p)) 1).regRefused A.PWR_CTRL w := by
  have hr (u : State) : u.refuses ⟨R.PWR_CTRL_CAP_LIMIT, .rw, .k, [(340, 640)]⟩ (R.PWR_CTRL_CAP_LIMIT.of w) = true := by
    rw [refuses_eq (by decide) (by decide) (by decide)]; simp [FSpec.ok, FSpec.takes, h]
  rw [writeReg_plain plainReg_PWR_CTRL hw rfl (bad := true) (by simp [layout_PWR_CTRL, hr])]
  simp [layout_PWR_CTRL, blockEffect_PWR_CTRL, State.takeField, hr]

theorem writeReg_EVT_FLUSH (hw : w < 2 ^ 32) (h : R.EVT_FLUSH_GO.of w = 1) :
    (s.writeReg none p A.EVT_FLUSH w).2 = (s.count (R.GLB_ACCESS_WRITES (pathKind p)) 1).flush := by
  have hr := refuses_unranged (f := ⟨R.EVT_FLUSH_GO, .wo, .v, []⟩) rfl (by decide) (by decide) (by decide)
  rw [writeReg_plain plainReg_EVT_FLUSH hw rfl (bad := false) (by simp [layout_EVT_FLUSH, hr])]
  simp [layout_EVT_FLUSH, blockEffect_EVT_FLUSH, State.takeField, h]

theorem writeReg_EVT_TIME_MARK_HI (hw : w < 2 ^ 32) :
    (s.writeReg none p A.EVT_TIME_MARK_HI w).2 =
      ((s.count (R.GLB_ACCESS_WRITES (pathKind p)) 1).set R.EVT_TIME_MARK_HI_HI w).varEvent Ev.TIME_MARK
        (leBytes 4 ((s.count (R.GLB_ACCESS_WRITES (pathKind p)) 1).get R.EVT_TIME_MARK_LO_LO) ++ leBytes 4 w) := by
  have hr := refuses_unranged (f := ⟨R.EVT_TIME_MARK_HI_HI, .wo, .v, []⟩) rfl (by decide) (by decide) (by decide)
  rw [writeReg_plain plainReg_EVT_TIME_MARK_HI hw rfl (bad := false) (by simp [layout_EVT_TIME_MARK_HI, hr])]
  simp [layout_EVT_TIME_MARK_HI, blockEffect_EVT_TIME_MARK_HI, State.takeField]

theorem writeReg_RET_CTRL (hw : w < 2 ^ 32) (h : R.RET_CTRL_ATTN_ACK.of w = 1) :
    (s.writeReg none p A.RET_CTRL w).2 =
      { s.count (R.GLB_ACCESS_WRITES (pathKind p)) 1 with pins := { s.pins with attnRetired := false } } := by
  have hr := refuses_unranged (f := ⟨R.RET_CTRL_ATTN_ACK, .wo, .v, []⟩) rfl (by decide) (by decide) (by decide)
  rw [writeReg_plain plainReg_RET_CTRL hw rfl (bad := false) (by simp [layout_RET_CTRL, hr])]
  simp [layout_RET_CTRL, blockEffect_RET_CTRL _ _ h, State.takeField, State.count_eq]

/-- What a probe finds follows from the tags and the ways in service (R347, R362). -/
theorem probeWords_congr {s t : State} (hc : t.cache = s.cache) (hw : t.get R.CACHE_STATUS_WAYS = s.get R.CACHE_STATUS_WAYS)
    (v lba : Nat) : t.probeWords v lba = s.probeWords v lba := by
  have htag : t.tag = s.tag := by funext i j; simp [State.tag, hc]
  have hway : t.wayOk = s.wayOk := by funext i; simp [State.wayOk, hw]
  have hline (l : Nat) : t.findLine v l = s.findLine v l := by simp only [State.findLine, htag, hway]
  simp only [State.probeWords, hline, htag]

theorem probeWords_length (s : State) (v lba : Nat) : (s.probeWords v lba).length = 5 := by
  simp only [State.probeWords]; split <;> simp [words4]

/-- The tag entry a probe shows is the one the cache held before the write. -/
theorem writeReg_CACHE_PROBE_SEL (hw : w < 2 ^ 32) (h : R.CACHE_PROBE_SEL_GO.of w = 1) :
    (s.writeReg none p A.CACHE_PROBE_SEL w).2 =
      ((s.count (R.GLB_ACCESS_WRITES (pathKind p)) 1).set R.CACHE_PROBE_SEL_VOLUME (R.CACHE_PROBE_SEL_VOLUME.of w)).capture p
        (A.CACHE_PROBE_DATA 0) (s.probeWords (R.CACHE_PROBE_SEL_VOLUME.of w)
          (s.get (R.CACHE_PROBE_LBA_LBA 0) + 2 ^ 32 * s.get (R.CACHE_PROBE_LBA_LBA 1))) := by
  have hv := refuses_unranged (f := ⟨R.CACHE_PROBE_SEL_VOLUME, .rw, .v, []⟩) rfl (by decide) (by decide) (by decide)
  have hg := refuses_unranged (f := ⟨R.CACHE_PROBE_SEL_GO, .wo, .v, []⟩) rfl (by decide) (by decide) (by decide)
  rw [writeReg_plain plainReg_CACHE_PROBE_SEL hw rfl (bad := false) (by simp [layout_CACHE_PROBE_SEL, hv, hg])]
  simp only [layout_CACHE_PROBE_SEL, State.forAll_cons, State.forAll_nil, State.takeField, hv, blockEffect_CACHE_PROBE_SEL _ h, Bool.false_eq_true,
    if_false]
  generalize hu : (s.count (R.GLB_ACCESS_WRITES (pathKind p)) 1).set R.CACHE_PROBE_SEL_VOLUME (R.CACHE_PROBE_SEL_VOLUME.of w) = u
  have hget (f : Fld) (h1 : f.key ≠ R.CACHE_PROBE_SEL_VOLUME.key) (h2 : 32 * 0x124 ≤ f.key) : u.get f = s.get f := by
    rw [← hu, State.get_set_ne _ h1, get_write_count_ne (ne_write_count (.inr h2) p)]
  have hvol : u.get R.CACHE_PROBE_SEL_VOLUME = R.CACHE_PROBE_SEL_VOLUME.of w := by simp [← hu, Fld.of]
  have hcache : u.cache = s.cache := by rw [← hu]; rfl
  have hprobe := probeWords_congr hcache (hget R.CACHE_STATUS_WAYS (by decide) (by decide))
  rw [hvol, hget (R.CACHE_PROBE_LBA_LBA 0) (by decide) (by decide), hget (R.CACHE_PROBE_LBA_LBA 1) (by decide) (by decide), hprobe]

/-! ## Snapshots and latches (R483) -/

/-- What a path reads of a snapshot just taken for it. -/
theorem snapWord_capture (s : State) (p : Path) (a : Nat) (ws : List Nat) {k : Nat} (hk : k < ws.length) :
    snapWord p (a + 4 * k) (s.capture p a ws) = ws.getD k 0 % 2 ^ 32 := by
  have hfold : ∀ n, k < n → tgetD (pathKey p (a + 4 * k)) 0 ((List.range n).foldl
      (fun t j => tset (pathKey p (a + 4 * j)) (ws.getD j 0 % 2 ^ 32) t) s.snaps) = ws.getD k 0 % 2 ^ 32 := by
    intro n hn
    induction n with
    | zero => omega
    | succ n ih =>
      rw [List.range_succ, List.foldl_append]
      simp only [List.foldl_cons, List.foldl_nil, tgetD_tset]
      split
      · rename_i heq
        have : k = n := by simp only [pathKey] at heq; omega
        rw [this]
      · rename_i hne
        exact ih (Nat.lt_of_le_of_ne (Nat.le_of_lt_succ hn) fun e => hne (by rw [e]))
  exact hfold _ hk

/-- A register named _LO lies in the map. -/
theorem hiOf_inMap {a h : Nat} (hh : hiOf a = some h) : inMap a = true ∧ a % 4 = 0 := by
  simp only [hiOf] at hh
  split at hh
  · subst_vars; decide
  · split at hh
    · subst_vars; decide
    · cases hh

/-- A read of a _LO register latches its partner for the path and leaves what hosts have stored. -/
theorem readRow_latches {h : Nat} (hp : s.pathOk p = true) (hh : hiOf a = some h) (hout : s.regOut a = false) :
    tget (pathKey p h) (s.readRow p a).latches = some (s.readWord p h) ∧ hostView (s.readRow p a) = hostView s := by
  obtain ⟨hmap, h4⟩ := hiOf_inMap hh
  have hread : ∃ u, (s.readReg p a).2 = u.forAll ((layout a).filter fun f => f.acc = .rc) (fun f t => t.set f.fld 0) ∧
      tget (pathKey p h) u.latches = some (s.readWord p h) ∧ hostView u = hostView s := by
    simp only [State.readReg, hout, hh]
    exact ⟨_, rfl, by split <;> simp, by split <;> rfl⟩
  obtain ⟨u, hu, hlatch, hhost⟩ := hread
  have hrow : s.readRow p a = (s.readReg p a).2 := by simp [State.readRow, hp, hmap, h4]
  rw [hrow, hu]
  constructor
  · exact (congrArg (tget (pathKey p h)) (State.forAll_keeps u State.latches _ (fun (f : FSpec) t => t.set f.fld 0) fun _ _ => rfl)).trans hlatch
  · simpa using hhost

@[simp] theorem host_flush (s : State) : hostView s.flush = hostView s := by
  simp only [State.flush]; split <;> rfl

/-! ## The commands (R14, R355, R454, R470 to R473, R479, R483, R484) -/

/-- EVENT_FLUSH with the vault in service. -/
theorem exec_eventFlush (hrun : s.run = .up) (hv : s.vault.faulted = false) :
    ∃ t, exec .eventFlush s = .next t ∧ t.rcd.fixBuf = [] ∧ t.rcd.varBuf = [] ∧ t.vault.savedOpSec = s.opSec ∧ regsKept [] s t ∧
      t = { s with rcd := t.rcd, vault := t.vault, gates := t.gates } := by
  refine ⟨_, act_up hrun _, ?_⟩
  rw [State.flush_inService hv]
  exact ⟨(flush_bufs _ _).1, (flush_bufs _ _).2, rfl, fun _ _ => rfl, rfl⟩

/-- EVENT_FLUSH while the vault is faulted. -/
theorem exec_eventFlush_faulted (hrun : s.run = .up) (hv : s.vault.faulted = true) :
    ∃ t, exec .eventFlush s = .next t ∧ t = { s with gates := t.gates } := by
  refine ⟨_, act_up hrun _, ?_⟩
  rw [State.flush_faulted hv]; rfl

theorem exec_operatingSecondsSave (hrun : s.run = .up) (hv : s.vault.faulted = false) :
    ∃ t, exec .operatingSecondsSave s = .next t ∧ t.vault.savedOpSec = s.opSec ∧ regsKept [] s t ∧
      t = { s with vault := t.vault, gates := t.gates } := by
  refine ⟨_, act_up hrun _, ?_⟩
  simp only [operatingSecondsSave, hv]
  exact ⟨rfl, fun _ _ => rfl, rfl⟩

/-- EVT_FLUSH.GO. -/
theorem exec_evtFlushGo (hw : writable p s) (w : Word) (hv : s.vault.faulted = false) (hgo : field R.EVT_FLUSH_GO w = 1) :
    ∃ t, exec (.evtFlushGo p w) s = .next t ∧ t.rcd.fixBuf = [] ∧ t.vault.savedOpSec = s.opSec ∧
      regsKept [R.GLB_ACCESS_WRITES (pathKind p)] s t ∧ dataKept s t ∧ hostKept s t := by
  have hwrite := writeReg_EVT_FLUSH (s := s) (p := p) w.isLt hgo
  rw [State.flush_inService (by exact hv)] at hwrite
  refine ⟨_, act_row hw plainReg_EVT_FLUSH w hwrite rfl rfl, by simp, by simp; rfl, ?_, kept_of_host (by simp)⟩
  intro f hf
  rw [State.get_after, recordWrite_get]
  exact get_write_count_ne (s := s) (hf _ (by simp))

/-- EVT_TIME_MARK_HI: the mark is recorded with both words. -/
theorem exec_evtTimeMarkHi (hw : writable p s) (w : Word) (hroom : varSize s.rcd.varBuf + 1024 ≤ varBufCap) :
    ∃ t, exec (.evtTimeMarkHi p w) s = .next t ∧ (∃ e ∈ t.rcd.varBuf, e.code = Ev.TIME_MARK ∧
      e.payload = leBytes 4 (s.get R.EVT_TIME_MARK_LO_LO) ++ leBytes 4 w.toNat ∧ e.opSec = s.opSec) ∧
      dataKept s t ∧ hostKept s t := by
  have hlo : (s.count (R.GLB_ACCESS_WRITES (pathKind p)) 1).get R.EVT_TIME_MARK_LO_LO = s.get R.EVT_TIME_MARK_LO_LO :=
    get_write_count_ne (ne_write_count (by decide) p)
  have hwrite := writeReg_EVT_TIME_MARK_HI (s := s) (p := p) w.isLt
  rw [hlo] at hwrite
  refine ⟨_, act_row hw plainReg_EVT_TIME_MARK_HI w hwrite rfl rfl,
    ⟨_, mem_recordWrite (pushVar_takes (r := s.rcd) ?_ s.stamp _), rfl, rfl, rfl⟩, kept_of_host (by simp)⟩
  simp; omega

/-- RET_CTRL.ATTN_ACK. -/
theorem exec_retCtrlAttnAck (hw : writable p s) (w : Word) (hack : field R.RET_CTRL_ATTN_ACK w = 1) :
    ∃ t, exec (.retCtrlAttnAck p w) s = .next t ∧ t.pins = { s.pins with attnRetired := false } ∧ dataKept s t ∧ hostKept s t :=
  ⟨_, act_row hw plainReg_RET_CTRL w (writeReg_RET_CTRL w.isLt hack) rfl rfl, by simp, kept_of_host (by simp)⟩

/-- CACHE_PROBE_SEL.GO. -/
theorem exec_cacheProbeGo (hw : writable p s) (w : Word) (hgo : field R.CACHE_PROBE_SEL_GO w = 1) :
    ∃ t, exec (.cacheProbeGo p w) s = .next t ∧
      (∀ k, k < 5 → snapWord p (A.CACHE_PROBE_DATA k) t =
        (s.probeWords (field R.CACHE_PROBE_SEL_VOLUME w)
          (s.get (R.CACHE_PROBE_LBA_LBA 0) + 2 ^ 32 * s.get (R.CACHE_PROBE_LBA_LBA 1))).getD k 0 % 2 ^ 32) ∧
      dataKept s t ∧ hostKept s t := by
  refine ⟨_, act_row hw plainReg_CACHE_PROBE_SEL w (writeReg_CACHE_PROBE_SEL w.isLt hgo) rfl rfl, fun k hk => ?_,
    kept_of_host (by simp)⟩
  have hlen := probeWords_length s (field R.CACHE_PROBE_SEL_VOLUME w)
    (s.get (R.CACHE_PROBE_LBA_LBA 0) + 2 ^ 32 * s.get (R.CACHE_PROBE_LBA_LBA 1))
  have hsnap := snapWord_capture ((s.count (R.GLB_ACCESS_WRITES (pathKind p)) 1).set R.CACHE_PROBE_SEL_VOLUME
    (field R.CACHE_PROBE_SEL_VOLUME w)) p (A.CACHE_PROBE_DATA 0) _ (hlen ▸ hk)
  rw [← hsnap, snapWord, State.after_snaps, recordWrite_snaps, snapWord]
  simp only [A.CACHE_PROBE_DATA, Nat.zero_mul, Nat.add_zero, Nat.mul_comm k]

/-- A write of CAP_LIMIT within its range. -/
theorem exec_registerWrite_capLimit (hw : writable p s) (w : Word) (h1 : 340 ≤ field R.PWR_CTRL_CAP_LIMIT w)
    (h2 : field R.PWR_CTRL_CAP_LIMIT w ≤ 640) :
    ∃ t, exec (.registerWrite p 0x10014 w) s = .next t ∧ t.get R.PWR_CTRL_CAP_LIMIT = field R.PWR_CTRL_CAP_LIMIT w ∧
      t.get (R.GLB_ACCESS_WRITES (pathKind p)) = counted (R.GLB_ACCESS_WRITES (pathKind p)) s ∧
      regsKept [R.PWR_CTRL_CAP_LIMIT, R.GLB_ACCESS_WRITES (pathKind p)] s t ∧ dataKept s t ∧ hostKept s t := by
  refine ⟨_, act_row hw plainReg_PWR_CTRL w (writeReg_PWR_CTRL_legal w.isLt h1 h2) rfl rfl, ?_, ?_, ?_, kept_of_host (by simp)⟩
  · simp [field, Fld.of]
  · rw [State.get_after, recordWrite_get, State.get_set_ne _ (ne_write_count (by decide) p).symm, get_write_count_same]
  · intro f hf
    rw [State.get_after, recordWrite_get, State.get_set_ne _ (hf _ (by simp)), get_write_count_ne (hf _ (by simp))]

/-- A write of CAP_LIMIT above its range is refused and shown (R14, R484). -/
theorem exec_registerWrite_capLimit_above (hw : writable p s) (w : Word) (h : 640 < field R.PWR_CTRL_CAP_LIMIT w) :
    ∃ t, exec (.registerWrite p 0x10014 w) s = .next t ∧ t.get R.PWR_CTRL_CAP_LIMIT = s.get R.PWR_CTRL_CAP_LIMIT ∧
      t.get R.GLB_REFUSED_ADDR = A.PWR_CTRL ∧
      regsKept [R.GLB_REFUSED_ADDR, R.GLB_ACCESS_WRITES (pathKind p)] s t ∧ dataKept s t ∧ hostKept s t := by
  have hkept : regsKept [R.GLB_REFUSED_ADDR, R.GLB_ACCESS_WRITES (pathKind p)] s
      ((((s.count (R.GLB_ACCESS_WRITES (pathKind p)) 1).regRefused A.PWR_CTRL w.toNat).recordWrite p A.PWR_CTRL w.toNat).after s) := by
    intro f hf
    rw [State.get_after, recordWrite_get, State.regRefused, State.get_event, State.get_set_ne _ (hf _ (by simp)),
      get_write_count_ne (hf _ (by simp))]
  refine ⟨_, act_row hw plainReg_PWR_CTRL w (writeReg_PWR_CTRL_above w.isLt h) rfl rfl, hkept _ ?_, ?_, hkept,
    kept_of_host (by simp [State.regRefused])⟩
  · simpa using ⟨by decide, ne_write_count (f := R.PWR_CTRL_CAP_LIMIT) (by decide) p⟩
  · simp [State.regRefused]

/-- A write of an address outside the map, or unaligned, is not performed (R479). -/
theorem exec_registerWrite_outside (hw : writable p s) (a w : Word) (h : Machine.inMap a.toNat = false ∨ a.toNat % 4 ≠ 0) :
    ∃ t, exec (.registerWrite p a w) s = .next t ∧ regsKept [] s t ∧ t = { s with gates := t.gates } := by
  obtain ⟨hrun, -, -, hpost, hreset, hrekindle⟩ := hw
  have hrow : State.row p a.toNat w s = s := by
    have hskip : s.pathWrite none p a.toNat w.toNat = (false, s) := by
      obtain h | h := h <;> simp [State.pathWrite, h]
    simp only [State.row, regWriteRow, hskip]
    exact afterWrite_idle hpost hreset hrekindle
  refine ⟨_, act_up hrun _, ?_⟩
  rw [hrow]
  exact ⟨fun _ _ => rfl, rfl⟩

/-- READ_LO_LATCH. -/
theorem exec_readLoLatch (hrun : s.run = .up) {a : Word} {h : Nat} (hp : s.pathOk p = true) (hh : hiOf a.toNat = some h)
    (hout : s.regOut a.toNat = false) :
    ∃ t, exec (.readLoLatch p a) s = .next t ∧ tget (pathKey p h) t.latches = some (s.readWord p h) ∧ dataKept s t ∧ hostKept s t :=
  have hread := readRow_latches hp hh hout
  ⟨_, act_up hrun _, hread.1, kept_of_host hread.2⟩

/-- Settles O57: each clause is a command's lemma. -/
theorem recorderAndRegistersAreServed : Obligations.RecorderAndRegistersAreServed := by
  intro s hrun
  refine ⟨exec_eventFlush hrun, exec_eventFlush_faulted hrun, exec_operatingSecondsSave hrun, fun p w hw => ?_, fun p a h hp hh hout =>
    exec_readLoLatch hrun hp hh hout⟩
  exact ⟨exec_evtFlushGo hw w, exec_evtTimeMarkHi hw w, exec_retCtrlAttnAck hw w, fun hgo _ => exec_cacheProbeGo hw w hgo,
    exec_registerWrite_capLimit hw w, exec_registerWrite_capLimit_above hw w, fun a h => exec_registerWrite_outside hw a w h⟩

end Sys2Proof.Machine

namespace Sys2Proof.Machine

/-! ## What a start without an image must not disturb -/

/-- The rails of the slots as their status shows them. -/
def railView (s : State) : Slot → Nat × Nat := fun i => (s.get (R.SLOT_STATUS_EN5 i), s.get (R.SLOT_STATUS_EN12 i))

/-- The medium, the hosts' work, power cycles, supply and reset pin, and the state the module shows. -/
def bootCore (s : State) :=
  (s.media, s.sessions, s.cmds, s.pcycle, s.pow, s.pins.modResetLow, s.get R.GLB_STATUS_STATE, s.get R.GLB_STATUS_SERVICE,
    s.get R.KND_STATUS_STATE)

/-- Both together. -/
def bootView (s : State) := (bootCore s, railView s)

/-- A register that holds fields `bootView` reads: GLB_STATUS, KND_STATUS and the SLOT_STATUS of every slot. -/
def bootReg (a : Nat) : Bool := a = A.GLB_STATUS || a = A.KND_STATUS || (A.SLOT_STATUS 0 ≤ a && a % 0x1000 = 0)

@[simp] theorem bootReg_ACT_STATUS (m : Nat) : bootReg (A.ACT_STATUS m) = false := by simp [bootReg]; omega
@[simp] theorem bootReg_ACT_TARGET (m : Nat) : bootReg (A.ACT_TARGET m) = false := by simp [bootReg]; omega
@[simp] theorem bootReg_ACT_COUNT (m : Nat) : bootReg (A.ACT_COUNT m) = false := by simp [bootReg]; omega
@[simp] theorem bootReg_HEAD_PES (g : Nat) : bootReg (A.HEAD_PES g) = false := by simp [bootReg]; omega
@[simp] theorem bootReg_HEAD_UP (g : Nat) : bootReg (A.HEAD_UP g) = false := by simp [bootReg]; omega
@[simp] theorem bootReg_HEAD_POS_COUNT (g : Nat) : bootReg (A.HEAD_POS_COUNT g) = false := by simp [bootReg]; omega
@[simp] theorem bootReg_HEAD_DEFECT_COUNT (g : Nat) : bootReg (A.HEAD_DEFECT_COUNT g) = false := by simp [bootReg]; omega
@[simp] theorem bootReg_ENG_STATUS (n : Nat) : bootReg (A.ENG_STATUS n) = false := by simp [bootReg]; omega
@[simp] theorem bootReg_below {a : Nat} (h : a < 0x100000) (hglb : a ≠ 0x100) (hknd : a ≠ 0x40000) : bootReg a = false := by
  simp [bootReg]; omega

/-- What two states of one view share. -/
theorem boot_fields {s t : State} (h : bootView t = bootView s) :
    t.media = s.media ∧ t.sessions = s.sessions ∧ t.cmds = s.cmds ∧ t.pcycle = s.pcycle ∧ t.pow = s.pow ∧
      t.pins.modResetLow = s.pins.modResetLow ∧ t.get R.GLB_STATUS_STATE = s.get R.GLB_STATUS_STATE ∧
      t.get R.GLB_STATUS_SERVICE = s.get R.GLB_STATUS_SERVICE ∧ t.get R.KND_STATUS_STATE = s.get R.KND_STATUS_STATE ∧
      ∀ i : Slot, t.get (R.SLOT_STATUS_EN5 i) = s.get (R.SLOT_STATUS_EN5 i) ∧
        t.get (R.SLOT_STATUS_EN12 i) = s.get (R.SLOT_STATUS_EN12 i) := by
  simpa only [bootView, bootCore, railView, funext_iff, Prod.mk.injEq, and_assoc] using h

variable (s : State)

/-- A write outside GLB_STATUS and KND_STATUS. -/
theorem bootCore_set {a lo w rst : Nat} (hglb : a ≠ 0x100) (hknd : a ≠ 0x40000) (hlo : lo < 32) (v : Nat) :
    bootCore (s.set ⟨a, lo, w, rst⟩ v) = bootCore s := by
  have hne (f : Fld) (hf : f.key / 32 = 0x100 ∨ f.key / 32 = 0x40000) : f.key ≠ (⟨a, lo, w, rst⟩ : Fld).key := by
    simp only [Fld.key] at *; omega
  simp only [bootCore, State.set_media, State.set_sessions, State.set_cmds, State.set_pcycle, State.set_pow, State.set_pins,
    State.get_set_ne s (hne R.GLB_STATUS_STATE (by decide)), State.get_set_ne s (hne R.GLB_STATUS_SERVICE (by decide)),
    State.get_set_ne s (hne R.KND_STATUS_STATE (by decide))]

theorem railView_set {a lo w rst : Nat} (ha : bootReg a = false) (hlo : lo < 32) (v : Nat) :
    railView (s.set ⟨a, lo, w, rst⟩ v) = railView s := by
  simp only [bootReg, Bool.or_eq_false_iff, Bool.and_eq_false_iff, decide_eq_false_iff_not] at ha
  obtain ⟨-, hslot⟩ := ha
  funext i
  have hne (f : Fld) (hf : f.key / 32 = 0x100000 + i.val * 0x1000) : f.key ≠ (⟨a, lo, w, rst⟩ : Fld).key := by
    simp only [Fld.key, A.SLOT_STATUS] at *; omega
  simp only [railView]
  rw [State.get_set_ne s (hne (R.SLOT_STATUS_EN5 i) (by simp [Fld.key]; omega)),
    State.get_set_ne s (hne (R.SLOT_STATUS_EN12 i) (by simp [Fld.key]; omega))]

@[simp] theorem boot_set {a lo w rst : Nat} (ha : bootReg a = false) (hlo : lo < 32) (v : Nat) :
    bootView (s.set ⟨a, lo, w, rst⟩ v) = bootView s := by
  have hcore : a ≠ 0x100 ∧ a ≠ 0x40000 := by simp [bootReg] at ha; omega
  rw [bootView, bootCore_set s hcore.1 hcore.2 hlo, railView_set s ha hlo, bootView]

@[simp] theorem boot_count {a lo w rst : Nat} (ha : bootReg a = false) (hlo : lo < 32) (n : Nat) :
    bootView (s.count ⟨a, lo, w, rst⟩ n) = bootView s := boot_set s ha hlo _

@[simp] theorem boot_event (c o p q r u : Nat) : bootView (s.event c o p q r u) = bootView s := id rfl
@[simp] theorem boot_send (o : Out) : bootView (s.send o) = bootView s := id rfl
@[simp] theorem boot_setHead (g : Nat) (x : HeadSt) : bootView (s.setHead g x) = bootView s := id rfl
@[simp] theorem boot_setActu (m : Nat) (x : Actu) : bootView (s.setActu m x) = bootView s := id rfl
@[simp] theorem boot_setEng (n : Nat) (x : Engine) : bootView (s.setEng n x) = bootView s := id rfl

@[simp] theorem boot_forAll {α : Type} (l : List α) (f : α → State → State) (h : ∀ a t, bootView (f a t) = bootView t) :
    bootView (s.forAll l f) = bootView s := State.forAll_keeps s bootView l f h
@[simp] theorem boot_when (c : Bool) (f : State → State) (h : ∀ t, bootView (f t) = bootView t) :
    bootView (s.when c f) = bootView s := State.when_keeps s bootView c f h

@[simp] theorem boot_masks (m : Nat) : bootView (s.masks m) = bootView s := by
  simp [State.masks]
@[simp] theorem boot_leave (stays : Bool) (g : Nat) : bootView (State.leave stays g s) = bootView s := by
  simp [State.leave, view_ite bootView]
@[simp] theorem boot_fitSet (m : Nat) : bootView (s.fitSet m) = bootView s := by simp [State.fitSet]

/-! ### Leaving the concurrent set and unloading (R99, R112, R119, R152) -/

@[simp] theorem boot_mayRewrite (g x n : Nat) : bootView (s.mayRewrite g x n) = bootView s := id rfl
@[simp] theorem boot_voidRun (g x n : Nat) : bootView (s.voidRun g x n) = bootView s := id rfl
@[simp] theorem boot_noteUnwritten (g x n : Nat) : bootView (s.noteUnwritten g x n) = bootView s := id rfl
@[simp] theorem boot_gates (l : List Nat) : bootView { s with gates := l } = bootView s := id rfl
@[simp] theorem boot_tear (x : Nat) (b : Bool) (g : Nat) : bootView (s.tear x b g) = bootView s := by
  simp only [State.tear]
  split
  · rfl
  · simp [view_ite bootView]
@[simp] theorem boot_tearAll (x : Nat) (gs : List Nat) : bootView (s.tearAll x gs) = bootView s := by simp [State.tearAll]
@[simp] theorem boot_reportBlocks (r c : Nat) (l : List Nat) : bootView (s.reportBlocks r c l) = bootView s := id rfl
@[simp] theorem boot_pool_stk (q : Pool) (k : Stoker) : bootView { s with pool := q, stk := k } = bootView s := id rfl
@[simp] theorem boot_endReads (gs : List Nat) : bootView (s.endReads gs) = bootView s := by simp [State.endReads]
@[simp] theorem boot_endTransfer (m : Nat) : bootView (s.endTransfer m) = bootView s := by
  simp only [State.endTransfer]; (repeat' split) <;> simp
@[simp] theorem boot_setPreamp (m a v : Nat) : bootView (s.setPreamp m a v) = bootView s := id rfl
@[simp] theorem boot_preampWrite (m a v : Nat) : bootView (s.preampWrite m a v) = bootView s := by
  simp [State.preampWrite, view_ite bootView]
@[simp] theorem boot_preampRest (m mode : Nat) : bootView (s.preampRest m mode) = bootView s := by simp [State.preampRest]
@[simp] theorem boot_unload (emerg : Bool) (x m : Nat) : bootView (State.unload emerg x m s) = bootView s := by
  simp [State.unload, view_ite bootView]
@[simp] theorem boot_restPositioners : bootView s.restPositioners = bootView s := by simp [State.restPositioners]

/-! ### Lanes, cores and MP's addresses (R124, R187, R284) -/

theorem boot_pins {s t : State} {p : Pins} (h : bootView t = bootView s) (hp : p.modResetLow = s.pins.modResetLow) :
    bootView { t with pins := p } = bootView s := by
  obtain ⟨-, -, -, -, -, hlow, -⟩ := boot_fields h
  rw [← h]; simp only [bootView, bootCore, hp, hlow]; rfl

@[simp] theorem boot_laneRefresh : bootView s.laneRefresh = bootView s := by
  simp only [State.laneRefresh]
  split
  · exact (boot_pins (boot_forAll _ _ _ fun m t => boot_unload t true Torn.unload m) rfl).trans (by simp [view_ite bootView])
  · simp [view_ite bootView]
@[simp] theorem boot_coreRefresh : bootView s.coreRefresh = bootView s := by simp [State.coreRefresh, view_ite bootView]
@[simp] theorem boot_que (q : Queues) : bootView { s with que := q } = bootView s := id rfl
@[simp] theorem boot_addrs (l : Tbl AddrSt) : bootView { s with addrs := l } = bootView s := id rfl
@[simp] theorem boot_xmit (port : Nat) (o : Out) : bootView (s.xmit port o) = bootView s := by
  simp [State.xmit, view_ite bootView]
@[simp] theorem boot_detect (port link : Nat) : bootView (s.detect port link) = bootView s := by
  simp [State.detect, view_ite bootView]

/-! ### Engines, DRAM and tests (R31, R380, R442) -/

@[simp] theorem boot_modTst (f : Tests → Tests) : bootView (s.modTst f) = bootView s := id rfl
@[simp] theorem boot_setPatch (cls : Nat) (words : Tbl (BitVec 128)) (ms : Tbl Nat) (ver : Nat) (ok : Bool) :
    bootView (s.setPatch cls words ms ver ok) = bootView s := by
  simp only [State.setPatch]; split <;> simp
@[simp] theorem boot_startDram : bootView s.startDram = bootView s := by simp [State.startDram]
@[simp] theorem boot_testRun (kind i res : Nat) (reached : Bool) : bootView (s.testRun kind i res reached) = bootView s := by
  simp [State.testRun]

/-- A start at which every block passes its test (R442). -/
@[simp] theorem boot_startTests (kind : Nat) : bootView (s.startTests kind []) = bootView s := by
  simp [State.startTests]

/-- With no engine in the ledger, every engine runs and none gives its slots or roles away (R31, R36). -/
theorem boot_startEngines (h : ∀ e ∈ s.ledger, e.active = true → e.kind ≠ 4) : bootView s.startEngines = bootView s := by
  have hgone (n : Nat) : (s.ledger.any fun e => e.active && e.kind = 4 && e.index = n) = false := by
    simp only [List.any_eq_false, Bool.and_eq_true, decide_eq_true_eq, not_and, and_imp]
    exact fun e he ha hk => absurd hk (h e he ha)
  simp [State.startEngines, hgone]

/-! ## The rails of the slots (R62, R434) -/

/-- What holds before a fold and is kept by each round holds after it. -/
theorem State.forAll_induct {α : Type} {P : State → Prop} (l : List α) (f : α → State → State) (h0 : P s)
    (h : ∀ a ∈ l, ∀ t, P t → P (f a t)) : P (s.forAll l f) := by
  induction l generalizing s with
  | nil => exact h0
  | cons a l ih =>
    exact ih (f a s) (h a (by simp) s h0) fun b hb => h b (List.mem_cons_of_mem _ hb)

/-- What one round of a fold brings about and each round keeps holds after it. -/
theorem State.forAll_brings {α : Type} {P : State → Prop} {l : List α} {a : α} (ha : a ∈ l) (f : α → State → State)
    (hb : ∀ t, P (f a t)) (hk : ∀ b t, P t → P (f b t)) : P (s.forAll l f) := by
  induction l generalizing s with
  | nil => cases ha
  | cons b l ih =>
    obtain rfl | ha := List.mem_cons.1 ha
    · exact State.forAll_induct _ l f (hb s) fun b _ => hk b
    · exact ih (f b s) ha

/-- Both rails of a slot driven: 0 low, 2 high impedance. -/
def State.railsTo (v i : Nat) (s : State) : State := (s.driveEn12 i v).driveEn5 i v

/-- The rails of slot i are driven to v, and not high: the slot shows them low. -/
def railsAt (v i : Nat) (s : State) : Prop :=
  s.get (R.SLOT_STATUS_EN5 i) = 0 ∧ s.get (R.SLOT_STATUS_EN12 i) = 0 ∧ tget i s.pins.en5 = some v ∧ tget i s.pins.en12 = some v

/-- Driving the rails of a slot writes their two status bits and no other field. -/
theorem get_railsTo {v i : Nat} {f : Fld} (h5 : f.key ≠ (R.SLOT_STATUS_EN5 i).key) (h12 : f.key ≠ (R.SLOT_STATUS_EN12 i).key) :
    (s.railsTo v i).get f = s.get f :=
  (State.get_set_ne _ h5 _).trans (State.get_set_ne _ h12 _)

theorem railsAt_railsTo {v : Nat} (hv : v ≠ 1) (i : Nat) : railsAt v i (s.railsTo v i) := by
  have h12 : (R.SLOT_STATUS_EN12 i).key ≠ (R.SLOT_STATUS_EN5 i).key := by simp [Fld.key]
  refine ⟨?_, ?_, tget_tset_same _ _ _, tget_tset_same _ _ _⟩
  · simp [State.railsTo, State.driveEn5, hv]
  · have hlow : (s.driveEn12 i v).get (R.SLOT_STATUS_EN12 i) = 0 := by simp [State.driveEn12, hv]
    exact (State.get_set_ne _ h12 _).trans hlow

theorem railsAt_kept {v : Nat} (hv : v ≠ 1) (i j : Nat) (h : railsAt v i s) : railsAt v i (s.railsTo v j) := by
  by_cases hij : i = j
  · subst hij; exact railsAt_railsTo s hv i
  · obtain ⟨h5, h12, hp5, hp12⟩ := h
    have hne5 : (R.SLOT_STATUS_EN5 i).key ≠ (R.SLOT_STATUS_EN5 j).key ∧ (R.SLOT_STATUS_EN5 i).key ≠ (R.SLOT_STATUS_EN12 j).key := by
      simp only [Fld.key, A.SLOT_STATUS]; omega
    have hne12 : (R.SLOT_STATUS_EN12 i).key ≠ (R.SLOT_STATUS_EN5 j).key ∧ (R.SLOT_STATUS_EN12 i).key ≠ (R.SLOT_STATUS_EN12 j).key := by
      simp only [Fld.key, A.SLOT_STATUS]; omega
    exact ⟨(get_railsTo s hne5.1 hne5.2).trans h5, (get_railsTo s hne12.1 hne12.2).trans h12,
      (tget_tset_ne hij _ _).trans hp5, (tget_tset_ne hij _ _).trans hp12⟩

/-- Every slot's rails driven alike. -/
def State.allRailsTo (v : Nat) (s : State) : State := s.forAll (List.range 32) (State.railsTo v)

theorem forAll_rails (v : Nat) : (s.forAll (List.range 32) fun i t => (t.driveEn12 i v).driveEn5 i v) = s.allRailsTo v := rfl

theorem railsAt_allRailsTo {v : Nat} (hv : v ≠ 1) (i : Slot) : railsAt v i (s.allRailsTo v) :=
  State.forAll_brings s (List.mem_range.2 i.isLt) _ (fun t => railsAt_railsTo t hv i) fun j t => railsAt_kept t hv i j

theorem get_allRailsTo {v : Nat} {f : Fld}
    (h : ∀ i : Slot, f.key ≠ (R.SLOT_STATUS_EN5 i).key ∧ f.key ≠ (R.SLOT_STATUS_EN12 i).key) : (s.allRailsTo v).get f = s.get f :=
  State.forAll_induct (P := fun t => t.get f = s.get f) s _ _ rfl fun j hj t ht => by
    have hf := h ⟨j, List.mem_range.1 hj⟩
    rw [get_railsTo t hf.1 hf.2, ht]

theorem host_allRailsTo (v : Nat) : hostView (s.allRailsTo v) = hostView s := by
  simp [State.allRailsTo, State.railsTo]

theorem bootCore_allRailsTo (v : Nat) : bootCore (s.allRailsTo v) = bootCore s :=
  State.forAll_keeps s bootCore _ _ fun i t => by
    have h5 := bootCore_set { t.driveEn12 i v with pins := { (t.driveEn12 i v).pins with en5 := tset i v (t.driveEn12 i v).pins.en5 } }
      (a := A.SLOT_STATUS i) (lo := 1) (w := 1) (rst := 0) (by simp only [A.SLOT_STATUS]; omega) (by simp only [A.SLOT_STATUS]; omega)
      (by omega) (decide (v = 1)).toNat
    have h12 := bootCore_set { t with pins := { t.pins with en12 := tset i v t.pins.en12 } }
      (a := A.SLOT_STATUS i) (lo := 2) (w := 1) (rst := 0) (by simp only [A.SLOT_STATUS]; omega) (by simp only [A.SLOT_STATUS]; omega)
      (by omega) (decide (v = 1)).toNat
    exact h5.trans h12

/-- The other outputs released (R62). -/
def State.releasePins (s : State) : State :=
  { s.modPins fun p => { p with phases := [], drives := [], linksReleased := true, attnReleased := true, fanReleased := true } with
    gates := [] }

/-- The outputs take their states of R62: every rail at high impedance, the others released. -/
theorem outputsReset_eq : s.outputsReset = (s.allRailsTo 2).releasePins := by
  simp only [State.outputsReset, State.releasePins, forAll_rails]

@[simp] theorem host_releasePins : hostView s.releasePins = hostView s := id rfl
@[simp] theorem get_releasePins (f : Fld) : s.releasePins.get f = s.get f := id rfl

@[simp] theorem host_outputsReset : hostView s.outputsReset = hostView s := by
  rw [outputsReset_eq, host_releasePins, host_allRailsTo]

/-! ## Unlit (R434) -/

theorem ledger_setPatch (cls : Nat) (words : Tbl (BitVec 128)) (ms : Tbl Nat) (ver : Nat) (ok : Bool) :
    (s.setPatch cls words ms ver ok).ledger = s.ledger := by
  simp only [State.setPatch, State.set_ledger]
  exact State.forAll_keeps s State.ledger _ _ fun _ _ => rfl

theorem ledger_startTests (kind : Nat) : (s.startTests kind []).ledger = s.ledger := by
  simp only [State.startTests, List.filter_nil, State.forAll_nil]
  exact State.forAll_keeps s State.ledger _ _ fun _ t => State.forAll_keeps t State.ledger _ _ fun _ _ => rfl

/-- Blocks without patches that pass their tests, with no engine in the ledger, go into service (R434, R442). -/
theorem boot_blocksInService (kind : Nat) (h : ∀ e ∈ s.ledger, e.active = true → e.kind ≠ 4) :
    bootView (((s.setPatch 0 [] [] 0 false).setPatch 1 [] [] 0 false).startDram.startTests kind []).startEngines = bootView s := by
  rw [boot_startEngines]
  · simp
  · rw [ledger_startTests, State.startDram, State.set_ledger, State.set_ledger, ledger_setPatch, ledger_setPatch]
    exact h

/-- What Unlit shows and keeps, with no block failing and no engine in the ledger. -/
theorem goUnlit_shows {obs : StartObs} (kind : Nat) (hbist : obs.bist = []) (h : ∀ e ∈ s.ledger, e.active = true → e.kind ≠ 4) :
    bootCore (s.goUnlit obs kind) =
        (s.media, s.sessions, s.cmds, s.pcycle, s.pow, s.pins.modResetLow, 2, s.get R.GLB_STATUS_SERVICE, 2) ∧
      ∀ i : Slot, (s.goUnlit obs kind).get (R.SLOT_STATUS_EN5 i) = 0 ∧ (s.goUnlit obs kind).get (R.SLOT_STATUS_EN12 i) = 0 := by
  generalize hs1 : ((s.set R.KND_STATUS_STATE 2).set R.GLB_STATUS_STATE 2).event Ev.UNLIT (origin 0 0) s.slotFails.1 s.slotFails.2 = s1
  have hled : s1.ledger = s.ledger := by rw [← hs1]; rfl
  have hcore : bootCore s1 = (s.media, s.sessions, s.cmds, s.pcycle, s.pow, s.pins.modResetLow, 2, s.get R.GLB_STATUS_SERVICE, 2) := by
    have hserv : s1.get R.GLB_STATUS_SERVICE = s.get R.GLB_STATUS_SERVICE := by
      rw [← hs1, State.get_event, State.get_set_ne _ (by decide), State.get_set_ne _ (by decide)]
    rw [bootCore, hserv, ← hs1]; simp [Fld.key]
  generalize hs2 : (((s1.setPatch 0 [] [] 0 false).setPatch 1 [] [] 0 false).startDram.startTests kind []).startEngines = s2
  have h2 : bootView s2 = bootView s1 := by rw [← hs2]; exact boot_blocksInService s1 kind (hled ▸ h)
  have hend : bootView (s.goUnlit obs kind) = bootView (s2.allRailsTo 0) := by
    simp only [State.goUnlit, hbist, List.filter_nil, hs1, hs2, forAll_rails]; simp
  obtain ⟨hendCore, -⟩ := Prod.mk.inj hend
  obtain ⟨h2Core, -⟩ := Prod.mk.inj h2
  obtain ⟨-, -, -, -, -, -, -, -, -, hrails⟩ := boot_fields hend
  refine ⟨by rw [hendCore, bootCore_allRailsTo, h2Core, hcore], fun i => ?_⟩
  obtain ⟨h5, h12, -⟩ := railsAt_allRailsTo s2 (v := 0) (by decide) i
  rw [(hrails i).1, (hrails i).2]
  exact ⟨h5, h12⟩

/-! ## What a reset keeps (R17, R440) -/

theorem tget_filter {α : Type} (p : Nat → Bool) (k : Nat) (l : Tbl α) :
    tget k (l.filter fun e => p e.1) = if p k then tget k l else none := by
  induction l with
  | nil => simp
  | cons e l ih =>
    obtain ⟨k', v⟩ := e
    by_cases hk : k = k' <;> by_cases hp : p k' <;> simp_all [tget]

/-- A field keeps its value over a reset of a kind when its survival class is kept, and else is at its reset value. -/
theorem get_wipe (kind : Nat) (f : Fld) : (s.wipe kind).get f = if keeps kind (keepsOf f.key) then s.get f else f.rst := by
  have hget : (s.wipe kind).get f = (tget f.key (s.flds.filter fun e => keeps kind (keepsOf e.1))).getD f.rst := rfl
  rw [hget, tget_filter (fun k => keeps kind (keepsOf k))]
  split <;> rfl

/-- At a cold start and a brown-out restart only the P fields and those without a class are kept. -/
theorem keeps_powerUp {kind : Nat} (hk : kind = 0 ∨ kind = 1) {c : Keeps} (hc : c = .v ∨ c = .k ∨ c = .s) : keeps kind c = false := by
  obtain rfl | rfl := hk <;> obtain rfl | rfl | rfl := hc <;> rfl

/-- The fields the start itself writes are of class V. -/
theorem keepsOf_rails (i : Slot) : keepsOf (R.SLOT_STATUS_EN5 i).key = .v ∧ keepsOf (R.SLOT_STATUS_EN12 i).key = .v := by
  revert i; decide +kernel
theorem keepsOf_ST_START_KIND : keepsOf R.ST_START_KIND.key = .v := by decide +kernel
theorem keepsOf_GLB_STATUS_SERVICE : keepsOf R.GLB_STATUS_SERVICE.key = .v := by decide +kernel

/-! ## A start that waits for MOD_RESET_N (R435, R498) -/

/-- A state held until MOD_RESET_N rises, with the outputs' pins. -/
def State.holdAtPin (p : Pins) (s : State) : State := { s with run := .waitPin, pins := { p with modResetLow := true } }

theorem holdAtPin_keeps (p : Pins) : (s.holdAtPin p).vols = s.vols ∧ (s.holdAtPin p).media = s.media ∧ (s.holdAtPin p).lost = s.lost ∧
    (s.holdAtPin p).sessions = s.sessions ∧ (s.holdAtPin p).cmds = s.cmds ∧ (s.holdAtPin p).pcycle = s.pcycle :=
  ⟨rfl, rfl, rfl, rfl, rfl, rfl⟩
theorem holdAtPin_pins (p : Pins) : (s.holdAtPin p).pins.en5 = p.en5 ∧ (s.holdAtPin p).pins.en12 = p.en12 ∧
    (s.holdAtPin p).pins.attnReleased = p.attnReleased := ⟨rfl, rfl, rfl⟩
theorem get_holdAtPin (p : Pins) (f : Fld) : (s.holdAtPin p).get f = s.get f := rfl

/-- A module that waits for MOD_RESET_N, from what a reset of a kind keeps. -/
def State.waiting (kind : Nat) (w : State) : State := (w.set R.ST_START_KIND kind).outputsReset.holdAtPin w.outputsReset.pins

/-- With MOD_RESET_N low a cold start or a brown-out restart waits at once. -/
theorem restart_waits {kind : Nat} {obs : StartObs} (hk : kind = 0 ∨ kind = 1) (hpin : obs.pinLow = true) :
    s.restart kind obs = (s.wipe kind).waiting kind := by
  simp [State.restart, State.waiting, State.holdAtPin, hpin, hk]

/-- Of the registers, resetting the outputs writes the slots' rail bits alone. -/
theorem get_outputsReset_ne {f : Fld} (h : ∀ i : Slot, f.key ≠ (R.SLOT_STATUS_EN5 i).key ∧ f.key ≠ (R.SLOT_STATUS_EN12 i).key) :
    s.outputsReset.get f = s.get f := by
  rw [outputsReset_eq, get_releasePins, get_allRailsTo s h]

/-! ## A start goes on (R435 steps 3 and 4) -/

/-- The recorder, the ledger and the feeds read, and the start recorded. -/
def State.startBegun (kind : Nat) (obs : StartObs) (s : State) : State :=
  let s1 := ((s.appendBanked obs.tailBad).resumeSeq).readLedger obs.ledgerBad
  let s2 := ({ s1 with pins := { s1.pins with attnReleased := false, fanReleased := false, linksReleased := false } }.startFeeds
    obs.feeds).set R.ST_START_KIND kind
  (s2.event Ev.RESET_TAKEN (origin 0 0) kind 0 0 0).set R.DAMP_STATUS_LANE_LIMIT 10

/-- A start with a shared memory bad ends there, its outputs reset. -/
theorem startUp_sharedBad {kind : Nat} {obs : StartObs} (old : State) (h : obs.sharedBad = true) :
    State.startUp kind obs old s = { (s.startBegun kind obs).outputsReset with run := .failed } := by
  simp only [State.startUp, h, State.startBegun]; rfl

/-- The card is read where the start found one or none (R427). -/
def State.cardRead (obs : StartObs) (s : State) : State :=
  match obs.card with
  | some c => { s with knd := { s.knd with card := c } }
  | none => s

/-- With no card the start ends Unlit (R434). -/
theorem startUp_noCard {kind : Nat} {obs : StartObs} (old : State) (hk : kind ≠ Kind.reset) (h : obs.sharedBad = false)
    (hcard : ((s.startBegun kind obs).cardRead obs).knd.card = none) :
    State.startUp kind obs old s = ((s.startBegun kind obs).cardRead obs).goUnlit obs kind := by
  have hkindle : ((s.startBegun kind obs).cardRead obs).kindle = (none, (s.startBegun kind obs).cardRead obs) := by
    simp only [State.kindle, hcard]
  cases hc : obs.card <;> simp only [State.cardRead, State.startBegun, hc] at hkindle ⊢ <;>
    simp only [State.startUp, h, hk, hc, if_false, hkindle, Bool.false_eq_true]

/-- With an image in force and no segment to wait for, a module reset ends in host service. -/
theorem startUp_serves {obs : StartObs} {old : State} (h : obs.sharedBad = false) (himg : old.get R.KND_STATUS_STATE = 1)
    (hseg : obs.segments = []) : ∃ u : State, State.startUp Kind.reset obs old s = u.beginService obs.ms := by
  simp only [State.startUp, h, himg, hseg]
  exact ⟨_, rfl⟩

/-! ### What the beginning of a start leaves alone -/

/-- The banked records and the ledger's copies are read: only the recorder and the ledger change, and a readable ledger stays. -/
theorem startRead_eq (obs : StartObs) : ∃ r l, ((s.appendBanked obs.tailBad).resumeSeq).readLedger obs.ledgerBad =
    { s with rcd := r, ledger := l } ∧ (obs.ledgerBad = false → l = s.ledger) := by
  have hbank (bad : Bool) : ∃ r, s.appendBanked bad = { s with rcd := r } := by
    simp only [State.appendBanked]
    split
    · exact ⟨s.rcd, rfl⟩
    · exact ⟨_, rfl⟩
  obtain ⟨r, hr⟩ := hbank obs.tailBad
  rw [hr]
  cases hl : obs.ledgerBad with
  | false => exact ⟨_, s.ledger, rfl, fun _ => rfl⟩
  | true => exact ⟨_, _, rfl, fun h => nomatch h⟩

/-- The feeds' bits are written, one after the other. -/
theorem startFeeds_eq (feeds : List Nat) : ∃ a b, s.startFeeds feeds = (s.set R.PWR_STATUS_FEED_A a).set R.PWR_STATUS_FEED_B b :=
  ⟨_, _, rfl⟩

/-- What the beginning of a start leaves alone. -/
theorem startBegun_keeps (kind : Nat) (obs : StartObs) : bootView (s.startBegun kind obs) = bootView s ∧
    hostView (s.startBegun kind obs) = hostView s ∧ (s.startBegun kind obs).knd = s.knd ∧
    (obs.ledgerBad = false → (s.startBegun kind obs).ledger = s.ledger) := by
  obtain ⟨r, l, hread, hl⟩ := startRead_eq s obs
  generalize hs1 : ({ s with rcd := r, ledger := l, pins := { s.pins with
    attnReleased := false, fanReleased := false, linksReleased := false } } : State) = s1
  have hboot : bootView s1 = bootView s := by rw [← hs1]; rfl
  have hbegun : ∃ a b, s.startBegun kind obs = (((((s1.set R.PWR_STATUS_FEED_A a).set R.PWR_STATUS_FEED_B b).set
      R.ST_START_KIND kind).event Ev.RESET_TAKEN (origin 0 0) kind 0 0 0).set R.DAMP_STATUS_LANE_LIMIT 10) := by
    obtain ⟨a, b, hfeeds⟩ := startFeeds_eq s1 obs.feeds
    refine ⟨a, b, ?_⟩
    rw [← hfeeds, ← hs1]
    simp only [State.startBegun, hread]
  obtain ⟨a, b, hbegun⟩ := hbegun
  rw [hbegun]
  refine ⟨?_, ?_, ?_, fun h => ?_⟩
  · rw [← hboot]; simp
  · simp only [State.host_set, State.host_event]; rw [← hs1]; rfl
  · simp only [State.set_knd, State.event_knd]; rw [← hs1]
  · simp only [State.set_ledger, State.event_ledger]; rw [← hs1]; exact hl h

/-- Reading the card changes the card alone. -/
theorem cardRead_keeps (obs : StartObs) : bootView (s.cardRead obs) = bootView s ∧ (s.cardRead obs).ledger = s.ledger := by
  simp only [State.cardRead]
  split <;> exact ⟨rfl, rfl⟩

/-- The card a start finds is none when it is empty, or was and is not looked at again. -/
theorem cardRead_none {obs : StartObs} (h : obs.card = some none ∨ (obs.card = none ∧ s.knd.card = none)) :
    (s.cardRead obs).knd.card = none := by
  obtain hc | ⟨hc, hnone⟩ := h <;> simp only [State.cardRead, hc]
  exact hnone

/-! ## Starts with no card, and failed units -/

/-- A start that finds no card, with no block failing and no engine in the ledger, goes Unlit. -/
theorem startUp_unlit {kind : Nat} {obs : StartObs} (old : State) (hk : kind ≠ Kind.reset) (hshared : obs.sharedBad = false)
    (hbist : obs.bist = []) (hread : obs.ledgerBad = false) (hcard : obs.card = some none ∨ (obs.card = none ∧ s.knd.card = none))
    (hled : ∀ e ∈ s.ledger, e.active = true → e.kind ≠ 4) :
    bootCore (State.startUp kind obs old s) =
        (s.media, s.sessions, s.cmds, s.pcycle, s.pow, s.pins.modResetLow, 2, s.get R.GLB_STATUS_SERVICE, 2) ∧
      ∀ i : Slot, (State.startUp kind obs old s).get (R.SLOT_STATUS_EN5 i) = 0 ∧
        (State.startUp kind obs old s).get (R.SLOT_STATUS_EN12 i) = 0 := by
  obtain ⟨hview, -, hknd, hledger⟩ := startBegun_keeps s kind obs
  obtain ⟨hview', hledger'⟩ := cardRead_keeps (s.startBegun kind obs) obs
  generalize hu : (s.startBegun kind obs).cardRead obs = u at hview' hledger'
  have hnone : u.knd.card = none := by rw [← hu]; exact cardRead_none _ (by rwa [hknd])
  obtain ⟨hmedia, hses, hcmds, hpc, hpow, hlow, -, hserv, -⟩ := boot_fields (hview'.trans hview)
  have hshows := goUnlit_shows u kind hbist (by rw [hledger', hledger hread]; exact hled)
  subst hu
  rw [startUp_noCard s old hk hshared hnone, ← hmedia, ← hses, ← hcmds, ← hpc, ← hpow, ← hlow, ← hserv]
  exact hshows

/-- A start with a shared memory bad leaves a failed unit, its outputs released and hosts' data as before. -/
theorem startUp_failed (kind : Nat) {obs : StartObs} (old : State) (h : obs.sharedBad = true) :
    (State.startUp kind obs old s).run = .failed ∧ (State.startUp kind obs old s).pins.attnReleased = true ∧
      (State.startUp kind obs old s).media = s.media := by
  obtain ⟨-, hhost, -⟩ := startBegun_keeps s kind obs
  rw [startUp_sharedBad s old h, outputsReset_eq]
  refine ⟨rfl, rfl, ?_⟩
  have hview : hostView (((s.startBegun kind obs).allRailsTo 2).releasePins) = hostView s := by
    rw [host_releasePins, host_allRailsTo, hhost]
  exact congrArg (fun v => v.2.2.2.2.1) hview

/-! ## Cold starts and brown-out restarts (R401, R435, R436) -/

/-- What begins a start of kind k: a cold start in any state, or the supply's return to a held module. -/
def Begins (c : Instr) (obs : StartObs) (k : Nat) (s : State) : Prop :=
  (c = .coldStart obs ∧ k = 0) ∨ (c = .brownOutRestart obs ∧ k = 1 ∧ s.run = .held)

variable {s}

theorem Begins.kind {c : Instr} {obs : StartObs} {k : Nat} (h : Begins c obs k s) : k = 0 ∨ k = 1 := by
  obtain ⟨-, hk⟩ | ⟨-, hk, -⟩ := h
  · exact .inl hk
  · exact .inr hk

/-- A release makes no entry of the ledger active. -/
theorem release_ledger (kind i : Nat) (s : State) : ∃ l, s.release kind i = { s with ledger := l } ∧
    ∀ e ∈ l, e.active = true → e ∈ s.ledger := by
  refine ⟨_, rfl, fun e he ha => ?_⟩
  obtain ⟨d, hd, rfl⟩ := List.mem_map.1 he
  revert ha
  split
  · exact fun ha => nomatch ha
  · exact fun _ => hd

/-- Nor do the releases of several feeds. -/
theorem releaseFeeds_ledger (feeds : List Nat) (s : State) : ∃ l, s.forAll feeds (fun f t => t.release 9 f) = { s with ledger := l } ∧
    ∀ e ∈ l, e.active = true → e ∈ s.ledger := by
  induction feeds generalizing s with
  | nil => exact ⟨s.ledger, rfl, fun e he _ => he⟩
  | cons f fs ih =>
    obtain ⟨l, hl, hmem⟩ := release_ledger 9 f s
    obtain ⟨l', hl', hmem'⟩ := ih (s.release 9 f)
    have hled : (s.release 9 f).ledger = l := by rw [hl]
    refine ⟨l', ?_, fun e he ha => hmem e (hled ▸ hmem' e he ha) ha⟩
    rw [State.forAll_cons, hl', hl]

/-- A command's next state, known by another name. -/
theorem done_of_eq {t u : State} (h : t = u) : done s t = .next (u.after s) := by rw [h]; rfl

/-- Such a start is the restart of its kind, at a cold start with one more power cycle and the retired feeds released. -/
theorem Begins.exec_eq {c : Instr} {obs : StartObs} {k : Nat} (h : Begins c obs k s) :
    ∃ l, (∀ e ∈ l, e.active = true → e ∈ s.ledger) ∧
      Machine.exec c s = .next ((({ s with ledger := l, pcycle := s.pcycle + (1 - k) } : State).restart k obs).after s) := by
  obtain ⟨rfl, rfl⟩ | ⟨rfl, rfl, hrun⟩ := h
  · obtain ⟨l, hl, hmem⟩ := releaseFeeds_ledger s.pow.feedRetired s
    refine ⟨l, hmem, ?_⟩
    have hcold : coldStart obs s = ({ s with ledger := l, pcycle := s.pcycle + 1 } : State).restart 0 obs := by
      simp only [coldStart, hl]
    exact done_of_eq hcold
  · refine ⟨s.ledger, fun e he _ => he, ?_⟩
    have hbrown : brownOutRestart obs s = s.restart 1 obs := by simp [brownOutRestart, hrun]
    exact done_of_eq hbrown

/-- With MOD_RESET_N high, or at a module reset, a restart goes on at once (R435). -/
theorem restart_goes {kind : Nat} {obs : StartObs} (h : obs.pinLow = false ∨ kind = Kind.reset) (s : State) :
    s.restart kind obs = State.startUp kind obs s (s.wipe kind) := by
  obtain h | rfl := h <;> simp [State.restart, *]

/-- What a reset keeps of hosts' data, the ledger, the card and the bank, and that it ends their sessions and commands. -/
theorem wipe_keeps (kind : Nat) (s : State) : (s.wipe kind).media = s.media ∧ (s.wipe kind).lost = s.lost ∧
    (s.wipe kind).sessions = [] ∧ (s.wipe kind).cmds = [] ∧ (s.wipe kind).pcycle = s.pcycle ∧
    (s.wipe kind).vols = s.dropKeys.vols ∧ (s.wipe kind).ledger = s.ledger ∧ (s.wipe kind).knd.card = s.knd.card ∧
    (s.wipe kind).pow.bank = s.pow.bank :=
  ⟨rfl, rfl, rfl, rfl, rfl, rfl, rfl, rfl, rfl⟩

/-- No volume keeps its key, and every volume stays (R441). -/
theorem dropKeys_vols (s : State) : (∀ e ∈ s.dropKeys.vols, e.2.key = none) ∧ s.dropKeys.vols.map (·.1) = s.vols.map (·.1) := by
  constructor
  · intro e he
    obtain ⟨d, -, rfl⟩ := List.mem_map.1 he
    rfl
  · simp [State.dropKeys, Function.comp_def]

theorem releasePins_shows (s : State) : s.releasePins.pins.en5 = s.pins.en5 ∧ s.releasePins.pins.en12 = s.pins.en12 ∧
    s.releasePins.pins.attnReleased = true ∧ s.releasePins.pcycle = s.pcycle := ⟨rfl, rfl, rfl, rfl⟩

/-- The outputs of R62: no rail driven, the attention output released. -/
theorem outputsReset_shows (s : State) :
    (∀ i : Slot, tget i s.outputsReset.pins.en5 = some 2 ∧ tget i s.outputsReset.pins.en12 = some 2) ∧
    s.outputsReset.pins.attnReleased = true := by
  obtain ⟨h5, h12, hattn, -⟩ := releasePins_shows (s.allRailsTo 2)
  rw [outputsReset_eq, h5, h12]
  refine ⟨fun i => ?_, hattn⟩
  obtain ⟨-, -, hen5, hen12⟩ := railsAt_allRailsTo s (v := 2) (by decide) i
  exact ⟨hen5, hen12⟩

/-- Hosts' data and work, and the power cycles, after the outputs are reset. -/
theorem outputsReset_keeps (s : State) :
    s.outputsReset.vols = s.vols ∧ s.outputsReset.media = s.media ∧ s.outputsReset.lost = s.lost ∧
    s.outputsReset.sessions = s.sessions ∧ s.outputsReset.cmds = s.cmds ∧ s.outputsReset.pcycle = s.pcycle := by
  have hhost := host_outputsReset s
  simp only [hostView, Prod.mk.injEq] at hhost
  obtain ⟨hvols, -, -, -, hmedia, -, hlost, hses, hcmds, -⟩ := hhost
  obtain ⟨-, -, -, hpc⟩ := releasePins_shows (s.allRailsTo 2)
  have hcore := bootCore_allRailsTo s 2
  simp only [bootCore, Prod.mk.injEq] at hcore
  obtain ⟨-, -, -, hrails, -⟩ := hcore
  refine ⟨hvols, hmedia, hlost, hses, hcmds, ?_⟩
  rw [outputsReset_eq, hpc, hrails]

theorem waiting_keeps (kind : Nat) (w : State) : (w.waiting kind).vols = w.vols ∧ (w.waiting kind).media = w.media ∧
    (w.waiting kind).lost = w.lost ∧ (w.waiting kind).sessions = w.sessions ∧ (w.waiting kind).cmds = w.cmds ∧
    (w.waiting kind).pcycle = w.pcycle := by
  simp only [State.waiting, holdAtPin_keeps]
  exact outputsReset_keeps (w.set R.ST_START_KIND kind)

theorem waiting_run (kind : Nat) (w : State) : (w.waiting kind).run = .waitPin := rfl

theorem waiting_pins (kind : Nat) (w : State) : (∀ i : Slot, tget i (w.waiting kind).pins.en5 = some 2 ∧
    tget i (w.waiting kind).pins.en12 = some 2) ∧ (w.waiting kind).pins.attnReleased = true := by
  simp only [State.waiting, holdAtPin_pins]
  exact outputsReset_shows w

/-- The waiting module shows what a reset keeps, but for the kind of its start and the rails of its slots. -/
theorem waiting_get {f : Fld} (hkind : f.key ≠ R.ST_START_KIND.key)
    (h : ∀ i : Slot, f.key ≠ (R.SLOT_STATUS_EN5 i).key ∧ f.key ≠ (R.SLOT_STATUS_EN12 i).key) (kind : Nat) (w : State) :
    (w.waiting kind).get f = w.get f := by
  rw [State.waiting, get_holdAtPin, get_outputsReset_ne _ h, State.get_set_ne w hkind]

theorem waiting_kind {kind : Nat} (hk : kind = 0 ∨ kind = 1) (w : State) : (w.waiting kind).get R.ST_START_KIND = kind := by
  have hrail (i : Slot) : R.ST_START_KIND.key ≠ (R.SLOT_STATUS_EN5 i).key ∧ R.ST_START_KIND.key ≠ (R.SLOT_STATUS_EN12 i).key := by
    simp only [Fld.key, A.SLOT_STATUS]; omega
  rw [State.waiting, get_holdAtPin, get_outputsReset_ne _ hrail, State.get_set_same]
  obtain rfl | rfl := hk <;> rfl

/-- With MOD_RESET_N low such a start waits, with what its reset keeps. -/
theorem Begins.waits {c : Instr} {obs : StartObs} {k : Nat} (h : Begins c obs k s) (hpin : obs.pinLow = true) :
    ∃ t : State, Machine.exec c s = .next t ∧ (
          t.run = .waitPin ∧ t.get R.ST_START_KIND = k ∧ t.pcycle = s.pcycle + (1 - k) ∧ t.sessions = [] ∧ t.cmds = [] ∧
          (∀ e ∈ t.vols, e.2.key = none) ∧ t.vols.map (·.1) = s.vols.map (·.1) ∧ t.media = s.media ∧ t.lost = s.lost ∧
          (∀ f : Fld, keepsOf f.key = .p → t.get f = s.get f) ∧
          (∀ f : Fld, keepsOf f.key = .v ∨ keepsOf f.key = .k ∨ keepsOf f.key = .s → f.key ≠ R.ST_START_KIND.key →
            (∀ i : Slot, f.key ≠ (R.SLOT_STATUS_EN5 i).key ∧ f.key ≠ (R.SLOT_STATUS_EN12 i).key) → t.get f = f.rst) ∧
          (∀ i : Slot, tget i t.pins.en5 = some 2 ∧ tget i t.pins.en12 = some 2) ∧ t.pins.attnReleased = true) := by
  obtain ⟨l, -, hexec⟩ := h.exec_eq
  generalize hs0 : ({ s with ledger := l, pcycle := s.pcycle + (1 - k) } : State) = s0 at hexec
  have hkept : s0.pcycle = s.pcycle + (1 - k) ∧ s0.dropKeys.vols = s.dropKeys.vols ∧ s0.media = s.media ∧ s0.lost = s.lost ∧
      ∀ f, s0.get f = s.get f := by
    rw [← hs0]; exact ⟨rfl, rfl, rfl, rfl, fun _ => rfl⟩
  obtain ⟨hpc, hvols, hmedia, hlost, hget⟩ := hkept
  obtain ⟨wmedia, wlost, wses, wcmds, wpc, wvols, -⟩ := wipe_keeps k s0
  rw [restart_waits s0 h.kind hpin] at hexec
  obtain ⟨tvols, tmedia, tlost, tses, tcmds, tpc⟩ := waiting_keeps k (s0.wipe k)
  obtain ⟨ten, tattn⟩ := waiting_pins k (s0.wipe k)
  obtain ⟨hkeys, hids⟩ := dropKeys_vols s
  have hvols' : ((s0.wipe k).waiting k).vols = s.dropKeys.vols := by rw [tvols, wvols, hvols]
  refine ⟨_, hexec, ?_, ?_, ?_, ?_, ?_, ?_, ?_, ?_, ?_, fun f hf => ?_, fun f hf hne hrail => ?_, ?_, ?_⟩
  · rw [State.after_run, waiting_run]
  · rw [State.get_after, waiting_kind h.kind]
  · rw [State.after_pcycle, tpc, wpc, hpc]
  · rw [State.after_sessions, tses, wses]
  · rw [State.after_cmds, tcmds, wcmds]
  · rw [State.after_vols, hvols']; exact hkeys
  · rw [State.after_vols, hvols', hids]
  · rw [State.after_media, tmedia, wmedia, hmedia]
  · rw [State.after_lost, tlost, wlost, hlost]
  · have hkind : f.key ≠ R.ST_START_KIND.key := fun e => by rw [e, keepsOf_ST_START_KIND] at hf; cases hf
    have hrail (i : Slot) : f.key ≠ (R.SLOT_STATUS_EN5 i).key ∧ f.key ≠ (R.SLOT_STATUS_EN12 i).key := by
      obtain ⟨h5, h12⟩ := keepsOf_rails i
      exact ⟨fun e => (by rw [e, h5] at hf; cases hf), fun e => (by rw [e, h12] at hf; cases hf)⟩
    rw [State.get_after, waiting_get hkind hrail, get_wipe, hf, ← hget f]
    rfl
  · rw [State.get_after, waiting_get hne hrail, get_wipe, keeps_powerUp h.kind hf]
    rfl
  · rw [State.after_pins]; exact ten
  · rw [State.after_pins]; exact tattn

/-- With a shared memory bad such a start leaves a failed unit. -/
theorem Begins.fails {c : Instr} {obs : StartObs} {k : Nat} (h : Begins c obs k s) (hpin : obs.pinLow = false)
    (hshared : obs.sharedBad = true) :
    ∃ t : State, Machine.exec c s = .next t ∧ (t.run = .failed ∧ t.pins.attnReleased = true ∧ t.media = s.media) := by
  obtain ⟨l, -, hexec⟩ := h.exec_eq
  generalize hs0 : ({ s with ledger := l, pcycle := s.pcycle + (1 - k) } : State) = s0 at hexec
  have hmedia : s0.media = s.media := by rw [← hs0]
  obtain ⟨wmedia, -⟩ := wipe_keeps k s0
  rw [restart_goes (.inl hpin)] at hexec
  obtain ⟨trun, tattn, tmedia⟩ := startUp_failed (s0.wipe k) k s0 hshared
  refine ⟨_, hexec, ?_, ?_, ?_⟩
  · rw [State.after_run, trun]
  · rw [State.after_pins, tattn]
  · rw [State.after_media, tmedia, wmedia, hmedia]

/-- With no card and no block failing such a start goes Unlit. -/
theorem Begins.goesUnlit {c : Instr} {obs : StartObs} {k : Nat} (h : Begins c obs k s) (hpin : obs.pinLow = false)
    (hshared : obs.sharedBad = false) (hbist : obs.bist = []) (hread : obs.ledgerBad = false)
    (hcard : obs.card = some none ∨ (obs.card = none ∧ s.knd.card = none)) (hled : ∀ e ∈ s.ledger, e.active = true → e.kind ≠ 4) :
    ∃ t : State, Machine.exec c s = .next t ∧ (
      t.get R.GLB_STATUS_STATE = 2 ∧ t.get R.KND_STATUS_STATE = 2 ∧ t.get R.GLB_STATUS_SERVICE = 0 ∧
      (∀ i : Slot, t.get (R.SLOT_STATUS_EN5 i) = 0 ∧ t.get (R.SLOT_STATUS_EN12 i) = 0) ∧
      t.media = s.media ∧ t.pow.bank = s.pow.bank ∧ t.sessions = [] ∧ t.cmds = []) := by
  obtain ⟨l, hl, hexec⟩ := h.exec_eq
  generalize hs0 : ({ s with ledger := l, pcycle := s.pcycle + (1 - k) } : State) = s0 at hexec
  have hkept : s0.media = s.media ∧ s0.pow = s.pow ∧ s0.knd = s.knd ∧ s0.ledger = l := by rw [← hs0]; exact ⟨rfl, rfl, rfl, rfl⟩
  obtain ⟨hmedia, hpow, hknd, hledger⟩ := hkept
  obtain ⟨wmedia, -, wses, wcmds, -, -, wledger, wcard, wbank⟩ := wipe_keeps k s0
  rw [restart_goes (.inl hpin)] at hexec
  have hk : k ≠ Kind.reset := by obtain rfl | rfl := h.kind <;> decide
  obtain ⟨tcore, trails⟩ := startUp_unlit (s0.wipe k) s0 hk hshared hbist hread (by rwa [wcard, hknd])
    (by rw [wledger, hledger]; exact fun e he ha => hled e (hl e he ha) ha)
  simp only [bootCore, Prod.mk.injEq] at tcore
  obtain ⟨tmedia, tses, tcmds, -, tpow, -, tstate, tserv, tknd⟩ := tcore
  refine ⟨_, hexec, ?_, ?_, ?_, fun i => ?_, ?_, ?_, ?_, ?_⟩
  · rw [State.get_after, tstate]
  · rw [State.get_after, tknd]
  · rw [State.get_after, tserv, get_wipe, keepsOf_GLB_STATUS_SERVICE]; rfl
  · rw [State.get_after, State.get_after]; exact trails i
  · rw [State.after_media, tmedia, wmedia, hmedia]
  · rw [State.after_pow, tpow, wbank, hpow]
  · rw [State.after_sessions, tses, wses]
  · rw [State.after_cmds, tcmds, wcmds]

/-! ## Module resets and thermal restarts (R410, R437, R440) -/

/-- What restarts a held module with its image: the end of a module reset, or of a thermal shutdown with a feed there. -/
def Resets (c : Instr) (obs : StartObs) (s : State) : Prop :=
  (c = .moduleResetRestart obs ∧ (s.pow.cut = some .pin ∨ s.pow.cut = some .register)) ∨
    (c = .thermalRestart obs ∧ s.pow.cut = some .thermal ∧ obs.feeds ≠ [])

/-- Such a restart is a start of kind reset, from a state with the same medium and the same image in force. -/
theorem Resets.exec_eq {c : Instr} {obs : StartObs} (h : Resets c obs s) (hrun : s.run = .held) :
    ∃ s0 : State, s0.media = s.media ∧ s0.get R.KND_STATUS_STATE = s.get R.KND_STATUS_STATE ∧
      Machine.exec c s = .next ((State.startUp Kind.reset obs s0 (s0.wipe Kind.reset)).after s) := by
  obtain ⟨rfl, hcut⟩ | ⟨rfl, hcut, hfeeds⟩ := h
  · have hreset : moduleResetRestart obs s = (s.modPins fun p => { p with modResetLow := false }).restart Kind.reset obs := by
      simp [moduleResetRestart, hrun, hcut]
    rw [restart_goes (.inr rfl)] at hreset
    exact ⟨s.modPins fun p => { p with modResetLow := false }, rfl, rfl, done_of_eq hreset⟩
  · have hthermal : thermalRestart obs s = (s.set R.RST_CAUSE_MODULE 3).restart Kind.reset obs := by
      simp [thermalRestart, hrun, hcut, hfeeds]
    rw [restart_goes (.inr rfl)] at hthermal
    exact ⟨s.set R.RST_CAUSE_MODULE 3, rfl, State.get_set_ne s (by decide) _,
      done_of_eq hthermal⟩

/-- With a shared memory bad such a restart leaves a failed unit. -/
theorem Resets.fails {c : Instr} {obs : StartObs} (h : Resets c obs s) (hrun : s.run = .held) (hshared : obs.sharedBad = true) :
    ∃ t : State, Machine.exec c s = .next t ∧ (t.run = .failed ∧ t.media = s.media) := by
  obtain ⟨s0, hmedia, -, hexec⟩ := h.exec_eq hrun
  obtain ⟨wmedia, -⟩ := wipe_keeps Kind.reset s0
  obtain ⟨trun, -, tmedia⟩ := startUp_failed (s0.wipe Kind.reset) Kind.reset s0 hshared
  refine ⟨_, hexec, ?_, ?_⟩
  · rw [State.after_run, trun]
  · rw [State.after_media, tmedia, wmedia, hmedia]

/-- Host service as it begins (R435 step 13). -/
theorem beginService_shows (ms : Nat) (s : State) : (s.beginService ms).get R.GLB_STATUS_STATE = 0 ∧
    (s.beginService ms).get R.GLB_STATUS_SERVICE = 1 ∧ (s.beginService ms).get R.ST_START_HOST_MS = min ms 1048575 := by
  simp only [State.beginService, State.get_event]
  refine ⟨?_, ?_, ?_⟩
  · rw [State.get_set_ne _ (by decide), State.get_set_ne _ (by decide), State.get_set_same]; rfl
  · rw [State.get_set_ne _ (by decide), State.get_set_same]; rfl
  · have hfits : min ms 1048575 % 2 ^ 20 = min ms 1048575 := Nat.mod_eq_of_lt (by omega)
    rw [State.get_set_same]; exact hfits

/-- With its image in force and no segment to wait for such a restart reaches host service. -/
theorem Resets.serves {c : Instr} {obs : StartObs} (h : Resets c obs s) (hrun : s.run = .held) (hshared : obs.sharedBad = false)
    (himg : s.get R.KND_STATUS_STATE = 1) (hseg : obs.segments = []) :
    ∃ t : State, Machine.exec c s = .next t ∧ (
      t.get R.GLB_STATUS_STATE = 0 ∧ t.get R.GLB_STATUS_SERVICE = 1 ∧ t.get R.ST_START_HOST_MS = min obs.ms 1048575) := by
  obtain ⟨s0, -, hstate, hexec⟩ := h.exec_eq hrun
  obtain ⟨u, hu⟩ := startUp_serves (s0.wipe Kind.reset) hshared (hstate.trans himg) hseg
  rw [hu] at hexec
  exact ⟨_, hexec, beginService_shows obs.ms u⟩

/-- A thermal shutdown that ends with no feed waits for the supply (R402). -/
theorem thermalRestart_waitsForSupply {obs : StartObs} (hrun : s.run = .held) (hcut : s.pow.cut = some .thermal)
    (hfeeds : obs.feeds = []) : ∃ t : State, Machine.exec (.thermalRestart obs) s = .next t ∧
      (t.pow.cut = some .supply ∧ t = { s with pow := t.pow, gates := t.gates }) := by
  have hthermal : thermalRestart obs s = s.modPow fun p => { p with cut := some .supply } := by
    simp [thermalRestart, hrun, hcut, hfeeds]
  exact ⟨_, done_of_eq hthermal, rfl, rfl⟩

/-! ## A start that waited goes on, and one that is late (R435, R498) -/

/-- When MOD_RESET_N rises, a start with no card goes on and ends Unlit. -/
theorem modResetNHighAtStart_goesUnlit {obs : StartObs} (hrun : s.run = .waitPin) (hshared : obs.sharedBad = false) (hbist : obs.bist = [])
    (hread : obs.ledgerBad = false) (hkind : s.get R.ST_START_KIND = 0 ∨ s.get R.ST_START_KIND = 1)
    (hcard : obs.card = some none ∨ (obs.card = none ∧ s.knd.card = none)) (hled : ∀ e ∈ s.ledger, e.active = true → e.kind ≠ 4) :
    ∃ t : State, Machine.exec (.modResetNHighAtStart obs) s = .next t ∧ (
      t.get R.GLB_STATUS_STATE = 2 ∧ t.pins.modResetLow = false ∧ t.pcycle = s.pcycle ∧ t.media = s.media) := by
  generalize hs0 : ({ s with run := .up, pins := { s.pins with modResetLow := false } } : State) = s0
  have hkept : s0.media = s.media ∧ s0.pcycle = s.pcycle ∧ s0.pins.modResetLow = false ∧ s0.knd = s.knd ∧ s0.ledger = s.ledger := by
    rw [← hs0]; exact ⟨rfl, rfl, rfl, rfl, rfl⟩
  obtain ⟨hmedia, hpc, hlow, hknd, hledger⟩ := hkept
  have hgoes : modResetNHighAtStart obs s = State.startUp (s.get R.ST_START_KIND) obs s0 s0 := by
    simp only [modResetNHighAtStart, hrun, if_true, hs0]
  have hk : s.get R.ST_START_KIND ≠ Kind.reset := by obtain h | h := hkind <;> simp [h]
  obtain ⟨tcore, -⟩ := startUp_unlit s0 s0 hk hshared hbist hread (by rwa [hknd]) (by rwa [hledger])
  simp only [bootCore, Prod.mk.injEq] at tcore
  obtain ⟨tmedia, -, -, tpc, -, tlow, tstate, -⟩ := tcore
  refine ⟨_, done_of_eq hgoes, ?_, ?_, ?_, ?_⟩
  · rw [State.get_after, tstate]
  · rw [State.after_pins, tlow, hlow]
  · rw [State.after_pcycle, tpc, hpc]
  · rw [State.after_media, tmedia, hmedia]

/-- A running start whose map is not rebuilt in time is recorded late, and nothing else changes. -/
theorem startLate_recorded (hrun : s.run = .up) (hstate : s.get R.GLB_STATUS_STATE = 1) (hwait : s.knd.mapWait ≠ []) :
    ∃ t : State, Machine.exec .startLate s = .next t ∧ (
      records Ev.START_LATE (origin 0 0) 0 0 0 0 s t ∧ regsKept [] s t ∧ t = { s with rcd := t.rcd, gates := t.gates }) := by
  have hlate : startLate s = s.event Ev.START_LATE (origin 0 0) := by simp [startLate, hstate, hwait]
  have hexec : Machine.exec .startLate s = .next ((s.event Ev.START_LATE (origin 0 0)).after s) :=
    (act_up hrun startLate).trans (by rw [hlate])
  exact ⟨_, hexec, rfl, fun _ _ => rfl, rfl⟩

/-- Settles O51: each start is the restart of its kind, read off what the reset of that kind keeps. -/
theorem startsKeepWhatTheirResetKeeps : Obligations.StartsKeepWhatTheirResetKeeps := by
  intro s obs
  refine ⟨fun c k h => ⟨Begins.waits h, Begins.fails h, Begins.goesUnlit h⟩,
    fun c hrun h => ⟨Resets.fails h hrun, Resets.serves h hrun⟩,
    thermalRestart_waitsForSupply, modResetNHighAtStart_goesUnlit, startLate_recorded⟩

end Sys2Proof.Machine

namespace Sys2Proof.Machine

/-! ## Reset (R62, R450, R478) -/

/-- After reset a field reads its reset value: the register file lists nothing. -/
theorem get_reset (f : Fld) : State.reset.get f = f.rst := rfl

/-- Settles O4: the register file and every table are empty at reset, so each read is the default of what it reads. -/
theorem resetLeavesItsValues : Obligations.ResetLeavesItsValues := by
  refine ⟨get_reset, rfl, rfl, rfl, ?gates, rfl, rfl, rfl, rfl, rfl, rfl, rfl, rfl, fun _ => ⟨rfl, rfl⟩, rfl⟩
  case gates =>
    have hnone : State.reset.gates = [] := rfl
    simp [hnone]

/-! ## The commands of a slot on a running module -/

theorem exec_slotInsertion {s : State} (hrun : s.run = .up) (i : Slot) (hda : Hda) (meas : Meas) :
    exec (.slotInsertion i hda meas) s = .next ((slotInsertion i hda meas s).after s) := act_up hrun _

/-! ## An insertion in a slot whose cable path is retired (R55, R59) -/

/-- An insertion in a slot whose cable path is retired shows STATE 7, whatever ENABLE holds. -/
theorem slotInsertion_cableRetired {s : State} {i : Nat} (hempty : s.get (R.SLOT_STATUS_PRESENT i) = 0)
    (hret : (s.slot i).cableRetired = true) (hda : Hda) (meas : Meas) :
    (slotInsertion i hda meas s).get (R.SLOT_STATUS_STATE i) = 7 := by
  simp [slotInsertion, hempty, hret]

/-- An Unlit module, where no slot is brought up, with slot 0 empty, at ENABLE 0, STATE 0, and its cable path retired. -/
def unlitCableRetired : State :=
  ((State.reset.set R.GLB_STATUS_STATE 2).set (R.SLOT_CTRL_ENABLE 0) 0).setSlot 0 { cableRetired := true }

/-- Refutes O5: its ENABLE 0 clause does not ask that the cable path be in service, and an insertion in a cable-retired slot shows
STATE 7 (R59). On `unlitCableRetired` STATE read 0, so a register other than PRESENT changes. -/
theorem not_slotInsertionIsRecorded : ¬ Obligations.SlotInsertionIsRecorded := by
  intro h
  have hempty : unlitCableRetired.get (R.SLOT_STATUS_PRESENT 0) = 0 := by decide
  obtain ⟨t, hexec, -, -, hkept, -⟩ :=
    (h unlitCableRetired 0 ⟨true, [], [], []⟩ ⟨[], [], [], [], [], [], [], [], [], [], 0⟩ rfl hempty).1 (by decide)
  rw [exec_slotInsertion rfl, Host.Outcome.next.injEq] at hexec
  have hbefore : t.get (R.SLOT_STATUS_STATE 0) = 0 := hkept _ (by decide)
  have hafter : t.get (R.SLOT_STATUS_STATE 0) = 7 := by
    rw [← hexec, State.get_after]
    exact slotInsertion_cableRetired hempty rfl _ _
  omega

end Sys2Proof.Machine

namespace Sys2Proof.Machine

/-! ## What a slot shows and is told: its registers beside those of its spindle, actuators and heads (R63, R91) -/

/-- The key of a field of SLOT_STATUS, of SLOT_CTRL but its ATTN, or of SPIN_CTRL, in any slot block. -/
def slotKey (k : Nat) : Bool :=
  0x100000 ≤ k / 32 && (k / 32 % 0x1000 = 0 || (k / 32 % 0x1000 = 4 && k % 32 ≠ 3) || k / 32 % 0x1000 = 0x80)

/-- Those fields, and what a register write looks at once it is done: the posted writes and the starts asked for. -/
def slotView (s : State) := (fun f : Fld => if slotKey f.key then s.get f else 0, s.engs, s.knd)

/-- What positioning and the spindle leave of a slot: its fields, what it holds, and its members. -/
def mechView (s : State) := (slotView s, s.slots, s.mems)

theorem slotView_get {s t : State} (h : slotView t = slotView s) {f : Fld} (hf : slotKey f.key = true) : t.get f = s.get f := by
  have hregs := congrFun (congrArg Prod.fst h) f
  simpa [slotView, hf] using hregs

theorem slotView_host {s t : State} (h : slotView t = slotView s) : t.engs = s.engs ∧ t.knd = s.knd := by
  simp only [slotView, Prod.mk.injEq] at h
  exact h.2

theorem mechView_eq {s t : State} (h : mechView t = mechView s) : slotView t = slotView s ∧ t.slots = s.slots ∧ t.mems = s.mems := by
  simpa only [mechView, Prod.mk.injEq] using h

variable (s : State)

/-! ### Where the fields lie -/

/-- Fields of two registers have two places. -/
theorem key_ne_of_addr {f g : Fld} (hf : f.lo < 32) (hg : g.lo < 32) (h : f.addr ≠ g.addr) : f.key ≠ g.key := by
  simp only [Fld.key]; omega

/-- A register none of whose fields is a slot's. -/
def aside (a : Nat) : Bool := a < 0x100000 || (a % 0x1000 ≠ 0 && a % 0x1000 ≠ 4 && a % 0x1000 ≠ 0x80)

theorem slotKey_aside {a lo w rst : Nat} (ha : aside a = true) (hlo : lo < 32) : slotKey (Fld.key ⟨a, lo, w, rst⟩) = false := by
  simp only [aside, Bool.and_eq_true, Bool.or_eq_true, decide_eq_true_eq] at ha
  rw [Fld.key, Bool.eq_false_iff]
  simp only [slotKey, ne_eq, Bool.and_eq_true, Bool.or_eq_true, decide_eq_true_eq]
  omega

theorem slotKey_block {a lo w rst : Nat} (hslot : 0x100000 ≤ a) (hlo : lo < 32)
    (ha : a % 0x1000 = 0 ∨ (a % 0x1000 = 4 ∧ lo ≠ 3) ∨ a % 0x1000 = 0x80) : slotKey (Fld.key ⟨a, lo, w, rst⟩) = true := by
  rw [Fld.key]
  simp only [slotKey, ne_eq, Bool.and_eq_true, Bool.or_eq_true, decide_eq_true_eq]
  omega

@[simp] theorem slotKey_EN5 (i : Nat) : slotKey (R.SLOT_STATUS_EN5 i).key = true := slotKey_block (by simp) (by simp) (by simp)
@[simp] theorem slotKey_EN12 (i : Nat) : slotKey (R.SLOT_STATUS_EN12 i).key = true := slotKey_block (by simp) (by simp) (by simp)
@[simp] theorem slotKey_STATE (i : Nat) : slotKey (R.SLOT_STATUS_STATE i).key = true := slotKey_block (by simp) (by simp) (by simp)
@[simp] theorem slotKey_POWER_OFF (i : Nat) : slotKey (R.SLOT_CTRL_POWER_OFF i).key = true :=
  slotKey_block (by simp; omega) (by simp) (by simp)
@[simp] theorem slotKey_SETPOINT (i : Nat) : slotKey (R.SPIN_CTRL_SETPOINT i).key = true :=
  slotKey_block (by simp; omega) (by simp) (by simp)

@[simp] theorem aside_ACT_STATUS (m : Nat) : aside (A.ACT_STATUS m) = true := by simp [aside]; omega
@[simp] theorem aside_ACT_TARGET (m : Nat) : aside (A.ACT_TARGET m) = true := by simp [aside]; omega
@[simp] theorem aside_ACT_COUNT (m : Nat) : aside (A.ACT_COUNT m) = true := by simp [aside]; omega
@[simp] theorem aside_ACT_COIL (m : Nat) : aside (A.ACT_COIL m) = true := by simp [aside]; omega
@[simp] theorem aside_HEAD_PES (g : Nat) : aside (A.HEAD_PES g) = true := by simp [aside]; omega
@[simp] theorem aside_HEAD_UP (g : Nat) : aside (A.HEAD_UP g) = true := by simp [aside]; omega
@[simp] theorem aside_HEAD_POS_COUNT (g : Nat) : aside (A.HEAD_POS_COUNT g) = true := by simp [aside]; omega
@[simp] theorem aside_HEAD_DEFECT_COUNT (g : Nat) : aside (A.HEAD_DEFECT_COUNT g) = true := by simp [aside]; omega
@[simp] theorem aside_SPIN_STATUS (i : Nat) : aside (A.SPIN_STATUS i) = true := by simp [aside]
@[simp] theorem aside_SPIN_SPEED (i : Nat) : aside (A.SPIN_SPEED i) = true := by simp [aside]
@[simp] theorem aside_SPIN_REF (i : Nat) : aside (A.SPIN_REF i) = true := by simp [aside]

/-! ### Single updates -/

theorem slotView_set {f : Fld} (hf : slotKey f.key = false) (v : Nat) : slotView (s.set f v) = slotView s := by
  refine Prod.ext (funext fun g => ?_) rfl
  by_cases hg : slotKey g.key
  · have hne : g.key ≠ f.key := fun e => by rw [e, hf] at hg; cases hg
    simp [slotView, hg, State.get_set_ne s hne]
  · simp [slotView, hg]

@[simp] theorem mech_set {a lo w rst : Nat} (ha : aside a = true) (hlo : lo < 32) (v : Nat) :
    mechView (s.set ⟨a, lo, w, rst⟩ v) = mechView s := by
  rw [mechView, slotView_set s (slotKey_aside ha hlo), State.set_slots, State.set_mems, mechView]

@[simp] theorem mech_count {a lo w rst : Nat} (ha : aside a = true) (hlo : lo < 32) (n : Nat) :
    mechView (s.count ⟨a, lo, w, rst⟩ n) = mechView s := mech_set s ha hlo _

@[simp] theorem mech_event (c o p q r u : Nat) : mechView (s.event c o p q r u) = mechView s := id rfl
@[simp] theorem mech_send (o : Out) : mechView (s.send o) = mechView s := id rfl
@[simp] theorem mech_setHead (g : Nat) (x : HeadSt) : mechView (s.setHead g x) = mechView s := id rfl
@[simp] theorem mech_setActu (m : Nat) (x : Actu) : mechView (s.setActu m x) = mechView s := id rfl
@[simp] theorem mech_setSpin (i : Nat) (x : Spindle) : mechView (s.setSpin i x) = mechView s := id rfl
@[simp] theorem mech_gates (l : List Nat) : mechView { s with gates := l } = mechView s := id rfl
@[simp] theorem mech_pow (p : Power) : mechView { s with pow := p } = mechView s := id rfl
@[simp] theorem mech_pool_stk (q : Pool) (k : Stoker) : mechView { s with pool := q, stk := k } = mechView s := id rfl

@[simp] theorem mech_forAll {α : Type} (l : List α) (f : α → State → State) (h : ∀ a t, mechView (f a t) = mechView t) :
    mechView (s.forAll l f) = mechView s := State.forAll_keeps s mechView l f h
@[simp] theorem mech_when (c : Bool) (f : State → State) (h : ∀ t, mechView (f t) = mechView t) :
    mechView (s.when c f) = mechView s := State.when_keeps s mechView c f h

/-! ### Positioning (R99, R112, R119, R147, R152) -/

@[simp] theorem mech_masks (m : Nat) : mechView (s.masks m) = mechView s := by simp [State.masks]
@[simp] theorem mech_leave (stays : Bool) (g : Nat) : mechView (State.leave stays g s) = mechView s := by
  simp [State.leave, view_ite mechView]
@[simp] theorem mech_fitSet (m : Nat) : mechView (s.fitSet m) = mechView s := by simp [State.fitSet]
@[simp] theorem mech_mayRewrite (g x n : Nat) : mechView (s.mayRewrite g x n) = mechView s := id rfl
@[simp] theorem mech_voidRun (g x n : Nat) : mechView (s.voidRun g x n) = mechView s := id rfl
@[simp] theorem mech_noteUnwritten (g x n : Nat) : mechView (s.noteUnwritten g x n) = mechView s := id rfl
@[simp] theorem mech_tear (x : Nat) (stays : Bool) (g : Nat) : mechView (s.tear x stays g) = mechView s := by
  simp only [State.tear]
  split
  · rfl
  · simp [view_ite mechView]
@[simp] theorem mech_tearAll (x : Nat) (gs : List Nat) : mechView (s.tearAll x gs) = mechView s := by simp [State.tearAll]
@[simp] theorem mech_reportBlocks (r c : Nat) (l : List Nat) : mechView (s.reportBlocks r c l) = mechView s := id rfl
@[simp] theorem mech_endReads (gs : List Nat) : mechView (s.endReads gs) = mechView s := by simp [State.endReads]
@[simp] theorem mech_endTransfer (m : Nat) : mechView (s.endTransfer m) = mechView s := by
  simp only [State.endTransfer]; (repeat' split) <;> simp
@[simp] theorem mech_setPreamp (m a v : Nat) : mechView (s.setPreamp m a v) = mechView s := id rfl
@[simp] theorem mech_preampWrite (m a v : Nat) : mechView (s.preampWrite m a v) = mechView s := by
  simp [State.preampWrite, view_ite mechView]
@[simp] theorem mech_preampRest (m mode : Nat) : mechView (s.preampRest m mode) = mechView s := by simp [State.preampRest]
@[simp] theorem mech_unload (emerg : Bool) (x m : Nat) : mechView (State.unload emerg x m s) = mechView s := by
  simp [State.unload, view_ite mechView]

/-! ### The spindle (R76, R79, R80, R89) -/

@[simp] theorem mech_phases (i : Nat) (on : Bool) : mechView (s.phases i on) = mechView s := id rfl
@[simp] theorem mech_setRef (i ref : Nat) : mechView (s.setRef i ref) = mechView s := by simp [State.setRef]
@[simp] theorem mech_serviceShown (i : Nat) : mechView (s.serviceShown i) = mechView s := by simp [State.serviceShown]
@[simp] theorem mech_enterSp (i st : Nat) : mechView (s.enterSp i st) = mechView s := by
  simp [State.enterSp, view_ite mechView]
@[simp] theorem mech_startSense (i : Nat) : mechView (s.startSense i) = mechView s := by simp [State.startSense]
@[simp] theorem mech_waitStart (i : Nat) : mechView (s.waitStart i) = mechView s := id rfl
@[simp] theorem mech_spinupOn : mechView s.spinupOn = mechView s := by
  simp only [State.spinupOn]
  split
  · rfl
  · exact (mech_pow _ _).trans (mech_set s (by decide) (by decide) 1)
@[simp] theorem mech_startSpindle (i : Nat) : mechView (s.startSpindle i) = mechView s := by
  simp [State.startSpindle, view_ite mechView]
@[simp] theorem mech_retarget (i : Nat) : mechView (s.retarget i) = mechView s := by simp [State.retarget]

/-- A set-point change writes SETPOINT, and nothing else of the slot. -/
theorem mech_setSetpoint (i v : Nat) : mechView (s.setSetpoint i v) = mechView (s.set (R.SPIN_CTRL_SETPOINT i) v) := by
  simp [State.setSetpoint, view_ite mechView]

end Sys2Proof.Machine

namespace Sys2Proof.Machine

/-! ## Writes of SLOT_CTRL (R56, R57, R63) -/

variable {s t : State} {p : Path} {w : Nat}

/-- The effect of a write of SLOT_CTRL is that of a slot block: it lies in the map, in no other block, with no rule over several
fields and no snapshot words. -/
theorem slotCtrl_plain : ∀ i : Slot, inMap (A.SLOT_CTRL i) = true ∧ A.SLOT_CTRL i % 4 = 0 ∧ regIsland (A.SLOT_CTRL i) = some (19 + i.val) ∧
    isSnap (A.SLOT_CTRL i) = false ∧ (jointsAt (A.SLOT_CTRL i)).isEmpty = true ∧ advSlot (A.SLOT_CTRL i) = none ∧
    engineAt (A.SLOT_CTRL i) 0 = none ∧ slotAt (A.SLOT_CTRL i) 0x004 = some i.val := by
  decide +kernel

theorem layout_SLOT_CTRL : ∀ i : Slot, layout (A.SLOT_CTRL i) =
    [⟨R.SLOT_CTRL_ENABLE i, .rw, .k, []⟩, ⟨R.SLOT_CTRL_REBRING i, .wo, .v, []⟩, ⟨R.SLOT_CTRL_POWER_OFF i, .rw, .v, []⟩,
      ⟨R.SLOT_CTRL_ATTN i, .rw, .v, []⟩] := by
  decide +kernel

/-- SLOT_CTRL with the RW fields of a word. -/
def State.takeSlotCtrl (i w : Nat) (s : State) : State :=
  ((s.set (R.SLOT_CTRL_ENABLE i) ((R.SLOT_CTRL_ENABLE i).of w)).set (R.SLOT_CTRL_POWER_OFF i) ((R.SLOT_CTRL_POWER_OFF i).of w)).set
    (R.SLOT_CTRL_ATTN i) ((R.SLOT_CTRL_ATTN i).of w)

/-- Every word is taken. -/
theorem takeWord_SLOT_CTRL (s : State) (p : Path) (i : Slot) (w : Nat) :
    s.takeWord p (A.SLOT_CTRL i) w = (false, s.takeSlotCtrl i w) := by
  obtain ⟨-, -, -, hsnap, hjoint, hadv, -⟩ := slotCtrl_plain i
  have hjoint := List.isEmpty_iff.1 hjoint
  have hr (lo n rst : Nat) (acc : Acc) (c : Keeps) (u : State) (v : Nat) :
      u.refuses ⟨⟨A.SLOT_CTRL i, lo, n, rst⟩, acc, c, []⟩ v = false :=
    refuses_unranged rfl (by simp; omega) (by simp; omega) (by simp; omega) u v
  simp only [State.takeWord, State.judge, hsnap, hjoint, hadv, layout_SLOT_CTRL]
  simp [State.takeField, hr, State.takeSlotCtrl]

/-- What the action fields of SLOT_CTRL do once the word is taken. -/
def State.slotCtrlActs (i w : Nat) (s : State) : State :=
  let s1 := if (R.SLOT_CTRL_REBRING i).of w = 1 then s.rebring i else s
  s1.powerOff i (s1.get (R.SLOT_CTRL_POWER_OFF i))

/-- No bring-up follows from ENABLE in a slot whose STATE is not 0. -/
theorem slotEffect_SLOT_CTRL (i : Slot) (old : State) (h : (s.slotCtrlActs i w).get (R.SLOT_STATUS_STATE i) ≠ 0) :
    State.slotEffect none (A.SLOT_CTRL i) w true old s = s.slotCtrlActs i w := by
  obtain ⟨-, -, -, -, -, -, -, hat⟩ := slotCtrl_plain i
  simp only [State.slotCtrlActs] at h
  simp only [State.slotEffect, hat, State.slotCtrlActs, Bool.true_and, decide_eq_true_eq]
  split
  · simp [h]
  · rfl

/-- The state once a write of SLOT_CTRL is counted and its word is taken, before it acts. -/
def State.slotCtrlWritten (p : Path) (i w : Nat) (s : State) : State :=
  (s.count (R.GLB_ACCESS_WRITES (pathKind p)) 1).takeSlotCtrl i w

@[simp] theorem slotCtrlWritten_slot (i j : Nat) : (s.slotCtrlWritten p i w).slot j = s.slot j := by
  simp [State.slotCtrlWritten, State.takeSlotCtrl, State.count_eq]
@[simp] theorem slotCtrlWritten_ledger (i : Nat) : (s.slotCtrlWritten p i w).ledger = s.ledger := by
  simp [State.slotCtrlWritten, State.takeSlotCtrl, State.count_eq]
@[simp] theorem slotCtrlWritten_engs (i : Nat) : (s.slotCtrlWritten p i w).engs = s.engs := by
  simp [State.slotCtrlWritten, State.takeSlotCtrl, State.count_eq]
@[simp] theorem slotCtrlWritten_knd (i : Nat) : (s.slotCtrlWritten p i w).knd = s.knd := by
  simp [State.slotCtrlWritten, State.takeSlotCtrl, State.count_eq]
@[simp] theorem host_slotCtrlWritten (i : Nat) : hostView (s.slotCtrlWritten p i w) = hostView s := by
  simp [State.slotCtrlWritten, State.takeSlotCtrl, State.count_eq]

/-- A write of SLOT_CTRL leaves the slot's STATE to what it does. -/
@[simp] theorem slotCtrlWritten_get_STATE (i : Nat) :
    (s.slotCtrlWritten p i w).get (R.SLOT_STATUS_STATE i) = s.get (R.SLOT_STATUS_STATE i) := by
  have hcount : (R.SLOT_STATUS_STATE i).key ≠ (R.GLB_ACCESS_WRITES (pathKind p)).key := ne_write_count (by simp [Fld.key]; omega) p
  have hne {lo n rst : Nat} (hlo : lo < 32) : (R.SLOT_STATUS_STATE i).key ≠ (⟨A.SLOT_CTRL i, lo, n, rst⟩ : Fld).key :=
    key_ne_of_addr (by simp) hlo (by simp)
  rw [State.slotCtrlWritten, State.takeSlotCtrl, State.get_set_ne _ (hne (by omega)), State.get_set_ne _ (hne (by omega)),
    State.get_set_ne _ (hne (by omega)), get_write_count_ne hcount]

@[simp] theorem slotCtrlWritten_get_POWER_OFF (i : Nat) :
    (s.slotCtrlWritten p i w).get (R.SLOT_CTRL_POWER_OFF i) = (R.SLOT_CTRL_POWER_OFF i).of w := by
  have hattn : (R.SLOT_CTRL_POWER_OFF i).key ≠ (R.SLOT_CTRL_ATTN i).key := by simp [Fld.key]
  rw [State.slotCtrlWritten, State.takeSlotCtrl, State.get_set_ne _ hattn, State.get_set_same, Fld.of, Nat.mod_mod]

/-- A write of SLOT_CTRL by a path in service to a slot that is left in a STATE other than 0, with no engine or start touched
(R469, R480, R481). -/
theorem act_slotCtrl (hw : writable p s) (i : Slot) (w : Word)
    (ht : (s.slotCtrlWritten p i w.toNat).slotCtrlActs i w.toNat = t) (hstate : t.get (R.SLOT_STATUS_STATE i) ≠ 0)
    (he : t.engs = s.engs) (hk : t.knd = s.knd) :
    act s (State.row p (A.SLOT_CTRL i) w) = .next ((t.recordWrite p (A.SLOT_CTRL i) w.toNat).after s) := by
  obtain ⟨hrun, hpath, hisl, hpost, hreset, hrekindle⟩ := hw
  obtain ⟨hmap, haligned, hisland, -, -, -, hctrl, -⟩ := slotCtrl_plain i
  have hblock : ¬(0x50010 ≤ A.SLOT_CTRL i ∧ A.SLOT_CTRL i < 0x50020) ∧ 0x100000 ≤ A.SLOT_CTRL i ∧ A.SLOT_CTRL i < 0x120000 := by
    simp only [A.SLOT_CTRL]; omega
  obtain ⟨howner, hlow, hhigh⟩ := hblock
  generalize hs1 : s.count (R.GLB_ACCESS_WRITES (pathKind p)) 1 = s1
  have hwritten : s1.takeSlotCtrl i w.toNat = s.slotCtrlWritten p i w.toNat := by rw [← hs1]; rfl
  have hout : s1.regOut (A.SLOT_CTRL i) = false := by
    have hup : s1.islandUp (19 + i) = true := by rw [← hs1]; exact hisl (19 + i) (by omega)
    simp [State.regOut, hisland, hup]
  have hperf : s1.performWrite none p (A.SLOT_CTRL i) w.toNat = (false, t) := by
    simp only [State.performWrite, hctrl, Bool.and_eq_true, decide_eq_true_eq, howner, hlow, hhigh, and_self, if_true, if_false,
      takeWord_SLOT_CTRL, hwritten, Bool.not_false, slotEffect_SLOT_CTRL i s1 (ht ▸ hstate), ht]
  have hwrite : (s.writeReg none p (A.SLOT_CTRL i) w.toNat).2 = t := by
    simp only [State.writeReg, hs1, hmap, haligned, hout, layout_SLOT_CTRL, Nat.mod_eq_of_lt w.isLt, hperf]
    simp
  have hidle : (t.recordWrite p (A.SLOT_CTRL i) w.toNat).afterWrite none = t.recordWrite p (A.SLOT_CTRL i) w.toNat :=
    afterWrite_idle (fun n hn => by simpa [State.eng, he] using hpost n hn) (by simp [hk, hreset]) (by simp [hk, hrekindle])
  have hrow : State.row p (A.SLOT_CTRL i) w s = t.recordWrite p (A.SLOT_CTRL i) w.toNat := by
    rw [← hidle]
    simp only [State.row, regWriteRow, State.pathWrite, hpath, hmap, haligned, hwrite]
    rfl
  rw [act_up hrun, hrow]

end Sys2Proof.Machine

namespace Sys2Proof.Machine

/-! ## The power-off sequence (R57) -/

variable {s : State}

@[simp] theorem recordWrite_mem (p : Path) (a w m : Nat) : (s.recordWrite p a w).mem m = s.mem m := by cases p <;> rfl
@[simp] theorem recordWrite_slot (p : Path) (a w i : Nat) : (s.recordWrite p a w).slot i = s.slot i := by cases p <;> rfl

theorem mem_fence_same (m : Nat) (c : Fence) : c ∈ ((s.fence m c).mem m).fences := by
  rw [State.fence, State.mem_setMem_same]
  split
  · rename_i h; simpa using h
  · simp

theorem mem_fence_ne {m n : Nat} (h : n ≠ m) (c : Fence) : (s.fence m c).mem n = s.mem n := by
  rw [State.fence, State.mem_setMem, if_neg h]

/-- Steps 1 and 2 of R57: both members fenced and unloaded, and the spindle braked to Midnight. -/
def State.powerOffBegun (i : Nat) (s : State) : State :=
  let s1 := (s.fence (2 * i) .powerOff).fence (2 * i + 1) .powerOff
  let s2 := (s1.unload false Torn.unload (2 * i)).unload false Torn.unload (2 * i + 1)
  (s2.setSlot i { s2.slot i with offStep := 2 }).setSetpoint i 0

theorem powerOff_ready {i : Nat} (hstate : s.get (R.SLOT_STATUS_STATE i) = 4) (hoff : (s.slot i).offStep = 0) :
    s.powerOff i 1 = s.powerOffBegun i := by
  simp [State.powerOff, State.powerOffBegun, hstate, hoff]

@[simp] theorem host_powerOffBegun (i : Nat) : hostView (s.powerOffBegun i) = hostView s := by simp [State.powerOffBegun]

/-- What the sequence leaves when it has begun: the fields of slots but SETPOINT, the step it waits at, and the fences. -/
theorem powerOffBegun_shows (i : Nat) :
    (s.powerOffBegun i).get (R.SPIN_CTRL_SETPOINT i) = 0 ∧
      (∀ f : Fld, slotKey f.key = true → f.key ≠ (R.SPIN_CTRL_SETPOINT i).key → (s.powerOffBegun i).get f = s.get f) ∧
      (s.powerOffBegun i).engs = s.engs ∧ (s.powerOffBegun i).knd = s.knd ∧ ((s.powerOffBegun i).slot i).offStep = 2 ∧
      .powerOff ∈ ((s.powerOffBegun i).mem (2 * i)).fences ∧ .powerOff ∈ ((s.powerOffBegun i).mem (2 * i + 1)).fences := by
  generalize hs1 : (s.fence (2 * i) .powerOff).fence (2 * i + 1) .powerOff = s1
  generalize hs2 : (s1.unload false Torn.unload (2 * i)).unload false Torn.unload (2 * i + 1) = s2
  generalize hs3 : s2.setSlot i { s2.slot i with offStep := 2 } = s3
  have hbegun : s.powerOffBegun i = s3.setSetpoint i 0 := by simp only [State.powerOffBegun, hs1, hs2, hs3]
  obtain ⟨hview, hslots, hmems⟩ := mechView_eq (mech_setSetpoint s3 i 0)
  obtain ⟨hengs, hknd⟩ := slotView_host hview
  have h2 : mechView s2 = mechView s1 := by rw [← hs2, mech_unload, mech_unload]
  obtain ⟨hview2, -, hmems2⟩ := mechView_eq h2
  obtain ⟨hengs2, hknd2⟩ := slotView_host hview2
  have hget2 {f : Fld} (hf : slotKey f.key = true) : s3.get f = s.get f := by
    rw [← hs3, State.get_setSlot, slotView_get hview2 hf, ← hs1]; rfl
  have hslot : (s3.setSetpoint i 0).slot i = { s2.slot i with offStep := 2 } := by
    rw [State.slot, hslots, State.set_slots, ← State.slot, ← hs3, State.slot_setSlot_same]
  have hmem (m : Nat) : (s3.setSetpoint i 0).mem m = s1.mem m := by
    rw [State.mem, hmems, State.set_mems, ← hs3, State.setSlot_mems, hmems2, State.mem]
  rw [hbegun, hslot, hmem, hmem]
  refine ⟨?_, fun f hf hne => ?_, ?_, ?_, rfl, ?_, ?_⟩
  · rw [slotView_get hview (slotKey_SETPOINT i), State.get_set_same, Nat.zero_mod]
  · rw [slotView_get hview hf, State.get_set_ne _ hne, hget2 hf]
  · rw [hengs, State.set_engs, ← hs3, State.setSlot_engs, hengs2, ← hs1]; rfl
  · rw [hknd, State.set_knd, ← hs3, State.setSlot_knd, hknd2, ← hs1]; rfl
  · rw [← hs1, mem_fence_ne (by omega)]; exact mem_fence_same _ _
  · rw [← hs1]; exact mem_fence_same _ _

/-- POWER_OFF written 1 in a ready slot. -/
theorem exec_slotCtrlPowerOff {p : Path} (hw : writable p s) (i : Slot) (w : Word) (hstate : s.get (R.SLOT_STATUS_STATE i) = 4)
    (hoff : (s.slot i).offStep = 0) (hpower : field (R.SLOT_CTRL_POWER_OFF i) w = 1) (hrebring : field (R.SLOT_CTRL_REBRING i) w = 0) :
    ∃ t : State, exec (.slotCtrlPowerOff p i w) s = .next t ∧
      (t.get (R.SLOT_CTRL_POWER_OFF i) = 1 ∧ t.get (R.SPIN_CTRL_SETPOINT i) = 0 ∧ (t.slot i).offStep = 2 ∧
        .powerOff ∈ (t.mem (2 * i)).fences ∧ .powerOff ∈ (t.mem (2 * i + 1)).fences ∧ dataKept s t ∧ hostKept s t) := by
  generalize hs0 : s.slotCtrlWritten p i w.toNat = s0
  have hpower0 : s0.get (R.SLOT_CTRL_POWER_OFF i) = 1 := by rw [← hs0, slotCtrlWritten_get_POWER_OFF]; exact hpower
  have hacts : s0.slotCtrlActs i w.toNat = s0.powerOffBegun i := by
    have hno : ¬(R.SLOT_CTRL_REBRING i).of w.toNat = 1 := by rw [show (R.SLOT_CTRL_REBRING i).of w.toNat = 0 from hrebring]; decide
    simp only [State.slotCtrlActs, if_neg hno, hpower0]
    exact powerOff_ready (by rw [← hs0, slotCtrlWritten_get_STATE, hstate]) (by rw [← hs0, slotCtrlWritten_slot, hoff])
  obtain ⟨hset, hget, hengs, hknd, hstep, hfence0, hfence1⟩ := powerOffBegun_shows (s := s0) i
  have hstate0 : (s0.powerOffBegun i).get (R.SLOT_STATUS_STATE i) = 4 := by
    rw [hget _ (slotKey_STATE i) (key_ne_of_addr (by simp) (by simp) (by simp)), ← hs0, slotCtrlWritten_get_STATE, hstate]
  have hrow := act_slotCtrl hw i w (t := s0.powerOffBegun i) (by rw [hs0, hacts]) (by omega)
    (by rw [hengs, ← hs0, slotCtrlWritten_engs]) (by rw [hknd, ← hs0, slotCtrlWritten_knd])
  refine ⟨_, hrow, ?_, ?_, ?_, ?_, ?_, kept_of_host ?_⟩
  · rw [State.get_after, recordWrite_get, hget _ (slotKey_POWER_OFF i) (key_ne_of_addr (by simp) (by simp) (by simp)), hpower0]
  · rw [State.get_after, recordWrite_get, hset]
  · rw [State.slot_after, recordWrite_slot, hstep]
  · rw [State.mem_after, recordWrite_mem]; exact hfence0
  · rw [State.mem_after, recordWrite_mem]; exact hfence1
  · rw [State.host_after, host_recordWrite, host_powerOffBegun, ← hs0, host_slotCtrlWritten]

/-! ### POWER_OFF_SPINDLE_STOPPED (steps 3 and 4) -/

@[simp] theorem preampReg_setPreamp_same {m a : Nat} (v : Nat) : (s.setPreamp m a v).preampReg m a = v % 65536 := by
  simp [State.preampReg, State.setPreamp]

theorem preampReg_setPreamp_ne {m a n b : Nat} (h : 128 * n + b ≠ 128 * m + a) (v : Nat) :
    (s.setPreamp m a v).preampReg n b = s.preampReg n b := by
  simp only [State.preampReg, State.setPreamp, tgetD_tset, if_neg h]; rfl

@[simp] theorem preampReg_send (o : Out) (m a : Nat) : (s.send o).preampReg m a = s.preampReg m a := rfl

/-- A preamp register reads what the engine has written to it. -/
theorem preampReg_preampWrite_same {m a v : Nat} (hv : v < 65536) : (s.preampWrite m a v).preampReg m a = v := by
  rw [State.preampWrite]
  split
  · assumption
  · simp [State.when, apply_ite (fun t : State => t.preampReg m a), Nat.mod_eq_of_lt hv]

theorem preampReg_preampWrite_ne {m a n b : Nat} (h : 128 * n + b ≠ 128 * m + a) (v : Nat) :
    (s.preampWrite m a v).preampReg n b = s.preampReg n b := by
  rw [State.preampWrite]
  split
  · rfl
  · simp [State.when, apply_ite (fun t : State => t.preampReg n b), preampReg_setPreamp_ne h]

/-- Both preamps at sleep show mode 0. -/
theorem preampReg_sleepPreamps (i : Nat) :
    (s.sleepPreamps i).preampReg (2 * i) 2 = 0 ∧ (s.sleepPreamps i).preampReg (2 * i + 1) 2 = 0 := by
  simp only [State.sleepPreamps, State.preampRest]
  constructor
  · iterate 4 rw [preampReg_preampWrite_ne (by omega)]
    exact preampReg_preampWrite_same (by decide)
  · rw [preampReg_preampWrite_ne (by omega)]
    exact preampReg_preampWrite_same (by decide)

/-- Only the preamps' registers and what the module has sent differ. -/
def linksOnly (s t : State) : Prop := ∃ q l, t = { s with preamp := q, outs := l }

theorem linksOnly.trans {s t u : State} (h : linksOnly s t) (g : linksOnly t u) : linksOnly s u := by
  obtain ⟨_, _, rfl⟩ := h
  obtain ⟨q, l, rfl⟩ := g
  exact ⟨q, l, rfl⟩

theorem preampWrite_linksOnly (s : State) (m a v : Nat) : linksOnly s (s.preampWrite m a v) := by
  simp only [State.preampWrite, State.when]
  (repeat' split) <;> exact ⟨_, _, rfl⟩

theorem preampRest_linksOnly (s : State) (m mode : Nat) : linksOnly s (s.preampRest m mode) :=
  ((preampWrite_linksOnly s m 0x3A 0).trans (preampWrite_linksOnly _ m 2 mode)).trans (preampWrite_linksOnly _ m 3 0)

theorem sleepPreamps_linksOnly (s : State) (i : Nat) : linksOnly s (s.sleepPreamps i) :=
  (preampRest_linksOnly s (2 * i) 0).trans (preampRest_linksOnly _ (2 * i + 1) 0)

/-- EN12 shows whether SLOT_EN12 is driven high. -/
theorem get_driveEn12_same (s : State) (i v : Nat) : (s.driveEn12 i v).get (R.SLOT_STATUS_EN12 i) = (decide (v = 1)).toNat := by
  rw [State.driveEn12, State.setB_eq, State.get_set_same]
  by_cases h : v = 1 <;> simp [h]

theorem get_driveEn5_same (s : State) (i v : Nat) : (s.driveEn5 i v).get (R.SLOT_STATUS_EN5 i) = (decide (v = 1)).toNat := by
  rw [State.driveEn5, State.setB_eq, State.get_set_same]
  by_cases h : v = 1 <;> simp [h]

theorem get_driveEn12_ne (s : State) {i : Nat} {f : Fld} (h : f.key ≠ (R.SLOT_STATUS_EN12 i).key) (v : Nat) :
    (s.driveEn12 i v).get f = s.get f := State.get_set_ne _ h _

theorem get_driveEn5_ne (s : State) {i : Nat} {f : Fld} (h : f.key ≠ (R.SLOT_STATUS_EN5 i).key) (v : Nat) :
    (s.driveEn5 i v).get f = s.get f := State.get_set_ne _ h _

/-- POWER_OFF_SPINDLE_STOPPED while the sequence waits for it. -/
theorem exec_powerOffSpindleStopped (hrun : s.run = .up) (i : Slot) (hoff : (s.slot i).offStep = 2) :
    ∃ t : State, exec (.powerOffSpindleStopped i) s = .next t ∧
      (t.get (R.SLOT_STATUS_EN12 i) = 0 ∧ tget i t.pins.en12 = some 0 ∧ t.preampReg (2 * i) 2 = 0 ∧
        t.preampReg (2 * i + 1) 2 = 0 ∧ regsKept [R.SLOT_STATUS_EN12 i] s t ∧
        t = { s with flds := t.flds, preamp := t.preamp, outs := t.outs, pins := t.pins, slots := t.slots, gates := t.gates }) := by
  have hstop : ∃ x, powerOffSpindleStopped i s = (((s.sleepPreamps i).driveEn12 i 0).drives i false).setSlot i x := by
    simp only [powerOffSpindleStopped, hoff, if_true]; exact ⟨_, rfl⟩
  obtain ⟨x, hstop⟩ := hstop
  obtain ⟨hmode0, hmode1⟩ := preampReg_sleepPreamps (s := s) i
  obtain ⟨q, l, hsleep⟩ := sleepPreamps_linksOnly s i
  rw [hsleep] at hstop hmode0 hmode1
  have hexec : exec (.powerOffSpindleStopped i) s = .next ((powerOffSpindleStopped i s).after s) := act_up hrun _
  rw [hstop] at hexec
  refine ⟨_, hexec, ?_, tget_tset_same _ _ _, hmode0, hmode1, fun f hf => ?_, rfl⟩
  · exact get_driveEn12_same _ i 0
  · exact get_driveEn12_ne _ (hf _ (by simp)) 0

/-! ### POWER_OFF_EN5_TIMER (step 5) -/

/-- Only registers, pins and what slots hold differ. -/
def railsOnly (s t : State) : Prop := ∃ f p l, t = { s with flds := f, pins := p, slots := l }

theorem railsOnly.trans {s t u : State} (h : railsOnly s t) (g : railsOnly t u) : railsOnly s u := by
  obtain ⟨_, _, _, rfl⟩ := h
  obtain ⟨f, p, l, rfl⟩ := g
  exact ⟨f, p, l, rfl⟩

theorem driveEn5_railsOnly (s : State) (i v : Nat) : railsOnly s (s.driveEn5 i v) := ⟨_, _, _, rfl⟩
theorem set_railsOnly (s : State) (f : Fld) (v : Nat) : railsOnly s (s.set f v) := ⟨_, _, _, rfl⟩
theorem setSlot_railsOnly (s : State) (i : Nat) (x : SlotSt) : railsOnly s (s.setSlot i x) := ⟨_, _, _, rfl⟩

/-- POWER_OFF_EN5_TIMER while the sequence waits for it and POWER_OFF holds 1. -/
theorem exec_powerOffEn5Timer (hrun : s.run = .up) (i : Slot) (hoff : (s.slot i).offStep = 4)
    (hpower : s.get (R.SLOT_CTRL_POWER_OFF i) = 1) :
    ∃ t : State, exec (.powerOffEn5Timer i) s = .next t ∧
      (t.get (R.SLOT_STATUS_STATE i) = 6 ∧ t.get (R.SLOT_STATUS_EN5 i) = 0 ∧ t.get (R.SLOT_CTRL_ATTN i) = 1 ∧
        tget i t.pins.en5 = some 0 ∧
        regsKept [R.SLOT_STATUS_STATE i, R.SLOT_STATUS_EN5 i, R.SLOT_CTRL_ATTN i] s t ∧
        t = { s with flds := t.flds, pins := t.pins, slots := t.slots, gates := t.gates }) := by
  have htimer : ∃ x, powerOffEn5Timer i s =
      (((s.driveEn5 i 0).set (R.SLOT_STATUS_STATE i) 6).set (R.SLOT_CTRL_ATTN i) 1).setSlot i x := by
    simp only [powerOffEn5Timer, hoff, State.bit_eq, hpower, if_true, decide_true]; exact ⟨_, rfl⟩
  obtain ⟨x, htimer⟩ := htimer
  have hrails : railsOnly s (powerOffEn5Timer i s) := by
    rw [htimer]
    exact (((driveEn5_railsOnly s i 0).trans (set_railsOnly _ _ 6)).trans (set_railsOnly _ _ 1)).trans (setSlot_railsOnly _ _ x)
  have hexec : exec (.powerOffEn5Timer i) s = .next ((powerOffEn5Timer i s).after s) := act_up hrun _
  have hattn {lo n rst : Nat} (hlo : lo < 32) : (⟨A.SLOT_STATUS i, lo, n, rst⟩ : Fld).key ≠ (R.SLOT_CTRL_ATTN i).key :=
    key_ne_of_addr hlo (by simp) (by simp)
  have hget (f : Fld) : ((powerOffEn5Timer i s).after s).get f =
      (((s.driveEn5 i 0).set (R.SLOT_STATUS_STATE i) 6).set (R.SLOT_CTRL_ATTN i) 1).get f := by
    rw [State.get_after, htimer, State.get_setSlot]
  refine ⟨_, hexec, ?_, ?_, ?_, ?_, fun f hf => ?_, ?_⟩
  · rw [hget, State.get_set_ne _ (hattn (by decide)), State.get_set_same]
    rfl
  · rw [hget, State.get_set_ne _ (hattn (by decide)), State.get_set_ne _ (by simp [Fld.key]), get_driveEn5_same]
    rfl
  · rw [hget, State.get_set_same]
    rfl
  · rw [State.after_pins, htimer, State.setSlot_pins, State.set_pins, State.set_pins]
    exact tget_tset_same _ _ _
  · rw [hget, State.get_set_ne _ (hf _ (by simp)), State.get_set_ne _ (hf _ (by simp)), get_driveEn5_ne _ (hf _ (by simp))]
  · obtain ⟨fl, pins, sl, hstate⟩ := hrails
    rw [hstate]; rfl

/-- Settles O7: each step of R57 is a command's lemma. -/
theorem slotPowerOffSequenceRuns : Obligations.SlotPowerOffSequenceRuns := fun _ i =>
  ⟨fun _ w hw hstate hoff hpower hrebring => exec_slotCtrlPowerOff hw i w hstate hoff hpower hrebring,
    fun hrun hoff => exec_powerOffSpindleStopped hrun i hoff, fun hrun hoff hpower => exec_powerOffEn5Timer hrun i hoff hpower⟩

end Sys2Proof.Machine

namespace Sys2Proof.Machine

/-! ## What bring-up leaves of a slot's fields (R54 to R61) -/

variable (s : State)

@[simp] theorem aside_SLOT_MEAS_PHASE (i : Nat) : aside (A.SLOT_MEAS_PHASE i) = true := by simp [aside]
@[simp] theorem aside_SLOT_MEAS_VCM (m : Nat) : aside (A.SLOT_MEAS_VCM m) = true := by simp [aside]; omega
@[simp] theorem aside_SLOT_CABLE (i : Nat) : aside (A.SLOT_CABLE i) = true := by simp [aside]
@[simp] theorem aside_HEAD_MEAS_UP (g : Nat) : aside (A.HEAD_MEAS_UP g) = true := by simp [aside]; omega
@[simp] theorem aside_HEAD_MEAS_RDR (g : Nat) : aside (A.HEAD_MEAS_RDR g) = true := by simp [aside]; omega
@[simp] theorem aside_HEAD_MEAS_ASSIST (g : Nat) : aside (A.HEAD_MEAS_ASSIST g) = true := by simp [aside]; omega
@[simp] theorem aside_HEAD_CABLE (g : Nat) : aside (A.HEAD_CABLE g) = true := by simp [aside]; omega
@[simp] theorem aside_HEAD_AFE_TRIM (g : Nat) : aside (A.HEAD_AFE_TRIM g) = true := by simp [aside]; omega
@[simp] theorem aside_HEAD_WRITE_TIMING (g : Nat) : aside (A.HEAD_WRITE_TIMING g) = true := by simp [aside]; omega
@[simp] theorem aside_HEAD_CH_STATUS (g : Nat) : aside (A.HEAD_CH_STATUS g) = true := by simp [aside]; omega
theorem aside_DAMP_COEF {l k n : Nat} (hl : l < 800) (hk : k < 2) (hn : n < 8) : aside (A.DAMP_COEF l k n) = true := by
  simp [aside]; omega

@[simp] theorem slotKey_ATTN (i : Nat) : slotKey (R.SLOT_CTRL_ATTN i).key = false := by
  rw [Fld.key, Bool.eq_false_iff]
  simp only [slotKey, A.SLOT_CTRL, ne_eq, Bool.and_eq_true, Bool.or_eq_true, decide_eq_true_eq]
  omega

/-! ### Single updates -/

theorem slot_of_mech {s t : State} (h : mechView t = mechView s) : slotView t = slotView s := (mechView_eq h).1

@[simp] theorem slot_set {a lo w rst : Nat} (ha : aside a = true) (hlo : lo < 32) (v : Nat) :
    slotView (s.set ⟨a, lo, w, rst⟩ v) = slotView s := slotView_set s (slotKey_aside ha hlo) v
@[simp] theorem slot_event (c o p q r u : Nat) : slotView (s.event c o p q r u) = slotView s := id rfl
@[simp] theorem slot_bump : slotView s.bump = slotView s := id rfl
@[simp] theorem slot_setSlot (i : Nat) (x : SlotSt) : slotView (s.setSlot i x) = slotView s := id rfl
@[simp] theorem slot_setHead (g : Nat) (x : HeadSt) : slotView (s.setHead g x) = slotView s := id rfl
@[simp] theorem slot_setActu (m : Nat) (x : Actu) : slotView (s.setActu m x) = slotView s := id rfl
@[simp] theorem slot_setMem (m : Nat) (x : MemberSt) : slotView (s.setMem m x) = slotView s := id rfl
@[simp] theorem slot_setLoop (l : Nat) (x : Loop) : slotView (s.setLoop l x) = slotView s := id rfl
@[simp] theorem slot_unfence (m : Nat) (c : Fence) : slotView (s.unfence m c) = slotView s := id rfl
@[simp] theorem slot_resetPreamp (m : Nat) : slotView (s.resetPreamp m) = slotView s := id rfl
@[simp] theorem slot_drives (i : Nat) (on : Bool) : slotView (s.drives i on) = slotView s := id rfl
@[simp] theorem slot_stores (l : Tbl Store) : slotView { s with stores := l } = slotView s := id rfl

@[simp] theorem slot_forAll {α : Type} (l : List α) (f : α → State → State) (h : ∀ a t, slotView (f a t) = slotView t) :
    slotView (s.forAll l f) = slotView s := State.forAll_keeps s slotView l f h

/-! ### A head retires (R454, R457) -/

@[simp] theorem slot_attention (k i : Nat) : slotView (s.attention k i) = slotView s := by
  have hattn (j : Nat) : slotView (s.set (R.SLOT_CTRL_ATTN j) 1) = slotView s := slotView_set s (slotKey_ATTN j) 1
  simp only [State.attention, view_ite slotView, hattn]
  (repeat' split) <;> rfl

@[simp] theorem slot_enterLedger (k i r : Nat) (held : Bool) : slotView (s.enterLedger k i r held) = slotView s := by
  simp only [State.enterLedger]; split <;> rfl
@[simp] theorem slot_plan (r i c : Nat) : slotView (s.plan r i c) = slotView s := id rfl
@[simp] theorem slot_retire (k i r e : Nat) (held : Bool) (a b c d : Nat) : slotView (s.retire k i r e held a b c d) = slotView s := by
  simp [State.retire]
@[simp] theorem slot_headGone (g : Nat) : slotView (s.headGone g) = slotView s := by
  simp [State.headGone, State.retireMember, State.markRebuild, view_ite slotView]
@[simp] theorem slot_leaveTorn (g : Nat) : slotView (s.leaveTorn g) = slotView s := slot_of_mech (by simp [State.leaveTorn])
@[simp] theorem slot_fitSet (m : Nat) : slotView (s.fitSet m) = slotView s := slot_of_mech (by simp)
@[simp] theorem slot_retireHead (r e a b c d g : Nat) : slotView (s.retireHead r e a b c d g) = slotView s := by
  simp [State.retireHead, view_ite slotView]

/-! ### The measurements and the trims (R61, R113, R125, R136, R157) -/

/-- The measurement registers are none of the slot's fields, and nothing else is touched. -/
@[simp] theorem mech_showMeas (i : Nat) (f : Factory) (m : Meas) : mechView (s.showMeas i f m) = mechView s := by
  rw [State.showMeas, mech_forAll]
  · rw [mech_set _ (by simp) (by simp), mech_set _ (by simp) (by simp), mech_forAll]
    · simp
    · intro a t
      generalize 2 * i + a = n
      simp
  · intro h t
    generalize 20 * i + h = g
    simp
@[simp] theorem slot_loadTrims (g : Nat) (f : Factory) (m : Meas) : slotView (s.loadTrims g f m) = slotView s := by
  simp [State.loadTrims]
@[simp] theorem slot_loadComps (g : Nat) : slotView (s.loadComps g) = slotView s := by
  simp only [State.loadComps]
  split
  · simp [view_ite slotView]
  · rfl
theorem slot_deriveLoop {l : Nat} (hl : l < 800) : slotView (s.deriveLoop l) = slotView s := by
  have hcoef (n : Nat) (hn : n ∈ List.range 16) (t : State) (v : Nat) :
      slotView (t.set (R.DAMP_COEF_VALUE l (n / 8) (n % 8)) v) = slotView t := by
    have hn := List.mem_range.1 hn
    exact slot_set t (aside_DAMP_COEF hl (by omega) (by omega)) (by decide) v
  rw [State.deriveLoop, slot_setLoop]
  exact State.forAll_induct (P := fun t => slotView t = slotView s) s _ _ rfl fun n hn t ht => by
    rw [slot_bump, hcoef n hn, ht]
theorem slot_loadActTrims {m : Nat} (hm : m < 64) (meas : Meas) : slotView (s.loadActTrims m meas) = slotView s := by
  simp [State.loadActTrims, view_ite slotView, slot_deriveLoop _ (show 640 + m < 800 by omega)]

/-! ### The position of the HDA (R255) -/

@[simp] theorem slot_soleSlot (g p i : Nat) : slotView (s.soleSlot g p i) = slotView s := by simp [State.soleSlot]
@[simp] theorem slot_rejoin (g p : Nat) (fresh : Bool) (m : Nat) : slotView (s.rejoin g p fresh m) = slotView s := by
  simp [State.rejoin, view_ite slotView]
@[simp] theorem slot_setPosition (g p : Nat) (serial : List Nat) : slotView (s.setPosition g p serial) = slotView s := by
  simp only [State.setPosition]; split <;> rfl
@[simp] theorem slot_assign (i : Nat) (serial : List Nat) : slotView (s.assign i serial) = slotView s := by
  simp only [State.assign]
  split
  · simp
  · split <;> simp

/-! ### The elements start afresh (R56) -/

@[simp] theorem slot_freshElements (i : Nat) : slotView (s.freshElements i) = slotView s := by
  rw [State.freshElements, slot_forAll]
  · rfl
  · simp
@[simp] theorem freshElements_slots (i : Nat) : (s.freshElements i).slots = s.slots := by
  rw [State.freshElements, State.forAll_keeps _ State.slots]
  simp [State.unfence, State.resetPreamp]
@[simp] theorem freshElements_ledger (i : Nat) : (s.freshElements i).ledger = s.ledger := by
  rw [State.freshElements, State.forAll_keeps _ State.ledger]
  simp [State.unfence, State.resetPreamp]

end Sys2Proof.Machine

namespace Sys2Proof.Machine

/-! ## An HDA that passes bring-up (R55, R56, R58, R60, R79) -/

variable {s : State} {i : Slot} {hda : Hda} {meas : Meas}

/-- A ready slot: STATE 4, both rails on, the set-point Noon. -/
structure ReadySlot (i : Nat) (t : State) : Prop where
  state : t.get (R.SLOT_STATUS_STATE i) = 4
  en5 : t.get (R.SLOT_STATUS_EN5 i) = 1
  en12 : t.get (R.SLOT_STATUS_EN12 i) = 1
  setpoint : t.get (R.SPIN_CTRL_SETPOINT i) = 2

/-! ### Nothing recorded of the HDA, nothing outside its window -/

/-- With no active entry held by the slot's HDA the ledger retires nothing again (R456). -/
theorem recallRetired_none {i : Nat} (h : ∀ e ∈ s.ledger, (e.active && e.hdaHeld && e.slot = i) = false) : s.recallRetired i = s := by
  have hnone : (s.ledger.filter fun e => e.active && e.hdaHeld && e.slot = i && e.serial = s.serialOf e.kind e.index) = [] :=
    List.filter_eq_nil_iff.2 fun e he => by simp [h e he]
  rw [State.recallRetired, hnone, State.forAll_nil]

/-- A measurement every head passes retires none. -/
theorem measHeads_pass {bad : Nat → Bool} (h : ∀ x, x < 20 → bad x = false) (i order : Nat) (value : Nat → Nat) :
    s.measHeads i order bad value = s := by
  have hnone : (List.range 20).filter bad = [] := List.filter_eq_nil_iff.2 fun x hx => by simp [h x (List.mem_range.1 hx)]
  rw [State.measHeads, hnone, State.forAll_nil]

/-! ### The measurements (R56 steps 7 and 8) -/

/-- The trims of a measured HDA loaded, heads before actuators. -/
def State.trimsLoaded (i : Nat) (f : Factory) (meas : Meas) (s : State) : State :=
  (s.forAll (List.range 20) fun h t => (t.loadTrims (20 * i + h) f meas).loadComps (20 * i + h)).forAll [2 * i, 2 * i + 1]
    fun m t => t.loadActTrims m meas

/-- The end of a bring-up: the slot is ready, its HDA takes its position, and its set-point is written to Noon. -/
def State.madeReady (i : Nat) (serial : List Nat) (s : State) : State :=
  ((((s.set (R.SLOT_STATUS_STATE i) 4).drives i true).event Ev.SLOT_INSERTED (origin 1 i) 0 0 0 0).assign i serial).setSetpoint i 2

theorem slot_trimsLoaded (i : Slot) (f : Factory) (meas : Meas) (s : State) : slotView (s.trimsLoaded i f meas) = slotView s := by
  simp [State.trimsLoaded, slot_loadActTrims _ (show 2 * i.val < 64 by omega), slot_loadActTrims _ (show 2 * i.val + 1 < 64 by omega)]

section Windows
variable {s0 : State} (h : passesBringUp s0 i hda meas)
include h

theorem passes_head {x : Nat} (hx : x < 20) :
    nearPct 20 (meas.upCap.getD x 0) (hda.factory.upCap.getD x 0) = true ∧
      nearPct 15 (meas.rdrRes.getD x 0) (hda.factory.rdrRes.getD x 0) = true ∧
      sweepKind (Meas.sweep meas x) ≠ (if hda.factory.assistKind = 1 then 2 else 1) ∧
      assistOk hda.factory meas (lastThreshold (modInForce hda) x) x = true ∧ tdrOk meas x = true ∧ loopOk hda.factory meas x = true := by
  obtain ⟨-, -, -, -, -, hheads⟩ := h
  exact hheads x hx

/-- No head shows the other assist kind. -/
theorem passes_kinds : ((List.range 20).map fun h => sweepKind (Meas.sweep meas h)).filter (fun k => k =
    (if hda.factory.assistKind = 1 then 2 else 1)) = [] :=
  List.filter_eq_nil_iff.2 fun k hk => by
    obtain ⟨x, hx, rfl⟩ := List.mem_map.1 hk
    obtain ⟨-, -, hkind, -⟩ := passes_head h (List.mem_range.1 hx)
    simpa using hkind

/-- Every head's assist element is within its window. -/
theorem passes_assist (x : Nat) (hx : x < 20) : (decide (((List.range 20).map fun h => sweepKind (Meas.sweep meas h)).getD x 0 =
    (if hda.factory.assistKind = 1 then 2 else 1)) ||
    !assistOk hda.factory meas (lastThreshold (modInForce hda) x) x) = false := by
  obtain ⟨-, -, hkind, hassist, -⟩ := passes_head h hx
  have hget : ((List.range 20).map fun h => sweepKind (Meas.sweep meas h)).getD x 0 = sweepKind (Meas.sweep meas x) := by simp [hx]
  rw [hget, hassist, decide_eq_false hkind]; rfl

/-- No read pair of a head fails the reflectometer, and none the loopback. -/
theorem passes_paths : (List.range 20).filter (fun x => !tdrOk meas x) = [] ∧
    (List.range 20).filter (fun x => tdrOk meas x && !loopOk hda.factory meas x) = [] := by
  constructor
  · refine List.filter_eq_nil_iff.2 fun x hx => ?_
    obtain ⟨-, -, -, -, htdr, -⟩ := passes_head h (List.mem_range.1 hx)
    simp [htdr]
  · refine List.filter_eq_nil_iff.2 fun x hx => ?_
    obtain ⟨-, -, -, -, -, hloop⟩ := passes_head h (List.mem_range.1 hx)
    simp [hloop]

/-- With every measurement in its window no step of R58 retires or refuses, and the trims are loaded. -/
theorem measureSlot_passes (hcable : (s.slot i).cableRetired = false) :
    s.measureSlot i hda meas =
      ((((s.set (R.SLOT_STATUS_STATE i) 3).showMeas i hda.factory meas).trimsLoaded i hda.factory meas).madeReady i
        hda.factory.serial) := by
  obtain ⟨-, hact, -, -, hphase, -⟩ := id h
  obtain ⟨-, hvcm0⟩ := hact 0 (by decide)
  obtain ⟨-, hvcm1⟩ := hact 1 (by decide)
  obtain ⟨htdr, hloop⟩ := passes_paths h
  have hcap : ∀ x, x < 20 → (!nearPct 20 (meas.upCap.getD x 0) (hda.factory.upCap.getD x 0)) = false := fun x hx => by
    rw [(passes_head h hx).1]; rfl
  have hres : ∀ x, x < 20 → (!nearPct 15 (meas.rdrRes.getD x 0) (hda.factory.rdrRes.getD x 0)) = false := fun x hx => by
    obtain ⟨-, hres, -⟩ := passes_head h hx
    rw [hres]; rfl
  generalize hs1 : (s.set (R.SLOT_STATUS_STATE i) 3).showMeas i hda.factory meas = s1
  obtain ⟨hslot, hslots, -⟩ := mechView_eq (s := s.set (R.SLOT_STATUS_STATE i) 3) (t := s1) (by rw [← hs1, mech_showMeas])
  have hcable1 : (s1.slot i).cableRetired = false := by rw [State.slot, hslots]; exact hcable
  have hstate1 : (s1.trimsLoaded i hda.factory meas).get (R.SLOT_STATUS_STATE i) = 3 := by
    rw [slotView_get ((slot_trimsLoaded i _ _ s1).trans hslot) (slotKey_STATE i), State.get_set_same]; rfl
  have hno (order : Nat) (value : Nat → Nat) : s1.measHeads i order (fun x => ([] : List Nat).contains x) value = s1 :=
    measHeads_pass (fun _ _ => rfl) _ _ _
  simp only [State.trimsLoaded, State.forAll_cons, State.forAll_nil] at hstate1
  simp only [State.measureSlot, hs1, hphase, if_true, State.forAll_cons, State.forAll_nil, hvcm0, hvcm1, measHeads_pass hcap,
    measHeads_pass hres, passes_kinds h, measHeads_pass (passes_assist h), htdr, hloop, hno, hcable1, List.length_nil, State.trimsLoaded, State.madeReady,
    hstate1, Bool.false_eq_true, if_false]
  rw [if_neg (by decide), if_neg (by decide), if_neg (by decide)]

end Windows

/-- What a slot made ready shows; its other fields stay. -/
theorem madeReady_shows (i : Nat) (serial : List Nat) (s : State) :
    (s.madeReady i serial).get (R.SLOT_STATUS_STATE i) = 4 ∧ (s.madeReady i serial).get (R.SPIN_CTRL_SETPOINT i) = 2 ∧
      (∀ f : Fld, slotKey f.key = true → f.key ≠ (R.SLOT_STATUS_STATE i).key → f.key ≠ (R.SPIN_CTRL_SETPOINT i).key →
        (s.madeReady i serial).get f = s.get f) ∧
      (s.madeReady i serial).engs = s.engs ∧ (s.madeReady i serial).knd = s.knd := by
  generalize hu : ((((s.set (R.SLOT_STATUS_STATE i) 4).drives i true).event Ev.SLOT_INSERTED (origin 1 i) 0 0 0 0).assign i serial) = u
  have hview : slotView u = slotView (s.set (R.SLOT_STATUS_STATE i) 4) := by rw [← hu]; simp
  have hready : slotView (s.madeReady i serial) = slotView (u.set (R.SPIN_CTRL_SETPOINT i) 2) := by
    rw [State.madeReady, hu]
    exact slot_of_mech (mech_setSetpoint u i 2)
  have hother {f : Fld} (hf : slotKey f.key = true) (hset : f.key ≠ (R.SPIN_CTRL_SETPOINT i).key) :
      (s.madeReady i serial).get f = (s.set (R.SLOT_STATUS_STATE i) 4).get f := by
    rw [slotView_get hready hf, State.get_set_ne _ hset, slotView_get hview hf]
  obtain ⟨hengs, hknd⟩ := slotView_host hready
  obtain ⟨hengsu, hkndu⟩ := slotView_host hview
  refine ⟨?_, ?_, fun f hf hstate hset => ?_, hengs.trans hengsu, hknd.trans hkndu⟩
  · rw [hother (slotKey_STATE i) (key_ne_of_addr (by simp) (by simp) (by simp)), State.get_set_same]; rfl
  · rw [slotView_get hready (slotKey_SETPOINT i), State.get_set_same]; rfl
  · rw [hother hf hset, State.get_set_ne _ hstate]

/-! ### Bring-up (R56) -/

/-- Steps 1 and 2 of a bring-up: the elements start afresh, SLOT_EN5 is high, and the ID memory is to be read. -/
def State.bringUpBegun (i : Nat) (hda : Hda) (meas : Meas) (s : State) : State :=
  let s0 := s.freshElements i
  let s1 := ((s0.driveEn5 i 1).set (R.SLOT_STATUS_STATE i) 1).setSlot i
    { s0.slot i with hda := some hda, meas := some meas, offStep := 0, setLimit := 10, dutyCap := 100, dutyLogged := false }
  s1.set (R.SLOT_STATUS_STATE i) 2

/-- The ID memory's areas shown: the assist kind, and whether a copy of the module area is in force. -/
def State.idShown (i : Nat) (hda : Hda) (mine : List Nat) (s : State) : State :=
  let s3 := s.set (R.SLOT_STATUS_ASSIST_KIND i) (hda.factory.assistKind - 1)
  match modInForce hda with
  | none => (s3.set (R.SLOT_STATUS_MODAREA_VALID i) 0).event Ev.ID_MODULE_AREA_LOST (origin 1 i) 0 0 0 0
  | some c =>
    let t := s3.set (R.SLOT_STATUS_MODAREA_VALID i) 1
    if c.writer = mine then t else (t.event Ev.HDA_FOREIGN (origin 1 i) 0 0 0 0).foreign i

theorem bringUpBegun_shows (i : Nat) (hda : Hda) (meas : Meas) (s : State) :
    (s.bringUpBegun i hda meas).get (R.SLOT_STATUS_STATE i) = 2 ∧ (s.bringUpBegun i hda meas).get (R.SLOT_STATUS_EN5 i) = 1 ∧
      (s.bringUpBegun i hda meas).get (R.SLOT_CTRL_POWER_OFF i) = s.get (R.SLOT_CTRL_POWER_OFF i) ∧
      ((s.bringUpBegun i hda meas).slot i).cableRetired = (s.slot i).cableRetired ∧
      (s.bringUpBegun i hda meas).ledger = s.ledger ∧ (s.bringUpBegun i hda meas).engs = s.engs ∧
      (s.bringUpBegun i hda meas).knd = s.knd := by
  obtain ⟨hengs, hknd⟩ := slotView_host (slot_freshElements s i)
  have hslot : (s.freshElements i).slot i = s.slot i := by rw [State.slot, freshElements_slots, State.slot]
  have hctrl {lo n rst : Nat} (hlo : lo < 32) : (R.SLOT_CTRL_POWER_OFF i).key ≠ (⟨A.SLOT_STATUS i, lo, n, rst⟩ : Fld).key :=
    key_ne_of_addr (by simp) hlo (by simp)
  have hen5 : (R.SLOT_STATUS_EN5 i).key ≠ (R.SLOT_STATUS_STATE i).key := by simp [Fld.key]
  refine ⟨?_, ?_, ?_, ?_, ?_, ?_, ?_⟩
  · rw [State.bringUpBegun, State.get_set_same]; rfl
  · rw [State.bringUpBegun, State.get_set_ne _ hen5, State.get_setSlot, State.get_set_ne _ hen5, get_driveEn5_same]; rfl
  · rw [State.bringUpBegun, State.get_set_ne _ (hctrl (by decide)), State.get_setSlot, State.get_set_ne _ (hctrl (by decide)),
      get_driveEn5_ne _ (hctrl (by decide)), slotView_get (slot_freshElements s i) (slotKey_POWER_OFF i)]
  · rw [State.bringUpBegun, State.slot_set, State.slot_setSlot_same, hslot]
  · simp [State.bringUpBegun, State.driveEn5]
  · simp [State.bringUpBegun, State.driveEn5, hengs]
  · simp [State.bringUpBegun, State.driveEn5, hknd]

@[simp] theorem foreign_get (f : Fld) (i : Nat) (s : State) : (s.foreign i).get f = s.get f := rfl
@[simp] theorem foreign_slots (i : Nat) (s : State) : (s.foreign i).slots = s.slots := rfl
@[simp] theorem foreign_ledger (i : Nat) (s : State) : (s.foreign i).ledger = s.ledger := rfl
@[simp] theorem foreign_engs (i : Nat) (s : State) : (s.foreign i).engs = s.engs := rfl
@[simp] theorem foreign_knd (i : Nat) (s : State) : (s.foreign i).knd = s.knd := rfl

/-- Showing the ID memory changes the two fields it shows, no other, and nothing bring-up goes on with. -/
theorem idShown_keeps (i : Nat) (hda : Hda) (mine : List Nat) (s : State) :
    (∀ f : Fld, f.key ≠ (R.SLOT_STATUS_ASSIST_KIND i).key → f.key ≠ (R.SLOT_STATUS_MODAREA_VALID i).key →
        (s.idShown i hda mine).get f = s.get f) ∧
      (s.idShown i hda mine).slots = s.slots ∧ (s.idShown i hda mine).ledger = s.ledger ∧
      (s.idShown i hda mine).engs = s.engs ∧ (s.idShown i hda mine).knd = s.knd := by
  have hset (v w : Nat) (f : Fld) (hkind : f.key ≠ (R.SLOT_STATUS_ASSIST_KIND i).key)
      (hvalid : f.key ≠ (R.SLOT_STATUS_MODAREA_VALID i).key) :
      ((s.set (R.SLOT_STATUS_ASSIST_KIND i) v).set (R.SLOT_STATUS_MODAREA_VALID i) w).get f = s.get f := by
    rw [State.get_set_ne _ hvalid, State.get_set_ne _ hkind]
  rw [State.idShown]
  split
  case h_1 => exact ⟨fun f hk hv => (State.get_event ..).trans (hset _ _ f hk hv), by simp, by simp, by simp, by simp⟩
  case h_2 c _ =>
    by_cases hmine : c.writer = mine
    · simp only [hmine, if_true]
      exact ⟨hset _ _, by simp, by simp, by simp, by simp⟩
    · simp only [hmine, if_false]
      refine ⟨fun f hk hv => ?_, by simp, by simp, by simp, by simp⟩
      rw [foreign_get, State.get_event, hset _ _ f hk hv]

/-- An HDA that passes goes on to its measurements, with both rails on. -/
theorem bringUp_passes (h : passesBringUp s i hda meas) :
    s.bringUp i hda meas =
      (((s.bringUpBegun i hda meas).idShown i hda s.mySerial).driveEn12 i 1).measureSlot i hda meas := by
  obtain ⟨hid, hact, hledger, hrets, -⟩ := h
  obtain ⟨hident0, -⟩ := hact 0 (by decide)
  obtain ⟨hident1, -⟩ := hact 1 (by decide)
  obtain ⟨hstate, -, -, -, hled, -⟩ := bringUpBegun_shows i hda meas s
  obtain ⟨hget, -, hledId, -⟩ := idShown_keeps i hda s.mySerial (s.bringUpBegun i hda meas)
  generalize hu : ((s.bringUpBegun i hda meas).idShown i hda s.mySerial).driveEn12 i 1 = u
  have hrecall : u.recallRetired i = u := recallRetired_none fun e he => hledger e (by
    rwa [← hu, State.driveEn12, State.setB_eq, State.set_ledger, hledId, hled] at he)
  have hstateu : u.get (R.SLOT_STATUS_STATE i) = 2 := by
    rw [← hu, get_driveEn12_ne _ (by simp [Fld.key]), hget _ (by simp [Fld.key]) (by simp [Fld.key]), hstate]
  have hvalid : (!hda.answers || !hda.factory.sound || !(decide (hda.factory.assistKind = 1) || decide (hda.factory.assistKind = 2))) =
      false := by
    simp only [Bool.and_eq_true] at hid
    obtain ⟨⟨hans, hsound⟩, hkind⟩ := hid
    rw [hans, hsound, hkind]; rfl
  cases hm : modInForce hda with
  | none =>
    simp only [State.idShown, State.bringUpBegun, hm] at hu
    simp only [State.bringUp, hvalid, hm, State.forAll_cons, State.forAll_nil, hident0, hident1, if_true, Bool.false_eq_true, if_false,
      hu, hrecall, hstateu]
    exact if_neg (by decide)
  | some c =>
    have hagain : u.retireAgain i c = u := by rw [State.retireAgain, hrets c hm, State.forAll_nil]
    simp only [State.idShown, State.bringUpBegun, hm] at hu
    simp only [State.bringUp, hvalid, hm, State.forAll_cons, State.forAll_nil, hident0, hident1, if_true, Bool.false_eq_true, if_false,
      hu, hrecall, hagain, hstateu]
    exact if_neg (by decide)

/-- Once its measurements pass a slot is at STATE 4 and Noon, its other fields as bring-up set them. -/
theorem measureSlot_shows (h : passesBringUp s i hda meas) {u : State} (hcable : (u.slot i).cableRetired = false) :
    (u.measureSlot i hda meas).get (R.SLOT_STATUS_STATE i) = 4 ∧ (u.measureSlot i hda meas).get (R.SPIN_CTRL_SETPOINT i) = 2 ∧
      (∀ f : Fld, slotKey f.key = true → f.key ≠ (R.SLOT_STATUS_STATE i).key → f.key ≠ (R.SPIN_CTRL_SETPOINT i).key →
        (u.measureSlot i hda meas).get f = u.get f) ∧
      (u.measureSlot i hda meas).engs = u.engs ∧ (u.measureSlot i hda meas).knd = u.knd := by
  rw [measureSlot_passes h hcable]
  generalize hm : ((u.set (R.SLOT_STATUS_STATE i) 3).showMeas i hda.factory meas).trimsLoaded i hda.factory meas = m
  have hview : slotView m = slotView (u.set (R.SLOT_STATUS_STATE i) 3) := by
    rw [← hm, slot_trimsLoaded]
    exact slot_of_mech (mech_showMeas ..)
  obtain ⟨hengs, hknd⟩ := slotView_host hview
  obtain ⟨hstateR, hsetR, hkeptR, hengsR, hkndR⟩ := madeReady_shows i hda.factory.serial m
  refine ⟨hstateR, hsetR, fun f hf hstate hset => ?_, hengsR.trans hengs, hkndR.trans hknd⟩
  rw [hkeptR f hf hstate hset, slotView_get hview hf, State.get_set_ne _ hstate]

/-- Bring-up of an HDA that passes makes its slot ready, and touches no engine, no start and no POWER_OFF. -/
theorem bringUp_ready (h : passesBringUp s i hda meas) (hcable : (s.slot i).cableRetired = false) :
    ReadySlot i (s.bringUp i hda meas) ∧
      (s.bringUp i hda meas).get (R.SLOT_CTRL_POWER_OFF i) = s.get (R.SLOT_CTRL_POWER_OFF i) ∧
      (s.bringUp i hda meas).engs = s.engs ∧ (s.bringUp i hda meas).knd = s.knd := by
  obtain ⟨-, hen5, hoff, hcableB, -, hengsB, hkndB⟩ := bringUpBegun_shows i hda meas s
  obtain ⟨hgetD, hslotsD, -, hengsD, hkndD⟩ := idShown_keeps i hda s.mySerial (s.bringUpBegun i hda meas)
  rw [bringUp_passes h]
  generalize s.bringUpBegun i hda meas = b at *
  generalize b.idShown i hda s.mySerial = d at *
  have hcableD : ((d.driveEn12 i 1).slot i).cableRetired = false := by
    simp only [State.driveEn12, State.setB_eq, State.slot_set]
    rw [State.slot, hslotsD]
    exact hcableB.trans hcable
  obtain ⟨hstate, hset, hget, hengs, hknd⟩ := measureSlot_shows h hcableD
  have hctrl {lo n rst : Nat} (hlo : lo < 32) : (R.SLOT_CTRL_POWER_OFF i).key ≠ (⟨A.SLOT_STATUS i, lo, n, rst⟩ : Fld).key :=
    key_ne_of_addr (by simp) hlo (by simp)
  have hspin {lo n rst : Nat} (hlo : lo < 32) : (⟨A.SLOT_STATUS i, lo, n, rst⟩ : Fld).key ≠ (R.SPIN_CTRL_SETPOINT i).key :=
    key_ne_of_addr hlo (by simp) (by simp)
  refine ⟨⟨hstate, ?_, ?_, hset⟩, ?_, hengs.trans (hengsD.trans hengsB), hknd.trans (hkndD.trans hkndB)⟩
  · rw [hget _ (slotKey_EN5 i) (by simp [Fld.key]) (hspin (by decide)), get_driveEn12_ne _ (by simp [Fld.key]),
      hgetD _ (by simp [Fld.key]) (by simp [Fld.key]), hen5]
  · rw [hget _ (slotKey_EN12 i) (by simp [Fld.key]) (hspin (by decide)), get_driveEn12_same]
    rfl
  · rw [hget _ (slotKey_POWER_OFF i) (hctrl (by decide)) (key_ne_of_addr (by simp) (by simp) (by simp)),
      get_driveEn12_ne _ (hctrl (by decide)), hgetD _ (hctrl (by decide)) (hctrl (by decide)), hoff]

/-- A ready slot is ready once the step is over, its write recorded or not. -/
theorem ReadySlot.of_get {t u : State} (h : ReadySlot i t) (hu : ∀ f, u.get f = t.get f) :
    u.get (R.SLOT_STATUS_STATE i) = 4 ∧ u.get (R.SLOT_STATUS_EN5 i) = 1 ∧ u.get (R.SLOT_STATUS_EN12 i) = 1 ∧
      u.get (R.SPIN_CTRL_SETPOINT i) = 2 := by
  obtain ⟨hstate, hen5, hen12, hset⟩ := h
  simp only [hu]
  exact ⟨hstate, hen5, hen12, hset⟩

/-- What bring-up asks of an HDA asks of the state its ledger alone. -/
theorem passesBringUp_ledger {t : State} (h : passesBringUp s i hda meas) (ht : t.ledger = s.ledger) : passesBringUp t i hda meas := by
  rwa [passesBringUp, ht]

/-- An insertion in an enabled slot, neither its cable path nor its front-end retired, makes the slot ready (R55, R56). -/
theorem slotInsertion_ready (h : passesBringUp s i hda meas) (hempty : s.get (R.SLOT_STATUS_PRESENT i) = 0)
    (hen : s.get (R.SLOT_CTRL_ENABLE i) = 1) (hcable : (s.slot i).cableRetired = false) (hfront : (s.slot i).frontRetired = false) :
    ReadySlot i (slotInsertion i hda meas s) := by
  have hins : slotInsertion i hda meas s =
      ((s.set (R.SLOT_STATUS_PRESENT i) 1).setSlot i { s.slot i with hda := some hda, meas := some meas }).bringUp i hda meas := by
    simp [slotInsertion, hempty, hen, hcable, hfront]
  obtain ⟨hready, -⟩ := bringUp_ready (s := (s.set (R.SLOT_STATUS_PRESENT i) 1).setSlot i
    { s.slot i with hda := some hda, meas := some meas }) (passesBringUp_ledger h (by simp)) (by simp [hcable])
  rwa [hins]

section Rebring
variable {p : Path} {w : Word} (h : passesBringUp s i hda meas) (hrefused : s.get (R.SLOT_STATUS_STATE i) = 5)
  (hcable : (s.slot i).cableRetired = false) (hhda : (s.slot i).hda = some hda) (hmeas : (s.slot i).meas = some meas)
  (hrebring : (R.SLOT_CTRL_REBRING i).of w.toNat = 1) (hoff : (R.SLOT_CTRL_POWER_OFF i).of w.toNat = 0)
include h hrefused hcable hhda hmeas hrebring hoff

/-- A write of 1 to REBRING, with POWER_OFF at 0, brings a refused slot's HDA up and no more (R58). -/
theorem slotCtrlActs_rebring :
    (s.slotCtrlWritten p i w.toNat).slotCtrlActs i w.toNat = (s.slotCtrlWritten p i w.toNat).bringUp i hda meas ∧
      ReadySlot i ((s.slotCtrlWritten p i w.toNat).bringUp i hda meas) ∧
      ((s.slotCtrlWritten p i w.toNat).bringUp i hda meas).engs = s.engs ∧
      ((s.slotCtrlWritten p i w.toNat).bringUp i hda meas).knd = s.knd := by
  have hup := bringUp_ready (s := s.slotCtrlWritten p i w.toNat) (passesBringUp_ledger h (by simp)) (by simp [hcable])
  rw [slotCtrlWritten_get_POWER_OFF, hoff, slotCtrlWritten_engs, slotCtrlWritten_knd] at hup
  have hbring : (s.slotCtrlWritten p i w.toNat).rebring i = (s.slotCtrlWritten p i w.toNat).bringUp i hda meas := by
    simp [State.rebring, hrefused, hhda, hmeas]
  generalize (s.slotCtrlWritten p i w.toNat).bringUp i hda meas = b at *
  obtain ⟨hready, hpower, hengs, hknd⟩ := hup
  refine ⟨?_, hready, hengs, hknd⟩
  simp [State.slotCtrlActs, hrebring, hbring, hpower, State.powerOff, hready.state]

end Rebring

/-- Settles O9: the insertion and the write of REBRING both come to the bring-up of `bringUp_ready`. -/
theorem slotBecomesReady : Obligations.SlotBecomesReady := by
  intro s i hda meas h
  constructor
  case left =>
    intro hrun hempty hen hcable hfront
    exact ⟨_, exec_slotInsertion hrun i hda meas, (slotInsertion_ready h hempty hen hcable hfront).of_get fun f => State.get_after ..⟩
  case right =>
    intro p w hw hrefused hcable hhda hmeas hrebring hoff
    obtain ⟨hacts, hready, hengs, hknd⟩ := slotCtrlActs_rebring (p := p) h hrefused hcable hhda hmeas hrebring hoff
    refine ⟨_, act_slotCtrl hw i w hacts (by rw [hready.state]; decide) hengs hknd, hready.of_get fun f => ?_⟩
    rw [State.get_after, recordWrite_get]

end Sys2Proof.Machine

namespace Sys2Proof.Machine

/-! ## Where the fields of spindles, actuators and heads lie (R91, R126) -/

/-- Two fields have one place when their registers and their low bits are the same. -/
@[simp] theorem key_eq_iff {a b lo lo' w w' r r' : Nat} (h : lo < 32) (h' : lo' < 32) :
    Fld.key ⟨a, lo, w, r⟩ = Fld.key ⟨b, lo', w', r'⟩ ↔ a = b ∧ lo = lo' := by
  simp only [Fld.key]; omega

/-- The key of a field of a head: its registers lie from 0x100 on in a slot block. -/
def headKey (k : Nat) : Bool := 0x100000 ≤ k / 32 && 0x100 ≤ k / 32 % 0x1000

/-- A field of a register that lies in no head's part of a slot block. -/
theorem headKey_aside {a lo w r : Nat} (ha : a % 0x1000 < 0x100) (hlo : lo < 32) : headKey (Fld.key ⟨a, lo, w, r⟩) = false := by
  rw [Fld.key, Bool.eq_false_iff]
  simp only [headKey, ne_eq, Bool.and_eq_true, decide_eq_true_eq]
  omega

/-- A field of a register of a head. -/
theorem headKey_head {a lo w r : Nat} (ha : 0x100000 ≤ a ∧ 0x100 ≤ a % 0x1000) (hlo : lo < 32) :
    headKey (Fld.key ⟨a, lo, w, r⟩) = true := by
  rw [Fld.key]
  simp only [headKey, Bool.and_eq_true, decide_eq_true_eq]
  omega

/-- The key of a field of a spindle: SPIN_CTRL to SPIN_BEMF of a slot block (R91). -/
def spinKey (k : Nat) : Bool := 0x100000 ≤ k / 32 && 0x80 ≤ k / 32 % 0x1000 && k / 32 % 0x1000 < 0xC0

@[simp] theorem spinKey_block {off i lo w r : Nat} (hoff : 0x100080 ≤ off) (hoff' : off < 0x1000C0) (hlo : lo < 32) :
    spinKey (Fld.key ⟨off + i * 0x1000, lo, w, r⟩) = true := by
  rw [Fld.key]
  simp only [spinKey, Bool.and_eq_true, decide_eq_true_eq]
  omega

/-- A spindle's field is none of a head's. -/
theorem spinKey_headKey {k : Nat} (h : spinKey k = true) : headKey k = false := by
  simp only [spinKey, Bool.and_eq_true, decide_eq_true_eq] at h
  rw [Bool.eq_false_iff]
  simp only [headKey, ne_eq, Bool.and_eq_true, decide_eq_true_eq]
  omega

/-- A spindle's field lies in no register of another part of a slot block. -/
theorem spinKey_ne {k a lo w r : Nat} (h : spinKey k = true) (ha : a % 0x1000 < 0x80 ∨ 0xC0 ≤ a % 0x1000) (hlo : lo < 32) :
    k ≠ Fld.key ⟨a, lo, w, r⟩ := by
  simp only [spinKey, Bool.and_eq_true, decide_eq_true_eq] at h
  simp only [Fld.key]
  omega

/-! ## What the heads' part of positioning leaves as it was (R99, R103, R147, R152) -/

/-- A view of the state that shows no field of a head and nothing of what heads, actuators, gates, preamps and the recorder hold,
nor what is reported of sectors. -/
structure HeadsAside {β : Type} (q : State → β) : Prop where
  set : ∀ (s : State) (f : Fld) (v : Nat), headKey f.key = true → q (s.set f v) = q s
  setHead : ∀ (s : State) (g : Nat) (x : HeadSt), q (s.setHead g x) = q s
  setActu : ∀ (s : State) (m : Nat) (x : Actu), q (s.setActu m x) = q s
  gates : ∀ (s : State) (l : List Nat), q { s with gates := l } = q s
  event : ∀ (s : State) (c o p0 p1 p2 p3 : Nat), q (s.event c o p0 p1 p2 p3) = q s
  voidRun : ∀ (s : State) (g target n : Nat), q (s.voidRun g target n) = q s
  noteUnwritten : ∀ (s : State) (g target n : Nat), q (s.noteUnwritten g target n) = q s
  reports : ∀ (s : State) (p : Pool) (k : Stoker), q { s with pool := p, stk := k } = q s
  links : ∀ (s : State) (l : Tbl Nat) (o : List Out), q { s with preamp := l, outs := o } = q s

/-- A field that is none of a head's is such a view. -/
theorem headsAside_get {f : Fld} (h : headKey f.key = false) : HeadsAside (State.get f) where
  set s g v hg := State.get_set_ne s (fun e => by rw [e, hg] at h; cases h) v
  setHead _ _ _ := rfl
  setActu _ _ _ := rfl
  gates _ _ := rfl
  event _ _ _ _ _ _ _ := rfl
  voidRun _ _ _ _ := rfl
  noteUnwritten _ _ _ _ := rfl
  reports _ _ _ := rfl
  links _ _ _ := rfl

theorem headsAside_spins : HeadsAside State.spins := by
  constructor <;> intros <;> rfl

/-- So are the engines and what is asked of the starts. -/
theorem headsAside_engs_knd : HeadsAside fun s => (s.engs, s.knd) := by
  constructor <;> intros <;> rfl

@[simp] theorem headKey_HEAD_PES (g : Nat) {lo w r : Nat} (h : lo < 32) : headKey (Fld.key ⟨A.HEAD_PES g, lo, w, r⟩) = true :=
  headKey_head (by simp; omega) h
@[simp] theorem headKey_HEAD_UP (g : Nat) {lo w r : Nat} (h : lo < 32) : headKey (Fld.key ⟨A.HEAD_UP g, lo, w, r⟩) = true :=
  headKey_head (by simp; omega) h
@[simp] theorem headKey_HEAD_POS_COUNT (g : Nat) {lo w r : Nat} (h : lo < 32) :
    headKey (Fld.key ⟨A.HEAD_POS_COUNT g, lo, w, r⟩) = true := headKey_head (by simp; omega) h
@[simp] theorem headKey_HEAD_DEFECT_COUNT (g : Nat) {lo w r : Nat} (h : lo < 32) :
    headKey (Fld.key ⟨A.HEAD_DEFECT_COUNT g, lo, w, r⟩) = true := headKey_head (by simp; omega) h

section HeadsAside
variable {β : Type} {q : State → β} (hq : HeadsAside q) (s : State)
include hq

theorem HeadsAside.count {f : Fld} (hf : headKey f.key = true) (n : Nat) : q (s.count f n) = q s := hq.set s f _ hf

theorem HeadsAside.leave (stays : Bool) (g : Nat) : q (State.leave stays g s) = q s := by
  simp [State.leave, view_ite q, hq.set, hq.count, hq.setHead]

theorem HeadsAside.tear (x : Nat) (stays : Bool) (g : Nat) : q (s.tear x stays g) = q s := by
  have hrewrite (t : State) (a b c : Nat) : q (t.mayRewrite a b c) = q t := hq.setHead ..
  simp only [State.tear]
  split
  · exact hq.gates ..
  · simp [view_ite q, State.when_keeps _ q, hq.event, hq.count, hq.setHead, hq.gates, hq.voidRun, hq.noteUnwritten, hrewrite]

theorem HeadsAside.tearAll (x : Nat) (gs : List Nat) : q (s.tearAll x gs) = q s := State.forAll_keeps s q _ _ fun g t => hq.tear t x false g

theorem HeadsAside.reportBlocks (row col : Nat) (l : List Nat) : q (s.reportBlocks row col l) = q s := hq.reports s s.pool _

theorem HeadsAside.endReads (gs : List Nat) : q (s.endReads gs) = q s := by
  rw [State.endReads, State.forAll_keeps _ q _ _ fun g t => hq.setHead ..]
  exact hq.reports ..

theorem HeadsAside.endTransfer (m : Nat) : q (s.endTransfer m) = q s := by
  have hheads (t : State) : q (t.forAll (headsOf m) fun g t => t.setHead g { t.head g with chunk := none, wrote := 0, stop := none, held := none }) =
      q t := State.forAll_keeps t q _ _ fun g t => hq.setHead ..
  simp only [State.endTransfer, hq.endReads, hq.setActu, hheads]
  (repeat' split) <;> simp [hq.reportBlocks]

theorem HeadsAside.linksOnly {s t : State} (h : linksOnly s t) : q t = q s := by
  obtain ⟨l, o, rfl⟩ := h
  exact hq.links s l o

theorem HeadsAside.preampRest (m mode : Nat) : q (s.preampRest m mode) = q s := hq.linksOnly (preampRest_linksOnly s m mode)

end HeadsAside

/-! ## An actuator's masks, set limit and unload (R98, R119, R126) -/

theorem masks_get {s : State} {m : Nat} {f : Fld} (hset : f.key ≠ (R.ACT_STATUS_SET_MASK m).key)
    (hfollow : f.key ≠ (R.ACT_STATUS_FOLLOW_MASK m).key) : (s.masks m).get f = s.get f := by
  simp [State.masks, hset, hfollow]

@[simp] theorem masks_spins (s : State) (m : Nat) : (s.masks m).spins = s.spins := rfl
@[simp] theorem masks_actu (s : State) (m n : Nat) : (s.masks m).actu n = s.actu n := rfl

/-- The set limit of an actuator moves its SET_LIMIT, its masks and its heads alone. -/
theorem fitSet_get {s : State} {m : Nat} {f : Fld} (hhead : headKey f.key = false) (hlimit : f.key ≠ (R.ACT_STATUS_SET_LIMIT m).key)
    (hset : f.key ≠ (R.ACT_STATUS_SET_MASK m).key) (hfollow : f.key ≠ (R.ACT_STATUS_FOLLOW_MASK m).key) :
    (s.fitSet m).get f = s.get f := by
  have hq := headsAside_get hhead
  rw [State.fitSet, masks_get hset hfollow, State.forAll_keeps _ (State.get f) _ _ fun g t => hq.leave t false g,
    State.forAll_keeps _ (State.get f) _ _ fun g t => hq.setHead .., State.get_set_ne _ hlimit]

@[simp] theorem fitSet_spins (s : State) (m : Nat) : (s.fitSet m).spins = s.spins := by
  rw [State.fitSet, masks_spins, State.forAll_keeps _ State.spins _ _ fun g t => headsAside_spins.leave t false g,
    State.forAll_keeps _ State.spins _ _ fun g t => headsAside_spins.setHead .., State.set_spins]

/-- The heads' part of an unload: their gates closed, the transfer ended, none following. -/
def State.headsUnloaded (x m : Nat) (s : State) : State :=
  let s1 := (s.tearAll x (headsOf m)).endTransfer m
  s1.forAll ((headsOf m).filter s1.following) (State.leave false)

theorem HeadsAside.headsUnloaded {β : Type} {q : State → β} (hq : HeadsAside q) (s : State) (x m : Nat) :
    q (s.headsUnloaded x m) = q s := by
  rw [State.headsUnloaded, State.forAll_keeps _ q _ _ fun g t => hq.leave t false g, hq.endTransfer, hq.tearAll]

/-- The unload of a loaded actuator: its heads' part, and what it shows. -/
theorem unload_loaded {s : State} {m : Nat} (h : s.loaded m = true) (emerg : Bool) (x : Nat) :
    ∃ y, s.unload emerg x m =
      ((((((((s.headsUnloaded x m).set (R.ACT_STATUS_STATE m) 5).setB (R.ACT_STATUS_EMERG m) emerg).set (R.ACT_TARGET_MODE m) 0).set
        (R.ACT_TARGET_ACCEL m) 0).masks m).setActu m y).preampRest m 1).when emerg (State.count (R.ACT_COUNT_EMERG_UNLOADS m) 1) := by
  simp only [State.unload, h, if_true]
  exact ⟨_, rfl⟩

theorem unload_not_loaded {s : State} {m : Nat} (h : s.loaded m = false) (emerg : Bool) (x : Nat) : s.unload emerg x m = s := by
  simp [State.unload, h]

@[simp] theorem preampRest_get (s : State) (m mode : Nat) (f : Fld) : (s.preampRest m mode).get f = s.get f := by
  obtain ⟨_, _, h⟩ := preampRest_linksOnly s m mode
  rw [h]; rfl

@[simp] theorem preampRest_spins (s : State) (m mode : Nat) : (s.preampRest m mode).spins = s.spins :=
  headsAside_spins.preampRest s m mode

/-- The fields of an actuator that an unload writes. -/
def unloadFlds (m : Nat) : List Fld :=
  [R.ACT_STATUS_STATE m, R.ACT_STATUS_EMERG m, R.ACT_TARGET_MODE m, R.ACT_TARGET_ACCEL m, R.ACT_STATUS_SET_MASK m,
    R.ACT_STATUS_FOLLOW_MASK m, R.ACT_COUNT_EMERG_UNLOADS m]

/-- An unload leaves every field but those of its heads and of `unloadFlds`. -/
theorem unload_get {s : State} {m : Nat} {f : Fld} (hhead : headKey f.key = false) (hf : ∀ g ∈ unloadFlds m, f.key ≠ g.key)
    (emerg : Bool) (x : Nat) : (s.unload emerg x m).get f = s.get f := by
  cases h : s.loaded m with
  | false => rw [unload_not_loaded h]
  | true =>
    obtain ⟨y, hy⟩ := unload_loaded h emerg x
    simp only [unloadFlds, List.forall_mem_cons] at hf
    obtain ⟨hstate, hemerg, hmode, haccel, hset, hfollow, hcount, -⟩ := hf
    rw [hy, State.when_keeps _ (State.get f) _ _ fun t => get_count_ne hcount 1, preampRest_get, State.get_setActu, masks_get hset hfollow,
      State.get_set_ne _ haccel, State.get_set_ne _ hmode, State.setB_eq, State.get_set_ne _ hemerg, State.get_set_ne _ hstate,
      (headsAside_get hhead).headsUnloaded]

/-- A loaded actuator unloads (R119). -/
theorem unload_shows {s : State} {m : Nat} (h : s.loaded m = true) (emerg : Bool) (x : Nat) :
    (s.unload emerg x m).get (R.ACT_STATUS_STATE m) = 5 ∧ (s.unload emerg x m).get (R.ACT_STATUS_EMERG m) = emerg.toNat := by
  obtain ⟨y, hy⟩ := unload_loaded h emerg x
  rw [hy]
  cases emerg <;> simp [masks_get, State.count_eq]

@[simp] theorem unload_spins (s : State) (emerg : Bool) (x m : Nat) : (s.unload emerg x m).spins = s.spins := by
  cases h : s.loaded m with
  | false => rw [unload_not_loaded h]
  | true =>
    obtain ⟨y, hy⟩ := unload_loaded h emerg x
    rw [hy]
    cases emerg <;> simp [State.count_eq, headsAside_spins.headsUnloaded]

@[simp] theorem unload_spin (s : State) (emerg : Bool) (x m i : Nat) : (s.unload emerg x m).spin i = s.spin i := by
  simp [State.spin]

/-- An unload leaves every spindle's registers. -/
theorem unload_spinKey (s : State) {f : Fld} (hf : spinKey f.key = true) (emerg : Bool) (x m : Nat) :
    (s.unload emerg x m).get f = s.get f := by
  refine unload_get (spinKey_headKey hf) ?_ emerg x
  simp only [unloadFlds, List.forall_mem_cons, List.not_mem_nil, false_implies, implies_true, and_true]
  refine ⟨?_, ?_, ?_, ?_, ?_, ?_, ?_⟩ <;> exact spinKey_ne hf (by simp; omega) (by decide)

end Sys2Proof.Machine

namespace Sys2Proof.Machine

/-! ## What the operations of a spindle show (R64, R70, R73, R76, R91) -/

variable (s : State)

@[simp] theorem phases_get (i : Nat) (on : Bool) (f : Fld) : (s.phases i on).get f = s.get f := rfl
@[simp] theorem phases_spin (i : Nat) (on : Bool) (j : Nat) : (s.phases i on).spin j = s.spin j := rfl

@[simp] theorem setRef_get_REF (i v : Nat) : (s.setRef i v).get (R.SPIN_REF_REF i) = v % 2 ^ 17 := by simp [State.setRef]
@[simp] theorem setRef_get_ne {i : Nat} {f : Fld} (h : f.key ≠ (R.SPIN_REF_REF i).key) (v : Nat) :
    (s.setRef i v).get f = s.get f := by simp [State.setRef, h]
@[simp] theorem setRef_spin_same (i v : Nat) : (s.setRef i v).spin i = { s.spin i with refFine := v * 1000000000 } := by
  simp [State.setRef]

@[simp] theorem serviceShown_get_ne {i : Nat} {f : Fld} (h : f.key ≠ (R.SPIN_STATUS_SERVICE i).key) :
    (s.serviceShown i).get f = s.get f := by simp [State.serviceShown, h]
@[simp] theorem serviceShown_spin (i j : Nat) : (s.serviceShown i).spin j = s.spin j := rfl

/-- A state that is entered is shown. -/
theorem enterSp_get_STATE (i : Nat) {st : Nat} (h : st < 16) : (s.enterSp i st).get (R.SPIN_STATUS_STATE i) = st := by
  simp only [State.enterSp]
  (repeat' split) <;> simp [Nat.mod_eq_of_lt h]

/-- Entering a state but STOPPED moves STATE, SERVICE, ADVANCE, RAMPING and HELD alone. -/
theorem enterSp_get_ne {i st : Nat} (hst : st ≠ Sp.stopped) {f : Fld} (hstate : f.key ≠ (R.SPIN_STATUS_STATE i).key)
    (hservice : f.key ≠ (R.SPIN_STATUS_SERVICE i).key) (hadvance : f.key ≠ (R.SPIN_STATUS_ADVANCE i).key)
    (hramping : f.key ≠ (R.SPIN_REF_RAMPING i).key) (hheld : f.key ≠ (R.SPIN_REF_HELD i).key) :
    (s.enterSp i st).get f = s.get f := by
  simp only [State.enterSp, hst, if_false]
  split <;> simp [hstate, hservice, hadvance, hramping, hheld]

/-- Entering RAMP moves STATE and SERVICE alone. -/
theorem enterSp_ramp_get_ne {i : Nat} {f : Fld} (hstate : f.key ≠ (R.SPIN_STATUS_STATE i).key)
    (hservice : f.key ≠ (R.SPIN_STATUS_SERVICE i).key) : (s.enterSp i Sp.ramp).get f = s.get f := by
  simp [State.enterSp, hstate, hservice]

/-- Phase advance ends with RAMP (R68). -/
theorem enterSp_get_ADVANCE (i : Nat) {st : Nat} (h : st ≠ Sp.ramp) : (s.enterSp i st).get (R.SPIN_STATUS_ADVANCE i) = 0 := by
  simp only [State.enterSp, h, if_false]
  split <;> simp

/-- What a spindle holds in a state but STOPPED that it enters. -/
theorem enterSp_spin (i : Nat) {st : Nat} (h : st ≠ Sp.stopped) :
    (s.enterSp i st).spin i = { s.spin i with
      recoverSense := st = Sp.sense && (s.spin i).recoverSense
      starting := st = Sp.align || ((s.spin i).starting && st != Sp.stopped && st != Sp.failed)
      brakeAt := if Sp.brakes st && !Sp.brakes (s.spState i) then s.now else (s.spin i).brakeAt
      senseFirst := false, trip := none } := by
  simp only [State.enterSp, h, if_false]
  split <;> simp

theorem enterSp_spin_ne {i j st : Nat} (h : st ≠ Sp.stopped) (hij : j ≠ i) : (s.enterSp i st).spin j = s.spin j := by
  simp only [State.enterSp, h, if_false]
  split <;> simp [State.spin_setSpin, hij]

@[simp] theorem senseShown_get_RESULT (i speed : Nat) (rev : Bool) {res : Nat} (h : res < 4) :
    (s.senseShown i speed rev res).get (R.SPIN_BEMF_SENSE_RESULT i) = res := by
  simp [State.senseShown, Nat.mod_eq_of_lt h]
@[simp] theorem senseShown_get_ne {i : Nat} {f : Fld} (h : f.addr ≠ A.SPIN_BEMF i) (hlo : f.lo < 32) (speed : Nat) (rev : Bool) (res : Nat) :
    (s.senseShown i speed rev res).get f = s.get f := by
  obtain ⟨a, lo, w, r⟩ := f
  simp only [A.SPIN_BEMF] at h hlo
  simp [State.senseShown, h, hlo]
@[simp] theorem senseShown_spin (i speed : Nat) (rev : Bool) (res j : Nat) :
    (s.senseShown i speed rev res).spin j = s.spin j := by simp [State.senseShown]

/-! ### The sense of a start and the catch (R73) -/

theorem startSense_get_STATE (i : Nat) : (s.startSense i).get (R.SPIN_STATUS_STATE i) = 1 := by
  rw [State.startSense, enterSp_get_STATE _ _ (by decide)]
theorem startSense_spin (i : Nat) : ((s.startSense i).spin i).waiting = false ∧ ((s.startSense i).spin i).starting = true := by
  rw [State.startSense, enterSp_spin _ _ (by decide)]
  simp

/-- A sense that begins moves nothing of another slot. -/
theorem startSense_get_ne {i : Nat} {f : Fld} (hstatus : f.addr ≠ A.SPIN_STATUS i) (href : f.addr ≠ A.SPIN_REF i) (hlo : f.lo < 32) :
    (s.startSense i).get f = s.get f := by
  obtain ⟨a, lo, w, r⟩ := f
  simp only [A.SPIN_STATUS, A.SPIN_REF] at hstatus href hlo
  rw [State.startSense, enterSp_get_ne] <;> simp [hstatus, href, hlo]
theorem startSense_spin_ne {i j : Nat} (h : j ≠ i) : (s.startSense i).spin j = s.spin j := by
  rw [State.startSense, enterSp_spin_ne _ (by decide) h, State.spin_setSpin, if_neg h]

/-- What a catch shows and holds (R68, R73, R82). -/
theorem catchAt_shows (i : Nat) (o : Origin) (speed emf : Nat) (times : List (Nat × Bool)) :
    (s.catchAt i o speed emf times).get (R.SPIN_STATUS_STATE i) = 6 ∧
      (s.catchAt i o speed emf times).get (R.SPIN_SPEED_SPEED i) = speed % 2 ^ 17 ∧
      (s.catchAt i o speed emf times).get (R.SPIN_REF_REF i) = speed % 2 ^ 17 ∧
      (s.catchAt i o speed emf times).get (R.SPIN_STATUS_ADVANCE i) = 1 ∧
      (s.catchAt i o speed emf times).get (R.SPIN_BEMF_SENSE_RESULT i) = s.get (R.SPIN_BEMF_SENSE_RESULT i) ∧
      ((s.catchAt i o speed emf times).spin i).duty = min 10000 (emf * 10000 / 12000) ∧
      ((s.catchAt i o speed emf times).spin i).waiting = (s.spin i).waiting := by
  rw [State.catchAt, enterSp_get_STATE _ _ (by decide), enterSp_spin _ _ (by decide)]
  refine ⟨rfl, ?_, ?_, ?_, ?_, ?_, ?_⟩ <;> simp [enterSp_ramp_get_ne]

end Sys2Proof.Machine

namespace Sys2Proof.Machine

/-! ## What a sense leads to (R72, R73, R90, R400) -/

variable {s : State} {i : Nat} {o : SenseObs}

section Start
variable (hstate : s.get (R.SPIN_STATUS_STATE i) = 1) (hrecover : (s.spin i).recoverSense = false)
  (hwait : (s.spin i).waiting = false)
include hstate hrecover hwait

/-- Forward rotation is caught above 600 rpm. -/
theorem spinSenseEnd_forward {v emf : Nat} (hfound : senseFound o = .forward v emf) :
    (spinSenseEnd i o s).get (R.SPIN_STATUS_STATE i) = (if s.get (R.SPIN_CTRL_SETPOINT i) = 0 ∨ v ≤ 6000 then 3 else 6) ∧
      (spinSenseEnd i o s).get (R.SPIN_BEMF_SENSE_RESULT i) =
        (if s.get (R.SPIN_CTRL_SETPOINT i) = 0 ∨ v ≤ 6000 then 3 else 1) := by
  by_cases hslow : s.get (R.SPIN_CTRL_SETPOINT i) = 0 ∨ v ≤ 6000
  · simp +decide [spinSenseEnd, State.spState, hstate, hrecover, hwait, hfound, hslow, enterSp_get_STATE, enterSp_get_ne]
  · obtain ⟨hst, -, -, -, hres, -⟩ := catchAt_shows (s.senseShown i v false 1) i .caught v emf (senseTimes o)
    simp +decide [spinSenseEnd, State.spState, hstate, hrecover, hwait, hfound, hslow, hst, hres]

/-- Backward rotation above 60 rpm is braked, and the start refused. -/
theorem spinSenseEnd_backward {v : Nat} (hfound : senseFound o = .backward v) :
    (spinSenseEnd i o s).get (R.SPIN_STATUS_STATE i) = (if s.get (R.SPIN_CTRL_SETPOINT i) = 0 ∨ v ≤ 600 then 3 else 2) ∧
      (spinSenseEnd i o s).get (R.SPIN_BEMF_SENSE_RESULT i) =
        (if s.get (R.SPIN_CTRL_SETPOINT i) = 0 ∨ v ≤ 600 then 3 else 2) := by
  by_cases hslow : s.get (R.SPIN_CTRL_SETPOINT i) = 0 ∨ v ≤ 600 <;>
    simp +decide [spinSenseEnd, State.spState, hstate, hrecover, hwait, hfound, hslow, enterSp_get_STATE, enterSp_get_ne, State.count_eq]

theorem spinSenseEnd_slow (hfound : senseFound o = .slow) :
    (spinSenseEnd i o s).get (R.SPIN_STATUS_STATE i) = 3 ∧ (spinSenseEnd i o s).get (R.SPIN_BEMF_SENSE_RESULT i) = 3 := by
  simp +decide [spinSenseEnd, State.spState, hstate, hrecover, hwait, hfound, enterSp_get_STATE, enterSp_get_ne]

/-- At rest the start goes on to ALIGN. -/
theorem spinSenseEnd_rest (hfound : senseFound o = .rest) :
    (spinSenseEnd i o s).get (R.SPIN_STATUS_STATE i) = (if s.get (R.SPIN_CTRL_SETPOINT i) = 0 then 3 else 4) ∧
      (spinSenseEnd i o s).get (R.SPIN_BEMF_SENSE_RESULT i) = 3 := by
  by_cases hmid : s.get (R.SPIN_CTRL_SETPOINT i) = 0 <;>
    simp +decide [spinSenseEnd, State.spState, hstate, hrecover, hwait, hfound, hmid, enterSp_get_STATE, enterSp_get_ne]

end Start

/-! ### The sense in braking -/

/-- In BRAKE_REVERSE forward rotation, and backward rotation above 60 rpm, is braked on; anything else leads to BRAKE_REST. -/
theorem brakeSense_reverse (hstate : s.get (R.SPIN_STATUS_STATE i) = 2) :
    (brakeSense i o s).get (R.SPIN_STATUS_STATE i) =
      (match senseFound o with
       | .forward _ _ => 2
       | .backward v => if v ≤ 600 then 3 else 2
       | _ => 3) := by
  cases hfound : senseFound o with
  | forward v emf => simp +decide [brakeSense, State.spState, hstate, hfound]
  | backward v =>
    by_cases hslow : v ≤ 600 <;> simp +decide [brakeSense, State.spState, hstate, hfound, hslow, enterSp_get_STATE]
  | slow => simp +decide [brakeSense, State.spState, hstate, hfound, enterSp_get_STATE]
  | rest => simp +decide [brakeSense, State.spState, hstate, hfound, enterSp_get_STATE]

/-- Entering STOPPED leaves what a sense has shown. -/
theorem enterSp_get_RESULT (s : State) (i st : Nat) :
    (s.enterSp i st).get (R.SPIN_BEMF_SENSE_RESULT i) = s.get (R.SPIN_BEMF_SENSE_RESULT i) := by
  simp only [State.enterSp]
  (repeat' split) <;> simp

/-- In BRAKE_REST only rest ends the braking. -/
theorem brakeSense_toRest (hstate : s.get (R.SPIN_STATUS_STATE i) = 3) :
    (brakeSense i o s).get (R.SPIN_STATUS_STATE i) =
        (match senseFound o with
         | .rest => if s.get (R.SPIN_CTRL_SETPOINT i) = 0 then 0 else 4
         | _ => 3) ∧
      (brakeSense i o s).get (R.SPIN_BEMF_SENSE_RESULT i) = 3 := by
  cases hfound : senseFound o with
  | rest =>
    by_cases hmid : s.get (R.SPIN_CTRL_SETPOINT i) = 0 <;>
      simp +decide [brakeSense, State.spState, brakeResult, hstate, hfound, hmid, enterSp_get_STATE, enterSp_get_RESULT]
  | forward v emf => simp +decide [brakeSense, State.spState, brakeResult, hstate, hfound]
  | backward v => simp +decide [brakeSense, State.spState, brakeResult, hstate, hfound]
  | slow => simp +decide [brakeSense, State.spState, brakeResult, hstate, hfound]

/-! ### The sense at supply recovery -/

/-- Slots that wait together start on their own registers: those of a slot that does not wait stay. -/
theorem startWaiting_get {f : Fld} (hwait : (s.spin i).waiting = false) (hf : f.addr / 0x1000 = 0x100 + i) (hlo : f.lo < 32) :
    s.startWaiting.get f = s.get f := by
  have hother (j : Nat) (hj : j ∈ s.waitingSlots) : j ≠ i := by
    rintro rfl
    simp [State.waitingSlots, hwait] at hj
  have hspinup : s.spinupOn.get f = s.get f := by
    simp only [State.spinupOn]
    split
    · rfl
    · exact State.get_set_ne s (f := R.SPINUP_CTRL_ACTIVE) (key_ne_of_addr hlo (by decide) (by simp; omega)) 1
  simp only [State.startWaiting]
  split
  · rfl
  · split
    · exact hspinup
    · refine State.forAll_induct (P := fun t => t.get f = s.get f) s _ _ rfl fun j hj t ht => ?_
      have hji := hother j hj
      rw [startSense_get_ne _ (by simp; omega) (by simp; omega) hlo, ht]

/-- A spindle that supply recovery finds turning forward at or above 4,800 rpm is caught (R400). -/
theorem spinSenseEnd_recover {v emf : Nat} (hstate : s.get (R.SPIN_STATUS_STATE i) = 1) (hrecover : (s.spin i).recoverSense = true)
    (hset : s.get (R.SPIN_CTRL_SETPOINT i) ≠ 0) (hfound : senseFound o = .forward v emf) (hfast : 48000 ≤ v) :
    (spinSenseEnd i o s).get (R.SPIN_STATUS_STATE i) = 6 ∧ (spinSenseEnd i o s).get (R.SPIN_SPEED_SPEED i) = v % 2 ^ 17 ∧
      (spinSenseEnd i o s).get (R.SPIN_BEMF_SENSE_RESULT i) = 1 := by
  generalize hu : (((s.setSpin i { s.spin i with recoverSense := false, waiting := false }).senseShown i v false 1).catchAt i .caught v
    emf (senseTimes o)).event Ev.SPIN_CAUGHT (origin 1 i) 0 0 0 0 = u
  have hcaught : spinSenseEnd i o s = if (List.range 32).any fun j => (u.spin j).recoverSense then u else u.startWaiting := by
    simp only [spinSenseEnd, State.spState, hstate, hrecover, State.recoverFound, hfound, hfast, if_true, hu]
    simp [hset]
  obtain ⟨hst, hspeed, -, -, hres, -, hwait⟩ := catchAt_shows ((s.setSpin i { s.spin i with recoverSense := false, waiting := false
    }).senseShown i v false 1) i .caught v emf (senseTimes o)
  have hwaitu : (u.spin i).waiting = false := by rw [← hu, State.spin_event, hwait]; simp
  have hkept {f : Fld} (hf : f.addr / 0x1000 = 0x100 + i) (hlo : f.lo < 32) : (spinSenseEnd i o s).get f = u.get f := by
    rw [hcaught]
    split
    · rfl
    · exact startWaiting_get hwaitu hf hlo
  rw [hkept (by simp; omega) (by simp), hkept (by simp; omega) (by simp), hkept (by simp; omega) (by simp), ← hu]
  simp [hst, hspeed, hres]

/-- Settles O10, by the cases of what the sense finds. -/
theorem spindleSenseDecides : Obligations.SpindleSenseDecides := by
  intro s slot o hrun
  refine ⟨fun hstate hrecover hwait => ?_, fun hstate => ?_, fun hstate => ?_, fun v emf hstate hrecover hset hfound hfast => ?_⟩
  · refine ⟨_, act_up hrun _, ?_, ?_, kept_of_host (by simp)⟩ <;> rw [State.get_after]
    all_goals cases hfound : senseFound o with
      | forward v emf => simp [spinSenseEnd_forward hstate hrecover hwait hfound]
      | backward v => simp [spinSenseEnd_backward hstate hrecover hwait hfound]
      | slow => simp [spinSenseEnd_slow hstate hrecover hwait hfound]
      | rest => simp [spinSenseEnd_rest hstate hrecover hwait hfound]
  · refine ⟨_, act_up hrun _, ?_, kept_of_host (by simp)⟩
    rw [State.get_after]
    exact brakeSense_reverse hstate
  · refine ⟨_, act_up hrun _, ?_⟩
    simp only [State.get_after]
    obtain ⟨hst, hres⟩ := brakeSense_toRest (o := o) hstate
    exact ⟨hst, hres, kept_of_host (by simp)⟩
  · refine ⟨_, act_up hrun _, ?_⟩
    simp only [State.get_after]
    obtain ⟨hst, hspeed, hres⟩ := spinSenseEnd_recover hstate hrecover hset hfound hfast
    exact ⟨hst, hspeed, hres, kept_of_host (by simp)⟩

end Sys2Proof.Machine

namespace Sys2Proof.Machine

/-! ## How a start goes on (R68, R74, R78, R81, R82, R87) -/

variable {s : State} (hrun : s.run = .up) (i : Slot)

/-- The blind ramp's reference is computed from no field but RAMP_RATE, and no state but BLIND shows it. -/
@[simp] theorem blindShown_get_ne {i : Nat} {f : Fld} (h : f.key ≠ (R.SPIN_REF_REF i).key) :
    (s.blindShown i).get f = s.get f := by
  simp only [State.blindShown]
  split <;> simp [h]

theorem blindShown_spin (i : Nat) : ∃ ref, (s.blindShown i).spin i = { s.spin i with refFine := ref } := by
  simp only [State.blindShown]
  split
  · exact ⟨_, setRef_spin_same ..⟩
  · exact ⟨_, rfl⟩

@[simp] theorem blindShown_spin_measured (i : Nat) : ((s.blindShown i).spin i).measured = (s.spin i).measured := by
  obtain ⟨ref, h⟩ := blindShown_spin (s := s) i
  rw [h]

@[simp] theorem blindShown_blindRef (i : Nat) : (s.blindShown i).blindRef i = s.blindRef i := by
  obtain ⟨ref, h⟩ := blindShown_spin (s := s) i
  have hnow : (s.blindShown i).now = s.now := by simp only [State.blindShown]; split <;> rfl
  simp [State.blindRef, h, hnow]

/-- A spindle in SPEED at Noon, below its window at full duty, is at its supply limit (R81). -/
theorem atSupplyLimit_of (hstate : s.get (R.SPIN_STATUS_STATE i) = 7) (hset : s.get (R.SPIN_CTRL_SETPOINT i) = 2)
    (hspeed : s.get (R.SPIN_SPEED_SPEED i) < 71640) (hduty : 10000 ≤ (s.spin i).duty) : s.atSupplyLimit i = true := by
  simp [State.atSupplyLimit, State.spState, hstate, hset, hspeed, hduty]

include hrun

/-- ALIGN_ELAPSED. -/
theorem exec_alignElapsed (hstate : s.get (R.SPIN_STATUS_STATE i) = 4) :
    ∃ t : State, exec (.alignElapsed i) s = .next t ∧ (
      t.get (R.SPIN_STATUS_STATE i) = 5 ∧ t.get (R.SPIN_REF_REF i) = 0 ∧ t.get (R.SPIN_REF_RAMPING i) = 1 ∧
      t.get (R.SPIN_STATUS_ADVANCE i) = 0 ∧ (t.spin i).blindAt = s.now ∧ (t.spin i).measured = 0 ∧
      dataKept s t ∧ hostKept s t) := by
  refine ⟨_, act_up hrun _, ?_⟩
  have hkept : hostView ((alignElapsed i s).after s) = hostView s := by simp
  simp only [State.get_after, State.spin_after]
  refine ⟨?_, ?_, ?_, ?_, ?_, ?_, kept_of_host hkept⟩ <;>
    simp +decide [alignElapsed, State.spState, hstate, enterSp_get_STATE, enterSp_get_ADVANCE, enterSp_get_ne, enterSp_spin]

/-- BLIND_HANDOVER. -/
theorem exec_blindHandover (hstate : s.get (R.SPIN_STATUS_STATE i) = 5) (hmeasured : 6 ≤ (s.spin i).measured) (href : 6000 ≤ s.blindRef i) :
    ∃ t : State, exec (.blindHandover i) s = .next t ∧ (
      t.get (R.SPIN_STATUS_STATE i) = 6 ∧ t.get (R.SPIN_REF_REF i) = s.blindRef i % 2 ^ 17 ∧
      t.get (R.SPIN_STATUS_ADVANCE i) = 1 ∧ t.get (R.SPIN_REF_RAMPING i) = 1 ∧ dataKept s t ∧ hostKept s t) := by
  refine ⟨_, act_up hrun _, ?_⟩
  have hkept : hostView ((blindHandover i s).after s) = hostView s := by simp
  have hshown : (s.blindShown i).get (R.SPIN_REF_REF i) = s.blindRef i % 2 ^ 17 := by
    simp [State.blindShown, State.spState, hstate]
  simp only [State.get_after]
  refine ⟨?_, ?_, ?_, ?_, kept_of_host hkept⟩ <;>
    simp +decide [blindHandover, State.spState, hstate, hmeasured, href, hshown, enterSp_get_STATE, enterSp_ramp_get_ne]

/-- TRANSFER_WINDOW_RESUME. -/
theorem exec_transferWindowResume (hwindow : inWindow (s.get (R.SPIN_CTRL_SETPOINT i)) (s.get (R.SPIN_SPEED_SPEED i)) = true)
    (hinside : 48 ≤ (s.spin i).inside) (hstate : s.get (R.SPIN_STATUS_STATE i) = 6 ∨ s.get (R.SPIN_STATUS_STATE i) = 7) :
    ∃ t : State, exec (.transferWindowResume i) s = .next t ∧ (
      t.get (R.SPIN_STATUS_IN_WINDOW i) = 1 ∧ regsKept [R.SPIN_STATUS_IN_WINDOW i] s t ∧
      t = { s with flds := t.flds, gates := t.gates }) := by
  have hresume : transferWindowResume i s = s.set (R.SPIN_STATUS_IN_WINDOW i) 1 := by
    obtain hstate | hstate := hstate <;> simp [transferWindowResume, State.spState, hwindow, hinside, hstate]
  refine ⟨_, act_up hrun _, ?_⟩
  rw [hresume]
  refine ⟨by simp, fun f hf => ?_, rfl⟩
  have hne := hf _ (List.mem_singleton_self _)
  simp [hne]

/-- SPIN_SUPPLY_LIMITED. -/
theorem exec_spinSupplyLimited (hlimit : s.atSupplyLimit i = true) :
    ∃ t : State, exec (.spinSupplyLimited i) s = .next t ∧ (
      t.get (R.SPIN_STATUS_SUPPLY_LIMITED i) = 1 ∧ regsKept [R.SPIN_STATUS_SUPPLY_LIMITED i] s t ∧
      t = { s with flds := t.flds, rcd := t.rcd, gates := t.gates }) := by
  refine ⟨_, act_up hrun _, ?_⟩
  rw [spinSupplyLimited, if_pos hlimit]
  refine ⟨by simp, fun f hf => ?_, rfl⟩
  have hne := hf _ (List.mem_singleton_self _)
  simp [hne]

/-- SPIN_SUPPLY_LIMIT_DUSK. -/
theorem exec_spinSupplyLimitDusk (hlimit : s.atSupplyLimit i = true) :
    ∃ t : State, exec (.spinSupplyLimitDusk i) s = .next t ∧ (
      t.get (R.SPIN_CTRL_SETPOINT i) = 1 ∧ dataKept s t ∧ hostKept s t) := by
  refine ⟨_, act_up hrun _, ?_⟩
  rw [spinSupplyLimitDusk, if_pos hlimit, State.get_after]
  refine ⟨?_, kept_of_host (by simp)⟩
  rw [slotView_get (slot_of_mech (mech_setSetpoint s i 1)) (slotKey_SETPOINT i), State.get_set_same]
  rfl

/-- SPIN_RECATCH. -/
theorem exec_spinRecatch (us emf : Nat) (hstate : s.get (R.SPIN_STATUS_STATE i) = 8) (hmeasured : 6 ≤ (s.spin i).measured) (hus : us ≤ 50000) :
    ∃ t : State, exec (.spinRecatch i us emf) s = .next t ∧ (
      t.get (R.SPIN_STATUS_STATE i) = 6 ∧
      t.get (R.SPIN_SPEED_SPEED i) = spanSpeed (((s.spin i).times.take 7).map (·.1)) % 2 ^ 17 ∧
      t.get (R.SPIN_REF_REF i) = spanSpeed (((s.spin i).times.take 7).map (·.1)) % 2 ^ 17 ∧
      t.get (R.SPIN_STATUS_ADVANCE i) = 1 ∧ (t.spin i).duty = min 10000 (emf * 10000 / 12000) ∧
      dataKept s t ∧ hostKept s t) := by
  have hcatch : spinRecatch i us emf s = s.catchAt i .recaught (spanSpeed (((s.spin i).times.take 7).map (·.1))) emf (s.spin i).times := by
    simp [spinRecatch, State.spState, hstate, hmeasured, hus]
  refine ⟨_, act_up hrun _, ?_⟩
  simp only [State.get_after, State.spin_after]
  rw [hcatch]
  obtain ⟨hst, hspeed, href, hadvance, -, hduty, -⟩ := catchAt_shows s i .recaught (spanSpeed (((s.spin i).times.take 7).map (·.1))) emf
    (s.spin i).times
  exact ⟨hst, hspeed, href, hadvance, hduty, kept_of_host (by simp)⟩

/-- SPIN_START_RETRY. -/
theorem exec_spinStartRetry (hstate : s.get (R.SPIN_STATUS_STATE i) = 9) (hfails : s.get (R.SPIN_STATUS_START_FAILS i) < 3) :
    ∃ t : State, exec (.spinStartRetry i) s = .next t ∧ (
      t.get (R.SPIN_STATUS_STATE i) = 1 ∧ (t.spin i).starting = true ∧ dataKept s t ∧ hostKept s t) := by
  have hretry : spinStartRetry i s = s.startSense i := by simp [spinStartRetry, State.spState, hstate, hfails]
  refine ⟨_, act_up hrun _, ?_⟩
  rw [hretry, State.get_after, State.spin_after]
  obtain ⟨-, hstarting⟩ := startSense_spin s i
  exact ⟨startSense_get_STATE s i, hstarting, kept_of_host (by simp)⟩

omit hrun in
/-- Settles O11: each clause is a command's lemma. -/
theorem spindleStartAdvances : Obligations.SpindleStartAdvances := by
  intro s slot hrun
  refine ⟨exec_alignElapsed hrun slot, exec_blindHandover hrun slot, exec_transferWindowResume hrun slot,
    fun hstate hset hspeed hduty => ?_, exec_spinRecatch hrun slot, exec_spinStartRetry hrun slot⟩
  have hlimit := atSupplyLimit_of slot hstate hset hspeed hduty
  exact ⟨exec_spinSupplyLimited hrun slot hlimit, exec_spinSupplyLimitDusk hrun slot hlimit⟩

end Sys2Proof.Machine

namespace Sys2Proof.Machine

/-! ## An HDA retires (R85, R87, R454) -/

@[simp] theorem enterLedger_get (s : State) (k i r : Nat) (held : Bool) (f : Fld) : (s.enterLedger k i r held).get f = s.get f := by
  simp only [State.enterLedger]; split <;> rfl
@[simp] theorem plan_get (s : State) (r i c : Nat) (f : Fld) : (s.plan r i c).get f = s.get f := rfl
@[simp] theorem retireMember_get (s : State) (m : Nat) (f : Fld) : (s.retireMember m).get f = s.get f := rfl

/-- The retirement of an HDA moves its slot's attention output alone (R454). -/
theorem retire_hda_get (s : State) {i : Nat} {f : Fld} (hattn : f.key ≠ (R.SLOT_CTRL_ATTN i).key) (r e : Nat) (held : Bool)
    (a b c d : Nat) : (s.retire 1 i r e held a b c d).get f = s.get f := by
  simp [State.retire, State.attention, hattn]

/-- Fields of the spindle that no retirement of its HDA moves. -/
theorem retireHda_get (s : State) {i : Nat} {f : Fld} (hf : spinKey f.key = true) (hstate : f.key ≠ (R.SPIN_STATUS_STATE i).key)
    (hservice : f.key ≠ (R.SPIN_STATUS_SERVICE i).key) (hadvance : f.key ≠ (R.SPIN_STATUS_ADVANCE i).key)
    (hramping : f.key ≠ (R.SPIN_REF_RAMPING i).key) (hheld : f.key ≠ (R.SPIN_REF_HELD i).key)
    (hwindow : f.key ≠ (R.SPIN_STATUS_IN_WINDOW i).key) (hset : f.key ≠ (R.SPIN_CTRL_SETPOINT i).key) (r e a b c d : Nat) :
    (s.retireHda r e a b c d i).get f = s.get f := by
  have hact (m : Nat) : f.key ≠ (R.ACT_STATUS_STATE m).key := spinKey_ne hf (by simp; omega) (by decide)
  have hslot : f.key ≠ (R.SLOT_STATUS_STATE i).key := spinKey_ne hf (by simp) (by decide)
  have hattn : f.key ≠ (R.SLOT_CTRL_ATTN i).key := spinKey_ne hf (by simp) (by decide)
  rw [State.retireHda, retire_hda_get _ hattn, State.get_set_ne _ hwindow]
  split <;>
    simp +decide [enterSp_get_ne, hstate, hservice, hadvance, hramping, hheld, hset, hslot, hact, unload_spinKey _ hf]

/-- The slot of a retired HDA shows STATE 7. -/
theorem retireHda_get_STATE (s : State) (i r e a b c d : Nat) :
    (s.retireHda r e a b c d i).get (R.SLOT_STATUS_STATE i) = 7 := by
  rw [State.retireHda, retire_hda_get _ (by simp)]
  split <;> simp +decide [enterSp_get_ne]

/-! ## Start failures (R75, R86, R87) -/

variable {s : State} (i : Slot)

/-- A start failure raises both counts; the third in a row retires the HDA. -/
theorem startFailure_shows :
    (s.startFailure i).get (R.SPIN_STATUS_START_FAILS i) = min (s.get (R.SPIN_STATUS_START_FAILS i) + 1) 3 ∧
      (s.startFailure i).get (R.SPIN_COUNT_START_FAILS i) = counted (R.SPIN_COUNT_START_FAILS i) s ∧
      (s.get (R.SPIN_STATUS_START_FAILS i) < 2 → (s.startFailure i).get (R.SPIN_STATUS_STATE i) = 9) ∧
      (2 ≤ s.get (R.SPIN_STATUS_START_FAILS i) → (s.startFailure i).get (R.SLOT_STATUS_STATE i) = 7) := by
  generalize hu : (((s.enterSp i Sp.failed).count (R.SPIN_COUNT_START_FAILS i) 1).set (R.SPIN_STATUS_START_FAILS i)
    (min (s.get (R.SPIN_STATUS_START_FAILS i) + 1) 3)).event Ev.SPIN_START_FAIL (origin 1 i) (s.spState i) 0 0 0 = u
  have hfails : u.get (R.SPIN_STATUS_START_FAILS i) = min (s.get (R.SPIN_STATUS_START_FAILS i) + 1) 3 := by
    rw [← hu]; simp
  have hcount : u.get (R.SPIN_COUNT_START_FAILS i) = counted (R.SPIN_COUNT_START_FAILS i) s := by
    rw [← hu]; simp +decide [State.count_eq, counted, enterSp_get_ne]
  have hstate : u.get (R.SPIN_STATUS_STATE i) = 9 := by
    rw [← hu]; simp +decide [State.count_eq, enterSp_get_STATE]
  have hfail : s.startFailure i =
      if 2 ≤ s.get (R.SPIN_STATUS_START_FAILS i) then u.retireHda Ev.SPIN_START_FAIL Ev.ELEMENT_RETIRED 0 0 0 0 i else u := by
    simp only [State.startFailure, hu, Nat.reduceLeDiff]
  rw [hfail]
  by_cases hthird : 2 ≤ s.get (R.SPIN_STATUS_START_FAILS i)
  · simp only [if_pos hthird]
    refine ⟨?_, ?_, fun h => absurd hthird (by omega), fun _ => retireHda_get_STATE ..⟩
    · rw [retireHda_get u (by simp), hfails] <;> simp
    · rw [retireHda_get u (by simp), hcount] <;> simp
  · simp only [if_neg hthird]
    exact ⟨hfails, hcount, fun _ => hstate, fun h => absurd h hthird⟩

end Sys2Proof.Machine

namespace Sys2Proof.Machine

/-! ## Failures and losses that are counted (R71, R75, R82, R84, R86) -/

variable {s : State} (i : Slot)

/-- A command that comes to a start failure, from a state with the counts as they were. -/
theorem exec_startFailure {c : Instr} {u : State} (hexec : exec c s = .next ((u.startFailure i).after s))
    (hfails : u.get (R.SPIN_STATUS_START_FAILS i) = s.get (R.SPIN_STATUS_START_FAILS i))
    (hcount : u.get (R.SPIN_COUNT_START_FAILS i) = s.get (R.SPIN_COUNT_START_FAILS i)) (hhost : hostView u = hostView s) :
    ∃ t : State, exec c s = .next t ∧ (
      t.get (R.SPIN_STATUS_START_FAILS i) = min (s.get (R.SPIN_STATUS_START_FAILS i) + 1) 3 ∧
      t.get (R.SPIN_COUNT_START_FAILS i) = counted (R.SPIN_COUNT_START_FAILS i) s ∧
      (s.get (R.SPIN_STATUS_START_FAILS i) < 2 → t.get (R.SPIN_STATUS_STATE i) = 9) ∧
      (2 ≤ s.get (R.SPIN_STATUS_START_FAILS i) → t.get (R.SLOT_STATUS_STATE i) = 7) ∧ dataKept s t ∧ hostKept s t) := by
  obtain ⟨hshown, hcounted, hfailed, hretired⟩ := startFailure_shows (s := u) i
  rw [hfails] at hshown hfailed hretired
  rw [counted, hcount, ← counted] at hcounted
  refine ⟨_, hexec, ?_⟩
  simp only [State.get_after]
  exact ⟨hshown, hcounted, hfailed, hretired, kept_of_host (by simp [hhost])⟩

theorem blindHandoverFail_fails (hstate : s.get (R.SPIN_STATUS_STATE i) = 5) (href : 7200 ≤ s.blindRef i)
    (hmeasured : (s.spin i).measured < 6) : blindHandoverFail i s = (s.blindShown i).startFailure i := by
  simp [blindHandoverFail, State.spState, hstate, href, hmeasured]

theorem spinBrakeTimeout_fails (hstate : s.get (R.SPIN_STATUS_STATE i) = 2 ∨ s.get (R.SPIN_STATUS_STATE i) = 3) :
    spinBrakeTimeout i s = s.startFailure i := by
  obtain hstate | hstate := hstate <;> simp [spinBrakeTimeout, State.spState, hstate]

theorem spinRampTimeout_fails (hstate : s.get (R.SPIN_STATUS_STATE i) = 6)
    (horigin : (s.spin i).origin = .start ∨ (s.spin i).origin = .caught) : spinRampTimeout i s = s.startFailure i := by
  obtain horigin | horigin := horigin <;> simp [spinRampTimeout, State.spState, hstate, horigin]

/-! ### Observer loss (R82, R84) -/

/-- What an observer loss does with a loaded slot: its actuators unload on reserve and its members are fenced. -/
def State.lossUnload (i : Nat) (s : State) : State :=
  (((s.unload true Torn.observerLoss (2 * i)).unload true Torn.observerLoss (2 * i + 1)).fence (2 * i) .observerLoss).fence
    (2 * i + 1) .observerLoss

theorem lossUnload_get (s : State) (i : Nat) {f : Fld} (hf : spinKey f.key = true) : (s.lossUnload i).get f = s.get f := by
  simp [State.lossUnload, State.fence, unload_spinKey _ hf]

@[simp] theorem lossUnload_spin (s : State) (i j : Nat) : (s.lossUnload i).spin j = s.spin j := by
  simp [State.lossUnload, State.fence]

/-- A loss in SPEED, below the fourth in an hour, enters RECATCH. -/
theorem spinObserverLost_shows (hstate : s.get (R.SPIN_STATUS_STATE i) = 7) (hmissing : 3 ≤ (s.spin i).missing)
    (hlosses : (s.within 3600 (s.spin i).losses).length < 4) :
    (spinObserverLost i s).get (R.SPIN_STATUS_STATE i) = 8 ∧
      (spinObserverLost i s).get (R.SPIN_COUNT_LOSSES i) = counted (R.SPIN_COUNT_LOSSES i) s ∧
      (spinObserverLost i s).get (R.SPIN_STATUS_IN_WINDOW i) = 0 ∧ ((spinObserverLost i s).spin i).recatching = true := by
  generalize hu : ((s.count (R.SPIN_COUNT_LOSSES i) 1).event Ev.SPIN_OBSERVER_LOST (origin 1 i) 0 0 0 0).setSpin i
    { s.spin i with losses := s.within 3600 (s.spin i).losses, missing := 0, measured := 0, predicted := 0, inside := 0, times := [], recatching := true } = u
  have hlost : spinObserverLost i s =
      ((u.when (s.slotLoaded i) (State.lossUnload i)).set (R.SPIN_STATUS_IN_WINDOW i) 0).enterSp i Sp.recatch := by
    simp only [spinObserverLost, State.spState, hstate, hmissing, hu, State.lossUnload, State.when]
    simp [Nat.not_le.2 hlosses]
  have hcount : (u.when (s.slotLoaded i) (State.lossUnload i)).get (R.SPIN_COUNT_LOSSES i) = counted (R.SPIN_COUNT_LOSSES i) s := by
    rw [State.when_keeps u (State.get (R.SPIN_COUNT_LOSSES i)) _ _ fun t => lossUnload_get t i (by simp), ← hu]
    simp [State.count_eq, counted]
  have hrecatch : ((u.when (s.slotLoaded i) (State.lossUnload i)).spin i).recatching = true := by
    rw [State.when_keeps u (fun t => t.spin i) _ _ fun t => lossUnload_spin t i i, ← hu]
    simp
  rw [hlost]
  refine ⟨?_, ?_, ?_, ?_⟩
  · simp +decide [enterSp_get_STATE]
  · simp +decide [enterSp_get_ne, hcount]
  · simp +decide [enterSp_get_ne]
  · simp +decide [enterSp_spin, hrecatch]

/-! ### The current limit (R65, R71) -/

/-- A current at the limit in force trips the comparator and is counted. -/
theorem exec_ilimTrip (hrun : s.run = .up) {limit ma ns : Nat} (hlimit : s.currentLimit i = some limit) (hns : 1000 ≤ ns) (hma : limit ≤ ma) :
    ∃ t : State, exec (.ilimTrip ⟨i, ma, ns⟩) s = .next t ∧ (
      t.get (R.SPIN_PRED_ILIM_TRIPS i) = counted (R.SPIN_PRED_ILIM_TRIPS i) s ∧
      (t.spin i).trip = some s.pwmFrame ∧ regsKept [R.SPIN_PRED_ILIM_TRIPS i] s t ∧
      t = { s with flds := t.flds, spins := t.spins, gates := t.gates }) := by
  have htrip : ilimTrip i ma ns s =
      (s.setSpin i { s.spin i with trip := some s.pwmFrame }).set (R.SPIN_PRED_ILIM_TRIPS i) (counted (R.SPIN_PRED_ILIM_TRIPS i) s) := by
    simp [ilimTrip, hlimit, hns, hma, State.count_eq, counted]
  have hcut : counted (R.SPIN_PRED_ILIM_TRIPS i) s < 2 ^ 16 := by simp only [counted]; omega
  generalize counted (R.SPIN_PRED_ILIM_TRIPS i) s = n at *
  refine ⟨_, act_up hrun _, ?_⟩
  rw [htrip]
  refine ⟨?_, by simp, fun f hf => ?_, rfl⟩
  · simpa using hcut
  · have hne := hf _ (List.mem_singleton_self _)
    simp [hne]

/-- Settles O12: every start failure comes to `startFailure_shows`, and the rest are commands' lemmas. -/
theorem spindleFailuresCount : Obligations.SpindleFailuresCount := by
  intro s slot hrun
  refine ⟨?_, fun hstate hmissing hlosses => ?_, fun hstate => ?_, fun limit ma ns hlimit hns hma => ?_⟩
  · rintro c (⟨rfl, hstate, href, hmeasured⟩ | ⟨rfl, hstate⟩ | ⟨rfl, hstate, horigin⟩)
    · exact exec_startFailure slot ((act_up hrun _).trans (by rw [blindHandoverFail_fails slot hstate href hmeasured])) (by simp)
        (by simp) (by simp)
    · exact exec_startFailure slot ((act_up hrun _).trans (by rw [spinBrakeTimeout_fails slot hstate])) rfl rfl rfl
    · exact exec_startFailure slot ((act_up hrun _).trans (by rw [spinRampTimeout_fails slot hstate horigin])) rfl rfl rfl
  · obtain ⟨hst, hcount, hwindow, hrecatch⟩ := spinObserverLost_shows slot hstate hmissing hlosses
    refine ⟨_, act_up hrun _, ?_⟩
    simp only [State.get_after, State.spin_after]
    exact ⟨hst, hcount, hwindow, hrecatch, kept_of_host (by simp)⟩
  · refine ⟨_, act_up hrun _, ?_⟩
    simp only [State.get_after]
    refine ⟨?_, ?_, kept_of_host (by simp)⟩
    · simp +decide [spinRecatchFail, State.spState, hstate, enterSp_get_STATE]
    · simp +decide [spinRecatchFail, State.spState, hstate, enterSp_get_ne, State.count_eq, counted]
  · exact exec_ilimTrip slot hrun hlimit hns hma

end Sys2Proof.Machine

namespace Sys2Proof.Machine

/-! ## Seeks (R108 to R110) -/

variable {s : State}

@[simp] theorem after_inSet (s o : State) (g : Nat) : (s.after o).inSet g = s.inSet g := rfl

/-- A command that writes fields alone leaves the rest of the state but the gates that close. -/
theorem after_of_flds {u : State} (h : ∃ l, u = { s with flds := l }) :
    u.after s = { s with flds := (u.after s).flds, gates := (u.after s).gates } := by
  obtain ⟨l, rfl⟩ := h
  rfl

/-- A head out of the set stays out when any head is taken out. -/
theorem inSet_cleared {g : Nat} (h : s.inSet g = false) (b : Nat) : (s.set (R.HEAD_PES_IN_SET b) 0).inSet g = false := by
  have hsame (e : (R.HEAD_PES_IN_SET g).key = (R.HEAD_PES_IN_SET b).key) : R.HEAD_PES_IN_SET g = R.HEAD_PES_IN_SET b := by
    obtain ⟨haddr, -⟩ := (key_eq_iff (by simp) (by simp)).1 e
    rw [R.HEAD_PES_IN_SET, haddr]
  simp only [State.inSet, State.bit_eq, decide_eq_false_iff_not] at h ⊢
  rw [State.get_set s _ _ 0 hsame]
  split
  · simp
  · exact h

/-- At a seek a head of the set is to join again. -/
def State.acquireAgain (g : Nat) (s : State) : State :=
  (s.set (R.HEAD_PES_IN_SET g) 0).setHead g { s.head g with acquiring := true, settleRun := 0 }

theorem HeadsAside.acquireAgain {β : Type} {q : State → β} (hq : HeadsAside q) (g : Nat) (s : State) : q (s.acquireAgain g) = q s := by
  rw [State.acquireAgain, hq.setHead, hq.set _ _ _ (by simp)]

/-- A seek's target and mode, before the heads of the set are told. -/
def State.seekBegun (m target mode : Nat) (s : State) : State :=
  (((s.set (R.ACT_TARGET_TARGET m) (target / 1024)).set (R.ACT_TARGET_MODE m) mode).setB (R.ACT_TARGET_ACCEL m) (mode != 1)).setActu m
    { s.actu m with target := target }

theorem startSeek_eq (s : State) (m target : Nat) : ∃ mode, s.startSeek m target =
    (((s.seekBegun m target mode).set (R.ACT_STATUS_STATE m) 2).forAll ((s.seekBegun m target mode).setOf m) State.acquireAgain).masks m :=
  ⟨_, rfl⟩

/-- What a seek shows: its state and target, and no head in the set (R108, R110). -/
theorem startSeek_shows (s : State) (m target : Nat) :
    (s.startSeek m target).get (R.ACT_STATUS_STATE m) = 2 ∧
      (s.startSeek m target).get (R.ACT_TARGET_TARGET m) = target / 1024 % 2 ^ 24 ∧
      (∀ h, h < 10 → (s.startSeek m target).inSet (10 * m + h) = false) ∧
      (s.startSeek m target).actu m = { s.actu m with target := target } := by
  obtain ⟨mode, heq⟩ := startSeek_eq s m target
  generalize hu : (s.seekBegun m target mode).set (R.ACT_STATUS_STATE m) 2 = u at heq
  have hget {f : Fld} (hf : headKey f.key = false) :
      (u.forAll ((s.seekBegun m target mode).setOf m) State.acquireAgain).get f = u.get f :=
    State.forAll_keeps u (State.get f) _ _ (headsAside_get hf).acquireAgain
  have hact : (u.forAll ((s.seekBegun m target mode).setOf m) State.acquireAgain).actu m = u.actu m :=
    State.forAll_keeps u (fun t => t.actu m) _ _ fun g t => rfl
  have hset (h : Nat) (hh : h < 10) :
      (u.forAll ((s.seekBegun m target mode).setOf m) State.acquireAgain).inSet (10 * m + h) = false := by
    cases hin : u.inSet (10 * m + h) with
    | false => exact State.forAll_induct (P := fun t => t.inSet (10 * m + h) = false) u _ _ hin fun b _ t ht => inSet_cleared ht b
    | true =>
      have hmem : 10 * m + h ∈ (s.seekBegun m target mode).setOf m := by
        rw [← hu] at hin
        simp [State.setOf, headsOf, hh]
        simpa [State.inSet] using hin
      refine State.forAll_brings (P := fun t => t.inSet (10 * m + h) = false) u hmem _ (fun t => ?_) fun b t ht => inSet_cleared ht b
      simp [State.acquireAgain, State.inSet]
  rw [heq]
  refine ⟨?_, ?_, fun h hh => ?_, ?_⟩
  · rw [masks_get (by simp) (by simp), hget (headKey_aside (by simp; omega) (by simp)), ← hu, State.get_set_same]
    rfl
  · rw [masks_get (by simp) (by simp), hget (headKey_aside (by simp; omega) (by simp)), ← hu]
    simp [State.seekBegun]
  · rw [State.inSet, State.bit, masks_get (by simp) (by simp)]
    exact hset h hh
  · rw [masks_actu, hact, ← hu]
    simp [State.seekBegun]

/-! ## Loads (R77, R112) -/

variable (m : Member)

/-- What a load that is permitted shows. -/
theorem load_shows (mv : Nat) (hstate : s.get (R.ACT_STATUS_STATE m) = 0) (hpermit : s.loadPermitted m mv = true) :
    (s.load m mv).get (R.ACT_STATUS_STATE m) = 1 ∧ (s.load m mv).get (R.ACT_STATUS_EMERG m) = 0 ∧
      ((s.load m mv).actu m).reloadDue = false := by
  have hget {lo w r : Nat} (hlo : lo < 32) (hlimit : (⟨A.ACT_STATUS m, lo, w, r⟩ : Fld).key ≠ (R.ACT_STATUS_SET_LIMIT m).key)
      (hset : (⟨A.ACT_STATUS m, lo, w, r⟩ : Fld).key ≠ (R.ACT_STATUS_SET_MASK m).key)
      (hfollow : (⟨A.ACT_STATUS m, lo, w, r⟩ : Fld).key ≠ (R.ACT_STATUS_FOLLOW_MASK m).key) :
      (s.load m mv).get ⟨A.ACT_STATUS m, lo, w, r⟩ =
        ((s.set (R.ACT_STATUS_STATE m) 1).set (R.ACT_STATUS_EMERG m) 0).get ⟨A.ACT_STATUS m, lo, w, r⟩ := by
    have hhead : headKey (Fld.key ⟨A.ACT_STATUS m, lo, w, r⟩) = false := headKey_aside (by simp; omega) hlo
    have hq := headsAside_get hhead
    simp only [State.load, hstate, hpermit, decide_true, Bool.and_self, if_true]
    rw [State.get_setActu, fitSet_get hhead hlimit hset hfollow, preampRest_get, State.forAll_keeps _ (State.get _) _ _ fun g t => ?_]
    rw [hq.set _ _ _ (by simp), hq.setHead]
  refine ⟨?_, ?_, ?_⟩
  · rw [hget] <;> simp
  · rw [hget] <;> simp
  · simp [State.load, hstate, hpermit]

variable (hrun : s.run = .up)
include hrun

/-- SEEK_REQUEST. -/
theorem exec_seekRequest (target : Nat) (write : Bool) (hstate : s.get (R.ACT_STATUS_STATE m) = 4) (hgates : ∀ g ∈ s.gates, g / 10 ≠ m)
    (hsector : ∀ h, h < 10 → s.inSector (10 * m + h) = false) :
    ∃ t : State, exec (.seekRequest m target write) s = .next t ∧ (
      (t.actu m).target = target ∧ (t.actu m).writing = write ∧ (t.actu m).transferring = true ∧
      t.get (R.ACT_TARGET_TARGET m) = target / 1024 % 2 ^ 24 ∧ t.get (R.ACT_STATUS_STATE m) = 2 ∧
      (∀ h, h < 10 → t.inSet (10 * m + h) = false) ∧
      dataKept s t ∧ hostKept s t) := by
  have hopen : s.gates.any (fun g => g / 10 = m) = false := by simpa using hgates
  have hbusy : (headsOf m).any s.inSector = false := by simpa [headsOf] using hsector
  have hseek : seekRequest m target write s = (s.setActu m { s.actu m with writing := write, transferring := true }).startSeek m target := by
    simp [seekRequest, hstate, hopen, hbusy]
  refine ⟨_, act_up hrun _, ?_⟩
  rw [hseek]
  obtain ⟨hst, htarget, hset, hact⟩ := startSeek_shows (s.setActu m { s.actu m with writing := write, transferring := true }) m target
  simp only [State.get_after, State.actu_after, after_inSet, hact, State.actu_setActu_same]
  exact ⟨trivial, trivial, trivial, htarget, hst, hset, kept_of_host (by simp)⟩

/-- SEEK_LOOPS_RESUME. -/
theorem exec_seekLoopsResume (hstate : s.get (R.ACT_STATUS_STATE m) = 2) :
    ∃ t : State, exec (.seekLoopsResume m) s = .next t ∧ (
      t.get (R.ACT_STATUS_STATE m) = 3 ∧ t.get (R.ACT_TARGET_MODE m) = 0 ∧ t.get (R.ACT_TARGET_ACCEL m) = 0 ∧
      regsKept [R.ACT_STATUS_STATE m, R.ACT_TARGET_MODE m, R.ACT_TARGET_ACCEL m] s t ∧
      t = { s with flds := t.flds, gates := t.gates }) := by
  refine ⟨_, act_up hrun _, ?_⟩
  rw [seekLoopsResume, if_pos hstate]
  refine ⟨by simp, by simp, by simp, fun f hf => ?_, after_of_flds ⟨_, by simp only [State.set_wr]; rfl⟩⟩
  simp only [List.forall_mem_cons] at hf
  obtain ⟨hst, hmode, haccel, -⟩ := hf
  simp [hst, hmode, haccel]

end Sys2Proof.Machine

namespace Sys2Proof.Machine

/-! ## Loads, unloads and what ends them (R112, R119) -/

variable {s : State} (hrun : s.run = .up) (m : Member)
include hrun

/-- LOAD_REQUEST, LOAD_RETRY and SERVO_RELOAD. -/
theorem exec_load {mv : Nat} {c : Instr} (hstate : s.get (R.ACT_STATUS_STATE m) = 0) (hpermit : s.loadPermitted m mv = true)
    (hc : c = .loadRequest m mv ∨ ((s.actu m).reloadDue = true ∧ (c = .loadRetry m mv ∨ c = .servoReload m mv))) :
    ∃ t : State, exec c s = .next t ∧ (
      t.get (R.ACT_STATUS_STATE m) = 1 ∧ t.get (R.ACT_STATUS_EMERG m) = 0 ∧ (t.actu m).reloadDue = false ∧
      dataKept s t ∧ hostKept s t) := by
  have hexec : exec c s = .next ((s.load m mv).after s) := by
    obtain rfl | ⟨hdue, hretry⟩ := hc
    · exact act_up hrun _
    · have hreload : reload m mv s = s.load m mv := by simp [reload, hdue]
      obtain rfl | rfl := hretry <;> exact (act_up hrun _).trans (by rw [hreload])
  obtain ⟨hst, hemerg, hdue⟩ := load_shows m mv hstate hpermit
  refine ⟨_, hexec, ?_⟩
  simp only [State.get_after, State.actu_after]
  exact ⟨hst, hemerg, hdue, kept_of_host (by simp)⟩

/-- LOAD_SERVO_ACQUIRED. -/
theorem exec_loadServoAcquired (hstate : s.get (R.ACT_STATUS_STATE m) = 1) (href : ∃ g, s.refHead m = some g ∧ 8 ≤ (s.head g).validRun) :
    ∃ t : State, exec (.loadServoAcquired m) s = .next t ∧ (
      t.get (R.ACT_STATUS_STATE m) = 2 ∧ t.get (R.ACT_TARGET_TARGET m) = (s.actu m).target / 1024 % 2 ^ 24 ∧
      dataKept s t ∧ hostKept s t) := by
  obtain ⟨g, hg, hvalid⟩ := href
  have hseek : loadServoAcquired m s = s.startSeek m (s.actu m).target := by simp [loadServoAcquired, hstate, hg, hvalid]
  obtain ⟨hst, htarget, -, -⟩ := startSeek_shows s m (s.actu m).target
  refine ⟨_, act_up hrun _, ?_⟩
  rw [hseek]
  simp only [State.get_after]
  exact ⟨hst, htarget, kept_of_host (by simp)⟩

/-- LOAD_FAIL below the third in a row. -/
theorem exec_loadFail (hstate : s.get (R.ACT_STATUS_STATE m) = 1) (hfails : (s.actu m).loadFails < 2) :
    ∃ t : State, exec (.loadFail m) s = .next t ∧ (
      t.get (R.ACT_STATUS_STATE m) = 5 ∧ (t.actu m).loadFails = (s.actu m).loadFails + 1 ∧ (t.actu m).reloadDue = true ∧
      t.get (R.ACT_COUNT_LOAD_FAILS m) = counted (R.ACT_COUNT_LOAD_FAILS m) s ∧ dataKept s t ∧ hostKept s t) := by
  have hloaded : s.loaded m = true := by simp [State.loaded, hstate]
  have hthird : ¬3 ≤ (s.actu m).loadFails + 1 := by omega
  obtain ⟨hst, -⟩ := unload_shows hloaded false Torn.unload
  have hcount : (s.unload false Torn.unload m).get (R.ACT_COUNT_LOAD_FAILS m) = s.get (R.ACT_COUNT_LOAD_FAILS m) :=
    unload_get (headKey_aside (by simp; omega) (by simp)) (by simp [unloadFlds]) false _
  refine ⟨_, act_up hrun _, ?_⟩
  have hkept : hostView ((loadFail m s).after s) = hostView s := by simp
  simp only [State.get_after, State.actu_after]
  refine ⟨?_, ?_, ?_, ?_, kept_of_host hkept⟩ <;>
    simp [loadFail, hstate, hthird, hst, hcount, State.count_eq, counted]

/-- HEADS_PARKED. -/
theorem exec_headsParked (hstate : s.get (R.ACT_STATUS_STATE m) = 5) :
    ∃ t : State, exec (.headsParked m) s = .next t ∧ (
      t.get (R.ACT_STATUS_STATE m) = 0 ∧ t.get (R.ACT_CURRENT_APPLIED m) = 0 ∧
      regsKept [R.ACT_STATUS_STATE m, R.ACT_CURRENT_DEMAND m, R.ACT_CURRENT_APPLIED m, R.ACT_CURRENT_WIN m,
        R.ACT_CURRENT_SATURATED m] s t ∧
      t = { s with flds := t.flds, gates := t.gates }) := by
  refine ⟨_, act_up hrun _, ?_⟩
  rw [headsParked, if_pos hstate]
  refine ⟨by simp, by simp [toBits], fun f hf => ?_, after_of_flds ⟨_, by simp only [State.setI_eq, State.set_wr]; rfl⟩⟩
  simp only [List.forall_mem_cons] at hf
  obtain ⟨hst, hdemand, happlied, hwin, hsat, -⟩ := hf
  simp [hst, hdemand, happlied, hwin, hsat]

end Sys2Proof.Machine

namespace Sys2Proof.Machine

/-! ## The slot blocks in the register map (R478): every slot's registers lie alike -/

/-- The row of the map an address lies in, with its indices: what `layoutIn` and `isSnapIn` go by. -/
def rowIn : List RegRow → Nat → Option (RegRow × List Nat)
  | [], _ => none
  | r :: rs, a =>
    if a < r.base then rowIn rs a
    else match indices r.dims (a - r.base) with
      | some is => some (r, is)
      | none => rowIn rs a

theorem layoutIn_eq (rows : List RegRow) (a : Nat) : layoutIn rows a = (rowIn rows a).elim [] fun x => x.1.fields x.2 := by
  induction rows with
  | nil => rfl
  | cons r rs ih => simp only [layoutIn, rowIn, ih]; (repeat' split) <;> simp_all

theorem isSnapIn_eq (rows : List RegRow) (a : Nat) : isSnapIn rows a = (rowIn rows a).elim false fun x => x.1.snap := by
  induction rows with
  | nil => rfl
  | cons r rs ih => simp only [isSnapIn, rowIn, ih]; (repeat' split) <;> simp_all

/-- Registers with these counts and strides end before an offset. -/
def endsBy : List (Nat × Nat) → Nat → Bool
  | [], n => 0 < n
  | (count, stride) :: _, n => 0 < stride && count * stride ≤ n

theorem indices_past {dims : List (Nat × Nat)} {n off : Nat} (h : endsBy dims n = true) (hoff : n ≤ off) : indices dims off = none := by
  cases dims with
  | nil =>
    simp only [endsBy, decide_eq_true_eq] at h
    exact if_neg (by omega)
  | cons d rest =>
    obtain ⟨count, stride⟩ := d
    simp only [endsBy, Bool.and_eq_true, decide_eq_true_eq] at h
    obtain ⟨hpos, hend⟩ := h
    exact if_neg (Nat.not_lt.2 ((Nat.le_div_iff_mul_le hpos).2 (hend.trans hoff)))

/-- A row lies outside the slot blocks, or once in each slot's block. -/
def RegRow.bySlot (r : RegRow) : Bool :=
  0x120000 ≤ r.base || (r.base < 0x100000 && endsBy r.dims (0x100000 - r.base)) ||
    (0x100000 ≤ r.base && r.base < 0x101000 && r.dims.head? = some (32, 0x1000) && endsBy r.dims.tail (0x101000 - r.base))

/-- The indices within a slot's block of the register of a row at an offset. -/
def RegRow.inSlot (r : RegRow) (o : Nat) : Option (List Nat) :=
  if 0x100000 ≤ r.base && r.base ≤ 0x100000 + o then indices r.dims.tail (0x100000 + o - r.base) else none

/-- The row that has a register at an offset of every slot's block. -/
def slotRowIn : List RegRow → Nat → Option (RegRow × List Nat)
  | [], _ => none
  | r :: rs, o => match r.inSlot o with
    | some is => some (r, is)
    | none => slotRowIn rs o

/-- Such a row has its register in slot i's block at the same offset, with i before the other indices. -/
theorem indices_bySlot {r : RegRow} (h : r.bySlot = true) {i o : Nat} (hi : i < 32) (ho : o < 0x1000) :
    (if 0x100000 + i * 0x1000 + o < r.base then none else indices r.dims (0x100000 + i * 0x1000 + o - r.base)) =
      (r.inSlot o).map (i :: ·) := by
  obtain ⟨base, dims, snap, fields⟩ := r
  simp only [RegRow.bySlot, RegRow.inSlot, Bool.or_eq_true, Bool.and_eq_true, decide_eq_true_eq] at h ⊢
  obtain (hhigh | ⟨hlow, hend⟩) | ⟨⟨⟨hlow, hhigh⟩, hhead⟩, hend⟩ := h
  · rw [if_pos (by omega), if_neg (by omega)]; rfl
  · rw [if_neg (by omega), if_neg (by omega), indices_past hend (by omega)]; rfl
  · obtain ⟨rest, rfl⟩ : ∃ rest, dims = (32, 0x1000) :: rest := by
      cases dims <;> simp_all
    simp only [List.tail_cons] at hend ⊢
    by_cases hat : base ≤ 0x100000 + o
    · have hoff : 0x100000 + i * 0x1000 + o - base = i * 0x1000 + (0x100000 + o - base) := by omega
      have hdiv : (i * 0x1000 + (0x100000 + o - base)) / 0x1000 = i := by omega
      have hmod : (i * 0x1000 + (0x100000 + o - base)) % 0x1000 = 0x100000 + o - base := by omega
      rw [if_neg (by omega), if_pos ⟨hlow, hat⟩, hoff, indices, hdiv, hmod, if_pos hi]
    · rw [if_neg (show ¬(0x100000 ≤ base ∧ base ≤ 0x100000 + o) by omega)]
      split
      · rfl
      · rename_i hge
        have hdiv : (0x100000 + i * 0x1000 + o - base) / 0x1000 < 32 := by omega
        rw [indices, if_pos hdiv, indices_past hend (by omega)]; rfl

theorem rowIn_slot {rows : List RegRow} (h : rows.all RegRow.bySlot = true) {i o : Nat} (hi : i < 32) (ho : o < 0x1000) :
    rowIn rows (0x100000 + i * 0x1000 + o) = (slotRowIn rows o).map fun x => (x.1, i :: x.2) := by
  induction rows with
  | nil => rfl
  | cons r rs ih =>
    obtain ⟨hr, hrs⟩ := Bool.and_eq_true_iff.1 h
    have hrow := indices_bySlot hr hi ho
    simp only [rowIn, slotRowIn, ih hrs]
    cases hin : r.inSlot o with
    | none => rw [hin] at hrow; split <;> simp_all
    | some is => rw [hin] at hrow; split <;> simp_all

/-- Every row of the map lies so. -/
theorem regRows_bySlot : regRows.all RegRow.bySlot = true := by decide +kernel

/-! ## Writes of a slot block's registers (R479 to R484) -/

/-- A register of slot i, defined in the map with these fields and no snapshot word. -/
structure SlotReg (i a : Nat) (l : List FSpec) : Prop where
  slot : i < 32
  place : a / 0x1000 = 0x100 + i
  aligned : a % 4 = 0
  layout : layout a = l
  fields : l.isEmpty = false
  noSnap : isSnap a = false

variable {i a : Nat} {l : List FSpec}

/-- The register of slot i at an offset where the map has a row. -/
theorem slotReg_of {o : Nat} (hi : i < 32) (ho : o < 0x1000) (h4 : o % 4 = 0) (ha : a = 0x100000 + i * 0x1000 + o)
    (hrow : ((slotRowIn regRows o).map fun x => (x.1.snap, x.1.fields (i :: x.2))) = some (false, l)) (hl : l.isEmpty = false) :
    SlotReg i a l := by
  obtain ⟨⟨r, is⟩, hr, hfields⟩ := Option.map_eq_some_iff.1 hrow
  obtain ⟨hsnap, hlay⟩ := Prod.mk.inj hfields
  have hin : rowIn regRows a = some (r, i :: is) := by rw [ha, rowIn_slot regRows_bySlot hi ho, hr]; rfl
  refine ⟨hi, by omega, by omega, ?_, hl, ?_⟩
  · rw [Machine.layout, layoutIn_eq, hin]; exact hlay
  · rw [isSnap, isSnapIn_eq, hin]; exact hsnap

namespace SlotReg
variable (h : SlotReg i a l)
include h

theorem block : 0x100000 ≤ a ∧ a < 0x120000 := by
  obtain ⟨hi, hplace, -, -, -, -⟩ := h
  omega

theorem inMap : Machine.inMap a = true := by
  obtain ⟨-, hhigh⟩ := h.block
  simp only [Machine.inMap, decide_eq_true_eq]
  omega

theorem island : regIsland a = some (19 + i) := by
  obtain ⟨hlow, hhigh⟩ := h.block
  have hslot : (a - 0x100000) / 0x1000 = i := by have := h.place; omega
  simp only [regIsland, Bool.and_eq_true, decide_eq_true_eq]
  repeat rw [if_neg (by omega)]
  rw [if_pos ⟨hlow, hhigh⟩, hslot]

theorem noJoints : jointsAt a = [] := by
  obtain ⟨hlow, hhigh⟩ := h.block
  have hne (b : Nat) (hb : b < 0x100000 ∨ 0x120000 ≤ b) : a ≠ b := by omega
  have hclass (c : Nat) (hc : c < 5) : a ≠ A.DEC_CLASS c ∧ a ≠ A.THM_LIMIT c := by simp only [A.DEC_CLASS, A.THM_LIMIT]; omega
  simpa [jointsAt, hne] using fun c hc => ⟨fun _ => (hclass c hc).1, (hclass c hc).2⟩

theorem noCtrl (o : Nat) : engineAt a o = none := by
  obtain ⟨hlow, hhigh⟩ := h.block
  simp only [engineAt, Bool.and_eq_true, decide_eq_true_eq]
  exact if_neg (by omega)

/-- The word of such a register, but of an advance table, is taken field by field. -/
theorem takeWord (hadv : advSlot a = none) (s : State) (p : Path) (w : Nat) :
    s.takeWord p a w = (l.any fun f => s.refuses f (f.fld.of w), s.forAll l (State.takeField w)) := by
  simp [State.takeWord, State.judge, h.noSnap, h.noJoints, hadv, h.layout]

end SlotReg

variable {s s1 t : State} {p : Path}

/-- A write of such a register by a path in service: counted, taken, its effect, a refusal shown, recorded; nothing follows it
while it touches no engine and no start (R469, R480, R481, R487). -/
theorem act_slotRow (hw : writable p s) (h : SlotReg i a l) (w : Word) {bad : Bool}
    (htake : (s.count (R.GLB_ACCESS_WRITES (pathKind p)) 1).takeWord p a w.toNat = (bad, s1))
    (heffect : State.slotEffect none a w.toNat (!bad) (s.count (R.GLB_ACCESS_WRITES (pathKind p)) 1) s1 = t)
    (he : t.engs = s.engs) (hk : t.knd = s.knd) :
    act s (State.row p a w) = .next (((if bad then t.regRefused a w.toNat else t).recordWrite p a w.toNat).after s) := by
  obtain ⟨hrun, hpath, hisl, hpost, hreset, hrekindle⟩ := hw
  obtain ⟨hlow, hhigh⟩ := h.block
  have hi := h.slot
  generalize hs0 : s.count (R.GLB_ACCESS_WRITES (pathKind p)) 1 = s0 at *
  have hout : s0.regOut a = false := by
    have hup : s0.islandUp (19 + i) = true := by rw [← hs0]; exact hisl (19 + i) (by omega)
    simp [State.regOut, h.island, hup]
  have hperf : s0.performWrite none p a w.toNat = (bad, t) := by
    have howner : ¬(0x50010 ≤ a ∧ a < 0x50020) := by omega
    simp [State.performWrite, h.noCtrl, howner, hlow, hhigh, htake, heffect]
  have hwrite : (s.writeReg none p a w.toNat).2 = if bad then t.regRefused a w.toNat else t := by
    simp only [State.writeReg, hs0, h.inMap, h.aligned, hout, h.layout, h.fields, Nat.mod_eq_of_lt w.isLt, hperf]
    simp
  generalize hu : (if bad then t.regRefused a w.toNat else t) = u at *
  have hue : u.engs = s.engs := by rw [← hu, ← he]; split <;> rfl
  have huk : u.knd = s.knd := by rw [← hu, ← hk]; split <;> rfl
  have hidle : (u.recordWrite p a w.toNat).afterWrite none = u.recordWrite p a w.toNat :=
    afterWrite_idle (fun n hn => by simpa [State.eng, hue] using hpost n hn) (by simp [huk, hreset]) (by simp [huk, hrekindle])
  have hrow : State.row p a w s = u.recordWrite p a w.toNat := by
    rw [← hidle]
    simp only [State.row, regWriteRow, State.pathWrite, hpath, h.inMap, h.aligned, hwrite]
    rfl
  rw [act_up hrun, hrow]

end Sys2Proof.Machine

namespace Sys2Proof.Machine

variable {s s1 t : State} {p : Path}

/-! ## ACT_CTRL (R98, R119) -/

/-- A field of a slot block refuses a value that is not legal for it, and no other (R14). -/
theorem refuses_slot {f : FSpec} (hf : 0x100000 ≤ f.fld.addr) (s : State) (v : Nat) : s.refuses f v = (f.takes && !f.ok v) :=
  refuses_eq (by omega) (by omega) (fun c hc => by simp only [A.THM_LIMIT]; omega) s v

theorem slotReg_ACT_CTRL (m : Member) : SlotReg (m.val / 2) (A.ACT_CTRL m)
    [⟨R.ACT_CTRL_SET_MAX m, .rw, .k, [(1, 10)]⟩, ⟨R.ACT_CTRL_UNLOAD m, .rw, .v, []⟩] := by
  have hrow : ∀ (i : Nat) (a : Fin 2), ((slotRowIn regRows (0xC0 + a * 0x20)).map fun x => (x.1.snap, x.1.fields (i :: x.2))) =
      some (false, [⟨R.ACT_CTRL_SET_MAX (2 * i + a), .rw, .k, [(1, 10)]⟩, ⟨R.ACT_CTRL_UNLOAD (2 * i + a), .rw, .v, []⟩]) := by
    intro i a
    fin_cases a <;> rfl
  have hm : 2 * (m.val / 2) + m.val % 2 = m.val := Nat.div_add_mod ..
  refine slotReg_of (o := 0xC0 + m.val % 2 * 0x20) (by omega) (by omega) (by omega) (by simp only [A.ACT_CTRL]; omega) ?_ rfl
  have hrow := hrow (m.val / 2) ⟨m.val % 2, by omega⟩
  simp only [hm] at hrow
  exact hrow

/-- ACT_CTRL is no register of another kind in its block. -/
theorem actCtrl_at : ∀ m : Member, slotAt (A.ACT_CTRL m) 0x004 = none ∧ memberAt (A.ACT_CTRL m) 0x020 8 = none ∧
    slotAt (A.ACT_CTRL m) 0x080 = none ∧ memberAt (A.ACT_CTRL m) 0x0C0 0x20 = some m.val ∧ advSlot (A.ACT_CTRL m) = none := by
  decide +kernel

/-- UNLOAD takes every value, SET_MAX a legal one. -/
theorem takeWord_ACT_CTRL (s : State) (p : Path) (m : Member) (w : Nat) :
    ∃ bad u, s.takeWord p (A.ACT_CTRL m) w = (bad, u) ∧ u.get (R.ACT_CTRL_UNLOAD m) = (R.ACT_CTRL_UNLOAD m).of w ∧
      (∀ f : Fld, f.key ≠ (R.ACT_CTRL_SET_MAX m).key → f.key ≠ (R.ACT_CTRL_UNLOAD m).key → u.get f = s.get f) ∧
      hostView u = hostView s ∧ u.engs = s.engs ∧ u.knd = s.knd := by
  obtain ⟨-, -, -, -, hadv⟩ := actCtrl_at m
  have htakes (u : State) : u.refuses ⟨R.ACT_CTRL_UNLOAD m, .rw, .v, []⟩ ((R.ACT_CTRL_UNLOAD m).of w) = false := by
    rw [refuses_slot (by simp; omega)]; rfl
  refine ⟨_, _, (slotReg_ACT_CTRL m).takeWord hadv s p w, ?_⟩
  simp only [State.forAll_cons, State.forAll_nil, State.takeField, htakes]
  cases s.refuses ⟨R.ACT_CTRL_SET_MAX m, .rw, .k, [(1, 10)]⟩ ((R.ACT_CTRL_SET_MAX m).of w) <;>
    exact ⟨by simp [Fld.of], fun f hmax hunload => by simp [hmax, hunload], by simp, by simp, by simp⟩

/-- A write of ACT_CTRL moves the set limit, and unloads when UNLOAD reads 1 (R98, R119). -/
theorem slotEffect_ACT_CTRL (m : Member) (w : Nat) (acts : Bool) (old s : State) :
    State.slotEffect none (A.ACT_CTRL m) w acts old s = (s.fitSet m).unloadRequested m := by
  obtain ⟨hctrl, hpser, hspin, hact, -⟩ := actCtrl_at m
  simp only [State.slotEffect, hctrl, hpser, hspin, hact]

/-- Such a write with UNLOAD at 1 unloads a loaded actuator. -/
theorem unloadRequested_shows {m : Member} (hloaded : s.loaded m = true) (hunload : s.get (R.ACT_CTRL_UNLOAD m) = 1) :
    ((s.fitSet m).unloadRequested m).get (R.ACT_STATUS_STATE m) = 5 ∧
      ((s.fitSet m).unloadRequested m).get (R.ACT_STATUS_EMERG m) = 0 ∧
      ((s.fitSet m).unloadRequested m).get (R.ACT_CTRL_UNLOAD m) = 1 ∧
      ((s.fitSet m).unloadRequested m).engs = s.engs ∧ ((s.fitSet m).unloadRequested m).knd = s.knd := by
  have hstate : (s.fitSet m).get (R.ACT_STATUS_STATE m) = s.get (R.ACT_STATUS_STATE m) :=
    fitSet_get (headKey_aside (by simp; omega) (by simp)) (by simp) (by simp) (by simp)
  have hasked : (s.fitSet m).get (R.ACT_CTRL_UNLOAD m) = 1 := by
    rw [fitSet_get (headKey_aside (by simp; omega) (by simp)) (by simp) (by simp) (by simp), hunload]
  have hstill : (s.fitSet m).loaded m = true := by rwa [State.loaded, hstate, ← State.loaded]
  have hrequest : (s.fitSet m).unloadRequested m = (s.fitSet m).unload false Torn.unload m := by
    simp [State.unloadRequested, hasked]
  obtain ⟨hst, hemerg⟩ := unload_shows hstill false Torn.unload
  obtain ⟨hengs, hknd⟩ := slotView_host (slot_of_mech ((mech_unload (s.fitSet m) false Torn.unload m).trans (mech_fitSet s m)))
  rw [hrequest]
  refine ⟨hst, hemerg, ?_, hengs, hknd⟩
  rw [unload_get (headKey_aside (by simp; omega) (by simp)) (by simp [unloadFlds]), hasked]

/-- A gate of an actuator that is not FOLLOWING is closed when a command ends (R151). -/
theorem after_gates_of_state {m : Nat} (h : t.get (R.ACT_STATUS_STATE m) ≠ 4) : ∀ g ∈ (t.after s).gates, g / 10 ≠ m := by
  rintro g hg rfl
  rw [State.after_gates] at hg
  simp [State.gateKeeps, h] at hg

/-- What refusal and record of a write leave of the fields. -/
theorem written_get {bad : Bool} {a w : Nat} {f : Fld} (h : f.key ≠ R.GLB_REFUSED_ADDR.key) (p : Path) :
    ((if bad then t.regRefused a w else t).recordWrite p a w).get f = t.get f := by
  rw [recordWrite_get]
  split
  · rw [State.regRefused, State.get_event, State.get_set_ne _ h]
  · rfl

@[simp] theorem host_written (bad : Bool) (a w : Nat) (p : Path) :
    hostView ((if bad then t.regRefused a w else t).recordWrite p a w) = hostView t := by
  rw [host_recordWrite]
  split <;> simp [State.regRefused]

/-- A field of a slot block is not the write count. -/
theorem slot_ne_count {f : Fld} (h : 0x100000 ≤ f.addr) (p : Path) : f.key ≠ (R.GLB_ACCESS_WRITES (pathKind p)).key :=
  ne_write_count (.inr (by simp only [Fld.key]; omega)) p

/-- Nor the address of a refused write. -/
theorem slot_ne_refused {f : Fld} (h : 0x100000 ≤ f.addr) : f.key ≠ R.GLB_REFUSED_ADDR.key := by
  simp only [Fld.key, A.GLB_REFUSED]; omega

/-- ACT_CTRL.UNLOAD written 1 for a loaded actuator. -/
theorem exec_actCtrlUnload (hw : writable p s) (m : Member) (w : Word) (hloaded : s.loaded m = true)
    (hunload : field (R.ACT_CTRL_UNLOAD m) w = 1) :
    ∃ t : State, exec (.actCtrlUnload p m w) s = .next t ∧ (
      t.get (R.ACT_STATUS_STATE m) = 5 ∧ t.get (R.ACT_STATUS_EMERG m) = 0 ∧ t.get (R.ACT_CTRL_UNLOAD m) = 1 ∧
      (∀ g ∈ t.gates, g / 10 ≠ m) ∧ dataKept s t ∧ hostKept s t) := by
  obtain ⟨bad, u, htake, hasked, hget, hhost, hengs, hknd⟩ :=
    takeWord_ACT_CTRL (s.count (R.GLB_ACCESS_WRITES (pathKind p)) 1) p m w.toNat
  have hcount := slot_ne_count (f := R.ACT_STATUS_STATE m) (by simp; omega) p
  have hstate : u.get (R.ACT_STATUS_STATE m) = s.get (R.ACT_STATUS_STATE m) := by
    rw [hget _ (by simp) (by simp), get_write_count_ne hcount]
  have hloadedu : u.loaded m = true := by rwa [State.loaded, hstate, ← State.loaded]
  obtain ⟨hst, hemerg, hshown, hengst, hkndt⟩ := unloadRequested_shows hloadedu (hasked.trans hunload)
  have hrow := act_slotRow hw (slotReg_ACT_CTRL m) w htake (slotEffect_ACT_CTRL m _ _ _ _) (hengst.trans hengs) (hkndt.trans hknd)
  have hkept {f : Fld} (hf : 0x100000 ≤ f.addr) := written_get (bad := bad) (a := A.ACT_CTRL m) (w := w.toNat)
    (t := (u.fitSet m).unloadRequested m) (slot_ne_refused hf) p
  refine ⟨_, hrow, ?_, ?_, ?_, after_gates_of_state ?_, kept_of_host ?_⟩
  · rw [State.get_after, hkept (by simp; omega), hst]
  · rw [State.get_after, hkept (by simp; omega), hemerg]
  · rw [State.get_after, hkept (by simp; omega), hshown]
  · rw [hkept (by simp; omega), hst]; decide
  · rw [State.host_after, host_written]
    simp [hhost]

/-! ## HEAD_OFFSET (R107, R126) -/

theorem slotReg_HEAD_OFFSET (g : GHead) : SlotReg (g.val / 20) (A.HEAD_OFFSET g) [⟨R.HEAD_OFFSET_OFFSET g, .rw, .v, []⟩] := by
  have hrow : ∀ (i : Nat) (h : Fin 20), ((slotRowIn regRows (0x124 + h * 0x40)).map fun x => (x.1.snap, x.1.fields (i :: x.2))) =
      some (false, [⟨R.HEAD_OFFSET_OFFSET (20 * i + h), .rw, .v, []⟩]) := by
    intro i h
    fin_cases h <;> rfl
  have hg : 20 * (g.val / 20) + g.val % 20 = g.val := Nat.div_add_mod ..
  refine slotReg_of (o := 0x124 + g.val % 20 * 0x40) (by omega) (by omega) (by omega) (by simp only [A.HEAD_OFFSET]; omega) ?_ rfl
  have hrow := hrow (g.val / 20) ⟨g.val % 20, by omega⟩
  simp only [hg] at hrow
  exact hrow

/-- HEAD_OFFSET is no register of another kind in its block. -/
theorem headOffset_at : ∀ g : GHead, slotAt (A.HEAD_OFFSET g) 0x004 = none ∧ memberAt (A.HEAD_OFFSET g) 0x020 8 = none ∧
    slotAt (A.HEAD_OFFSET g) 0x080 = none ∧ memberAt (A.HEAD_OFFSET g) 0x0C0 0x20 = none ∧ offsetAt (A.HEAD_OFFSET g) = some g.val ∧
      advSlot (A.HEAD_OFFSET g) = none := by
  decide +kernel

/-- A non-zero offset closes its head's gate. -/
theorem slotEffect_HEAD_OFFSET (g : GHead) (w : Nat) (acts : Bool) (old s : State) :
    State.slotEffect none (A.HEAD_OFFSET g) w acts old s = s.offsetWritten g := by
  obtain ⟨hctrl, hpser, hspin, hact, hoffset, -⟩ := headOffset_at g
  simp only [State.slotEffect, hctrl, hpser, hspin, hact, hoffset]

/-- OFFSET takes every value. -/
theorem takeWord_HEAD_OFFSET (s : State) (p : Path) (g : GHead) (w : Nat) :
    s.takeWord p (A.HEAD_OFFSET g) w = (false, s.set (R.HEAD_OFFSET_OFFSET g) ((R.HEAD_OFFSET_OFFSET g).of w)) := by
  obtain ⟨-, -, -, -, -, hadv⟩ := headOffset_at g
  have htakes (u : State) : u.refuses ⟨R.HEAD_OFFSET_OFFSET g, .rw, .v, []⟩ ((R.HEAD_OFFSET_OFFSET g).of w) = false := by
    rw [refuses_slot (by simp; omega)]; rfl
  rw [(slotReg_HEAD_OFFSET g).takeWord hadv]
  simp [State.takeField, htakes]

/-- Closing a gate moves the head's count of torn sectors alone among the fields. -/
theorem tear_get {g : Nat} {f : Fld} (h : f.key ≠ (R.HEAD_DEFECT_COUNT_TORN g).key) (x : Nat) (stays : Bool) :
    (s.tear x stays g).get f = s.get f := by
  have hcount (t : State) : (t.count (R.HEAD_DEFECT_COUNT_TORN g) 1).get f = t.get f := get_count_ne h 1
  have hgates (l : List Nat) : ({ s with gates := l } : State).get f = s.get f := rfl
  have hvoid (t : State) (a b c : Nat) : (t.voidRun a b c).get f = t.get f := rfl
  have hunwritten (t : State) (a b c : Nat) : (t.noteUnwritten a b c).get f = t.get f := rfl
  have hrewrite (t : State) (a b c : Nat) : (t.mayRewrite a b c).get f = t.get f := rfl
  simp only [State.tear]
  split
  · rfl
  · simp [view_ite (State.get f), State.when_keeps _ (State.get f), hcount, hgates, hvoid, hunwritten, hrewrite]

/-- A shifted run is a matter of the map and the stoker. -/
theorem shiftRun_keeps {β : Type} (q : State → β) (hrecord : ∀ (t : State) (row col : Nat) ex, q (t.setException row col ex) = q t)
    (hreport : ∀ (t : State) (row col : Nat) l, q (t.reportBlocks row col l) = q t) (s : State) (g : Nat) : q (s.shiftRun g) = q s := by
  simp only [State.shiftRun]
  (repeat' split) <;> simp [hrecord, hreport]

/-- What a gate closed by an offset leaves: the offset itself, the engines and the starts. -/
theorem offsetWritten_keeps (s : State) (g : Nat) :
    (s.offsetWritten g).get (R.HEAD_OFFSET_OFFSET g) = s.get (R.HEAD_OFFSET_OFFSET g) ∧
      (s.offsetWritten g).engs = s.engs ∧ (s.offsetWritten g).knd = s.knd := by
  have hget : (s.tearStay Torn.left g).get (R.HEAD_OFFSET_OFFSET g) = s.get (R.HEAD_OFFSET_OFFSET g) := by
    rw [State.tearStay, State.when_keeps _ (State.get _) _ _ fun t => shiftRun_keeps _ (fun _ _ _ _ => rfl) (fun _ _ _ _ => rfl) t g,
      tear_get (by simp)]
  have hside : ((s.tearStay Torn.left g).engs, (s.tearStay Torn.left g).knd) = (s.engs, s.knd) := by
    rw [State.tearStay, State.when_keeps _ (fun t => (t.engs, t.knd)) _ _ fun t =>
      shiftRun_keeps (fun t => (t.engs, t.knd)) (fun _ _ _ _ => rfl) (fun _ _ _ _ => rfl) t g]
    exact headsAside_engs_knd.tear s _ _ g
  obtain ⟨hengs, hknd⟩ := Prod.mk.inj hside
  simp only [State.offsetWritten]
  split
  · exact ⟨hget, hengs, hknd⟩
  · exact ⟨rfl, rfl, rfl⟩

/-- A gate is open at OFFSET 0 alone when a command ends (R151). -/
theorem after_gates_of_offset {g : Nat} (h : t.get (R.HEAD_OFFSET_OFFSET g) ≠ 0) : g ∉ (t.after s).gates := by
  rw [State.after_gates]
  simp [State.gateKeeps, h]

/-- HEAD_OFFSET. -/
theorem exec_headOffsetWrite (hw : writable p s) (g : GHead) (w : Word) :
    ∃ t : State, exec (.headOffsetWrite p g w) s = .next t ∧ (
      t.get (R.HEAD_OFFSET_OFFSET g) = field (R.HEAD_OFFSET_OFFSET g) w ∧
      (field (R.HEAD_OFFSET_OFFSET g) w ≠ 0 → g.val ∉ t.gates) ∧ dataKept s t ∧ hostKept s t) := by
  have htake := takeWord_HEAD_OFFSET (s.count (R.GLB_ACCESS_WRITES (pathKind p)) 1) p g w.toNat
  generalize hu : (s.count (R.GLB_ACCESS_WRITES (pathKind p)) 1).set (R.HEAD_OFFSET_OFFSET g) ((R.HEAD_OFFSET_OFFSET g).of w.toNat) = u at htake
  obtain ⟨hkeep, hengs, hknd⟩ := offsetWritten_keeps u g
  have hrow := act_slotRow hw (slotReg_HEAD_OFFSET g) w htake (slotEffect_HEAD_OFFSET g _ _ _ _) (by rw [hengs, ← hu]; rfl)
    (by rw [hknd, ← hu]; rfl)
  have hget : ((if false then (u.offsetWritten g).regRefused (A.HEAD_OFFSET g) w.toNat else u.offsetWritten g).recordWrite p
      (A.HEAD_OFFSET g) w.toNat).get (R.HEAD_OFFSET_OFFSET g) = field (R.HEAD_OFFSET_OFFSET g) w := by
    rw [recordWrite_get, if_neg (by decide), hkeep, ← hu, State.get_set_same, field, Fld.of, Nat.mod_mod]
  refine ⟨_, hrow, ?_, fun hne => after_gates_of_offset ?_, kept_of_host ?_⟩
  · rw [State.get_after, hget]
  · rwa [hget]
  · rw [State.host_after, host_written, host_offsetWritten, ← hu]
    rfl

/-- Settles O17: each clause is a command's lemma. -/
theorem actuatorSeeksLoadsUnloads : Obligations.ActuatorSeeksLoadsUnloads := by
  intro s
  refine ⟨fun m target write hrun => exec_seekRequest m hrun target write, fun m hrun => exec_seekLoopsResume m hrun,
    fun m mv c hrun hstate hpermit hc => exec_load hrun m hstate hpermit hc, fun m hrun hstate => ?_,
    fun p m w hw => exec_actCtrlUnload hw m w, fun m hrun => exec_headsParked hrun m, fun p g w hw => exec_headOffsetWrite hw g w⟩
  exact ⟨exec_loadServoAcquired hrun m hstate, exec_loadFail hrun m hstate⟩

end Sys2Proof.Machine

namespace Sys2Proof.Machine

variable {s s1 t : State} {p : Path}

/-! ## SPIN_CTRL (R79, R87) -/

theorem slotReg_SPIN_CTRL (i : Slot) : SlotReg i.val (A.SPIN_CTRL i)
    [⟨R.SPIN_CTRL_SETPOINT i, .rw, .v, [(0, 2)]⟩, ⟨R.SPIN_CTRL_AUTO i, .rw, .k, []⟩, ⟨R.SPIN_CTRL_RESTART i, .wo, .v, []⟩] := by
  have hrow : ∀ i : Nat, ((slotRowIn regRows 0x80).map fun x => (x.1.snap, x.1.fields (i :: x.2))) = some (false,
      [⟨R.SPIN_CTRL_SETPOINT i, .rw, .v, [(0, 2)]⟩, ⟨R.SPIN_CTRL_AUTO i, .rw, .k, []⟩, ⟨R.SPIN_CTRL_RESTART i, .wo, .v, []⟩]) :=
    fun _ => rfl
  exact slotReg_of (o := 0x80) i.isLt (by decide) (by decide) (by simp only [A.SPIN_CTRL]; omega) (hrow i) rfl

/-- SPIN_CTRL is no register of another kind in its block. -/
theorem spinCtrl_at : ∀ i : Slot, slotAt (A.SPIN_CTRL i) 0x004 = none ∧ memberAt (A.SPIN_CTRL i) 0x020 8 = none ∧
    slotAt (A.SPIN_CTRL i) 0x080 = some i.val ∧ advSlot (A.SPIN_CTRL i) = none := by
  decide +kernel

/-- What a word leaves of SPIN_CTRL: the reserved set-point keeps the old one (R14, R79). -/
def spinCtrlTaken (i w : Nat) (s : State) : State :=
  (if (R.SPIN_CTRL_SETPOINT i).of w ≤ 2 then s.set (R.SPIN_CTRL_SETPOINT i) ((R.SPIN_CTRL_SETPOINT i).of w) else s).set
    (R.SPIN_CTRL_AUTO i) ((R.SPIN_CTRL_AUTO i).of w)

theorem takeWord_SPIN_CTRL (s : State) (p : Path) (i : Slot) (w : Nat) :
    s.takeWord p (A.SPIN_CTRL i) w = (!decide ((R.SPIN_CTRL_SETPOINT i).of w ≤ 2), spinCtrlTaken i w s) := by
  obtain ⟨-, -, -, hadv⟩ := spinCtrl_at i
  have hset (u : State) (v : Nat) : u.refuses ⟨R.SPIN_CTRL_SETPOINT i, .rw, .v, [(0, 2)]⟩ v = !decide (v ≤ 2) := by
    rw [refuses_slot (by simp; omega)]; simp [FSpec.takes, FSpec.ok]
  have hauto (u : State) (v : Nat) : u.refuses ⟨R.SPIN_CTRL_AUTO i, .rw, .k, []⟩ v = false := by
    rw [refuses_slot (by simp; omega)]; rfl
  have hrestart (u : State) (v : Nat) : u.refuses ⟨R.SPIN_CTRL_RESTART i, .wo, .v, []⟩ v = false := by
    rw [refuses_slot (by simp; omega)]; rfl
  rw [(slotReg_SPIN_CTRL i).takeWord hadv]
  by_cases hlegal : (R.SPIN_CTRL_SETPOINT i).of w ≤ 2 <;>
    simp [State.takeField, spinCtrlTaken, hset, hauto, hrestart, hlegal]

/-- A set-point other than the one before is a set-point change (R79). -/
def setpointMoved (i was : Nat) (s : State) : State :=
  if s.get (R.SPIN_CTRL_SETPOINT i) = was then s
  else (s.set (R.SPIN_CTRL_SETPOINT i) was).setSetpoint i (s.get (R.SPIN_CTRL_SETPOINT i))

theorem slotEffect_SPIN_CTRL (i : Slot) (w : Nat) (acts : Bool) (old s : State) :
    State.slotEffect none (A.SPIN_CTRL i) w acts old s =
      if acts && (R.SPIN_CTRL_RESTART i).of w = 1 then (setpointMoved i (old.get (R.SPIN_CTRL_SETPOINT i)) s).restartSpindle i
      else setpointMoved i (old.get (R.SPIN_CTRL_SETPOINT i)) s := by
  obtain ⟨hctrl, hpser, hspin, -⟩ := spinCtrl_at i
  simp only [State.slotEffect, hctrl, hpser, hspin]
  rfl

/-- A set-point change leaves the set-point written, the engines and the starts asked for. -/
theorem setpointMoved_shows (i was : Nat) {s : State} (h : s.get (R.SPIN_CTRL_SETPOINT i) = was ∨ s.get (R.SPIN_CTRL_SETPOINT i) ≤ 2) :
    (setpointMoved i was s).get (R.SPIN_CTRL_SETPOINT i) = s.get (R.SPIN_CTRL_SETPOINT i) ∧
      (setpointMoved i was s).engs = s.engs ∧ (setpointMoved i was s).knd = s.knd := by
  rw [setpointMoved]
  split
  · exact ⟨rfl, rfl, rfl⟩
  · rename_i hmoves
    have hview := slot_of_mech (mech_setSetpoint (s.set (R.SPIN_CTRL_SETPOINT i) was) i (s.get (R.SPIN_CTRL_SETPOINT i)))
    obtain ⟨hengs, hknd⟩ := slotView_host hview
    refine ⟨?_, hengs, hknd⟩
    rw [slotView_get hview (slotKey_SETPOINT i), State.get_set_same]
    exact Nat.mod_eq_of_lt (by have := h.resolve_left hmoves; simp; omega)

@[simp] theorem host_setpointMoved (i was : Nat) (s : State) : hostView (setpointMoved i was s) = hostView s := by
  rw [setpointMoved]
  split <;> simp

@[simp] theorem host_spinCtrlTaken (i w : Nat) (s : State) : hostView (spinCtrlTaken i w s) = hostView s := by
  rw [spinCtrlTaken]
  split <;> simp

/-- SETPOINT takes a legal value. -/
theorem spinCtrlTaken_setpoint (i w : Nat) (s : State) : (spinCtrlTaken i w s).get (R.SPIN_CTRL_SETPOINT i) =
    if (R.SPIN_CTRL_SETPOINT i).of w ≤ 2 then (R.SPIN_CTRL_SETPOINT i).of w else s.get (R.SPIN_CTRL_SETPOINT i) := by
  rw [spinCtrlTaken]
  split <;> simp [Fld.of]

theorem spinCtrlTaken_get_ne {i : Nat} {f : Fld} (hset : f.key ≠ (R.SPIN_CTRL_SETPOINT i).key)
    (hauto : f.key ≠ (R.SPIN_CTRL_AUTO i).key) (w : Nat) (s : State) : (spinCtrlTaken i w s).get f = s.get f := by
  rw [spinCtrlTaken]
  split <;> simp [hset, hauto]

theorem spinCtrlTaken_side (i w : Nat) (s : State) : (spinCtrlTaken i w s).engs = s.engs ∧ (spinCtrlTaken i w s).knd = s.knd := by
  rw [spinCtrlTaken]
  split <;> exact ⟨rfl, rfl⟩

/-- A refused write names its address. -/
theorem refused_addr {a w : Nat} (ha : a < 2 ^ 32) : ((t.regRefused a w).recordWrite p a w).get R.GLB_REFUSED_ADDR = a := by
  rw [recordWrite_get, State.regRefused, State.get_event, State.get_set_same]
  exact Nat.mod_eq_of_lt ha

/-- SPIN_CTRL with a set-point and no restart. -/
theorem exec_spinCtrlSetpoint (hw : writable p s) (i : Slot) (w : Word) (hrestart : field (R.SPIN_CTRL_RESTART i) w = 0) :
    ∃ t : State, exec (.spinCtrlSetpoint p i w) s = .next t ∧ (
      (field (R.SPIN_CTRL_SETPOINT i) w ≤ 2 → t.get (R.SPIN_CTRL_SETPOINT i) = field (R.SPIN_CTRL_SETPOINT i) w) ∧
      (field (R.SPIN_CTRL_SETPOINT i) w = 3 →
        t.get (R.SPIN_CTRL_SETPOINT i) = s.get (R.SPIN_CTRL_SETPOINT i) ∧ t.get R.GLB_REFUSED_ADDR = A.SPIN_CTRL i) ∧
      dataKept s t ∧ hostKept s t) := by
  simp only [field] at hrestart ⊢
  have htake := takeWord_SPIN_CTRL (s.count (R.GLB_ACCESS_WRITES (pathKind p)) 1) p i w.toNat
  have hset := spinCtrlTaken_setpoint i w.toNat (s.count (R.GLB_ACCESS_WRITES (pathKind p)) 1)
  obtain ⟨hengs, hknd⟩ := spinCtrlTaken_side i w.toNat (s.count (R.GLB_ACCESS_WRITES (pathKind p)) 1)
  have hcount : (s.count (R.GLB_ACCESS_WRITES (pathKind p)) 1).get (R.SPIN_CTRL_SETPOINT i) = s.get (R.SPIN_CTRL_SETPOINT i) :=
    get_write_count_ne (slot_ne_count (by simp; omega) p)
  have heffect (acts : Bool) := slotEffect_SPIN_CTRL i w.toNat acts (s.count (R.GLB_ACCESS_WRITES (pathKind p)) 1)
    (spinCtrlTaken i w.toNat (s.count (R.GLB_ACCESS_WRITES (pathKind p)) 1))
  rw [hcount] at hset heffect
  rw [hrestart] at heffect
  generalize hu : spinCtrlTaken i w.toNat (s.count (R.GLB_ACCESS_WRITES (pathKind p)) 1) = u at *
  obtain ⟨hmoved, hengst, hkndt⟩ := setpointMoved_shows i (s.get (R.SPIN_CTRL_SETPOINT i)) (s := u) (by rw [hset]; split <;> simp_all)
  have hrow := act_slotRow hw (slotReg_SPIN_CTRL i) w htake ((heffect _).trans (by simp)) (hengst.trans hengs) (hkndt.trans hknd)
  refine ⟨_, hrow, fun hlegal => ?_, fun hreserved => ⟨?_, ?_⟩, kept_of_host ?_⟩
  · rw [State.get_after, written_get (slot_ne_refused (by simp; omega)), hmoved, hset, if_pos hlegal]
  · rw [State.get_after, written_get (slot_ne_refused (by simp; omega)), hmoved, hset, if_neg (by omega)]
  · rw [State.get_after, hreserved]
    exact refused_addr (by simp only [A.SPIN_CTRL]; omega)
  · rw [State.host_after, host_written]
    simp [← hu]

/-- RESTART of a failed spindle whose HDA is in service clears the failures and senses (R87). -/
theorem restartSpindle_shows {i : Nat} (hslot : s.get (R.SLOT_STATUS_STATE i) ≠ 7) (hstate : s.get (R.SPIN_STATUS_STATE i) = 9) :
    (s.restartSpindle i).get (R.SPIN_STATUS_START_FAILS i) = 0 ∧ (s.restartSpindle i).get (R.SPIN_STATUS_STATE i) = 1 ∧
      (s.restartSpindle i).engs = s.engs ∧ (s.restartSpindle i).knd = s.knd := by
  have hrestart : s.restartSpindle i = (s.set (R.SPIN_STATUS_START_FAILS i) 0).startSense i := by
    simp [State.restartSpindle, State.spState, hslot, hstate]
  obtain ⟨hengs, hknd⟩ := slotView_host (slot_of_mech (mech_startSense (s.set (R.SPIN_STATUS_START_FAILS i) 0) i))
  rw [hrestart]
  refine ⟨?_, startSense_get_STATE _ i, hengs, hknd⟩
  rw [State.startSense, enterSp_get_ne _ (by decide)] <;> simp

/-- SPIN_CTRL with RESTART and the set-point as it was. -/
theorem exec_spinCtrlRestart (hw : writable p s) (i : Slot) (w : Word) (hslot : s.get (R.SLOT_STATUS_STATE i) ≠ 7)
    (hstate : s.get (R.SPIN_STATUS_STATE i) = 9) (hrestart : field (R.SPIN_CTRL_RESTART i) w = 1)
    (hkeeps : field (R.SPIN_CTRL_SETPOINT i) w = s.get (R.SPIN_CTRL_SETPOINT i)) (hlegal : field (R.SPIN_CTRL_SETPOINT i) w ≤ 2) :
    ∃ t : State, exec (.spinCtrlRestart p i w) s = .next t ∧ (
      t.get (R.SPIN_STATUS_START_FAILS i) = 0 ∧ t.get (R.SPIN_STATUS_STATE i) = 1 ∧ dataKept s t ∧ hostKept s t) := by
  simp only [field] at hrestart hkeeps hlegal
  have htake := takeWord_SPIN_CTRL (s.count (R.GLB_ACCESS_WRITES (pathKind p)) 1) p i w.toNat
  obtain ⟨hengs, hknd⟩ := spinCtrlTaken_side i w.toNat (s.count (R.GLB_ACCESS_WRITES (pathKind p)) 1)
  have hcount {f : Fld} (hf : 0x100000 ≤ f.addr) : (s.count (R.GLB_ACCESS_WRITES (pathKind p)) 1).get f = s.get f :=
    get_write_count_ne (slot_ne_count hf p)
  have htaken {f : Fld} (hf : 0x100000 ≤ f.addr) (hset : f.key ≠ (R.SPIN_CTRL_SETPOINT i).key)
      (hauto : f.key ≠ (R.SPIN_CTRL_AUTO i).key) :
      (spinCtrlTaken i w.toNat (s.count (R.GLB_ACCESS_WRITES (pathKind p)) 1)).get f = s.get f := by
    rw [spinCtrlTaken_get_ne hset hauto, hcount hf]
  generalize hu : spinCtrlTaken i w.toNat (s.count (R.GLB_ACCESS_WRITES (pathKind p)) 1) = u at *
  have hsame : setpointMoved i ((s.count (R.GLB_ACCESS_WRITES (pathKind p)) 1).get (R.SPIN_CTRL_SETPOINT i)) u = u := by
    rw [hcount (by simp; omega), setpointMoved, if_pos]
    rw [← hu, spinCtrlTaken_setpoint, if_pos hlegal, hkeeps]
  have heffect : State.slotEffect none (A.SPIN_CTRL i) w.toNat (!!decide ((R.SPIN_CTRL_SETPOINT i).of w.toNat ≤ 2))
      (s.count (R.GLB_ACCESS_WRITES (pathKind p)) 1) u = u.restartSpindle i := by
    rw [slotEffect_SPIN_CTRL, hsame]
    simp [hrestart, hlegal]
  obtain ⟨hfails, hst, hengst, hkndt⟩ := restartSpindle_shows (s := u) (i := i)
    (by rwa [htaken] <;> simp) (by rwa [htaken] <;> simp; omega)
  have hrow := act_slotRow hw (slotReg_SPIN_CTRL i) w htake (by simpa using heffect) (hengst.trans hengs) (hkndt.trans hknd)
  refine ⟨_, hrow, ?_, ?_, kept_of_host ?_⟩
  · rw [State.get_after, written_get (slot_ne_refused (by simp; omega)), hfails]
  · rw [State.get_after, written_get (slot_ne_refused (by simp; omega)), hst]
  · rw [State.host_after, host_written]
    simp [← hu]

end Sys2Proof.Machine

namespace Sys2Proof.Machine

variable {s s1 t : State} {p : Path}

/-! ## SPIN_ADV (R68) -/

theorem slotReg_SPIN_ADV (i : Slot) (k : Fin 4) : SlotReg i.val (A.SPIN_ADV i k)
    [⟨R.SPIN_ADV_ENTRY_LO i k, .rw, .k, []⟩, ⟨R.SPIN_ADV_ENTRY_HI i k, .rw, .k, []⟩] := by
  have hrow : ∀ (i : Nat) (k : Fin 4), ((slotRowIn regRows (0x98 + k * 4)).map fun x => (x.1.snap, x.1.fields (i :: x.2))) =
      some (false, [⟨R.SPIN_ADV_ENTRY_LO i k, .rw, .k, []⟩, ⟨R.SPIN_ADV_ENTRY_HI i k, .rw, .k, []⟩]) := by
    intro i k
    fin_cases k <;> rfl
  exact slotReg_of (o := 0x98 + k * 4) i.isLt (by omega) (by omega) (by simp only [A.SPIN_ADV]; omega) (hrow i k) rfl

/-- SPIN_ADV is no register of another kind in its block. -/
theorem spinAdv_at : ∀ (i : Slot) (k : Fin 4), slotAt (A.SPIN_ADV i k) 0x004 = none ∧ memberAt (A.SPIN_ADV i k) 0x020 8 = none ∧
    slotAt (A.SPIN_ADV i k) 0x080 = none ∧ memberAt (A.SPIN_ADV i k) 0x0C0 0x20 = none ∧ offsetAt (A.SPIN_ADV i k) = none ∧
      advSlot (A.SPIN_ADV i k) = some i.val := by
  decide +kernel

theorem slotEffect_SPIN_ADV (i : Slot) (k : Fin 4) (w : Nat) (acts : Bool) (old s : State) :
    State.slotEffect none (A.SPIN_ADV i k) w acts old s = s := by
  obtain ⟨hctrl, hpser, hspin, hact, hoffset, -⟩ := spinAdv_at i k
  simp only [State.slotEffect, hctrl, hpser, hspin, hact, hoffset]

/-- The two entries of a word of the table. -/
def advSet (i k w : Nat) (s : State) : State :=
  (s.set (R.SPIN_ADV_ENTRY_LO i k) ((R.SPIN_ADV_ENTRY_LO i k).of w)).set (R.SPIN_ADV_ENTRY_HI i k) ((R.SPIN_ADV_ENTRY_HI i k).of w)

theorem takeWord_SPIN_ADV (s : State) (p : Path) (i : Slot) (k : Fin 4) (w : Nat) :
    s.takeWord p (A.SPIN_ADV i k) w = if (advSet i k w s).advRises i then (false, advSet i k w s)
      else (true, (((advSet i k w s).set (R.SPIN_ADV_ENTRY_LO i k) (s.get (R.SPIN_ADV_ENTRY_LO i k))).set (R.SPIN_ADV_ENTRY_HI i k)
        (s.get (R.SPIN_ADV_ENTRY_HI i k))).event Ev.SPIN_ADV_TABLE_INVALID (origin 1 i) 0 0 0 0) := by
  obtain ⟨-, -, -, -, -, hadv⟩ := spinAdv_at i k
  have h := slotReg_SPIN_ADV i k
  have hlo (u : State) (v : Nat) : u.refuses ⟨R.SPIN_ADV_ENTRY_LO i k, .rw, .k, []⟩ v = false := by
    rw [refuses_slot (by simp; omega)]; rfl
  have hhi (u : State) (v : Nat) : u.refuses ⟨R.SPIN_ADV_ENTRY_HI i k, .rw, .k, []⟩ v = false := by
    rw [refuses_slot (by simp; omega)]; rfl
  have htaken : s.forAll [⟨R.SPIN_ADV_ENTRY_LO i k, .rw, .k, []⟩, ⟨R.SPIN_ADV_ENTRY_HI i k, .rw, .k, []⟩] (State.takeField w) =
      advSet i k w s := by
    simp [State.takeField, hlo, hhi, advSet]
  simp only [State.takeWord, State.judge, h.noSnap, h.noJoints, hadv, h.layout, Bool.false_eq_true, if_false, htaken, List.foldl_nil]
  split
  · simp [hlo, hhi]
  · simp

/-- Whether the table rises tells only by its entries. -/
theorem advRises_congr {i : Nat} (h : ∀ f : Fld, 0x100000 ≤ f.addr → t.get f = s.get f) : t.advRises i = s.advRises i := by
  have hentry (k : Nat) : t.get (R.SPIN_ADV_ENTRY_LO i k) = s.get (R.SPIN_ADV_ENTRY_LO i k) ∧
      t.get (R.SPIN_ADV_ENTRY_HI i k) = s.get (R.SPIN_ADV_ENTRY_HI i k) := ⟨h _ (by simp; omega), h _ (by simp; omega)⟩
  simp only [State.advRises, hentry]

/-- Two states that agree on a field agree on it after one more write. -/
theorem get_set_congr {f g : Fld} (h : t.get g = s.get g) (v : Nat) : (t.set f v).get g = (s.set f v).get g := by
  by_cases hkey : g.key = f.key
  · simp only [State.get, State.set, tgetD]
    split <;> simp [hkey]
  · rw [State.get_set_ne _ hkey, State.get_set_ne _ hkey, h]

/-- SPIN_ADV. -/
theorem exec_spinAdvWrite (hw : writable p s) (i : Slot) (k : Fin 4) (w : Word) :
    ∃ t : State, exec (.spinAdvWrite p i k w) s = .next t ∧ (
      ((advSet i k w.toNat s).advRises i = true →
        t.get (R.SPIN_ADV_ENTRY_LO i k) = field (R.SPIN_ADV_ENTRY_LO i k) w ∧
        t.get (R.SPIN_ADV_ENTRY_HI i k) = field (R.SPIN_ADV_ENTRY_HI i k) w) ∧
      ((advSet i k w.toNat s).advRises i = false → t.get R.GLB_REFUSED_ADDR = A.SPIN_ADV i k)) := by
  have hrises : (advSet i k w.toNat (s.count (R.GLB_ACCESS_WRITES (pathKind p)) 1)).advRises i = (advSet i k w.toNat s).advRises i :=
    advRises_congr fun f hf => get_set_congr (get_set_congr (get_write_count_ne (slot_ne_count hf p)) _) _
  have htake := takeWord_SPIN_ADV (s.count (R.GLB_ACCESS_WRITES (pathKind p)) 1) p i k w.toNat
  rw [hrises] at htake
  cases hcase : (advSet i k w.toNat s).advRises i with
  | true =>
    rw [if_pos hcase] at htake
    refine ⟨_, act_slotRow hw (slotReg_SPIN_ADV i k) w htake (slotEffect_SPIN_ADV ..) rfl rfl, fun _ => ?_, by simp⟩
    simp only [State.get_after, if_neg Bool.false_ne_true, recordWrite_get]
    simp [advSet, field, Fld.of]
  | false =>
    rw [if_neg (by simp [hcase])] at htake
    refine ⟨_, act_slotRow hw (slotReg_SPIN_ADV i k) w htake (slotEffect_SPIN_ADV ..) (by simp [advSet, State.count_eq]) (by simp [advSet, State.count_eq]),
      by simp, fun _ => ?_⟩
    rw [State.get_after, if_pos rfl]
    exact refused_addr (by simp only [A.SPIN_ADV]; omega)

end Sys2Proof.Machine

namespace Sys2Proof.Machine

variable {s t : State}

/-! ## The staggered spin-up (R89) -/

/-- A slot senses and waits no more. -/
def sensing (i : Nat) (s : State) : Prop := s.get (R.SPIN_STATUS_STATE i) = 1 ∧ (s.spin i).waiting = false

theorem startSense_sensing (i : Nat) (s : State) : sensing i (s.startSense i) := by
  obtain ⟨hwait, -⟩ := startSense_spin s i
  exact ⟨startSense_get_STATE s i, hwait⟩

/-- A sense of any slot keeps one that senses. -/
theorem sensing_startSense {i : Nat} (j : Nat) (h : sensing i s) : sensing i (s.startSense j) := by
  obtain rfl | hij := eq_or_ne i j
  · exact startSense_sensing i s
  · obtain ⟨hstate, hwait⟩ := h
    refine ⟨?_, by rw [startSense_spin_ne _ hij, hwait]⟩
    rw [startSense_get_ne _ (by simp; omega) (by simp; omega) (by simp), hstate]

/-- SPINUP_GROUP_START. -/
theorem exec_spinupGroupStart (hrun : s.run = .up) (j : Fin 8) (hcut : s.isCut = false) (hcap : s.get R.PWR_CAP_ACTIONS = 0)
    (hnext : s.nextGroup = some j.val) (hgap : s.groupGap = true)
    (hbudget : s.allowanceUsed + (s.waitingSlots.filter fun i => i % 8 = j.val).foldl (fun n i => n + s.allowance i) 0 ≤
      2 * s.get R.SPINUP_CTRL_BUDGET) :
    ∃ t : State, exec (.spinupGroupStart j) s = .next t ∧ (
      (∀ i ∈ s.waitingSlots, i % 8 = j.val → t.get (R.SPIN_STATUS_STATE i) = 1 ∧ (t.spin i).waiting = false) ∧
      t.get R.SPINUP_CTRL_GROUP = j.val ∧ dataKept s t ∧ hostKept s t) := by
  generalize hstarted : s.forAll (s.waitingSlots.filter fun i => i % 8 = j.val) State.startSense = u
  have hsensing (i : Nat) (hi : i ∈ s.waitingSlots) (hgroup : i % 8 = j.val) : sensing i u :=
    hstarted ▸ State.forAll_brings s (by simp [hi, hgroup]) _ (startSense_sensing i) fun k t => sensing_startSense k
  obtain ⟨more, hget, hspin⟩ : ∃ more, (∀ f, (spinupGroupStart j s).get f =
      ((u.set R.SPINUP_CTRL_GROUP j).set R.SPINUP_CTRL_ACTIVE more).get f) ∧ ∀ i, (spinupGroupStart j s).spin i = u.spin i := by
    rw [spinupGroupStart, if_pos (by simp [hnext, hgap, hcap, hcut, hbudget]), hstarted]
    exact ⟨_, fun _ => rfl, fun _ => rfl⟩
  refine ⟨_, act_up hrun _, fun i hi hgroup => ?_, ?_, kept_of_host (by simp)⟩
  · obtain ⟨hstate, hwait⟩ := hsensing i hi hgroup
    rw [State.get_after, State.spin_after, hget, hspin]
    refine ⟨?_, hwait⟩
    rw [State.get_set_ne _ (by simp), State.get_set_ne _ (by simp), hstate]
  · rw [State.get_after, hget, State.get_set_ne _ (by simp), State.get_set_same]
    exact Nat.mod_eq_of_lt j.isLt

end Sys2Proof.Machine

namespace Sys2Proof.Machine

/-! ## What the evaluation of a loop leaves of the spindles (R121 to R124) -/

variable (s : State)

@[simp] theorem restPositioners_spins : s.restPositioners.spins = s.spins :=
  State.forAll_keeps s State.spins _ _ fun _ _ => rfl

/-- Lanes and set limits that follow the lanes in service leave what each spindle holds. -/
@[simp] theorem laneRefresh_spins : s.laneRefresh.spins = s.spins := by
  have hfit (t : State) : (t.forAll (List.range 64) State.fitSet).spins = t.spins :=
    State.forAll_keeps t State.spins _ _ fun m u => fitSet_spins u m
  have hunload (t : State) : (t.forAll (List.range 64) (State.unload true Torn.unload)).spins = t.spins :=
    State.forAll_keeps t State.spins _ _ fun m u => unload_spins u true Torn.unload m
  have hrest (t : State) (c : Bool) : (t.when c State.restPositioners).spins = t.spins :=
    State.when_keeps t State.spins c _ restPositioners_spins
  simp only [State.laneRefresh]
  split <;> simp [view_ite State.spins, hfit, hunload, hrest]

@[simp] theorem retire_spins (k i r e : Nat) (held : Bool) (a b c d : Nat) : (s.retire k i r e held a b c d).spins = s.spins := by
  have hledger (t : State) : (t.enterLedger k i r held).spins = t.spins := by
    simp only [State.enterLedger]; split <;> rfl
  have hplan (t : State) (x y z : Nat) : (t.plan x y z).spins = t.spins := rfl
  have hattn (t : State) : (t.attention k i).spins = t.spins := by
    simp only [State.attention]; (repeat' split) <;> simp
  rw [State.retire, hplan, hattn, State.event_spins, hledger]

@[simp] theorem retireLane_spins (n : Nat) : (s.retireLane n).spins = s.spins := by
  simp [State.retireLane, State.retireLaneFor, view_ite State.spins]

@[simp] theorem outvote_spins (n : Nat) : (s.outvote n).spins = s.spins := by
  simp [State.outvote, view_ite State.spins, State.count_eq]

@[simp] theorem fenceLanes_spins (ns : List Nat) : (s.fenceLanes ns).spins = s.spins := by
  simp [State.fenceLanes]

@[simp] theorem vote_spins (v : Int) (runs : List LaneRun) : (s.vote v runs).2.spins = s.spins := by
  simp only [State.vote]
  (repeat' split) <;> simp

@[simp] theorem evalLoop_spins (l : Nat) (e : Int) (runs : List LaneRun) : (s.evalLoop l e runs).spins = s.spins := by
  simp only [State.evalLoop]
  (repeat' split) <;> simp

@[simp] theorem spindleLoop_spin (i : Nat) (e : Int) (runs : List LaneRun) (ns j : Nat) :
    (s.spindleLoop i e runs ns).spin j = s.spin j := by
  have hcount (t : State) (c : Bool) : (t.when c (State.count R.DAMP_DELAY_BOUND_MISS 1)).spins = t.spins :=
    State.when_keeps t State.spins c _ fun _ => rfl
  simp only [State.spin, State.spindleLoop]
  split <;> simp [hcount]

end Sys2Proof.Machine

namespace Sys2Proof.Machine

variable {s : State} {i : Nat}

/-! ## A crossing (R66 to R70) -/

/-- The runs of missing and of measured crossings, and the commutation step, that a spindle holds. -/
def Spindle.crossingRun (x : Spindle) : Nat × Nat × Nat := (x.missing, x.measured, x.step)

@[simp] theorem moveRef_crossingRun (s : State) (i dt speed : Nat) :
    ((s.moveRef i dt speed).spin i).crossingRun = (s.spin i).crossingRun := by
  simp [State.moveRef, Spindle.crossingRun]

@[simp] theorem recoveredCheck_get (s : State) (f : Fld) : s.recoveredCheck.get f = s.get f := by
  simp only [State.recoveredCheck]; split <;> rfl
@[simp] theorem recoveredCheck_spin (s : State) (i : Nat) : s.recoveredCheck.spin i = s.spin i := by
  simp only [State.recoveredCheck]; split <;> rfl

/-- Reaching SPEED leaves the measured speed and the crossings' runs. -/
theorem atSpeed_keeps (s : State) (i : Nat) : (s.atSpeed i).get (R.SPIN_SPEED_SPEED i) = s.get (R.SPIN_SPEED_SPEED i) ∧
    ((s.atSpeed i).spin i).crossingRun = (s.spin i).crossingRun := by
  simp only [State.atSpeed]
  split <;> simp [Spindle.crossingRun]

/-- Braking to rest leaves them too. -/
theorem brakeRest_keeps (s : State) (i : Nat) : (s.enterSp i Sp.brakeRest).get (R.SPIN_SPEED_SPEED i) = s.get (R.SPIN_SPEED_SPEED i) ∧
    ((s.enterSp i Sp.brakeRest).spin i).crossingRun = (s.spin i).crossingRun := by
  rw [enterSp_spin _ _ (by decide)]
  exact ⟨enterSp_get_ne _ (by decide) (by simp) (by simp) (by simp) (by simp) (by simp), rfl⟩

/-- A new measured speed with its window, the heads unloaded where it is at or below 4,600 rpm (R77, R78). -/
def State.speedShown (i speed : Nat) (s : State) : State :=
  let inw := inWindow (s.get (R.SPIN_CTRL_SETPOINT i)) speed
  let s1 := (s.set (R.SPIN_SPEED_SPEED i) speed).setSpin i
    { s.spin i with inside := if inw then (s.spin i).inside + 1 else 0 }
  let s2 := if inw then s1 else s1.set (R.SPIN_STATUS_IN_WINDOW i) 0
  if speed ≤ 46000 then (s2.unload false Torn.unload (2 * i)).unload false Torn.unload (2 * i + 1) else s2

theorem speedShown_shows (s : State) (i speed : Nat) : (s.speedShown i speed).get (R.SPIN_SPEED_SPEED i) = speed % 2 ^ 17 ∧
    ((s.speedShown i speed).spin i).crossingRun = (s.spin i).crossingRun := by
  simp only [State.speedShown]
  split <;> split <;> simp [unload_spinKey, Spindle.crossingRun]

/-- It leads at most to a brake or to SPEED (R74, R79). -/
theorem speedMeasured_eq (s : State) (i speed : Nat) : ∃ (ramp : Prop) (_ : Decidable ramp) (down reached : Bool), s.speedMeasured i speed =
    if ramp then
      if down then (s.speedShown i speed).enterSp i Sp.brakeRest
      else if reached then (s.speedShown i speed).atSpeed i else s.speedShown i speed
    else s.speedShown i speed := ⟨_, _, _, _, rfl⟩

/-- A new measured speed is shown, with the runs of crossings as they were. -/
theorem speedMeasured_shows (s : State) (i speed : Nat) : (s.speedMeasured i speed).get (R.SPIN_SPEED_SPEED i) = speed % 2 ^ 17 ∧
    ((s.speedMeasured i speed).spin i).crossingRun = (s.spin i).crossingRun := by
  obtain ⟨hspeed, hrun⟩ := speedShown_shows s i speed
  obtain ⟨hbrakeGet, hbrakeSpin⟩ := brakeRest_keeps (s.speedShown i speed) i
  obtain ⟨hreachGet, hreachSpin⟩ := atSpeed_keeps (s.speedShown i speed) i
  obtain ⟨ramp, _, down, reached, heq⟩ := speedMeasured_eq s i speed
  rw [heq]
  (repeat' split) <;> simp [hspeed, hrun, hbrakeGet, hbrakeSpin, hreachGet, hreachSpin]

/-- What a crossing of a class at a time leaves a spindle. -/
def Spindle.crossed (x : Spindle) (cls t : Nat) : Spindle :=
  { x with
    times := ((t, cls == 0) :: x.times).take 50
    predicted := if cls = 1 then x.predicted + 1 else 0
    missing := if cls = 2 then x.missing + 1 else 0
    measured := if cls = 0 then x.measured + 1 else 0 }

/-- The crossing is classed, on the blind ramp's reference where the spindle is there. -/
def State.crossed (i cls t : Nat) (s : State) : State :=
  ((s.blindShown i).setSpin i (((s.blindShown i).spin i).crossed cls t)).when (cls = 1) (State.count (R.SPIN_PRED_PREDICTED i) 1)

/-- The reference and the drive follow a measured crossing at a speed. -/
def State.followed (i dt speed t : Nat) (runs : List LaneRun) (ns : Nat) (s : State) : State :=
  let s2 := s.moveRef i dt speed
  let s3 := s2.spindleLoop i ((s2.get (R.SPIN_REF_REF i) : Int) - speed) runs ns
  ((s3.setSpin i { s3.spin i with duty := (s3.loop (768 + i)).out }).commutate i t).speedMeasured i speed

/-- A commutation goes on to the next step. -/
theorem commutate_crossingRun (s : State) (i t : Nat) : ((s.commutate i t).spin i).crossingRun =
    ((s.spin i).missing, (s.spin i).measured, ((s.spin i).step + 1) % 6) := by
  simp [State.commutate, Spindle.crossingRun]

/-- What a followed crossing shows and holds. -/
theorem followed_shows (s : State) (i dt speed t : Nat) (runs : List LaneRun) (ns : Nat) :
    (s.followed i dt speed t runs ns).get (R.SPIN_SPEED_SPEED i) = speed % 2 ^ 17 ∧
      ((s.followed i dt speed t runs ns).spin i).missing = (s.spin i).missing ∧
      ((s.followed i dt speed t runs ns).spin i).measured = (s.spin i).measured ∧
      ((s.followed i dt speed t runs ns).spin i).step = ((s.spin i).step + 1) % 6 := by
  obtain ⟨e, d, heq⟩ : ∃ e d, s.followed i dt speed t runs ns = ((((s.moveRef i dt speed).spindleLoop i e runs ns).setSpin i
      { ((s.moveRef i dt speed).spindleLoop i e runs ns).spin i with duty := d }).commutate i t).speedMeasured i speed := ⟨_, _, rfl⟩
  have hmoved := moveRef_crossingRun s i dt speed
  obtain ⟨hspeed, hrun⟩ := speedMeasured_shows ((((s.moveRef i dt speed).spindleLoop i e runs ns).setSpin i
    { ((s.moveRef i dt speed).spindleLoop i e runs ns).spin i with duty := d }).commutate i t) i speed
  rw [← heq] at hspeed hrun
  rw [commutate_crossingRun] at hrun
  simp only [Spindle.crossingRun, Prod.mk.injEq] at hmoved hrun
  obtain ⟨hmissing, hmeasured, hstep⟩ := hmoved
  simpa [hmissing, hmeasured, hstep, hspeed] using hrun

/-! ### A crossing in a state with an observer -/

/-- What a spindle holds once a crossing is classed. -/
theorem crossed_spin (s : State) (i cls t : Nat) : (s.crossed i cls t).spin i = ((s.blindShown i).spin i).crossed cls t := by
  rw [State.crossed, State.when_keeps _ (fun u => State.spin u i) _ (State.count (R.SPIN_PRED_PREDICTED i) 1) fun _ => rfl]
  simp

theorem crossed_runs (s : State) (i cls t : Nat) : ((s.crossed i cls t).spin i).predicted = (if cls = 1 then (s.spin i).predicted + 1 else 0) ∧
    ((s.crossed i cls t).spin i).missing = (if cls = 2 then (s.spin i).missing + 1 else 0) ∧
    ((s.crossed i cls t).spin i).measured = (if cls = 0 then (s.spin i).measured + 1 else 0) ∧
    ((s.crossed i cls t).spin i).step = (s.spin i).step := by
  obtain ⟨ref, h⟩ := blindShown_spin (s := s) i
  rw [crossed_spin, h]
  exact ⟨rfl, rfl, rfl, rfl⟩

/-- The classes do not look at the reference. -/
theorem classify_blindShown (s : State) (i : Nat) (x : Crossing) : classify ((s.blindShown i).spin i) x = classify (s.spin i) x := by
  obtain ⟨ref, h⟩ := blindShown_spin (s := s) i
  rw [h]
  rfl

variable {samples : List PhaseSample} {runs : List LaneRun} {ns cls at_ : Nat}
  (hclass : classify (s.spin i) (crossingOf none false samples) = (cls, at_))
include hclass

/-- In RAMP and SPEED a crossing of any class drives the commutation, and a measured one the loop (R67 to R69). -/
theorem zeroCrossing_closed (hstate : s.get (R.SPIN_STATUS_STATE i) = 6 ∨ s.get (R.SPIN_STATUS_STATE i) = 7) :
    zeroCrossing i samples runs ns s =
      if cls = 0 then (s.crossed i cls at_).followed i (at_ - ((s.spin i).times.head?.map (·.1)).getD at_)
        ((measuredSpeed (((at_, true) :: (s.spin i).times).take 50)).getD (s.get (R.SPIN_SPEED_SPEED i))) at_ runs ns
      else (s.crossed i cls at_).commutate i at_ := by
  have hblind : s.blindShown i = s := by
    obtain hstate | hstate := hstate <;> simp [State.blindShown, State.spState, hstate]
  have hclosed : (decide (s.spState i = Sp.ramp) || decide (s.spState i = Sp.speed)) = true := by
    obtain hstate | hstate := hstate <;> simp [State.spState, hstate]
  have hobserved : [Sp.blind, Sp.ramp, Sp.speed, Sp.recatch].contains (s.spState i) = true := by
    obtain hstate | hstate := hstate <;> simp [State.spState, hstate]
  simp only [zeroCrossing, hblind, hclass, hclosed, hobserved, if_true, Bool.and_true, State.crossed, Spindle.crossed]
  by_cases hcls : cls = 0
  · simp [hcls, State.followed]
  · simp [hcls]

/-- In BLIND and RECATCH the drive does not follow: a measured crossing shows at most its speed (R74, R82). -/
theorem zeroCrossing_open (hstate : s.get (R.SPIN_STATUS_STATE i) = 5 ∨ s.get (R.SPIN_STATUS_STATE i) = 8) :
    zeroCrossing i samples runs ns s = s.crossed i cls at_ ∨
      (cls = 0 ∧ ∃ v, zeroCrossing i samples runs ns s = (s.crossed i cls at_).set (R.SPIN_SPEED_SPEED i) v) := by
  have hopen : (decide (s.spState i = Sp.ramp) || decide (s.spState i = Sp.speed)) = false := by
    obtain hstate | hstate := hstate <;> simp [State.spState, hstate]
  have hobserved : [Sp.blind, Sp.ramp, Sp.speed, Sp.recatch].contains (s.spState i) = true := by
    obtain hstate | hstate := hstate <;> simp [State.spState, hstate]
  simp only [zeroCrossing, classify_blindShown, hclass, hopen, hobserved, if_true, Bool.and_false, Bool.false_eq_true, if_false,
    State.crossed, Spindle.crossed]
  by_cases hcls : cls = 0
  · cases hspeed : measuredSpeed ((at_, true) :: ((s.blindShown i).spin i).times.take 49) with
    | none => simp [hcls, hspeed]
    | some v => exact .inr ⟨hcls, v, by simp [hcls, hspeed]⟩
  · simp [hcls]

end Sys2Proof.Machine

namespace Sys2Proof.Machine

variable {s : State} {i : Nat} {samples : List PhaseSample} {runs : List LaneRun} {ns at_ : Nat}

/-! ## What a crossing takes effect on (R67 to R69, R74, R78) -/

/-- The observer's states: the two that the drive follows, and the two it does not. -/
theorem observed_cases (hlow : 5 ≤ s.get (R.SPIN_STATUS_STATE i)) (hhigh : s.get (R.SPIN_STATUS_STATE i) ≤ 8) :
    (s.get (R.SPIN_STATUS_STATE i) = 6 ∨ s.get (R.SPIN_STATUS_STATE i) = 7) ∨
      s.get (R.SPIN_STATUS_STATE i) = 5 ∨ s.get (R.SPIN_STATUS_STATE i) = 8 := by
  omega

/-- A missing crossing at most commutates. -/
theorem zeroCrossing_missing (hlow : 5 ≤ s.get (R.SPIN_STATUS_STATE i)) (hhigh : s.get (R.SPIN_STATUS_STATE i) ≤ 8)
    (hclass : classify (s.spin i) (crossingOf none false samples) = (2, at_)) :
    zeroCrossing i samples runs ns s = s.crossed i 2 at_ ∨ zeroCrossing i samples runs ns s = (s.crossed i 2 at_).commutate i at_ := by
  obtain hclosed | hopen := observed_cases hlow hhigh
  · rw [zeroCrossing_closed hclass hclosed]
    exact .inr rfl
  · obtain h | ⟨habsurd, -⟩ := zeroCrossing_open hclass hopen
    · exact .inl h
    · cases habsurd

/-- Both touch the fields and what the spindles hold alone. -/
theorem crossed_frame (s : State) (i cls t : Nat) : ∃ l x, s.crossed i cls t = { s with flds := l, spins := x } := by
  obtain ⟨l, x, hblind⟩ : ∃ l x, s.blindShown i = { s with flds := l, spins := x } := by
    simp only [State.blindShown]
    split <;> exact ⟨_, _, rfl⟩
  rw [State.crossed, hblind]
  cases decide (cls = 1) <;> exact ⟨_, _, rfl⟩

theorem after_of_flds_spins {u : State} (h : ∃ l x, u = { s with flds := l, spins := x }) :
    u.after s = { s with flds := (u.after s).flds, spins := (u.after s).spins, gates := (u.after s).gates } := by
  obtain ⟨l, x, rfl⟩ := h
  rfl

/-- A measured crossing clears the run of missing ones and adds to the measured ones. -/
theorem zeroCrossing_measured (hlow : 5 ≤ s.get (R.SPIN_STATUS_STATE i)) (hhigh : s.get (R.SPIN_STATUS_STATE i) ≤ 8)
    (hclass : classify (s.spin i) (crossingOf none false samples) = (0, at_)) :
    ((zeroCrossing i samples runs ns s).spin i).missing = 0 ∧
      ((zeroCrossing i samples runs ns s).spin i).measured = (s.spin i).measured + 1 := by
  obtain ⟨-, hmissing, hmeasured, -⟩ := crossed_runs s i 0 at_
  obtain hclosed | hopen := observed_cases hlow hhigh
  · rw [zeroCrossing_closed hclass hclosed, if_pos rfl]
    obtain ⟨-, hmissing', hmeasured', -⟩ := followed_shows (s.crossed i 0 at_) i (at_ - ((s.spin i).times.head?.map (·.1)).getD at_)
      ((measuredSpeed (((at_, true) :: (s.spin i).times).take 50)).getD (s.get (R.SPIN_SPEED_SPEED i))) at_ runs ns
    exact ⟨hmissing'.trans hmissing, hmeasured'.trans hmeasured⟩
  · obtain h | ⟨-, v, h⟩ := zeroCrossing_open hclass hopen <;> rw [h]
    · exact ⟨hmissing, hmeasured⟩
    · exact ⟨hmissing, hmeasured⟩

/-- Where it gives a speed and the drive follows it, that speed is shown and commutation goes on. -/
theorem zeroCrossing_speed {speed : Nat} (hclosed : s.get (R.SPIN_STATUS_STATE i) = 6 ∨ s.get (R.SPIN_STATUS_STATE i) = 7)
    (hclass : classify (s.spin i) (crossingOf none false samples) = (0, at_))
    (hspeed : measuredSpeed (((at_, true) :: (s.spin i).times).take 50) = some speed) :
    (zeroCrossing i samples runs ns s).get (R.SPIN_SPEED_SPEED i) = speed % 2 ^ 17 ∧
      ((zeroCrossing i samples runs ns s).spin i).missing = 0 ∧
      ((zeroCrossing i samples runs ns s).spin i).step = ((s.spin i).step + 1) % 6 := by
  obtain ⟨-, hmissing, -, hstep⟩ := crossed_runs s i 0 at_
  rw [zeroCrossing_closed hclass hclosed, if_pos rfl, hspeed, Option.getD_some]
  obtain ⟨hshown, hmissing', -, hstep'⟩ := followed_shows (s.crossed i 0 at_) i (at_ - ((s.spin i).times.head?.map (·.1)).getD at_)
    speed at_ runs ns
  exact ⟨hshown, hmissing'.trans hmissing, by rw [hstep', hstep]⟩

/-- Before twelve crossings a located one is measured (R67). -/
theorem classify_first {x : Spindle} (h : x.times.length < 12) (t : Nat) : classify x (.located t) = (0, t) := by
  have hnone : expected x.times = none := by
    have hlast : x.times[11]? = none := List.getElem?_eq_none (by omega)
    rw [expected, hlast]
    split <;> simp_all
  simp [classify, hnone]

/-! ### The command -/

section Command
variable (slot : Slot) (e : LaneRuns) (hrun : s.run = .up) (hlow : 5 ≤ s.get (R.SPIN_STATUS_STATE slot))
  (hhigh : s.get (R.SPIN_STATUS_STATE slot) ≤ 8)
include hrun hlow hhigh

/-- ZERO_CROSSING whose samples show none. -/
theorem exec_zeroCrossing_absent (hnone : crossingOf none false samples = .absent) :
    ∃ t : State, exec (.zeroCrossing slot samples e) s = .next t ∧ (
      (t.spin slot).missing = (s.spin slot).missing + 1 ∧ (t.spin slot).predicted = 0 ∧ (t.spin slot).measured = 0 ∧
      t = { s with flds := t.flds, spins := t.spins, gates := t.gates }) := by
  obtain ⟨t, hclass⟩ : ∃ t, classify (s.spin slot) (crossingOf none false samples) = (2, t) := ⟨_, by rw [hnone]; rfl⟩
  obtain ⟨hpredicted, hmissing, hmeasured, -⟩ := crossed_runs s slot 2 t
  obtain ⟨l, x, hframe⟩ := crossed_frame s slot 2 t
  refine ⟨_, act_up hrun _, ?_⟩
  simp only [State.spin_after]
  obtain h | h := zeroCrossing_missing (runs := e.runs) (ns := e.ns) hlow hhigh hclass <;> rw [h]
  · exact ⟨hmissing, hpredicted, hmeasured, after_of_flds_spins ⟨l, x, hframe⟩⟩
  · refine ⟨?_, ?_, ?_, after_of_flds_spins ⟨l, _, by rw [hframe]; rfl⟩⟩ <;>
      simp [State.commutate, hmissing, hpredicted, hmeasured]

/-- ZERO_CROSSING that locates one of the first twelve. -/
theorem exec_zeroCrossing_first (hat : crossingOf none false samples = .located at_) (hfew : (s.spin slot).times.length < 12) :
    ∃ t : State, exec (.zeroCrossing slot samples e) s = .next t ∧ (
      (t.spin slot).missing = 0 ∧ (t.spin slot).measured = (s.spin slot).measured + 1 ∧ dataKept s t ∧ hostKept s t) := by
  have hclass : classify (s.spin slot) (crossingOf none false samples) = (0, at_) := by rw [hat, classify_first hfew]
  obtain ⟨hmissing, hmeasured⟩ := zeroCrossing_measured (runs := e.runs) (ns := e.ns) hlow hhigh hclass
  refine ⟨_, act_up hrun _, ?_⟩
  simp only [State.spin_after]
  exact ⟨hmissing, hmeasured, kept_of_host (by simp)⟩

omit hlow hhigh in
/-- ZERO_CROSSING that gives a speed in RAMP or SPEED. -/
theorem exec_zeroCrossing_speed {speed : Nat} (hclosed : s.get (R.SPIN_STATUS_STATE slot) = 6 ∨ s.get (R.SPIN_STATUS_STATE slot) = 7)
    (hclass : classify (s.spin slot) (crossingOf none false samples) = (0, at_))
    (hspeed : measuredSpeed (((at_, true) :: (s.spin slot).times).take 50) = some speed) :
    ∃ t : State, exec (.zeroCrossing slot samples e) s = .next t ∧ (
      t.get (R.SPIN_SPEED_SPEED slot) = speed % 2 ^ 17 ∧ (t.spin slot).missing = 0 ∧
      (t.spin slot).step = ((s.spin slot).step + 1) % 6 ∧ dataKept s t ∧ hostKept s t) := by
  obtain ⟨hshown, hmissing, hstep⟩ := zeroCrossing_speed (runs := e.runs) (ns := e.ns) hclosed hclass hspeed
  refine ⟨_, act_up hrun _, ?_⟩
  simp only [State.get_after, State.spin_after]
  exact ⟨hshown, hmissing, hstep, kept_of_host (by simp)⟩

end Command

/-- Settles O13: each clause is a command's lemma. -/
theorem spindleIsCommandedAndMeasured : Obligations.SpindleIsCommandedAndMeasured := by
  intro s slot
  refine ⟨fun p w hw hrestart => exec_spinCtrlSetpoint hw slot w hrestart,
    fun p w hw hslot hstate hrestart hkeeps hlegal => exec_spinCtrlRestart hw slot w hslot hstate hrestart hkeeps hlegal,
    fun p k w hw => exec_spinAdvWrite hw slot k w,
    fun j hrun hcut hcap hnext hgap hbudget => exec_spinupGroupStart hrun j hcut hcap hnext hgap hbudget,
    fun samples e hrun hlow hhigh => ⟨fun hnone => exec_zeroCrossing_absent slot e hrun hlow hhigh hnone,
      fun at_ hat hfew => exec_zeroCrossing_first slot e hrun hlow hhigh hat hfew,
      fun at_ speed hclosed hclass hspeed => exec_zeroCrossing_speed slot e hrun hclosed hclass hspeed⟩⟩

end Sys2Proof.Machine

namespace Sys2Proof.Machine

/-- A counter that has counted once (R14). -/
theorem get_count_same (f : Fld) (s : State) : (s.count f 1).get f = counted f s := by
  rw [State.count_eq, State.get_set_same, counted]
  exact Nat.mod_eq_of_lt (by have := Nat.two_pow_pos f.w; omega)

end Sys2Proof.Machine

namespace Sys2Proof.Machine

/-! ## Every answer is a state whose gates have settled (R151) -/

/-- A command's answer: the state as it was, or the settled state it leaves. -/
def answersSettled (s : State) (o : Host.Outcome State Fault Refusal) : Prop :=
  ∀ t, o = .next t → (t.gates = s.gates ∧ t.flds = s.flds) ∨ ∃ u : State, t = u.after s

section Answers
variable (s : State)

theorem answersSettled_done (u : State) : answersSettled s (done s u) := by
  rintro t ⟨⟩
  exact .inr ⟨u, rfl⟩

theorem answersSettled_same : answersSettled s (.next s) := by
  rintro t ⟨⟩
  exact .inl ⟨rfl, rfl⟩

theorem answersSettled_act (f : State → State) : answersSettled s (act s f) := by
  rw [act]
  split
  · exact answersSettled_done s _
  · exact answersSettled_same s

theorem answersSettled_actPower (down f : State → State) : answersSettled s (actPower s down f) := by
  rw [actPower]
  split
  · exact answersSettled_done s _
  · split
    · exact answersSettled_same s
    · exact answersSettled_done s _

theorem answersSettled_tapRow (code : Nat) : answersSettled s (tapRow code s) := by
  rw [tapRow]
  split
  · rintro t ⟨⟩
    exact .inl ⟨rfl, rfl⟩
  · exact answersSettled_act s _

end Answers

/-- Every command answers so: all but those named are work on a running module, for a host or not. -/
theorem exec_answersSettled (c : Instr) (s : State) : answersSettled s (exec c s) := by
  cases c with
  | feedAbsent | feedPresent => exact answersSettled_actPower s _ _
  | bulkBusBelow230v | handleLatchRelease | coldStart | brownOutRestart | modResetNHighAtStart | modResetNLow
  | moduleResetRestart | thermalRestart | supplyQualified50ms => exact answersSettled_done s _
  | resumeContinue q | resumeDiscard q | setKeyUnlock q | setKeyEstablish q | setKeyClear q | invalidateAll q | cacheEnable q
  | cacheDisable q | selfTest q => cases q <;> apply answersSettled_act
  | tapExtest | tapIdcode | tapSamplePreload | tapClamp | tapHighz | tapRegAccess | tapScanEn | tapBypass =>
    exact answersSettled_tapRow s _
  | _ => apply answersSettled_act

/-! ## The gate invariant (R151) -/

/-- What R151 asks of every open gate at once: `Obligations.OpenGatesStayLawful` says that every step keeps it. -/
def gatesLawful (s : State) : Prop :=
  ∀ g ∈ s.gates, s.get (R.ACT_STATUS_STATE (g / 10)) = 4 ∧ s.get (R.HEAD_PES_IN_SET g) = 1 ∧ s.get (R.HEAD_OFFSET_OFFSET g) = 0

/-- The gates of a settled state are lawful whatever state settled. -/
theorem gatesLawful_after (u s : State) : gatesLawful (u.after s) := by
  intro g hg
  rw [State.after_gates, List.mem_filter] at hg
  simpa [State.gateKeeps, and_assoc] using hg.2

theorem gatesLawful_congr {s t : State} (hg : t.gates = s.gates) (hf : t.flds = s.flds) (h : gatesLawful s) : gatesLawful t := by
  intro g hm
  rw [hg] at hm
  simpa only [State.get_congr hf] using h g hm

theorem advance_keeps (s : State) : s.advance.gates = s.gates ∧ s.advance.flds = s.flds := by
  simp only [State.advance]
  (repeat' split) <;> exact ⟨rfl, rfl⟩

theorem gatesLawful_tick {s : State} (h : gatesLawful s) : gatesLawful s.tick := by
  simp only [State.tick]
  split
  · exact gatesLawful_after _ _
  · obtain ⟨hg, hf⟩ := advance_keeps s
    exact gatesLawful_congr hg hf h

theorem gatesLawful_exec {c : Instr} {s t : State} (h : gatesLawful s) (ht : exec c s = .next t) : gatesLawful t := by
  obtain ⟨hg, hf⟩ | ⟨u, rfl⟩ := exec_answersSettled c s t ht
  · exact gatesLawful_congr hg hf h
  · exact gatesLawful_after u s

/-- Settles O3: a step is the tick of an idle module or the command in front of the queue, and each keeps the gates lawful. -/
theorem openGatesStayLawful : Obligations.OpenGatesStayLawful := by
  intro s t hs ht
  rw [step] at ht
  split at ht
  case h_1 => cases ht; exact gatesLawful_tick hs
  case h_2 c rest _ => exact gatesLawful_exec (s := { s with pending := rest }) hs ht

end Sys2Proof.Machine

namespace Sys2Proof.Machine

/-! ## Blocks dealt to other heads (R101, R215) -/

/-- What is left over of the blocks dealt is a part of them. -/
theorem dealBlocks_left_mem (heads dst : List Nat) {bs : List Nat} {i : Nat} {ex : List (Nat × Nat × Nat × Nat)} {b : Nat}
    (h : b ∈ (dealBlocks heads dst bs i ex).2) : b ∈ bs := by
  induction bs generalizing i ex with
  | nil => simp [dealBlocks] at h
  | cons a bs ih =>
    simp only [dealBlocks] at h
    split at h
    · split at h
      · split at h
        · exact List.mem_cons_of_mem _ (ih h)
        · exact h
      · exact h
    · exact h

/-- A head's own blocks of a chunk are at most its 256. -/
theorem ownBlocks_length_le (heads : List Nat) (h : Nat) : (ownBlocks heads h).length ≤ 256 :=
  (List.length_filter_le _ _).trans (List.length_range ..).le

@[simp] theorem get_reportBlocks (row col : Nat) (bs : List Nat) (s : State) (f : Fld) :
    (s.reportBlocks row col bs).get f = s.get f := id rfl
@[simp] theorem get_setException (row col : Nat) (ex : List (Nat × Nat × Nat × Nat)) (s : State) (f : Fld) :
    (s.setException row col ex).get f = s.get f := id rfl

section Commands
variable {s : State}

/-- A head that has written its run to the end has nothing left of its share. -/
theorem shareLeft_of_wrote {g row : Nat} (hchunk : (s.head g).chunk.any (·.1 = row) = true) (hwrote : 256 ≤ (s.head g).wrote) :
    s.shareLeft g row = [] := by
  rw [State.shareLeft, if_pos hchunk]
  exact List.drop_eq_nil_of_le ((ownBlocks_length_le _ _).trans hwrote)

variable (hrun : s.run = .up)
include hrun

/-- HEAD_REJOIN_BOUND. -/
theorem exec_headRejoinBound (m : Member) (h : Head) (row col : Nat) (hout : s.inSet (10 * m + h) = false)
    (hwriting : (s.actu m).writing = true) (htransfer : (s.actu m).transferring = true) (hcol : s.colOf m row = some col) :
    ∃ t : State, exec (.headRejoinBound m h row col) s = .next t ∧ (
      tget (32 * row + col) t.excs =
        some (dealBlocks (s.headSet m) ((s.headSet m).filter fun k => s.inSet (10 * m + k))
          (s.shareLeft (10 * m + h) row) 0 (tgetD (32 * row + col) [] s.excs)).1 ∧
      t.jn.seq = s.jn.seq + 1 ∧ t.shareLeft (10 * m + h) row = [] ∧
      (∃ l, t.stk.rewrites = s.stk.rewrites ++ l ∧ ∀ e ∈ l, e.1 = row ∧ e.2.1 = col ∧ e.2.2 ∈ s.shareLeft (10 * m + h) row) ∧
      regsKept [] s t ∧ dataKept s t ∧ hostKept s t) := by
  have hm : (10 * m.val + h.val) / 10 = m.val := by omega
  refine ⟨_, act_up hrun _, ?_⟩
  have hkept : hostView ((headRejoinBound (10 * m.val + h.val) row col s).after s) = hostView s := by simp
  refine ⟨?_, ?_, shareLeft_of_wrote ?_ ?_, ?_, ?_, kept_of_host hkept⟩ <;>
    simp only [headRejoinBound, hm, hout, hwriting, htransfer, hcol, Bool.not_false, Bool.and_self, decide_true, if_true]
  · exact tget_tset_same _ _ _
  · rfl
  · simp [State.reportBlocks, State.setException, State.mapRecord, State.after, State.settle, State.setHead, State.head]
  · simp [State.reportBlocks, State.setException, State.mapRecord, State.after, State.settle, State.setHead, State.head]
  · refine ⟨_, rfl, fun e he => ?_⟩
    obtain ⟨b, hb, rfl⟩ := List.mem_map.1 he
    exact ⟨rfl, rfl, dealBlocks_left_mem _ _ hb⟩
  · exact fun f _ => by simp

/-- WEAK_LIST_FULL. -/
theorem exec_weakListFull (hfull : 4096 ≤ s.weak.length) :
    ∃ t : State, exec .weakListFull s = .next t ∧ (
      records Ev.WEAK_LIST_FULL (origin 0 0) 0 0 0 0 s t ∧ t = { s with rcd := t.rcd, gates := t.gates }) := by
  refine ⟨_, act_up hrun _, ?_⟩
  rw [weakListFull, if_pos hfull]
  exact ⟨rfl, rfl⟩

section Relocation
variable (hcut : s.isCut = false) (hroom : s.journalFull = false) {pl : Place} {w : Weak}
  (hfind : s.weak.find? (fun x => x.place = pl) = some w)
include hcut hroom

theorem exec_weakRelocation_eq (b : Bool) : exec (.weakRelocation pl b) s = .next ((weakRelocation pl b s).after s) := by
  have hwaits : State.mapWaits (weakRelocation pl b) s = weakRelocation pl b s := by simp [State.mapWaits, hroom]
  exact (actHost_up hrun hcut _).trans (by rw [hwaits])

include hfind

/-- WEAK_RELOCATION of a block that has moved. -/
theorem exec_weakRelocation_moved (b : Bool) (hmoved : s.find w.vol w.lba ≠ some pl) :
    ∃ t : State, exec (.weakRelocation pl b) s = .next t ∧
      ((∀ x ∈ t.weak, x.place ≠ pl) ∧ t = { s with weak := t.weak, gates := t.gates }) := by
  refine ⟨_, exec_weakRelocation_eq hrun hcut hroom b, ?_⟩
  have hoff : weakRelocation pl b s = { s with weak := s.weak.filter fun x => x.place != pl } := by
    simp [weakRelocation, hfind, hmoved]
  rw [hoff]
  exact ⟨fun x hx => by simpa using (List.mem_filter.1 hx).2, rfl⟩

/-- WEAK_RELOCATION of a block of the band whose read-back converges. -/
theorem exec_weakRelocation_inPlace (hplace : s.find w.vol w.lba = some pl) (hvol : (tget w.vol s.vols).isSome = true)
    (hband : isBand pl.row = true) :
    ∃ t : State, exec (.weakRelocation pl true) s = .next t ∧ (
      (∀ x ∈ t.weak, x.place ≠ pl) ∧ t.onMedium pl = some { w.block with gen := s.rowGen pl.row } ∧
      (∀ k, k ≠ placeKey pl → tget k t.media = tget k s.media) ∧
      t.get R.REC_RELOC_RELOCATED = counted R.REC_RELOC_RELOCATED s ∧ regsKept [R.REC_RELOC_RELOCATED] s t ∧
      hostKept s t) := by
  obtain ⟨vol, hvol⟩ := Option.isSome_iff_exists.1 hvol
  have hput : weakRelocation pl true s =
      (({ s with weak := s.weak.filter fun x => x.place != pl }.count R.REC_RELOC_RELOCATED 1).putMedium pl
        { w.block with gen := s.rowGen pl.row }) := by
    simp [weakRelocation, hfind, hplace, hvol, hband]
  refine ⟨_, exec_weakRelocation_eq hrun hcut hroom true, ?_⟩
  rw [hput]
  refine ⟨fun x hx => by simpa using (List.mem_filter.1 hx).2, tget_tset_same _ _ _, fun k hk => tget_tset_ne hk _ _,
    ?_, fun f hf => ?_, ⟨rfl, rfl, rfl⟩⟩
  · rw [State.get_after]
    exact get_count_same ..
  · rw [State.get_after]
    exact get_count_ne (hf _ (by simp)) 1

end Relocation
end Commands

/-- Settles O38: each clause is a command's lemma. -/
theorem weakBlocksAndRejoins : Obligations.WeakBlocksAndRejoins := by
  intro s hrun hcut
  refine ⟨fun pl w b hfind hroom => ⟨exec_weakRelocation_moved hrun hcut hroom hfind b, exec_weakRelocation_inPlace hrun hcut hroom hfind⟩,
    exec_weakListFull hrun, fun m h row col => exec_headRejoinBound hrun m h row col⟩

end Sys2Proof.Machine

namespace Sys2Proof.Machine

/-! ## Grants (R166 to R170, R174, R187) -/

section Tables
variable {α : Type}

theorem tset_isSome {j : Nat} {t : Tbl α} (h : (tget j t).isSome = true) (k : Nat) (v : α) : (tget j (tset k v t)).isSome = true := by
  rw [tget_tset]
  split
  · rfl
  · exact h

end Tables

variable {s : State}

/-- A sector in a context: the sectors, and the iteration its core begins, are all that changes. -/
theorem toContext_eq (id : Nat) (x : PoolSector) (c : Nat) (s : State) :
    ∃ b, s.toContext id x c =
      { s with pool := { s.pool with sectors := tset id { x with st := .running c } s.pool.sectors, busy := b } } := by
  rw [State.toContext, State.beginIter]
  (repeat' split) <;> exact ⟨_, rfl⟩

/-- A deferred sector that returns is a matter of the pool, and loses no sector (R169, R170). -/
theorem resumeDeferred_eq (s : State) :
    ∃ p, s.resumeDeferred = { s with pool := p } ∧ p.nextId = s.pool.nextId ∧
      ∀ j, (tget j s.pool.sectors).isSome = true → (tget j p.sectors).isSome = true := by
  have hsame : ∃ p, s = { s with pool := p } ∧ p.nextId = s.pool.nextId ∧
      ∀ j, (tget j s.pool.sectors).isSome = true → (tget j p.sectors).isSome = true := ⟨_, rfl, rfl, fun _ h => h⟩
  simp only [State.resumeDeferred]
  split
  · split
    · split
      · obtain ⟨b, hb⟩ := toContext_eq _ _ _ s.spillBegin
        rw [hb]
        exact ⟨_, rfl, rfl, fun j h => tset_isSome h _ _⟩
      · exact hsame
    · exact hsame
  · exact hsame

/-- The request's place, as the head keeps what it has left unread. -/
def State.unreadNoted (r : PoolReq) (s : State) : State :=
  s.setHead r.head { s.head r.head with
    unread := if s.inSet r.head then (s.head r.head).unread.filter (fun p => p != r.place)
      else (s.head r.head).unread.filter (fun p => p != r.place) ++ [r.place] }

variable {r : PoolReq}

theorem decGrant_outOfSet (h : s.inSet r.head = false) : decGrant r s = s.unreadNoted r := by
  have hin (x : HeadSt) : (s.setHead r.head.val x).inSet r.head = false := h
  simp [decGrant, State.unreadNoted, h, hin]

/-- What a grant goes by is not what the head has left unread. -/
theorem unreadNoted_keeps (r : PoolReq) (s : State) :
    (s.unreadNoted r).inSet r.head = s.inSet r.head ∧ (s.unreadNoted r).reading r.head = s.reading r.head ∧
      ((s.unreadNoted r).head r.head).waits r.place = (s.head r.head).waits r.place ∧
      (s.unreadNoted r).poolFull = s.poolFull := by
  refine ⟨rfl, rfl, ?_, rfl⟩
  simp [State.unreadNoted, HeadSt.waits]

section InSet
variable (hin : s.inSet r.head = true) (hreading : s.reading r.head = false) (hwaits : (s.head r.head).waits r.place = false)
include hin hreading hwaits

theorem decGrant_inSet : decGrant r s =
    if s.poolFull then (s.unreadNoted r).noGrant r.head r.place
    else
      (((s.unreadNoted r).setHead r.head { (s.unreadNoted r).head r.head with held := none }).modPool fun p => { p with
        sectors := tset p.nextId ((s.unreadNoted r).newSector r .granted) p.sectors
        nextId := p.nextId + 1 }).resumeDeferred := by
  obtain ⟨hin', hreading', hwaits', hfull⟩ := unreadNoted_keeps r s
  have h : decGrant r s =
      if !(s.unreadNoted r).inSet r.head || ((s.unreadNoted r).head r.head).waits r.place || (s.unreadNoted r).reading r.head then
        s.unreadNoted r
      else if (s.unreadNoted r).poolFull then (s.unreadNoted r).noGrant r.head r.place
      else
        (((s.unreadNoted r).setHead r.head { (s.unreadNoted r).head r.head with held := none }).modPool fun p => { p with
          sectors := tset p.nextId ((s.unreadNoted r).newSector r .granted) p.sectors
          nextId := p.nextId + 1 }).resumeDeferred := rfl
  rw [h, hin', hreading', hwaits', hfull, hin, hreading, hwaits]
  rfl

end InSet

section Grant
variable (hrun : s.run = .up)
include hrun

theorem exec_decGrant_outOfSet (hout : s.inSet r.head = false) :
    ∃ t : State, exec (.decGrant r) s = .next t ∧ (
      r.place ∈ (t.head r.head).unread ∧ t = { s with heads := t.heads, gates := t.gates }) := by
  refine ⟨_, act_up hrun _, ?_⟩
  rw [decGrant_outOfSet hout]
  exact ⟨by simp [State.unreadNoted, hout], rfl⟩

variable (hin : s.inSet r.head = true) (hreading : s.reading r.head = false)
  (hwaits : (s.head r.head).waits r.place = false)
include hin hreading hwaits

theorem exec_decGrant_room (hcores : s.coreCount ≠ 0) (hroom : s.pool.occupancy < 896) :
    ∃ t : State, exec (.decGrant r) s = .next t ∧ (
      (tget s.pool.nextId t.pool.sectors).isSome = true ∧ t.pool.nextId = s.pool.nextId + 1 ∧
      (t.head r.head).held = none ∧ r.place ∉ (t.head r.head).unread ∧ regsKept [] s t ∧
      t = { s with heads := t.heads, pool := t.pool, gates := t.gates }) := by
  have hnot : s.poolFull = false := by simp [State.poolFull, hcores]; omega
  refine ⟨_, act_up hrun _, ?_⟩
  rw [decGrant_inSet hin hreading hwaits, hnot, if_neg (by decide)]
  generalize hu : ((s.unreadNoted r).setHead r.head { (s.unreadNoted r).head r.head with held := none }).modPool _ = u
  obtain ⟨p, hp, hnext, hsome⟩ := resumeDeferred_eq u
  have hhead : u.head r.head = { (s.unreadNoted r).head r.head with held := none } := by
    rw [← hu]; exact State.head_setHead_same ..
  have hnew : (tget s.pool.nextId u.pool.sectors).isSome = true := by
    rw [← hu]; exact congrArg Option.isSome (tget_tset_same ..)
  have hu : u.pool.nextId = s.pool.nextId + 1 ∧ u = { s with heads := u.heads, pool := u.pool } := by
    rw [← hu]; exact ⟨rfl, rfl⟩
  have hflds : u.flds = s.flds := by rw [hu.2]
  rw [hp]
  refine ⟨hsome _ hnew, hnext.trans hu.1, ?_, ?_, fun f _ => State.get_congr hflds f, ?_⟩
  · exact congrArg HeadSt.held hhead
  · have hunread : (u.head r.head).unread = (s.head r.head).unread.filter (fun p => p != r.place) := by
      rw [hhead]; simp [State.unreadNoted, hin]
    intro hmem
    have hmem : r.place ∈ (u.head r.head).unread := hmem
    simp [hunread] at hmem
  · rw [hu.2]; rfl

theorem exec_decGrant_full (hfull : 896 ≤ s.pool.occupancy) :
    ∃ t : State, exec (.decGrant r) s = .next t ∧ (
      (t.head r.head).held = some r.place ∧ t.get R.DEC_COUNT_BACKPRESSURE = counted R.DEC_COUNT_BACKPRESSURE s ∧
      t.pool = s.pool ∧ regsKept [R.DEC_COUNT_BACKPRESSURE] s t) := by
  have hpool : s.poolFull = true := by simp [State.poolFull, hfull]
  refine ⟨_, act_up hrun _, ?_⟩
  rw [decGrant_inSet hin hreading hwaits, hpool, if_pos rfl, State.noGrant]
  refine ⟨by simp [State.count_eq], ?_, by simp [State.count_eq, State.unreadNoted], fun f hf => ?_⟩
  · simp only [State.get_after, State.get_event, get_count_same]
    rfl
  · simp only [State.get_after, State.get_event]
    exact get_count_ne (hf _ (by simp)) 1

end Grant

/-! ## A free context takes a waiting sector (R167, R168) -/

/-- A round of a search keeps what it has found or takes the entry it looks at; it takes the first one. -/
def picks {α : Type} (f : Option α → α → Option α) : Prop := ∀ b e, f b e = some e ∨ (b.isSome = true ∧ f b e = b)

theorem foldl_of_picks {α : Type} {f : Option α → α → Option α} (hf : picks f) (l : List α) (b : Option α) :
    (∃ a ∈ l, l.foldl f b = some a) ∨ (l.foldl f b = b ∧ (l = [] ∨ b.isSome = true)) := by
  induction l generalizing b with
  | nil => exact .inr ⟨rfl, .inl rfl⟩
  | cons e l ih =>
    rw [List.foldl_cons]
    obtain ⟨a, ha, hfold⟩ | ⟨hfold, -⟩ := ih (f b e)
    · exact .inl ⟨a, List.mem_cons_of_mem _ ha, hfold⟩
    · obtain htake | ⟨hsome, hkeep⟩ := hf b e
      · exact .inl ⟨e, List.mem_cons_self, hfold.trans htake⟩
      · exact .inr ⟨hfold.trans hkeep, .inr hsome⟩

/-- Such a search of a list that is not empty finds one of it. -/
theorem foldl_finds {α : Type} {f : Option α → α → Option α} (hf : picks f) {l : List α} {a : α} (ha : a ∈ l) :
    ∃ b ∈ l, l.foldl f none = some b := by
  obtain h | ⟨-, hnil | hnone⟩ := foldl_of_picks hf l none
  · exact h
  · simp [hnil] at ha
  · cases hnone

/-- A round of CONTEXT_ASSIGN's search: the waiting sector that is assigned first of the one found and the one looked at. -/
def soonerWaiting (now : Nat) : Option (Nat × PoolSector) → Nat × PoolSector → Option (Nat × PoolSector)
  | none, e => some e
  | some b, e => if beforeWaiting now e.2 b.2 then some e else some b

theorem picks_soonerWaiting (now : Nat) : picks (soonerWaiting now) := by
  rintro (_ | b) e
  · exact .inl rfl
  · by_cases h : beforeWaiting now e.2 b.2 <;> simp [soonerWaiting, h]

/-- The waiting sectors a core may take (R168, R183). -/
def State.waitingFor (c : Nat) (s : State) : List (Nat × PoolSector) :=
  s.pool.sectors.filter fun e => e.2.st = .waiting && e.2.cross != some c

theorem contextAssign_eq {c : Nat} (hok : s.coreOk c = true) (hfree : s.pool.contexts c < 4) :
    contextAssign c s = ((s.waitingFor c).foldl (soonerWaiting s.now) none).elim s fun e => s.toContext e.1 e.2 c := by
  have hround : (fun (b : Option (Nat × PoolSector)) (e : Nat × PoolSector) => match b with
      | none => some e
      | some (_, x) => if beforeWaiting s.now e.2 x then some e else b) = soonerWaiting s.now := by
    funext b e
    cases b <;> rfl
  have hbest : contextAssign c s = match (s.waitingFor c).foldl (fun (b : Option (Nat × PoolSector)) e => match b with
      | none => some e
      | some (_, x) => if beforeWaiting s.now e.2 x then some e else b) none with
      | some (id, x) => s.toContext id x c
      | none => s := by
    rw [contextAssign, hok, decide_eq_true hfree]; rfl
  rw [hbest, hround]
  cases (s.waitingFor c).foldl (soonerWaiting s.now) none <;> rfl

/-- CONTEXT_ASSIGN puts a waiting sector into the core's context. -/
theorem contextAssign_takes {c : Nat} (hok : s.coreOk c = true) (hfree : s.pool.contexts c < 4)
    (hwaits : ∃ e ∈ s.pool.sectors, e.2.st = .waiting ∧ e.2.cross ≠ some c) :
    ∃ id x, (id, x) ∈ s.pool.sectors ∧ x.st = .waiting ∧ contextAssign c s = s.toContext id x c := by
  obtain ⟨e, he, hst, hcross⟩ := hwaits
  have hmem : e ∈ s.waitingFor c := by simp [State.waitingFor, he, hst, hcross]
  obtain ⟨⟨id, x⟩, hx, hbest⟩ := foldl_finds (picks_soonerWaiting s.now) hmem
  simp only [State.waitingFor, List.mem_filter, Bool.and_eq_true, decide_eq_true_eq] at hx
  obtain ⟨hin, hst, -⟩ := hx
  exact ⟨id, x, hin, hst, by rw [contextAssign_eq hok hfree, hbest]; rfl⟩

section Pool
variable (hrun : s.run = .up)
include hrun

theorem exec_contextAssign (c : Core) (hok : s.coreOk c = true) (hfree : s.pool.contexts c < 4)
    (hwaits : ∃ e ∈ s.pool.sectors, e.2.st = .waiting ∧ e.2.cross ≠ some c.val) :
    ∃ t : State, exec (.contextAssign c) s = .next t ∧ (
      (∃ id x, (id, x) ∈ s.pool.sectors ∧ x.st = .waiting ∧ tget id t.pool.sectors = some { x with st := .running c }) ∧
      t = { s with pool := t.pool, gates := t.gates }) := by
  obtain ⟨id, x, hmem, hst, hassign⟩ := contextAssign_takes hok hfree hwaits
  obtain ⟨b, hb⟩ := toContext_eq id x c s
  refine ⟨_, act_up hrun _, ?_⟩
  rw [hassign, hb]
  exact ⟨⟨id, x, hmem, hst, tget_tset_same ..⟩, rfl⟩

end Pool


/-! ## Recovery reads (R173, R178, R190) -/

/-- A recovery read with a new read is granted: a new sector of the pool, and the head waits for nothing. -/
def State.recoveryGranted (r : PoolReq) (s : State) : State :=
  ((s.touchHandles r.handles).setHead r.head { s.head r.head with held := none }).modPool fun p => { p with
    sectors := tset p.nextId (s.newSector r .granted) p.sectors
    nextId := p.nextId + 1 }

theorem recoveryGranted_shows (r : PoolReq) (s : State) :
    tget s.pool.nextId (s.recoveryGranted r).pool.sectors = some (s.newSector r .granted) ∧
      (s.recoveryGranted r).pool.nextId = s.pool.nextId + 1 ∧ ((s.recoveryGranted r).head r.head).held = none ∧
      s.recoveryGranted r = { s with pool := (s.recoveryGranted r).pool, heads := (s.recoveryGranted r).heads } := by
  refine ⟨tget_tset_same .., rfl, ?_, rfl⟩
  have hhead : (s.recoveryGranted r).head r.head = { s.head r.head with held := none } := State.head_setHead_same ..
  rw [hhead]

/-- A new recovery read is taken when its budget, its handles and the pool permit it. -/
def State.takesRecovery (r : PoolReq) (s : State) : Bool :=
  (1 ≤ r.budget.getD 0 && r.budget.getD 0 ≤ 40 && r.handles.length ≤ 7 && r.handles.all fun h => (tget h s.pool.retained).isSome) &&
    !(s.head r.head).waits r.place && !s.poolFull

theorem recoveryReadSubmit_granted {r : PoolReq} (h : s.takesRecovery r = true) : recoveryReadSubmit r true s = s.recoveryGranted r := by
  simp only [State.takesRecovery, Bool.and_eq_true, decide_eq_true_eq, Bool.not_eq_true'] at h
  obtain ⟨⟨⟨⟨⟨hlow, hhigh⟩, hlen⟩, hheld⟩, hwaits⟩, hroom⟩ := h
  simp only [recoveryReadSubmit, hlow, hhigh, hlen, hheld, hwaits, hroom]
  exact rfl

/-- The state with other recoveries under way. -/
def State.withRecs (l : Tbl Recovery) (s : State) : State := { s with recs := l }

@[simp] theorem withRecs_pool (l : Tbl Recovery) (s : State) : (s.withRecs l).pool = s.pool := id rfl
@[simp] theorem withRecs_newSector (l : Tbl Recovery) (s : State) (r : PoolReq) (st : PoolSt) :
    (s.withRecs l).newSector r st = s.newSector r st := id rfl

@[simp] theorem takesRecovery_withRecs (r : PoolReq) (l : Tbl Recovery) (s : State) :
    (s.withRecs l).takesRecovery r = s.takesRecovery r := by
  have hok : (s.withRecs l).coreOk = s.coreOk := funext fun c => rfl
  simp only [State.takesRecovery, State.poolFull, State.coreCount, hok]
  exact rfl

/-- Of a block in no recovery, or as the next read of its ladder, a recovery read is handed on to the pool (R190). -/
theorem ladderSubmit_handsOn {r : PoolReq} (h : tget (placeKey r.place) s.recs = none ∨
    ∃ y, tget (placeKey r.place) s.recs = some y ∧ s.sumLost y = (y, s) ∧ y.takes r true = true) :
    ∃ l, ladderSubmit r true s = recoveryReadSubmit r true (s.withRecs l) := by
  obtain hnone | ⟨y, hsome, hsum, htakes⟩ := h
  · exact ⟨s.recs, by simp [ladderSubmit, hnone, State.withRecs]⟩
  · refine ⟨tset (placeKey y.place) y s.recs, ?_⟩
    simp only [ladderSubmit, hsome, hsum, htakes, if_true]
    exact rfl

/-! ## Known-answer tests (R184, R186) -/

theorem mem_addId (k : Nat) (l : List Nat) : k ∈ addId k l := by
  induction l with
  | nil => simp [addId]
  | cons a l ih =>
    simp only [addId]
    (repeat' split) <;> simp_all

/-- The bitmap of cores in service is a matter of registers and of the recorder (R187). -/
@[simp] theorem coreRefresh_pool (s : State) : s.coreRefresh.pool = s.pool := by
  simp [State.coreRefresh, view_ite State.pool]

@[simp] theorem host_coreRefresh (s : State) : hostView s.coreRefresh = hostView s := by
  simp [State.coreRefresh, view_ite hostView]

/-- A core that is fenced is among the fenced ones, whatever its sectors and the bitmaps do. -/
theorem fenceCore_shows (c : Nat) (s : State) : c ∈ (s.fenceCore c).pool.fenced ∧ hostView (s.fenceCore c) = hostView s := by
  rw [State.fenceCore, coreRefresh_pool, host_coreRefresh]
  exact ⟨mem_addId .., by simp [State.restartSectors]⟩


end Sys2Proof.Machine

namespace Sys2Proof.Machine

/-! ## Writes of the damper's and the decoder's registers (R479 to R484) -/

/-- A register outside the engine and slot blocks, defined in the map with these fields, with no rule over several fields and no
snapshot word: a write takes its fields one by one and has the effect of its block. -/
structure BlockReg (a : Nat) (l : List FSpec) : Prop where
  inMap : inMap a = true
  aligned : a % 4 = 0
  island : ∀ i ∈ regIsland a, i < 75
  layout : layout a = l
  fields : l.isEmpty = false
  noSnap : isSnap a = false
  noJoints : (jointsAt a).isEmpty = true
  noAdv : (advSlot a).isNone = true
  noCtrl : (engineAt a 0).isNone = true
  noOwner : ¬(0x50010 ≤ a ∧ a < 0x50020)
  noSlot : ¬(0x100000 ≤ a ∧ a < 0x120000)
  noEngine : ¬(0x50100 ≤ a ∧ a < 0x50600)

theorem blockReg_DAMP_CTRL : BlockReg A.DAMP_CTRL [⟨R.DAMP_CTRL_LANE_EN, .rw, .k, []⟩] := by constructor <;> decide +kernel

theorem blockReg_DAMP_COMMIT : BlockReg A.DAMP_COMMIT
    [⟨R.DAMP_COMMIT_LOOP, .rw, .v, [(0, 799)]⟩, ⟨R.DAMP_COMMIT_GO, .wo, .v, []⟩, ⟨R.DAMP_COMMIT_PENDING, .ro, .v, []⟩] := by
  constructor <;> decide +kernel

theorem blockReg_DEC_CORE_EN (i : Fin 3) : BlockReg (A.DEC_CORE_EN i) [⟨R.DEC_CORE_EN_EN i, .rw, .k, []⟩] := by
  fin_cases i <;> constructor <;> decide +kernel

section Writes
variable {s s1 t : State} {p : Path} {a : Nat} {l : List FSpec}

theorem takeWord_blockReg (h : BlockReg a l) (s : State) (p : Path) (w : Nat) :
    s.takeWord p a w = (l.any fun f => s.refuses f (f.fld.of w), s.forAll l (State.takeField w)) := by
  have hj := List.isEmpty_iff.1 h.noJoints
  have hadv := Option.isNone_iff_eq_none.1 h.noAdv
  simp [State.takeWord, State.judge, h.noSnap, hj, hadv, h.layout]

/-- A write of such a register by a path in service that refuses no field: counted, taken, its effect, recorded; nothing follows it
while it touches no engine and no start (R469, R480, R481, R487). -/
theorem act_blockRow (hw : writable p s) (h : BlockReg a l) (w : Word)
    (htakes : (l.any fun f => (s.count (R.GLB_ACCESS_WRITES (pathKind p)) 1).refuses f (f.fld.of w.toNat)) = false)
    (htaken : (s.count (R.GLB_ACCESS_WRITES (pathKind p)) 1).forAll l (State.takeField w.toNat) = s1)
    (heffect : State.blockEffect p a w.toNat true s1 = t) (he : t.engs = s.engs) (hk : t.knd = s.knd) :
    act s (State.row p a w) = .next ((t.recordWrite p a w.toNat).after s) := by
  obtain ⟨hrun, hpath, hisl, hpost, hreset, hrekindle⟩ := hw
  generalize hs0 : s.count (R.GLB_ACCESS_WRITES (pathKind p)) 1 = s0 at *
  have hout : s0.regOut a = false := by
    have hup (i : Nat) (hi : i ∈ regIsland a) : s0.islandUp i = true := by rw [← hs0]; exact hisl i (h.island i hi)
    cases hr : regIsland a with
    | none => simp [State.regOut, hr]
    | some i => simp [State.regOut, hr, hup i (by simp [hr])]
  have hperf : s0.performWrite none p a w.toNat = (false, t) := by
    have hctrl := Option.isNone_iff_eq_none.1 h.noCtrl
    simp [State.performWrite, hctrl, h.noOwner, h.noSlot, h.noEngine, takeWord_blockReg h, htakes, htaken, heffect]
  have hwrite : (s.writeReg none p a w.toNat).2 = t := by
    simp only [State.writeReg, hs0, h.inMap, h.aligned, hout, h.layout, h.fields, Nat.mod_eq_of_lt w.isLt, hperf]
    simp
  have hidle : (t.recordWrite p a w.toNat).afterWrite none = t.recordWrite p a w.toNat :=
    afterWrite_idle (fun n hn => by simpa [State.eng, he] using hpost n hn) (by simp [hk, hreset]) (by simp [hk, hrekindle])
  have hrow : State.row p a w s = t.recordWrite p a w.toNat := by
    rw [← hidle]
    simp [State.row, regWriteRow, State.pathWrite, hpath, h.inMap, h.aligned, hwrite]
  rw [act_up hrun, hrow]

end Writes

/-! ## DEC_CORE_EN (R188) -/

/-- What the bitmap of cores in service and FAILED do not show, they leave. -/
theorem coreRefresh_get {f : Fld} (hlive : ∀ i, f.key ≠ (R.DEC_IN_SERVICE_LIVE i).key) (hfailed : f.key ≠ R.DEC_STATUS_FAILED.key)
    (s : State) : s.coreRefresh.get f = s.get f := by
  have hword (t : State) (i v : Nat) : (t.set (R.DEC_IN_SERVICE_LIVE i) v).get f = t.get f := State.get_set_ne t (hlive i) v
  simp [State.coreRefresh, view_ite (State.get f), hword, hfailed]

/-- Cores taken out of service leave what the pool holds to others, and move no register but those of the cores in service. -/
theorem coreEnWritten_keeps {β : Type} (q : State → β) (hpool : ∀ (t : State) (f : Pool → Pool), q (t.modPool f) = q t)
    (hrefresh : ∀ t : State, q t.coreRefresh = q t) (s : State) : q s.coreEnWritten = q s := by
  rw [State.coreEnWritten, hrefresh]
  exact State.forAll_keeps s q _ _ fun c t => hpool t _

theorem coreRefresh_engs_knd (s : State) : (s.coreRefresh.engs, s.coreRefresh.knd) = (s.engs, s.knd) := by
  simp [State.coreRefresh, view_ite fun t => (t.engs, t.knd)]

theorem blockEffect_DEC_CORE_EN (p : Path) (i : Fin 3) (w : Nat) (acts : Bool) (s : State) :
    State.blockEffect p (A.DEC_CORE_EN i) w acts s = s.coreEnWritten := by
  fin_cases i <;> simp [State.blockEffect]

/-- DEC_CORE_EN. -/
theorem exec_decCoreEnWrite {s : State} {p : Path} (hw : writable p s) (i : Fin 3) (w : Word) :
    ∃ t : State, exec (.decCoreEnWrite p i w) s = .next t ∧ (
      t.get (R.DEC_CORE_EN_EN i) = field (R.DEC_CORE_EN_EN i) w ∧ dataKept s t ∧ hostKept s t) := by
  have htakes (u : State) : u.refuses ⟨R.DEC_CORE_EN_EN i, .rw, .k, []⟩ ((R.DEC_CORE_EN_EN i).of w.toNat) = false :=
    refuses_unranged rfl (by simp; omega) (by simp; omega) (fun c hc => by simp; omega) u _
  generalize hu : (s.count (R.GLB_ACCESS_WRITES (pathKind p)) 1).set (R.DEC_CORE_EN_EN i) ((R.DEC_CORE_EN_EN i).of w.toNat) = u
  have hside : (u.coreEnWritten.engs, u.coreEnWritten.knd) = (s.engs, s.knd) :=
    (coreEnWritten_keeps (fun t => (t.engs, t.knd)) (fun _ _ => rfl) coreRefresh_engs_knd u).trans (by rw [← hu]; exact rfl)
  obtain ⟨hengs, hknd⟩ := Prod.mk.inj hside
  have hkept : u.coreEnWritten.get (R.DEC_CORE_EN_EN i) = u.get (R.DEC_CORE_EN_EN i) :=
    coreEnWritten_keeps (State.get _) (fun _ _ => rfl) (coreRefresh_get (fun j => by simp; omega) (by simp)) u
  have hhost : hostView u.coreEnWritten = hostView u := coreEnWritten_keeps hostView (fun _ _ => rfl) host_coreRefresh u
  refine ⟨_, act_blockRow hw (blockReg_DEC_CORE_EN i) w (by simp [htakes]) (by simpa [State.takeField, htakes] using hu)
    (blockEffect_DEC_CORE_EN p i _ _ u) hengs hknd, ?_, kept_of_host ?_⟩
  · rw [State.get_after, recordWrite_get, hkept, ← hu, State.get_set_same, field, Fld.of, Nat.mod_mod]
  · rw [State.host_after, host_recordWrite, hhost, ← hu, State.host_set, host_write_count]

end Sys2Proof.Machine

namespace Sys2Proof.Machine
variable {s : State}
section Recovery
variable (hrun : s.run = .up)
include hrun

theorem exec_recoveryReadSubmit (r : PoolReq) (htakes : s.takesRecovery r = true)
    (hrec : tget (placeKey r.place) s.recs = none ∨
      ∃ y, tget (placeKey r.place) s.recs = some y ∧ s.sumLost y = (y, s) ∧ y.takes r true = true) :
    ∃ t : State, exec (.recoveryReadSubmit r true) s = .next t ∧ (
      tget s.pool.nextId t.pool.sectors = some (s.newSector r .granted) ∧ t.pool.nextId = s.pool.nextId + 1 ∧
      (t.head r.head).held = none ∧ t = { s with pool := t.pool, heads := t.heads, recs := t.recs, gates := t.gates }) := by
  obtain ⟨l, hl⟩ := ladderSubmit_handsOn hrec
  have hgranted : recoveryReadSubmit r true (s.withRecs l) = (s.withRecs l).recoveryGranted r :=
    recoveryReadSubmit_granted (by simpa using htakes)
  obtain ⟨hsector, hnext, hheld, heq⟩ := recoveryGranted_shows r (s.withRecs l)
  generalize (s.withRecs l).recoveryGranted r = u at *
  refine ⟨_, act_up hrun _, ?_⟩
  rw [hl, hgranted]
  refine ⟨?_, ?_, ?_, ?_⟩
  · simpa using hsector
  · simpa using hnext
  · simpa using hheld
  · rw [heq]; exact rfl

theorem exec_katTimer_fails (c : Core) (hok : s.coreOk c = true) (hfree : s.pool.contexts c < 4) :
    ∃ t : State, exec (.katTimer c false false) s = .next t ∧ (c.val ∈ t.pool.fenced ∧ dataKept s t ∧ hostKept s t) := by
  have hkat : ∃ f, katTimer c false false s = (s.modPool f).fenceCore c := by
    simp only [katTimer, hok, hfree, decide_true, Bool.and_self, if_true, Bool.false_eq_true, if_false]
    exact ⟨_, rfl⟩
  obtain ⟨f, hkat⟩ := hkat
  obtain ⟨hfenced, hhost⟩ := fenceCore_shows c (s.modPool f)
  refine ⟨_, act_up hrun _, ?_⟩
  rw [hkat]
  exact ⟨by simpa using hfenced, kept_of_host (by simpa using hhost)⟩

theorem exec_katTimer_passes (c : Core) (second : Bool) :
    ∃ t : State, exec (.katTimer c true second) s = .next t ∧ (t = { s with gates := t.gates }) := by
  have hsame : katTimer c true second s = s := by simp [katTimer]
  exact ⟨_, (act_up hrun _).trans (by rw [hsame]), rfl⟩

end Recovery

/-- Settles O20: each clause is a command's lemma. -/
theorem poolGrantsAndAssigns : Obligations.PoolGrantsAndAssigns := by
  intro s
  refine ⟨fun r hrun => ⟨fun hcores hin hreading hwaits => ⟨exec_decGrant_room hrun hin hreading hwaits hcores,
      exec_decGrant_full hrun hin hreading hwaits⟩, exec_decGrant_outOfSet hrun⟩, fun c hrun => exec_contextAssign hrun c,
    fun r b hrun hb hlow hhigh hlen hheld hroom hcores hwaits hrec => exec_recoveryReadSubmit hrun r ?_ hrec,
    fun c hrun hok hfree => ⟨exec_katTimer_fails hrun c hok hfree, exec_katTimer_passes hrun c⟩,
    fun p i w hw => exec_decCoreEnWrite hw i w⟩
  have hall : r.handles.all (fun h => (tget h s.pool.retained).isSome) = true := by simpa using hheld
  simp [State.takesRecovery, State.poolFull, hb, hlow, hhigh, hlen, hall, hwaits, hcores, hroom]

end Sys2Proof.Machine

namespace Sys2Proof.Machine

/-! ## Positioning faults (R113, R116 to R118) -/

section
variable {s : State} {m : Member}

/-- A positioning fault of a loaded actuator: it unloads, its member is fenced and a reload is due. -/
theorem positionFault_shows (h : s.loaded m = true) :
    (s.positionFault m).get (R.ACT_STATUS_STATE m) = 5 ∧ ((s.positionFault m).actu m).reloadDue = true ∧
    .positioning ∈ ((s.positionFault m).mem m).fences := by
  refine ⟨(unload_shows h false Torn.unload).1, ?_, mem_fence_same m .positioning⟩
  simp [State.positionFault]

/-- A positioning fault leaves every field but those of the actuator's heads and those an unload writes. -/
theorem positionFault_get {f : Fld} (hhead : headKey f.key = false) (hf : ∀ g ∈ unloadFlds m, f.key ≠ g.key) :
    (s.positionFault m).get f = s.get f :=
  unload_get hhead hf false Torn.unload

end

section
variable {s : State} (hrun : s.run = .up) (m : Member)
include hrun

/-- VCM_SATURATED below the third in 24 h. -/
theorem exec_vcmSaturated
    (hstate : s.get (R.ACT_STATUS_STATE m) = 2 ∨ s.get (R.ACT_STATUS_STATE m) = 3 ∨ s.get (R.ACT_STATUS_STATE m) = 4)
    (hsat : s.get (R.ACT_CURRENT_SATURATED m) = 1) (haccel : s.get (R.ACT_TARGET_ACCEL m) = 0)
    (hfew : (s.within 86400 (s.actu m).satAt).length < 3) :
    ∃ t : State, exec (.vcmSaturated m) s = .next t ∧ (
      t.get (R.ACT_STATUS_STATE m) = 5 ∧ t.get (R.ACT_STATUS_REID_PENDING m) = 1 ∧ (t.actu m).reloadDue = true ∧
      t.get (R.ACT_COUNT_VCM_SAT_FAULTS m) = counted (R.ACT_COUNT_VCM_SAT_FAULTS m) s ∧
      .positioning ∈ (t.mem m).fences ∧ dataKept s t ∧ hostKept s t) := by
  have hloaded : s.loaded m = true := by rcases hstate with h | h | h <;> simp [State.loaded, h]
  have hthird : ¬3 ≤ (s.within 86400 (s.actu m).satAt).length := by omega
  obtain ⟨hst, hdue, hfence⟩ := positionFault_shows hloaded
  have hcount : (s.positionFault m).get (R.ACT_COUNT_VCM_SAT_FAULTS m) = s.get (R.ACT_COUNT_VCM_SAT_FAULTS m) :=
    positionFault_get (headKey_aside (by simp; omega) (by simp)) (by simp [unloadFlds])
  refine ⟨_, act_up hrun _, ?_⟩
  have hkept : hostView ((vcmSaturated m s).after s) = hostView s := by simp
  simp only [State.get_after, State.actu_after, State.mem_after]
  refine ⟨?_, ?_, ?_, ?_, ?_, kept_of_host hkept⟩ <;>
    simp [vcmSaturated, State.bit, hstate, hsat, haccel, hthird, hst, hdue, hfence, hcount, State.count_eq, counted]

/-- SERVO_LOST below the third in 1 h. -/
theorem exec_servoLost (hloaded : s.loaded m = true)
    (hlost : 8 ≤ (s.actu m).invalidRun ∨ (s.get (R.ACT_STATUS_STATE m) = 3 ∧ s.setOf m = []))
    (hfew : (s.within 3600 (s.actu m).lostAt).length < 3) :
    ∃ t : State, exec (.servoLost m) s = .next t ∧ (
      t.get (R.ACT_STATUS_STATE m) = 5 ∧ (t.actu m).reloadDue = true ∧
      t.get (R.ACT_COUNT_SERVO_LOST m) = counted (R.ACT_COUNT_SERVO_LOST m) s ∧
      .positioning ∈ (t.mem m).fences ∧ dataKept s t ∧ hostKept s t) := by
  have hthird : ¬3 ≤ (s.within 3600 (s.actu m).lostAt).length := by omega
  have hmoving : s.get (R.ACT_STATUS_STATE m) = 1 ∨ s.get (R.ACT_STATUS_STATE m) = 2 ∨ s.get (R.ACT_STATUS_STATE m) = 3 ∨
      s.get (R.ACT_STATUS_STATE m) = 4 ∨ s.get (R.ACT_STATUS_STATE m) = 6 := by simpa [State.loaded] using hloaded
  obtain ⟨hst, hdue, hfence⟩ := positionFault_shows hloaded
  have hcount : (s.positionFault m).get (R.ACT_COUNT_SERVO_LOST m) = s.get (R.ACT_COUNT_SERVO_LOST m) :=
    positionFault_get (headKey_aside (by simp; omega) (by simp)) (by simp [unloadFlds])
  refine ⟨_, act_up hrun _, ?_⟩
  have hkept : hostView ((servoLost m s).after s) = hostView s := by simp
  simp only [State.get_after, State.actu_after, State.mem_after]
  refine ⟨?_, ?_, ?_, ?_, kept_of_host hkept⟩ <;>
    simp [servoLost, hmoving, hlost, hthird, hst, hdue, hfence, hcount, State.count_eq, counted]

/-- VCM_COIL_HOT. -/
theorem exec_vcmCoilHot (hhot : 1350 ≤ s.get (R.ACT_COIL_T_EST m))
    (hdue : (s.actu m).hotAt = 0 ∨ (s.actu m).hotAt + 60 ≤ s.opSec + 1) :
    ∃ t : State, exec (.vcmCoilHot m) s = .next t ∧ (
      (t.actu m).hotAt = s.opSec + 1 ∧ records Ev.VCM_COIL_HOT (origin 2 m) 0 0 0 0 s t ∧ regsKept [] s t ∧
      t = { s with rcd := t.rcd, acts := t.acts, gates := t.gates }) := by
  have hacts : vcmCoilHot m s =
      (s.event Ev.VCM_COIL_HOT (origin 2 m) 0 0 0 0).setActu m { s.actu m with hotAt := s.opSec + 1 } := by
    exact if_pos (by simpa [hhot] using hdue)
  refine ⟨_, (act_up hrun _).trans (by rw [hacts]), ?_, ?_, fun f _ => ?_, id rfl⟩
  · simp
  · exact id rfl
  · simp

end

/-- Settles O18, a positioning fault being an unload, a fence and a reload due. -/
theorem actuatorFaultsUnload : Obligations.ActuatorFaultsUnload :=
  fun _ m hrun => ⟨exec_vcmSaturated hrun m, exec_servoLost hrun m, exec_vcmCoilHot hrun m⟩

end Sys2Proof.Machine

namespace Sys2Proof.Machine

/-! ## Heads out of the set (R99, R100, R457) -/

section
variable {s : State} {g : Nat}

/-- A head that is neither in the concurrent set nor following. -/
def State.out (s : State) (g : Nat) : Prop := s.inSet g = false ∧ s.following g = false

theorem State.out.congr {t : State} (h : s.out g) (hset : t.get (R.HEAD_PES_IN_SET g) = s.get (R.HEAD_PES_IN_SET g))
    (hfollow : t.get (R.HEAD_PES_FOLLOWING g) = s.get (R.HEAD_PES_FOLLOWING g)) : t.out g := by
  simpa [State.out, State.inSet, State.following, hset, hfollow] using h

/-- A head that is out stays out when a field of reset value 0 is cleared. -/
theorem State.out.clear (h : s.out g) {e : Fld} (hrst : e.rst = 0) : (s.set e 0).out g := by
  have hbit {f : Fld} (hf : f.rst = 0) (h0 : s.bit f = false) : (s.set e 0).bit f = false := by
    rw [State.bit] at h0 ⊢
    by_cases hkey : f.key = e.key
    · have hsame : (s.set e 0).get f = (s.set e 0).get e := by rw [State.get, State.get, hkey, hf, hrst]
      rw [hsame, State.get_set_same, Nat.zero_mod]
      rfl
    · rwa [State.get_set_ne s hkey]
  exact ⟨hbit rfl h.1, hbit rfl h.2⟩

/-- The fields a head's leaving writes. -/
def leaveFlds (g : Nat) : List Fld :=
  [R.HEAD_PES_IN_SET g, R.HEAD_PES_FOLLOWING g, R.HEAD_UP_VOUT g, R.HEAD_UP_SAT g, R.HEAD_POS_COUNT_DEPARTURES g]

/-- The first part of leaving: a head of the set is out of it. -/
def State.takenOut (g : Nat) (s : State) : State :=
  if s.inSet g then
    ((s.set (R.HEAD_PES_IN_SET g) 0).count (R.HEAD_POS_COUNT_DEPARTURES g) 1).setHead g
      { s.head g with outAt := s.now + 1, acquiring := false, leaving := false }
  else s.setHead g { s.head g with acquiring := false, leaving := false }

theorem leave_eq : s.leave false g =
    ((((s.takenOut g).set (R.HEAD_PES_FOLLOWING g) 0).setHead g { (s.takenOut g).head g with vout := 0, settleRun := 0 }).set
      (R.HEAD_UP_VOUT g) 0).set (R.HEAD_UP_SAT g) 0 := rfl

theorem takenOut_inSet : (s.takenOut g).inSet g = false := by
  cases hin : s.inSet g with
  | true =>
    rw [State.takenOut, if_pos hin]
    simp [State.inSet, get_count_ne]
  | false =>
    rw [State.takenOut, if_neg (by simp [hin])]
    simpa [State.inSet] using hin

theorem leave_get {f : Fld} (hf : ∀ e ∈ leaveFlds g, f.key ≠ e.key) : (s.leave false g).get f = s.get f := by
  simp only [leaveFlds, List.forall_mem_cons] at hf
  obtain ⟨hset, hfollow, hvout, hsat, hdepart, -⟩ := hf
  have htaken : (s.takenOut g).get f = s.get f := by
    rw [State.takenOut]
    split <;> simp [hset, get_count_ne hdepart]
  simp [leave_eq, hfollow, hvout, hsat, htaken]

/-- A head that leaves is out of the set, and no longer following. -/
theorem leave_out : (s.leave false g).out g := by
  refine ⟨?_, by simp [leave_eq, State.following]⟩
  have h := takenOut_inSet (s := s) (g := g)
  simp only [State.inSet, leave_eq] at h ⊢
  simpa using h

/-- Any other head that leaves leaves it out. -/
theorem State.out.leave (h : s.out g) (b : Nat) : (s.leave false b).out g := by
  have htaken : (s.takenOut b).out g := by
    rw [State.takenOut]
    split
    · refine (h.clear (e := R.HEAD_PES_IN_SET b) rfl).congr ?_ ?_ <;> simp [get_count_ne]
    · exact h.congr (by simp) (by simp)
  rw [leave_eq]
  refine State.out.clear (State.out.clear (State.out.congr (htaken.clear (e := R.HEAD_PES_FOLLOWING b) rfl) ?_ ?_) rfl) rfl <;> simp

theorem State.out.after (h : s.out g) (o : State) : (s.after o).out g := h.congr rfl rfl

theorem leaveTorn_out : (s.leaveTorn g).out g := leave_out

theorem leaveTorn_get {f : Fld} (hf : ∀ e ∈ R.HEAD_DEFECT_COUNT_TORN g :: leaveFlds g, f.key ≠ e.key) :
    (s.leaveTorn g).get f = s.get f := by
  rw [List.forall_mem_cons] at hf
  rw [State.leaveTorn, leave_get hf.2, tear_get hf.1]

theorem State.out.masks (h : s.out g) (m : Nat) : (s.masks m).out g := h.congr (masks_get (by simp) (by simp)) (masks_get (by simp) (by simp))

/-- The set limit takes heads out and brings none in (R98). -/
theorem State.out.fitSet (h : s.out g) (m : Nat) : (s.fitSet m).out g := by
  rw [State.fitSet]
  refine State.out.masks (State.forAll_induct (P := fun t => t.out g) _ _ _ ?_ fun b _ t ht => ht.leave b) m
  refine State.forAll_induct (P := fun t => t.out g) _ _ _ ?_ fun b _ t ht => ht.congr (by simp) (by simp)
  exact h.congr (by simp) (by simp)

/-- A retirement moves no field but an attention output of a slot (R454). -/
theorem retire_get {f : Fld} (hf : ∀ i, f.key ≠ (R.SLOT_CTRL_ATTN i).key) (k i r e : Nat) (held : Bool) (a b c d : Nat) :
    (s.retire k i r e held a b c d).get f = s.get f := by
  have hledger (t : State) : (t.enterLedger k i r held).get f = t.get f := by
    simp only [State.enterLedger]; split <;> exact rfl
  have hattn (t : State) : (t.attention k i).get f = t.get f := by
    simp only [State.attention, view_ite (State.get f), State.get_set_ne _ (hf _)]
    (repeat' split) <;> exact rfl
  rw [State.retire, plan_get, hattn, State.get_event, hledger]

/-- A head that is out stays out as it retires. -/
theorem State.out.retireHead (h : s.out g) (r e a b c d : Nat) : (s.retireHead r e a b c d g).out g := by
  have hgone {t : State} (ht : t.out g) : (t.headGone g).out g := by
    simp only [State.headGone]
    split
    · exact ht.congr (by simp [State.retireMember]) (by simp [State.retireMember])
    · exact ht.congr rfl rfl
  simp only [State.retireHead]
  split
  · exact h
  · refine State.out.fitSet (hgone ?_) _
    have hretired (x : HeadSt) {t : State} (ht : t.out g) : ((t.setHead g x).retire 3 g r e true a b c d).out g :=
      State.out.congr (s := t.setHead g x) ht (retire_get (by simp) ..) (retire_get (by simp) ..)
    exact hretired _ leaveTorn_out

/-- An open gate is of a head of the set when a command ends (R151). -/
theorem State.out.gates (h : s.out g) (o : State) : g ∉ (s.after o).gates := by
  have hout : s.get (R.HEAD_PES_IN_SET g) ≠ 1 := by simpa [State.inSet] using h.1
  rw [State.after_gates]
  simp [State.gateKeeps, hout]

end


/-! ## A head joins (R99, R119) -/

section
variable {s : State} {g : Nat}

/-- The conditions under which a head joins, its actuator settling or following. -/
def State.joinReady (s : State) (g : Nat) : Bool :=
  (s.head g).acquiring && s.following g && (if (s.actu (g / 10)).writing then 8 else 4) ≤ (s.head g).settleRun &&
    (!(s.actu (g / 10)).writing || s.bit (R.HEAD_PES_WRITE_SAFE g)) && s.joinFits g &&
    [3, 4].contains (s.get (R.ACT_STATUS_STATE (g / 10)))

theorem joinReady_of (hacq : (s.head g).acquiring = true) (hfollow : s.following g = true) (hfits : s.joinFits g = true)
    (hsettled : (if (s.actu (g / 10)).writing then 8 else 4) ≤ (s.head g).settleRun)
    (hsafe : (s.actu (g / 10)).writing = true → s.get (R.HEAD_PES_WRITE_SAFE g) = 1)
    (hstate : [3, 4].contains (s.get (R.ACT_STATUS_STATE (g / 10))) = true) : s.joinReady g = true := by
  cases hw : (s.actu (g / 10)).writing <;> simp only [hw] at hsettled hsafe <;>
    simp only [State.joinReady, hacq, hfollow, hfits, hstate, hw, State.bit] <;> simp_all

/-- A head in the set, the first of its actuator making it FOLLOWING. -/
def State.joined (g : Nat) (s : State) : State :=
  let s1 := (s.setHead g { s.head g with acquiring := false }).set (R.HEAD_PES_IN_SET g) 1
  if s.get (R.ACT_STATUS_STATE (g / 10)) = 3 then
    (s1.set (R.ACT_STATUS_STATE (g / 10)) 4).setActu (g / 10) { s1.actu (g / 10) with loadFails := 0 }
  else s1

/-- A member whose actuator follows serves again: what fenced it for positioning ends, and the masks show its heads. -/
def State.inService (m : Nat) (s : State) : State :=
  ((((s.unfence m .positioning).when (!(s.spin (m / 2)).recatching) (State.unfence m .observerLoss)).when (!s.frontTested (m / 2))
    (State.unfence m .selfTest)).masks m).recoveredCheck

theorem headJoin_ready (h : s.joinReady g = true) : headJoin g s =
    if s.get (R.ACT_STATUS_STATE (g / 10)) = 3 && s.bit (R.ACT_STATUS_REID_PENDING (g / 10)) then s.set (R.ACT_STATUS_STATE (g / 10)) 6
    else (s.joined g).inService (g / 10) := if_pos h

theorem joined_shows (hstate : s.get (R.ACT_STATUS_STATE (g / 10)) = 4 ∨ s.get (R.ACT_STATUS_STATE (g / 10)) = 3) :
    decide ((s.joined g).get (R.HEAD_PES_IN_SET g) = 1) = true ∧ ((s.joined g).head g).acquiring = false ∧
      (s.joined g).get (R.ACT_STATUS_STATE (g / 10)) = 4 := by
  rcases hstate with h | h <;> simp [State.joined, h]

theorem recoveredCheck_keeps {β : Type} (q : State → β) (hpow : ∀ (t : State) p, q { t with pow := p } = q t)
    (hevent : ∀ (t : State) (c o p0 p1 p2 p3 : Nat), q (t.event c o p0 p1 p2 p3) = q t) : q s.recoveredCheck = q s := by
  simp only [State.recoveredCheck]
  split <;> simp [hpow, hevent]

theorem inService_get {m : Nat} {f : Fld} (hset : f.key ≠ (R.ACT_STATUS_SET_MASK m).key)
    (hfollow : f.key ≠ (R.ACT_STATUS_FOLLOW_MASK m).key) : (s.inService m).get f = s.get f := by
  have hunfence (t : State) (c : Fence) : (t.unfence m c).get f = t.get f := rfl
  rw [State.inService, recoveredCheck_keeps (State.get f) (fun _ _ => rfl) (fun _ _ _ _ _ _ _ => rfl), masks_get hset hfollow,
    State.when_keeps _ (State.get f) _ _ fun t => hunfence t _, State.when_keeps _ (State.get f) _ _ fun t => hunfence t _, hunfence]

theorem inService_head (m g : Nat) : (s.inService m).head g = s.head g := by
  have hunfence (t : State) (c : Fence) : (t.unfence m c).head g = t.head g := rfl
  rw [State.inService, recoveredCheck_keeps (fun t => t.head g) (fun _ _ => rfl) (fun _ _ _ _ _ _ _ => rfl)]
  simp only [State.masks, State.head_set]
  rw [State.when_keeps _ (fun t => t.head g) _ _ fun t => hunfence t _, State.when_keeps _ (fun t => t.head g) _ _ fun t => hunfence t _,
    hunfence]

end

/-! ## The end of a transfer (R103) -/

section
variable (s : State)

/-- The end of a transfer is told to the stoker and to the heads: a view that shows nothing of that keeps. -/
theorem endTransfer_keeps {β : Type} {q : State → β} (hactu : ∀ (t : State) m x, q (t.setActu m x) = q t)
    (hreports : ∀ (t : State) (p : Pool) (k : Stoker), q { t with pool := p, stk := k } = q t)
    (hchunk : ∀ (t : State) g, q (t.setHead g { t.head g with chunk := none, wrote := 0, stop := none, held := none }) = q t)
    (hunread : ∀ (t : State) g, q (t.setHead g { t.head g with unread := [] }) = q t) (m : Nat) :
    q (s.endTransfer m) = q s := by
  have hreport (t : State) (row col : Nat) (l : List Nat) : q (t.reportBlocks row col l) = q t := hreports t t.pool _
  have hreads (t : State) (gs : List Nat) : q (t.endReads gs) = q t := by
    rw [State.endReads, State.forAll_keeps _ q _ _ fun g u => hunread u g]
    exact hreports ..
  have hheads (t : State) :
      q (t.forAll (headsOf m) fun g t => t.setHead g { t.head g with chunk := none, wrote := 0, stop := none, held := none }) = q t :=
    State.forAll_keeps t q _ _ fun g u => hchunk u g
  simp only [State.endTransfer, hreads, hactu, hheads]
  (repeat' split) <;> simp [hreport]

theorem endTransfer_sector (m g : Nat) : ((s.endTransfer m).head g).sector = (s.head g).sector := by
  refine endTransfer_keeps s (q := fun t => (t.head g).sector) (fun _ _ _ => rfl) (fun _ _ _ => rfl) ?_ ?_ m <;>
  · intro t b
    simp only [State.head_setHead]
    split <;> simp [*]

/-- What a head holds of its chunk ends with the transfer (R103). -/
def State.chunkOver (g : Nat) (s : State) : State := s.setHead g { s.head g with chunk := none, wrote := 0, stop := none, held := none }

/-- What a head had left unread is the stoker's (R103). -/
def State.nothingUnread (g : Nat) (s : State) : State := s.setHead g { s.head g with unread := [] }

/-- The reads of a list of heads that end, as the pool and the stoker hold them (R103). -/
def State.readsReported (gs : List Nat) (s : State) : State :=
  let mine (e : Nat × PoolSector) : Bool := e.2.st = .granted && gs.contains e.2.req.head.val
  { s with
    pool := { s.pool with sectors := s.pool.sectors.filter fun e => !mine e }
    stk := { s.stk with unread := s.stk.unread ++ gs.flatMap (fun g => (s.head g).unread) ++
      (s.pool.sectors.filter fun e => mine e && e.2.req.budget.isNone).map fun e => e.2.req.place } }

theorem endReads_eq (gs : List Nat) : s.endReads gs = (s.readsReported gs).forAll gs State.nothingUnread := rfl

/-- What an actuator's transfer holds is its heads' and its own TRANSFERRING; the reports go to the stoker. -/
theorem endTransfer_eq (m : Nat) : ∃ (k : Stoker) (y : Actu), y.transferring = false ∧
    s.endTransfer m = (((({ s with stk := k } : State).forAll (headsOf m) State.chunkOver).setActu m y).endReads (headsOf m)) := by
  simp only [State.endTransfer]
  generalize hu : (if ((s.actu m).writing && (s.actu m).transferring) = true then _ else s) = u
  have hstoker : ∃ k, u = { s with stk := k } := by
    rw [← hu]
    (repeat' split) <;> exact ⟨_, rfl⟩
  obtain ⟨k, rfl⟩ := hstoker
  exact ⟨k, _, id rfl, id rfl⟩

/-- The reads of heads that end are told to the stoker, and change no actuator (R103). -/
theorem endReads_shows {gs : List Nat} {g : Nat} (hg : g ∈ gs) (m : Nat) :
    (s.endReads gs).actu m = s.actu m ∧ ∀ pl ∈ (s.head g).unread, pl ∈ (s.endReads gs).stk.unread := by
  constructor
  · rw [endReads_eq, State.forAll_keeps _ (fun t => t.actu m) _ State.nothingUnread fun _ _ => rfl]
    exact rfl
  · intro pl hpl
    rw [endReads_eq, State.forAll_keeps _ State.stk _ State.nothingUnread fun _ _ => rfl]
    simp only [State.readsReported, List.mem_append, List.mem_flatMap]
    exact .inl (.inr ⟨g, hg, hpl⟩)

/-- A transfer that has ended is no longer under way, and what its heads had left unread is reported (R103). -/
theorem endTransfer_shows {m g : Nat} (hg : g ∈ headsOf m) :
    ((s.endTransfer m).actu m).transferring = false ∧ ∀ pl ∈ (s.head g).unread, pl ∈ (s.endTransfer m).stk.unread := by
  obtain ⟨k, y, hy, heq⟩ := endTransfer_eq s m
  have hunread : ((({ s with stk := k } : State).forAll (headsOf m) State.chunkOver).head g).unread = (s.head g).unread := by
    refine State.forAll_keeps { s with stk := k } (fun t => (t.head g).unread) _ State.chunkOver fun b t => ?_
    simp only [State.chunkOver, State.head_setHead]
    split <;> simp [*]
  obtain ⟨hactu, hreported⟩ := endReads_shows ((({ s with stk := k } : State).forAll (headsOf m) State.chunkOver).setActu m y) hg m
  rw [heq, hactu, State.actu_setActu_same]
  exact ⟨hy, fun pl hpl => hreported pl (by rwa [State.head_setActu, hunread])⟩

theorem mem_headsOf {m h : Nat} (hh : h < 10) : 10 * m + h ∈ headsOf m := by simp [headsOf, hh]

end

/-- A sector in progress is over. -/
def State.sectorOver (g : Nat) (s : State) : State := s.setHead g { s.head g with sector := none }

/-- Sectors are reported unwritten (R103). -/
def State.reportUnwritten (l : List (Nat × Nat × Nat)) (s : State) : State := { s with unwritten := l ++ s.unwritten }

@[simp] theorem State.head_reportUnwritten (s : State) (l : List (Nat × Nat × Nat)) (g : Nat) : (s.reportUnwritten l).head g = s.head g := id rfl
@[simp] theorem State.get_reportUnwritten (s : State) (l : List (Nat × Nat × Nat)) (f : Fld) : (s.reportUnwritten l).get f = s.get f := id rfl
theorem State.mem_reportUnwritten (s : State) {l : List (Nat × Nat × Nat)} {x : Nat × Nat × Nat} (h : x ∈ l) :
    x ∈ (s.reportUnwritten l).unwritten := List.mem_append_left _ h

/-- The sectors in progress of an actuator's heads are over, and reported unwritten (R103). -/
def State.sectorsEnded (m : Nat) (s : State) : State :=
  (s.forAll (headsOf m) State.sectorOver).reportUnwritten
    ((headsOf m).filterMap fun g => (s.head g).sector.map fun (t, n, _) => (g, t, n))

/-- The sectors of an actuator's heads end unwritten, and are reported to the stoker (R103). -/
theorem sectorsEnded_shows (s : State) (m : Nat) :
    (∀ f, (s.sectorsEnded m).get f = s.get f) ∧
      ∀ g ∈ headsOf m, ((s.sectorsEnded m).head g).sector = none ∧ ((s.sectorsEnded m).head g).unread = (s.head g).unread ∧
        ∀ target n k, (s.head g).sector = some (target, n, k) → (g, target, n) ∈ (s.sectorsEnded m).unwritten := by
  refine ⟨fun f => ?_, fun g hg => ?_⟩ <;> simp only [State.sectorsEnded, State.head_reportUnwritten, State.get_reportUnwritten]
  · exact State.forAll_keeps s (State.get f) _ State.sectorOver fun _ _ => rfl
  refine ⟨?_, ?_, fun target n k hs => ?_⟩
  · refine State.forAll_brings (P := fun t => (t.head g).sector = none) s hg State.sectorOver (fun t => by simp [State.sectorOver]) fun b t ht => ?_
    simp only [State.sectorOver, State.head_setHead]
    split <;> simp [*]
  · refine State.forAll_keeps s (fun t => (t.head g).unread) _ State.sectorOver fun b t => ?_
    simp only [State.sectorOver, State.head_setHead]
    split <;> simp [*]
  · exact State.mem_reportUnwritten _ (List.mem_filterMap.2 ⟨g, hg, by simp [hs]⟩)

/-! ## Joins, departures and time-outs (R99, R100, R103, R106) -/

section
variable {s : State} (hrun : s.run = .up)
include hrun

/-- HEAD_JOIN of a head that joins the set. -/
theorem exec_headJoin (g : GHead) (hacq : (s.head g).acquiring = true) (hfollow : s.following g = true) (hfits : s.joinFits g = true)
    (hsettled : (if (s.actu (g / 10)).writing then 8 else 4) ≤ (s.head g).settleRun)
    (hsafe : (s.actu (g / 10)).writing = true → s.get (R.HEAD_PES_WRITE_SAFE g) = 1)
    (hstate : s.get (R.ACT_STATUS_STATE (g / 10)) = 4 ∨
      (s.get (R.ACT_STATUS_STATE (g / 10)) = 3 ∧ s.get (R.ACT_STATUS_REID_PENDING (g / 10)) = 0)) :
    ∃ t : State, exec (.headJoin g) s = .next t ∧ (
      t.inSet g = true ∧ (t.head g).acquiring = false ∧ t.get (R.ACT_STATUS_STATE (g / 10)) = 4 ∧
      dataKept s t ∧ hostKept s t) := by
  have hready := joinReady_of hacq hfollow hfits hsettled hsafe (by rcases hstate with h | ⟨h, -⟩ <;> simp [h])
  have hjoin : headJoin g s = (s.joined g).inService (g / 10) := by
    rw [headJoin_ready hready, if_neg]
    rcases hstate with h | ⟨h, hreid⟩
    · simp [h]
    · simp [hreid]
  have hkept : hostView ((headJoin g s).after s) = hostView s := by simp
  obtain ⟨hset, hdone, hst⟩ := joined_shows (g := g) (hstate.imp_right And.left)
  refine ⟨_, act_up hrun _, ?_, ?_, ?_, kept_of_host hkept⟩
  · rw [after_inSet, hjoin, State.inSet, State.bit, inService_get (by simp) (by simp)]
    exact hset
  · rw [State.head_after, hjoin, inService_head, hdone]
  · rw [State.get_after, hjoin, inService_get (by simp) (by simp), hst]

/-- HEAD_JOIN of a head whose actuator's plant is to be identified first. -/
theorem exec_headJoin_identifies (g : GHead) (hacq : (s.head g).acquiring = true) (hfollow : s.following g = true)
    (hfits : s.joinFits g = true) (hsettled : (if (s.actu (g / 10)).writing then 8 else 4) ≤ (s.head g).settleRun)
    (hsafe : (s.actu (g / 10)).writing = true → s.get (R.HEAD_PES_WRITE_SAFE g) = 1)
    (hstate : s.get (R.ACT_STATUS_STATE (g / 10)) = 3) (hreid : s.get (R.ACT_STATUS_REID_PENDING (g / 10)) = 1) :
    ∃ t : State, exec (.headJoin g) s = .next t ∧ (
      t.get (R.ACT_STATUS_STATE (g / 10)) = 6 ∧ regsKept [R.ACT_STATUS_STATE (g / 10)] s t ∧
      t = { s with flds := t.flds, gates := t.gates }) := by
  have hready := joinReady_of hacq hfollow hfits hsettled hsafe (by simp [hstate])
  have hjoin : headJoin g s = s.set (R.ACT_STATUS_STATE (g / 10)) 6 := by
    rw [headJoin_ready hready, if_pos (by simp [hstate, hreid])]
  refine ⟨_, (act_up hrun _).trans (by rw [hjoin]), by simp, fun f hf => ?_, after_of_flds ⟨_, by simp only [State.set_wr]; rfl⟩⟩
  simp only [List.forall_mem_cons] at hf
  simp [hf.1]

/-- HEAD_ACQUIRE_TIMEOUT. -/
theorem exec_headAcquireTimeout (g : GHead) (hacq : (s.head g).acquiring = true) :
    ∃ t : State, exec (.headAcquireTimeout g) s = .next t ∧ (
      t.following g = false ∧ (t.head g).acquiring = false ∧ (t.head g).vout = 0 ∧ dataKept s t ∧ hostKept s t) := by
  refine ⟨_, act_up hrun _, ?_⟩
  have hkept : hostView ((headAcquireTimeout g s).after s) = hostView s := by simp
  simp only [State.following, State.bit, State.get_after, State.head_after]
  refine ⟨?_, ?_, ?_, kept_of_host hkept⟩ <;> rw [headAcquireTimeout, if_pos hacq]
  · rw [masks_get (by simp) (by simp)]
    simp
  · simp [State.masks]
  · simp [State.masks]

/-- HEAD_UP_SATURATED below the eighth in 24 h. -/
theorem exec_headUpSaturated (g : GHead) (hfollow : s.following g = true) (hfew : (s.within 86400 (s.head g).upSatAt).length < 8) :
    ∃ t : State, exec (.headUpSaturated g) s = .next t ∧ (
      t.following g = false ∧ t.inSet g = false ∧
      t.get (R.HEAD_POS_COUNT_UP_SAT g) = counted (R.HEAD_POS_COUNT_UP_SAT g) s ∧ dataKept s t ∧ hostKept s t) := by
  have heighth : ¬8 ≤ (s.within 86400 (s.head g).upSatAt).length := by omega
  have hcount : (s.leaveTorn g).get (R.HEAD_POS_COUNT_UP_SAT g) = s.get (R.HEAD_POS_COUNT_UP_SAT g) :=
    leaveTorn_get (by simp [leaveFlds])
  have hkept : hostView ((headUpSaturated g s).after s) = hostView s := by simp
  have hout : (headUpSaturated g s).out g := by
    simp only [headUpSaturated, hfollow, heighth, if_true, if_false]
    refine State.out.masks ((leaveTorn_out (s := s) (g := g)).congr ?_ ?_) _ <;> simp [get_count_ne]
  refine ⟨_, act_up hrun _, (hout.after s).2, (hout.after s).1, ?_, kept_of_host hkept⟩
  simp only [State.get_after, headUpSaturated, hfollow, heighth, if_true, if_false]
  rw [masks_get (by simp; omega) (by simp)]
  simp [get_count_same, counted, hcount]

/-- PES_INVALID_DEPARTURE. -/
theorem exec_pesInvalidDeparture (g : GHead) (hset : s.inSet g = true) (hinvalid : 2 ≤ (s.head g).invalidRun) :
    ∃ t : State, exec (.pesInvalidDeparture g) s = .next t ∧ (
      t.inSet g = false ∧ t.following g = false ∧ g.val ∉ t.gates ∧ dataKept s t ∧ hostKept s t) := by
  have hkept : hostView ((pesInvalidDeparture g s).after s) = hostView s := by simp
  have hout : (pesInvalidDeparture g s).out g := by
    rw [pesInvalidDeparture, if_pos (by simp [hset, hinvalid])]
    have hleft (x : HeadSt) : ((s.leaveTorn g).setHead g x).out g := (leaveTorn_out (s := s)).congr rfl rfl
    refine State.out.masks ?_ _
    split
    · exact (hleft _).retireHead ..
    · exact hleft _
  exact ⟨_, act_up hrun _, (hout.after s).1, (hout.after s).2, hout.gates s, kept_of_host hkept⟩

/-- SET_EMPTY_TIMEOUT. -/
theorem exec_setEmptyTimeout (m : Member) (hempty : s.setOf m = []) (htransfer : (s.actu m).transferring = true) :
    ∃ t : State, exec (.setEmptyTimeout m) s = .next t ∧ (
      (t.actu m).transferring = false ∧
      (∀ (h target n k : Nat), h < 10 → (s.head (10 * m + h)).sector = some (target, n, k) →
        (10 * m.val + h, target, n) ∈ t.unwritten ∧ (t.head (10 * m + h)).sector = none) ∧
      (∀ (h : Nat) (pl : Place), h < 10 → pl ∈ (s.head (10 * m + h)).unread → pl ∈ t.stk.unread) ∧
      regsKept [] s t ∧ dataKept s t ∧ hostKept s t) := by
  have hend : setEmptyTimeout m s = (s.sectorsEnded m).endTransfer m := if_pos (by simp [hempty, htransfer])
  have hkept : hostView ((setEmptyTimeout m s).after s) = hostView s := by simp
  obtain ⟨hget, hheads⟩ := sectorsEnded_shows s m
  have hunwritten : ((s.sectorsEnded m).endTransfer m).unwritten = (s.sectorsEnded m).unwritten :=
    endTransfer_keeps _ (fun _ _ _ => rfl) (fun _ _ _ => rfl) (fun _ _ => rfl) (fun _ _ => rfl) m
  have hends {h : Nat} (hh : h < 10) := endTransfer_shows (s.sectorsEnded m) (mem_headsOf (m := m) hh)
  refine ⟨_, act_up hrun _, ?_, fun h target n k hh hs => ?_, fun h pl hh hpl => ?_, fun f _ => ?_, kept_of_host hkept⟩
  · rw [State.actu_after, hend]
    exact (hends (h := 0) (by decide)).1
  · obtain ⟨hnone, -, hreported⟩ := hheads _ (mem_headsOf hh)
    have hafter : ((setEmptyTimeout m s).after s).unwritten = (setEmptyTimeout m s).unwritten := id rfl
    rw [hafter, State.head_after, hend, hunwritten, endTransfer_sector]
    exact ⟨hreported target n k hs, hnone⟩
  · obtain ⟨-, hunread, -⟩ := hheads _ (mem_headsOf hh)
    have hafter : ((setEmptyTimeout m s).after s).stk = (setEmptyTimeout m s).stk := id rfl
    rw [hafter, hend]
    exact (hends hh).2 pl (by rwa [hunread])
  · rw [State.get_after, hend, endTransfer_keeps _ (q := State.get f) (fun _ _ _ => rfl) (fun _ _ _ => rfl) (fun _ _ => rfl) (fun _ _ => rfl) m,
      hget]

/-- SHOCK_SHELF_HOLD_END. -/
theorem exec_shockShelfHoldEnd :
    ∃ t : State, exec .shockShelfHoldEnd s = .next t ∧ (
      t.damper.shelfHold = false ∧ t = { s with damper := t.damper, gates := t.gates }) :=
  ⟨_, act_up hrun _, id rfl, id rfl⟩

end

/-- Settles O15: each clause is a command's lemma. -/
theorem headsJoinAndLeaveTheSet : Obligations.HeadsJoinAndLeaveTheSet := by
  intro s hrun
  refine ⟨fun g hacq hfollow hfits hsettled hsafe => ⟨exec_headJoin hrun g hacq hfollow hfits hsettled hsafe,
    exec_headJoin_identifies hrun g hacq hfollow hfits hsettled hsafe⟩, exec_headAcquireTimeout hrun, exec_headUpSaturated hrun,
    exec_pesInvalidDeparture hrun, exec_setEmptyTimeout hrun, exec_shockShelfHoldEnd hrun⟩

end Sys2Proof.Machine

namespace Sys2Proof.Machine

/-! ## One evaluation of a loop (R120 to R123) -/

section
variable {s : State}

/-- Lanes that agree on the loop's own result apply it. -/
theorem vote_agreeing {runs : List LaneRun} (hruns : runs ≠ []) (hdev : ∀ r ∈ runs, r.dev = 0) (v : Int) :
    s.vote v runs = (some v, s) := by
  match runs, hruns, hdev with
  | [a], _, hdev => simp [State.vote, hdev a (by simp)]
  | [a, b], _, hdev => simp [State.vote, hdev a (by simp), hdev b (by simp)]
  | a :: b :: c :: _, _, hdev => simp [State.vote, hdev a (by simp), hdev b (by simp)]

/-- An evaluation runs on some lane (R123). -/
theorem lanesFit_ne_nil {runs : List LaneRun} (h : s.lanesFit runs = true) : runs ≠ [] := by
  rintro rfl
  simp only [State.lanesFit, Bool.and_eq_true] at h
  obtain ⟨-, h⟩ := h
  split at h <;> simp at h

/-- A loop of the first form has one result (R121). -/
theorem loopV_form_zero {c : LoopCfg} (h : c.form = 0) (set : Nat) (l : Loop) (e : Int) : (loopV c set l e).2.1 = (loopV c set l e).2.2 := by
  simp [loopV, h]

/-- A loop's signals after an evaluation of its active configuration (R121). -/
def State.evaluated (s : State) (l : Nat) (e : Int) : Loop :=
  (s.loop l).shift
    (loopV ((s.loop l).active.getD (romLoop l)) (s.get (R.DAMP_CFG0_ACTIVE_SET l)) (s.loop l) e).1
    (loopV ((s.loop l).active.getD (romLoop l)) (s.get (R.DAMP_CFG0_ACTIVE_SET l)) (s.loop l) e).2.1
    (loopV ((s.loop l).active.getD (romLoop l)) (s.get (R.DAMP_CFG0_ACTIVE_SET l)) (s.loop l) e).2.2

theorem evalLoop_agreeing {l : Nat} {runs : List LaneRun} (hl : l < 768) (hpending : (s.loop l).pending = false)
    (hen : ((s.loop l).active.getD (romLoop l)).en = 1) (hruns : runs ≠ []) (hdev : ∀ r ∈ runs, r.dev = 0) (e : Int) :
    s.evalLoop l e runs = s.setLoop l (s.evaluated l e) := by
  simp only [State.evalLoop, hpending, hen, hl, vote_agreeing hruns hdev, Bool.false_eq_true, if_true, if_false]
  split
  case isTrue hform => rw [State.evaluated, loopV_form_zero hform]
  case isFalse => rfl

/-- What a loop puts out moves no loop and no count (R113, R120). -/
theorem applyOut_keeps {β : Type} (q : State → β) (hhead : ∀ (t : State) g x, q (t.setHead g x) = q t)
    (hset : ∀ (t : State) a lo w r v, 0x100000 ≤ a → q (t.set ⟨a, lo, w, r⟩ v) = q t) (l : Nat) (i : VcmIn) (ff : Int) :
    q (s.applyOut l i ff) = q s := by
  simp only [State.applyOut, State.arbitrate, State.setB_eq, State.setI_eq]
  split
  · rw [hset, hset, hhead] <;> simp <;> omega
  · split
    · rw [hset, hset, hset, hset] <;> simp <;> omega
    · rw [hset]; simp; omega

theorem accelEnds_cases (m : Nat) (i : VcmIn) : s.accelEnds m i = s ∨ s.accelEnds m i = s.set (R.ACT_TARGET_ACCEL m) 0 :=
  (ite_eq_or_eq _ _ _).symm

/-- The reference head of an actuator is a matter of its heads and its state alone (R103). -/
theorem refHead_clear_ACCEL (m n : Nat) : (s.set (R.ACT_TARGET_ACCEL m) 0).refHead n = s.refHead n := by
  have heligible : (s.set (R.ACT_TARGET_ACCEL m) 0).eligible = s.eligible := id rfl
  simp only [State.refHead, heligible]
  rw [State.get_set_ne s (by simp)]
  exact rfl

/-- The end of an acceleration phase leaves the loops and what they read (R109). -/
theorem accelEnds_shows (m l : Nat) (i : VcmIn) :
    ((s.accelEnds m i).loopInput l i = s.loopInput l i) ∧ (s.accelEnds m i).loop l = s.loop l ∧
      ∀ f : Fld, f.key ≠ (R.ACT_TARGET_ACCEL m).key → (s.accelEnds m i).get f = s.get f := by
  rcases accelEnds_cases (s := s) m i with h | h <;> rw [h]
  · exact ⟨rfl, rfl, fun _ _ => rfl⟩
  · have hstate (n : Nat) : (s.set (R.ACT_TARGET_ACCEL m) 0).get (R.ACT_STATUS_STATE n) = s.get (R.ACT_STATUS_STATE n) := by simp
    have hmode (n : Nat) : (s.set (R.ACT_TARGET_ACCEL m) 0).get (R.ACT_TARGET_MODE n) = s.get (R.ACT_TARGET_MODE n) := by simp
    have hcur (n : Nat) : (s.set (R.ACT_TARGET_ACCEL m) 0).get (R.ACT_CURRENT_APPLIED n) = s.get (R.ACT_CURRENT_APPLIED n) := by simp
    have htemp (n : Nat) : (s.set (R.ACT_TARGET_ACCEL m) 0).get (R.ACT_COIL_T_EST n) = s.get (R.ACT_COIL_T_EST n) := by simp
    refine ⟨?_, by simp, fun f hf => by simp [hf]⟩
    simp only [State.loopInput, State.getI, refHead_clear_ACCEL, State.head_set, State.actu_set, hstate, hmode, hcur, htemp]

end

section
variable {s : State}

/-- The state an evaluation of a loop begins with: for a VCM loop, the acceleration phase of its seek may have ended. -/
def State.evalBegun (l : Nat) (i : VcmIn) (s : State) : State := if 640 ≤ l && l < 704 then s.accelEnds (l - 640) i else s

theorem evalBegun_shows (l : Nat) (i : VcmIn) :
    ((s.evalBegun l i).loopInput l i = s.loopInput l i) ∧ (s.evalBegun l i).loop l = s.loop l ∧
      (s.evalBegun l i).get (R.DAMP_CFG0_ACTIVE_SET l) = s.get (R.DAMP_CFG0_ACTIVE_SET l) ∧
      (s.evalBegun l i).get R.DAMP_DELAY_BOUND_MISS = s.get R.DAMP_DELAY_BOUND_MISS := by
  rw [State.evalBegun]
  split
  · obtain ⟨hin, hloop, hget⟩ := accelEnds_shows (s := s) (l - 640) l i
    exact ⟨hin, hloop, hget _ (by simp), hget _ (by simp)⟩
  · exact ⟨rfl, rfl, rfl, rfl⟩

/-- What follows an evaluation: the output is applied, its delay shown, and one past its deadline counted (R122). -/
def State.evalApplied (l : Nat) (i : VcmIn) (ff : Int) (ns : Nat) (s : State) : State :=
  let s2 := if s.loopRuns l then s.applyOut l i ff else s
  let s3 := if l < 704 then s2.set R.DAMP_DELAY_WORST (max (s2.get R.DAMP_DELAY_WORST) (min ns 65535)) else s2
  s3.when ((if l < 704 then 4000 else 50000) < ns) (State.count R.DAMP_DELAY_BOUND_MISS 1)

theorem evalApplied_shows (l : Nat) (i : VcmIn) (ff : Int) (ns : Nat) :
    (s.evalApplied l i ff ns).loop l = s.loop l ∧
      (s.evalApplied l i ff ns).get R.DAMP_DELAY_BOUND_MISS =
        (if (if l < 704 then 4000 else 50000) < ns then counted R.DAMP_DELAY_BOUND_MISS s else s.get R.DAMP_DELAY_BOUND_MISS) := by
  have hloop : ((if s.loopRuns l then s.applyOut l i ff else s) : State).loop l = s.loop l := by
    rw [view_ite fun t => t.loop l, applyOut_keeps (fun t => t.loop l) (fun _ _ _ => rfl) (fun _ _ _ _ _ _ _ => rfl), ite_self]
  have hmiss : ((if s.loopRuns l then s.applyOut l i ff else s) : State).get R.DAMP_DELAY_BOUND_MISS = s.get R.DAMP_DELAY_BOUND_MISS := by
    rw [view_ite (State.get _), applyOut_keeps (State.get _) (fun _ _ _ => rfl) (fun t a lo w r v ha => ?_), ite_self]
    exact State.get_set_ne t (by simp only [Fld.key, A.DAMP_DELAY]; omega) v
  simp only [State.evalApplied]
  generalize (if s.loopRuns l then s.applyOut l i ff else s) = u at hloop hmiss
  generalize hu' : (if l < 704 then u.set R.DAMP_DELAY_WORST (max (u.get R.DAMP_DELAY_WORST) (min ns 65535)) else u) = u'
  have hshown : u'.loop l = s.loop l ∧ u'.get R.DAMP_DELAY_BOUND_MISS = s.get R.DAMP_DELAY_BOUND_MISS := by
    rw [← hu']
    split <;> simp [hloop, hmiss]
  by_cases hlate : (if l < 704 then 4000 else 50000) < ns
  · simp only [hlate, decide_true, State.when_true, if_true]
    exact ⟨by simpa [State.count_eq] using hshown.1, by rw [get_count_same, counted, counted, hshown.2]⟩
  · simpa only [hlate, decide_false, State.when_false, if_false] using hshown

theorem damperEvaluation_due {l : Nat} {runs : List LaneRun} (hl : l < 768) (hdue : s.loopRuns l = true) (hfit : s.lanesFit runs = true)
    (i : VcmIn) (ff : Int) (ns : Nat) : damperEvaluation l runs i ff ns s =
      ((s.evalBegun l i).evalLoop l ((s.evalBegun l i).loopInput l i) runs).evalApplied l i ff ns :=
  if_pos (by simp [hl, hdue, hfit])

/-- DAMPER_EVALUATION. -/
theorem exec_damperEvaluation (l : LoopIx) (runs : List LaneRun) (i : VcmIn) (ff : Int) (ns : Nat) (hrun : s.run = .up) (hl : l.val < 768)
    (hdue : s.loopRuns l = true) (hfit : s.lanesFit runs = true) (hdev : ∀ r ∈ runs, r.dev = 0) (hpending : (s.loop l).pending = false)
    (hen : ((s.loop l).active.getD (romLoop l)).en = 1) :
    ∃ t : State, exec (.damperEvaluation l runs i ff ns) s = .next t ∧ (
      t.get R.DAMP_DELAY_BOUND_MISS =
        (if (if l.val < 704 then 4000 else 50000) < ns then counted R.DAMP_DELAY_BOUND_MISS s else s.get R.DAMP_DELAY_BOUND_MISS) ∧
      t.loop l = s.evaluated l (s.loopInput l i) ∧ dataKept s t ∧ hostKept s t) := by
  have hkept : hostView ((damperEvaluation l runs i ff ns s).after s) = hostView s := by simp
  obtain ⟨hin, hloop, hset, hmiss⟩ := evalBegun_shows (s := s) l i
  have heval : damperEvaluation l runs i ff ns s =
      ((s.evalBegun l i).setLoop l (s.evaluated l (s.loopInput l i))).evalApplied l i ff ns := by
    rw [damperEvaluation_due hl hdue hfit, evalLoop_agreeing hl (by rw [hloop, hpending]) (by rw [hloop, hen]) (lanesFit_ne_nil hfit) hdev,
      hin, State.evaluated, State.evaluated, hloop, hset]
  obtain ⟨happlied, hcount⟩ := evalApplied_shows (s := (s.evalBegun l i).setLoop l (s.evaluated l (s.loopInput l i))) l i ff ns
  refine ⟨_, act_up hrun _, ?_, ?_, kept_of_host hkept⟩
  · rw [State.get_after, heval, hcount, counted, counted, State.get_setLoop, hmiss]
  · rw [State.loop_after, heval, happlied, State.loop_setLoop_same]

end

end Sys2Proof.Machine

namespace Sys2Proof.Machine

/-! ## What the lanes in service change (R98, R124) -/

section
variable {β : Type} {q : State → β} (hq : HeadsAside q)
  (hset : ∀ (t : State) (f : Fld) (v : Nat), f.addr ≠ A.DAMP_CTRL → f.lo < 32 → q (t.set f v) = q t)
include hq hset

omit hq in
theorem masks_keeps_of_set (t : State) (m : Nat) : q (t.masks m) = q t := by
  rw [State.masks, hset _ _ _ (by simp; omega) (by simp), hset _ _ _ (by simp; omega) (by simp)]

theorem fitSet_keeps_of_set (t : State) (m : Nat) : q (t.fitSet m) = q t := by
  rw [State.fitSet, masks_keeps_of_set hset, State.forAll_keeps _ q _ _ fun g t => hq.leave t false g,
    State.forAll_keeps _ q _ _ fun g t => hq.setHead .., hset _ _ _ (by simp; omega) (by simp)]

theorem unload_keeps_of_set (t : State) (emerg : Bool) (x m : Nat) : q (t.unload emerg x m) = q t := by
  cases h : t.loaded m with
  | false => rw [unload_not_loaded h]
  | true =>
    obtain ⟨y, hy⟩ := unload_loaded h emerg x
    have hcount (u : State) : q (u.count (R.ACT_COUNT_EMERG_UNLOADS m) 1) = q u := hset _ _ _ (by simp; omega) (by simp)
    rw [hy, State.when_keeps _ q _ _ hcount, hq.preampRest, hq.setActu,
      masks_keeps_of_set hset, hset _ _ _ (by simp; omega) (by simp), hset _ _ _ (by simp; omega) (by simp), State.setB_eq,
      hset _ _ _ (by simp; omega) (by simp), hset _ _ _ (by simp; omega) (by simp), hq.headsUnloaded]

theorem restPositioners_keeps_of_set (t : State) : q t.restPositioners = q t :=
  State.forAll_keeps t q _ _ fun g u => by
    rw [hset _ _ _ (by simp; omega) (by simp), hset _ _ _ (by simp; omega) (by simp), hq.setHead]

/-- Lanes that come and go move no field of DAMP_CTRL, and nothing that shows no head, no actuator, no gate and no field. -/
theorem laneRefresh_keeps (hphases : ∀ (t : State) (p : Pins), q { t with pins := p } = q t) (t : State) : q t.laneRefresh = q t := by
  have hfit (u : State) : q (u.forAll (List.range 64) State.fitSet) = q u :=
    State.forAll_keeps u q _ _ fun m v => fitSet_keeps_of_set hq hset v m
  have hunload (u : State) : q (u.forAll (List.range 64) (State.unload true Torn.unload)) = q u :=
    State.forAll_keeps u q _ _ fun m v => unload_keeps_of_set hq hset v true Torn.unload m
  have hrest (u : State) (c : Bool) : q (u.when c State.restPositioners) = q u :=
    State.when_keeps u q c _ (restPositioners_keeps_of_set hq hset)
  simp only [State.laneRefresh]
  split
  · rw [hphases, hunload, hrest, hfit]
    simp [view_ite q, hq.event, hset]
  · rw [hrest, hfit]
    simp [view_ite q, hq.event, hset]

end

section
variable {s : State} {p : Path}

@[simp] theorem recordWrite_loop (p : Path) (a w l : Nat) : (s.recordWrite p a w).loop l = s.loop l := by cases p <;> rfl

theorem blockEffect_DAMP_CTRL (p : Path) (w : Nat) (acts : Bool) (s : State) : State.blockEffect p A.DAMP_CTRL w acts s = s.laneRefresh := by
  simp [State.blockEffect]

theorem blockEffect_DAMP_COMMIT (p : Path) (w : Nat) (s : State) : State.blockEffect p A.DAMP_COMMIT w true s =
    s.when (R.DAMP_COMMIT_GO.of w = 1) (State.commitLoop (s.get R.DAMP_COMMIT_LOOP)) := by
  simp [State.blockEffect]

/-- DAMP_CTRL. -/
theorem exec_dampCtrlLaneEn (p : Path) (w : Word) (hw : writable p s) :
    ∃ t : State, exec (.dampCtrlLaneEn p w) s = .next t ∧ (
      t.get R.DAMP_CTRL_LANE_EN = field R.DAMP_CTRL_LANE_EN w ∧ dataKept s t ∧ hostKept s t) := by
  have htakes (u : State) : u.refuses ⟨R.DAMP_CTRL_LANE_EN, .rw, .k, []⟩ (R.DAMP_CTRL_LANE_EN.of w.toNat) = false :=
    refuses_unranged rfl (by simp) (by simp) (fun c hc => by simp; omega) u _
  generalize hu : (s.count (R.GLB_ACCESS_WRITES (pathKind p)) 1).set R.DAMP_CTRL_LANE_EN (R.DAMP_CTRL_LANE_EN.of w.toNat) = u
  have hside : (u.laneRefresh.engs, u.laneRefresh.knd) = (s.engs, s.knd) :=
    (laneRefresh_keeps headsAside_engs_knd (fun _ _ _ _ _ => rfl) (fun _ _ => rfl) u).trans (by rw [← hu]; exact rfl)
  obtain ⟨hengs, hknd⟩ := Prod.mk.inj hside
  have hkept : u.laneRefresh.get R.DAMP_CTRL_LANE_EN = u.get R.DAMP_CTRL_LANE_EN :=
    laneRefresh_keeps (headsAside_get (by decide)) (fun t f v ha hlo => State.get_set_ne t
      (fun e => ha ((key_eq_iff (by simp) hlo).1 e).1.symm) v) (fun _ _ => rfl) u
  refine ⟨_, act_blockRow hw blockReg_DAMP_CTRL w (by simp [htakes]) (by simpa [State.takeField, htakes] using hu)
    (blockEffect_DAMP_CTRL p _ _ u) hengs hknd, ?_, kept_of_host ?_⟩
  · rw [State.get_after, recordWrite_get, hkept, ← hu, State.get_set_same, field, Fld.of, Nat.mod_mod]
  · rw [State.host_after, host_recordWrite, host_laneRefresh, ← hu, State.host_set, host_write_count]

/-- DAMP_COMMIT with GO for an existing loop. -/
theorem exec_dampCommitGo (p : Path) (w : Word) (hw : writable p s) (hgo : field R.DAMP_COMMIT_GO w = 1)
    (hloop : field R.DAMP_COMMIT_LOOP w < 800) :
    ∃ t : State, exec (.dampCommitGo p w) s = .next t ∧ (
      (t.loop (field R.DAMP_COMMIT_LOOP w)).pending = true ∧ dataKept s t ∧ hostKept s t) := by
  have htakes (u : State) : u.refuses ⟨R.DAMP_COMMIT_LOOP, .rw, .v, [(0, 799)]⟩ (R.DAMP_COMMIT_LOOP.of w.toNat) = false := by
    have hlegal : R.DAMP_COMMIT_LOOP.of w.toNat ≤ 799 := Nat.le_of_lt_succ hloop
    rw [refuses_eq (by simp) (by simp) (fun c hc => by simp; omega)]
    simp [FSpec.ok, hlegal]
  have hfree (u : State) (lo wd : Nat) (acc : Acc) (v : Nat) : u.refuses ⟨⟨A.DAMP_COMMIT, lo, wd, 0⟩, acc, .v, []⟩ v = false :=
    refuses_unranged rfl (by simp) (by simp) (fun c hc => by simp; omega) u v
  generalize hu : (s.count (R.GLB_ACCESS_WRITES (pathKind p)) 1).set R.DAMP_COMMIT_LOOP (R.DAMP_COMMIT_LOOP.of w.toNat) = u
  have hnum : u.get R.DAMP_COMMIT_LOOP = field R.DAMP_COMMIT_LOOP w := by
    rw [← hu, State.get_set_same, field, Fld.of, Nat.mod_mod]
  have heffect : State.blockEffect p A.DAMP_COMMIT w.toNat true u = u.commitLoop (field R.DAMP_COMMIT_LOOP w) := by
    have hgo' : R.DAMP_COMMIT_GO.of w.toNat = 1 := hgo
    simp [blockEffect_DAMP_COMMIT, hgo', hnum]
  refine ⟨_, act_blockRow hw blockReg_DAMP_COMMIT w (by simp [htakes, hfree]) (by simpa [State.takeField, htakes] using hu)
    heffect (by rw [← hu]; exact rfl) (by rw [← hu]; exact rfl), ?_, kept_of_host ?_⟩
  · rw [State.loop_after, recordWrite_loop, State.commitLoop, State.loop_setLoop_same]
  · rw [State.host_after, host_recordWrite, State.commitLoop, State.host_setLoop, ← hu, State.host_set, host_write_count]

end

/-- Settles O16: each clause is a command's lemma. -/
theorem damperLoopEvaluates : Obligations.DamperLoopEvaluates :=
  fun _ => ⟨exec_damperEvaluation, exec_dampCommitGo, exec_dampCtrlLaneEn⟩

end Sys2Proof.Machine

namespace Sys2Proof.Machine

/-! ## What one head's wedge and departure leave of the others (R94, R99) -/

/-- The registers of a head that its wedges and its departure write. -/
def headRegs (b : Nat) : List Nat := [A.HEAD_PES b, A.HEAD_UP b, A.HEAD_POS_COUNT b, A.HEAD_DEFECT_COUNT b]

/-- A view of the state that shows nothing of one head's part of positioning, nor of gates, the recorder and what is reported. -/
structure HeadAside {β : Type} (b : Nat) (q : State → β) : Prop where
  set : ∀ (s : State) (a lo w r v : Nat), a ∈ headRegs b → lo < 32 → q (s.set ⟨a, lo, w, r⟩ v) = q s
  setHead : ∀ (s : State) (x : HeadSt), q (s.setHead b x) = q s
  gates : ∀ (s : State) (l : List Nat), q { s with gates := l } = q s
  event : ∀ (s : State) (c o p0 p1 p2 p3 : Nat), q (s.event c o p0 p1 p2 p3) = q s
  voidRun : ∀ (s : State) (g target n : Nat), q (s.voidRun g target n) = q s
  noteUnwritten : ∀ (s : State) (g target n : Nat), q (s.noteUnwritten g target n) = q s
  bump : ∀ s : State, q s.bump = q s

section
variable {β : Type} {b : Nat} {q : State → β} (hq : HeadAside b q) (s : State)
include hq

theorem HeadAside.count {a lo w r : Nat} (ha : a ∈ headRegs b) (hlo : lo < 32) : q (s.count ⟨a, lo, w, r⟩ 1) = q s := hq.set s a lo w r _ ha hlo

theorem HeadAside.tear (x : Nat) (stays : Bool) : q (s.tear x stays b) = q s := by
  have hrewrite (t : State) (n k : Nat) : q (t.mayRewrite b n k) = q t := hq.setHead ..
  have hcount (t : State) : q (t.count (R.HEAD_DEFECT_COUNT_TORN b) 1) = q t := hq.count t (by simp [headRegs]) (by simp)
  simp only [State.tear]
  split
  · exact hq.gates ..
  · simp [view_ite q, State.when_keeps _ q, hq.event, hcount, hq.setHead, hq.gates, hq.voidRun, hq.noteUnwritten, hrewrite]

theorem HeadAside.leave (stays : Bool) : q (s.leave stays b) = q s := by
  have hpes (t : State) (lo w r v : Nat) (hlo : lo < 32) : q (t.set ⟨A.HEAD_PES b, lo, w, r⟩ v) = q t :=
    hq.set t _ lo w r v (by simp [headRegs]) hlo
  have hup (t : State) (lo w r v : Nat) (hlo : lo < 32) : q (t.set ⟨A.HEAD_UP b, lo, w, r⟩ v) = q t :=
    hq.set t _ lo w r v (by simp [headRegs]) hlo
  have hcount (t : State) : q (t.count (R.HEAD_POS_COUNT_DEPARTURES b) 1) = q t := hq.count t (by simp [headRegs]) (by simp)
  simp [State.leave, view_ite q, hpes, hup, hcount, hq.setHead]

theorem HeadAside.leaveTorn : q (s.leaveTorn b) = q s := by rw [State.leaveTorn, hq.leave, hq.tear]

theorem HeadAside.headWedge (o : WedgeObs) : q (s.headWedge b o) = q s := by
  have hpes (t : State) (lo w r v : Nat) (hlo : lo < 32) : q (t.set ⟨A.HEAD_PES b, lo, w, r⟩ v) = q t :=
    hq.set t _ lo w r v (by simp [headRegs]) hlo
  have hcount (t : State) : q (t.count (R.HEAD_POS_COUNT_WRITE_UNSAFE b) 1) = q t := hq.count t (by simp [headRegs]) (by simp)
  simp [State.headWedge, view_ite q, hpes, hcount, hq.setHead, hq.bump]

end

/-- A register of one head is none of another's. -/
theorem headRegs_ne {b g a off : Nat} (hbg : b ≠ g) (ha : a ∈ headRegs b) (hoff : off = 0x100120 ∨ off = 0x100124) :
    a ≠ off + g / 20 * 0x1000 + g % 20 * 0x40 := by
  simp only [headRegs, A.HEAD_PES, A.HEAD_UP, A.HEAD_POS_COUNT, A.HEAD_DEFECT_COUNT, List.mem_cons, List.not_mem_nil, or_false] at ha
  omega

/-- A head's field keeps its value when another head's part of positioning moves. -/
theorem headAside_get {b g off lo w r : Nat} (hbg : b ≠ g) (hoff : off = 0x100120 ∨ off = 0x100124) (hlo : lo < 32) :
    HeadAside b (State.get ⟨off + g / 20 * 0x1000 + g % 20 * 0x40, lo, w, r⟩) where
  set s _ _ _ _ v ha hlo' := State.get_set_ne s (fun e => headRegs_ne hbg ha hoff ((key_eq_iff hlo hlo').1 e).1.symm) v
  setHead _ _ := rfl
  gates _ _ := rfl
  event _ _ _ _ _ _ _ := rfl
  voidRun _ _ _ _ := rfl
  noteUnwritten _ _ _ _ := rfl
  bump _ := rfl

theorem headAside_head {b g : Nat} (hbg : b ≠ g) : HeadAside b fun s => s.head g := by
  constructor <;> intros
  case setHead => rw [State.head_setHead, if_neg hbg.symm]
  all_goals rfl

theorem HeadAside.prod {β γ : Type} {b : Nat} {q : State → β} {r : State → γ} (hq : HeadAside b q) (hr : HeadAside b r) :
    HeadAside b fun s => (q s, r s) where
  set s a lo w r' v ha hlo := by rw [hq.set s a lo w r' v ha hlo, hr.set s a lo w r' v ha hlo]
  setHead s x := by rw [hq.setHead, hr.setHead]
  gates s l := by rw [hq.gates, hr.gates]
  event s c o p0 p1 p2 p3 := by rw [hq.event, hr.event]
  voidRun s g t n := by rw [hq.voidRun, hr.voidRun]
  noteUnwritten s g t n := by rw [hq.noteUnwritten, hr.noteUnwritten]
  bump s := by rw [hq.bump, hr.bump]

/-! ## What a head's wedge reads and writes (R94, R95) -/

/-- What a head's wedge goes by: the head, whether it follows, its OFFSET, its actuator's target, and its trims. -/
def State.wedgeInputs (s : State) (g : Nat) : HeadSt × Nat × Nat × Nat × Tbl Trim × Tbl SlotSt :=
  (s.head g, s.get (R.HEAD_PES_FOLLOWING g), s.get (R.HEAD_OFFSET_OFFSET g), (s.actu (g / 10)).target, s.trims, s.slots)

/-- What a wedge shows of a head: VALID, PES, RRO_BAD and the head's position. -/
def State.measured (s : State) (g : Nat) : Nat × Nat × Nat × Int :=
  (s.get (R.HEAD_PES_VALID g), s.get (R.HEAD_PES_PES g), s.get (R.HEAD_PES_RRO_BAD g), (s.head g).pos)

theorem headAside_wedgeInputs {b g : Nat} (h : b ≠ g) : HeadAside b fun s => s.wedgeInputs g := by
  have hrest : HeadAside b fun s => ((s.actu (g / 10)).target, s.trims, s.slots) := by constructor <;> intros <;> rfl
  exact (headAside_head h).prod ((headAside_get h (.inl rfl) (by decide)).prod ((headAside_get h (.inr rfl) (by decide)).prod hrest))

theorem headAside_measured {b g : Nat} (h : b ≠ g) : HeadAside b fun s => s.measured g := by
  have hpos : HeadAside b fun s => (s.head g).pos := by
    constructor <;> intros
    case setHead => rw [State.head_setHead, if_neg h.symm]
    all_goals rfl
  have hpes {lo w r : Nat} (hlo : lo < 32) : HeadAside b (State.get ⟨A.HEAD_PES g, lo, w, r⟩) := headAside_get h (.inl rfl) hlo
  exact (hpes (by decide)).prod ((hpes (by decide)).prod ((hpes (by decide)).prod hpos))

section
variable {s t : State} {g : Nat}

theorem wedgeValid_congr (h : t.wedgeInputs g = s.wedgeInputs g) (o : WedgeObs) (w : Wedge) (n : Nat) :
    t.wedgeValid g o w n = s.wedgeValid g o w n := by
  simp only [State.wedgeInputs, Prod.mk.injEq] at h
  obtain ⟨hhead, hfollow, -, -, htrims, hslots⟩ := h
  have hslot (i : Nat) : t.slot i = s.slot i := by rw [State.slot, State.slot, hslots]
  have hrec (i k : Nat) : t.trimRec i k = s.trimRec i k := by simp only [State.trimRec, htrims, hslot]
  have hfield : t.headField g 420 2 = s.headField g 420 2 := by simp only [State.headField, State.headTrim, hrec]
  simp only [State.wedgeValid, hfield, hhead, State.following, State.bit, hfollow]

/-- What a head's wedge gives as the position error (R94). -/
def State.pesAt (s : State) (g : Nat) (w : Wedge) (track : Nat) (fine : Int) : Int :=
  wedgePes (wedgePos track fine) (w.rro.getD 0) ((s.actu (g / 10)).target : Int) (s.getI (R.HEAD_OFFSET_OFFSET g))

theorem pesAt_congr (h : t.wedgeInputs g = s.wedgeInputs g) (w : Wedge) (track : Nat) (fine : Int) :
    t.pesAt g w track fine = s.pesAt g w track fine := by
  simp only [State.wedgeInputs, Prod.mk.injEq] at h
  obtain ⟨-, -, hoffset, htarget, -⟩ := h
  simp only [State.pesAt, State.getI, hoffset, htarget]

/-- A head's wedge, as HEAD_PES and the head show it before write safety is judged. -/
def State.wedgeShown (g : Nat) (x : HeadSt) (pes : Int) (ok bad : Bool) (s : State) : State :=
  (((s.setHead g x).setI (R.HEAD_PES_PES g) pes).setB (R.HEAD_PES_VALID g) ok).setB (R.HEAD_PES_RRO_BAD g) bad

theorem wedgeShown_measured (x : HeadSt) (pes : Int) (ok bad : Bool) :
    (s.wedgeShown g x pes ok bad).measured g = (ok.toNat, toBits 24 pes % 2 ^ 24, bad.toNat, x.pos) := by
  cases ok <;> cases bad <;> simp [State.wedgeShown, State.measured]

/-- Write safety leaves what the wedge shows. -/
theorem measured_WRITE_SAFE (v : Nat) : (s.set (R.HEAD_PES_WRITE_SAFE g) v).measured g = s.measured g := by simp [State.measured]
theorem measured_WRITE_UNSAFE : (s.count (R.HEAD_POS_COUNT_WRITE_UNSAFE g) 1).measured g = s.measured g := by
  simp [State.measured, State.count_eq]

theorem measured_writeSafety (a : Bool) (b : Prop) [Decidable b] :
    (if a then (s.set (R.HEAD_PES_WRITE_SAFE g) 0).count (R.HEAD_POS_COUNT_WRITE_UNSAFE g) 1
    else if b then s.set (R.HEAD_PES_WRITE_SAFE g) 1 else s).measured g = s.measured g := by
  cases a <;> by_cases hb : b <;> simp [hb, measured_WRITE_SAFE, measured_WRITE_UNSAFE]

/-- A head's wedge is what it shows and then its write safety (R94, R104). -/
theorem headWedge_measured (o : WedgeObs) (w : Wedge) (track : Nat) (fine : Int) (hw : readWedge o.bits o.a o.b = w)
    (htrack : w.track.getD (s.freeNat (2 ^ 24)) = track) (hfine : w.fine.getD ((s.freeNat 2048 : Int) - 1023) = fine) :
    ∃ (u : State) (x : HeadSt) (pes : Int),
      (s.headWedge g o).measured g = (u.wedgeShown g x pes (s.wedgeValid g o w track) w.rro.isNone).measured g ∧
      (s.wedgeValid g o w track = true → pes = s.pesAt g w track fine ∧ x.pos = wedgePos track fine) := by
  simp only [State.headWedge, hw, htrack, hfine]
  refine ⟨_, _, _, (measured_writeSafety _ _).trans rfl, ?_⟩
  intro hvalid
  simp only [hvalid, if_true]
  exact ⟨rfl, trivial⟩

end

end Sys2Proof.Machine

namespace Sys2Proof.Machine

/-! ## What the rest of a wedge leaves of its measurements (R96 to R106) -/

/-- The places of the fields a wedge measures: PES, VALID and RRO_BAD of HEAD_PES. -/
def pesPlace (a lo : Nat) : Bool := a % 64 = 32 && (lo = 0 || lo = 24 || lo = 27)

@[simp] theorem pesPlace_head {off g lo : Nat} (h : off % 64 ≠ 32) : pesPlace (off + g / 20 * 0x1000 + g % 20 * 0x40) lo = false := by
  simp only [pesPlace, Bool.and_eq_false_iff, decide_eq_false_iff_not]
  omega
@[simp] theorem pesPlace_actuator {off m lo : Nat} (h : off % 32 ≠ 0) : pesPlace (off + m / 2 * 0x1000 + m % 2 * 0x20) lo = false := by
  simp only [pesPlace, Bool.and_eq_false_iff, decide_eq_false_iff_not]
  omega
@[simp] theorem pesPlace_lo {a lo : Nat} (h : lo ≠ 0) (h' : lo ≠ 24) (h'' : lo ≠ 27) : pesPlace a lo = false := by
  simp [pesPlace, h, h', h'']

section
variable {s : State} {g : Nat}

@[simp] theorem measured_set {a lo w r : Nat} (h : pesPlace a lo = false) (hlo : lo < 32) (v : Nat) :
    (s.set ⟨a, lo, w, r⟩ v).measured g = s.measured g := by
  have hne {lo' w' r' : Nat} (hlo' : lo' = 0 ∨ lo' = 24 ∨ lo' = 27) :
      (s.set ⟨a, lo, w, r⟩ v).get ⟨A.HEAD_PES g, lo', w', r'⟩ = s.get ⟨A.HEAD_PES g, lo', w', r'⟩ := by
    refine State.get_set_ne s (fun e => ?_) v
    obtain ⟨rfl, rfl⟩ := (key_eq_iff (by omega) hlo).1 e
    simp only [pesPlace, A.HEAD_PES, Bool.and_eq_false_iff, Bool.or_eq_false_iff, decide_eq_false_iff_not] at h
    omega
  simp only [State.measured, State.head_set]
  rw [hne (by simp), hne (by simp), hne (by simp)]

@[simp] theorem measured_count {a lo w r : Nat} (h : pesPlace a lo = false) (hlo : lo < 32) (n : Nat) :
    (s.count ⟨a, lo, w, r⟩ n).measured g = s.measured g := measured_set h hlo _

@[simp] theorem measured_setHead {b : Nat} {x : HeadSt} (h : x.pos = (s.head b).pos) : (s.setHead b x).measured g = s.measured g := by
  simp only [State.measured, State.get_setHead, State.head_setHead]
  by_cases hb : g = b <;> simp [hb, h]

@[simp] theorem State.head_count (f : Fld) (n b : Nat) : (s.count f n).head b = s.head b := id rfl

@[simp] theorem measured_setActu (m : Nat) (x : Actu) : (s.setActu m x).measured g = s.measured g := id rfl
@[simp] theorem measured_event (c o p0 p1 p2 p3 : Nat) : (s.event c o p0 p1 p2 p3).measured g = s.measured g := id rfl
@[simp] theorem measured_gates (l : List Nat) : ({ s with gates := l } : State).measured g = s.measured g := id rfl
@[simp] theorem measured_unwritten (l : List (Nat × Nat × Nat)) : ({ s with unwritten := l } : State).measured g = s.measured g := id rfl
@[simp] theorem measured_voidRun (b n k : Nat) : (s.voidRun b n k).measured g = s.measured g := id rfl
@[simp] theorem measured_noteUnwritten (b n k : Nat) : (s.noteUnwritten b n k).measured g = s.measured g := id rfl
@[simp] theorem measured_setException (row col : Nat) (ex : List (Nat × Nat × Nat × Nat)) :
    (s.setException row col ex).measured g = s.measured g := id rfl
@[simp] theorem measured_reportBlocks (row col : Nat) (l : List Nat) : (s.reportBlocks row col l).measured g = s.measured g := id rfl
@[simp] theorem measured_preampWrite (m a v : Nat) : (s.preampWrite m a v).measured g = s.measured g := by
  obtain ⟨_, _, h⟩ := preampWrite_linksOnly s m a v
  rw [h]; exact id rfl

@[simp] theorem State.head_preampWrite (m a v b : Nat) : (s.preampWrite m a v).head b = s.head b := by
  obtain ⟨_, _, h⟩ := preampWrite_linksOnly s m a v
  rw [h]; exact id rfl

@[simp] theorem measured_when (c : Bool) (f : State → State) (h : ∀ t : State, (f t).measured g = t.measured g) :
    (s.when c f).measured g = s.measured g := State.when_keeps s (fun t => t.measured g) c f h

@[simp] theorem measured_forAll {α : Type} (l : List α) (f : α → State → State) (h : ∀ a (t : State), (f a t).measured g = t.measured g) :
    (s.forAll l f).measured g = s.measured g := State.forAll_keeps s (fun t => t.measured g) l f h

theorem measured_ite (c : Prop) [Decidable c] (a b : State) : (if c then a else b).measured g = if c then a.measured g else b.measured g :=
  view_ite (fun t => t.measured g) c a b

@[simp] theorem measured_tear (x : Nat) (stays : Bool) (b : Nat) : (s.tear x stays b).measured g = s.measured g := by
  have hhead (l : List Nat) : ({ s with gates := l } : State).head b = s.head b := id rfl
  simp only [State.tear]
  split <;> simp [measured_ite, State.mayRewrite, hhead]

@[simp] theorem measured_leave (stays : Bool) (b : Nat) : (s.leave stays b).measured g = s.measured g := by
  simp [State.leave, measured_ite]

@[simp] theorem measured_masks (m : Nat) : (s.masks m).measured g = s.measured g := by simp [State.masks]

@[simp] theorem measured_shiftRun (b : Nat) : (s.shiftRun b).measured g = s.measured g :=
  shiftRun_keeps (fun t => t.measured g) (fun _ _ _ _ => rfl) (fun _ _ _ _ => rfl) s b

@[simp] theorem measured_tearStay (x b : Nat) : (s.tearStay x b).measured g = s.measured g := by simp [State.tearStay]

@[simp] theorem measured_offsetWritten (b : Nat) : (s.offsetWritten b).measured g = s.measured g := by
  simp [State.offsetWritten, measured_ite]

@[simp] theorem measured_sectorBoundary (b : Nat) : (s.sectorBoundary b).measured g = s.measured g := by
  simp [State.sectorBoundary, measured_ite]

@[simp] theorem measured_passTurn (b : Nat) : (s.passTurn b).measured g = s.measured g := by
  simp only [State.passTurn]
  split <;> simp [measured_ite]

@[simp] theorem measured_sectorWritten (b : Nat) : (s.sectorWritten b).measured g = s.measured g := by simp [State.sectorWritten]

@[simp] theorem measured_wedgeSector (b : Nat) : (s.wedgeSector b).measured g = s.measured g := by
  simp only [State.wedgeSector]
  split <;> simp [measured_ite]

@[simp] theorem measured_writeUnsafe (b : Nat) : (s.writeUnsafe b).measured g = s.measured g := by simp [State.writeUnsafe]

/-- What the damper notes of a shock shows in no head. -/
theorem measured_shockNoted (c : Prop) [Decidable c] (d e : Damper) (code org : Nat) :
    (if c then ({ s with damper := d } : State).event code org 0 0 0 0 else { s with damper := e }).measured g = s.measured g := by
  split <;> exact rfl

@[simp] theorem measured_shock (m : Nat) : (s.shock m).measured g = s.measured g := by
  refine (measured_shockNoted _ _ _ _ _).trans ?_
  rw [measured_event, measured_forAll _ _ fun b t => ?_, measured_setActu]
  exact (measured_set (by simp) (by simp) 0).trans (measured_setHead rfl)

@[simp] theorem measured_combine (m : Nat) : (s.combine m).measured g = s.measured g := by simp [State.combine]

@[simp] theorem measured_tornDue (b : Nat) : (s.tornDue b).measured g = s.measured g := by
  simp only [State.tornDue]
  split
  · rfl
  · split
    · exact measured_setHead rfl
    · exact (measured_unwritten _).trans (measured_setHead rfl)

@[simp] theorem measured_acquireStart (b : Nat) : (s.acquireStart b).measured g = s.measured g := by
  simp [State.acquireStart, measured_ite]

@[simp] theorem measured_preampMode (m : Nat) : (s.preampMode m).measured g = s.measured g := by simp [State.preampMode, measured_ite]

/-! ### The ladder's settings (R191) -/

@[simp] theorem measured_saveHead (b : Nat) : (s.saveHead b).measured g = s.measured g := by simp [State.saveHead, measured_ite]

@[simp] theorem measured_restoreHead (b : Nat) : (s.restoreHead b).measured g = s.measured g := by
  simp only [State.restoreHead]
  split <;> simp

@[simp] theorem measured_applyKey (b : Nat) (key : Nat × Nat) : (s.applyKey b key).measured g = s.measured g := by
  simp only [State.applyKey]
  split <;> simp

@[simp] theorem measured_ladderWedge (b : Nat) : (s.ladderWedge b).measured g = s.measured g := by
  simp only [State.ladderWedge]
  split <;> simp [measured_ite]

end

end Sys2Proof.Machine

namespace Sys2Proof.Machine

/-! ## A servo wedge (R94 to R97) -/

/-- In a fold over a list without repetition, one element's round is reached as it would be first, and its outcome stays. -/
theorem State.forAll_once {α : Type} {P Q : State → Prop} {s : State} {l : List α} {a : α} (ha : a ∈ l) (hl : l.Nodup)
    (f : α → State → State) (hs : P s) (hbefore : ∀ b t, b ≠ a → P t → P (f b t)) (hround : ∀ t, P t → Q (f a t))
    (hafter : ∀ b t, b ≠ a → Q t → Q (f b t)) :
    Q (s.forAll l f) := by
  induction l generalizing s with
  | nil => cases ha
  | cons b l ih =>
    rw [List.nodup_cons] at hl
    obtain rfl | ha := List.mem_cons.1 ha
    · exact State.forAll_induct (P := Q) _ l f (hround s hs) fun b hb t => hafter b t fun e => hl.1 (e ▸ hb)
    · exact ih ha hl.2 (hbefore b s (fun e => hl.1 (e ▸ ha)) hs)

section
variable {s : State} {m : Nat} {obs : List WedgeObs}

/-- A wedge begins: the head the spread sends away has left, and the coefficient sets follow the speed (R97, R111). -/
def State.wedgeBegun (m : Nat) (s : State) : State :=
  ((s.setActu m { s.actu m with prevI := s.getI (R.ACT_CURRENT_APPLIED m) }).spreadDeparture m).chooseSets m

/-- Every head's part of a wedge has been read. -/
def State.wedgesRead (m : Nat) (obs : List WedgeObs) (s : State) : State :=
  (s.wedgeBegun m).forAll (List.range (min 10 obs.length)) (State.wedgeOf m obs)

/-- HEAD_PES and a head's position, as a wedge measures them. -/
theorem get_measured (t : State) (g : Nat) :
    t.get (R.HEAD_PES_VALID g) = (t.measured g).1 ∧ t.get (R.HEAD_PES_PES g) = (t.measured g).2.1 ∧
      t.get (R.HEAD_PES_RRO_BAD g) = (t.measured g).2.2.1 ∧ (t.head g).pos = (t.measured g).2.2.2 := ⟨rfl, rfl, rfl, rfl⟩

theorem after_measured (t o : State) (g : Nat) : (t.after o).measured g = t.measured g := rfl

/-- What follows the heads' wedges leaves what they measured. -/
theorem servoWedge_measured (h : s.loaded m = true) (g : Nat) : (servoWedge m obs s).measured g = (s.wedgesRead m obs).measured g := by
  simp only [servoWedge, h, if_true]
  simp [measured_ite]
  exact id rfl

theorem servoWedgeLadders_measured (h : s.loaded m = true) (g : Nat) :
    (servoWedgeLadders m obs s).measured g = (s.wedgesRead m obs).measured g := by
  simp only [servoWedgeLadders]
  rw [measured_ite, measured_forAll _ _ fun b t => measured_ladderWedge b, ite_self, servoWedge_measured h]

/-- The coefficient sets are no matter of a head's wedge (R111). -/
theorem chooseSets_inputs (hm : m < 64) (g : Nat) : (s.chooseSets m).wedgeInputs g = s.wedgeInputs g := by
  refine State.forAll_induct (P := fun t => t.wedgeInputs g = s.wedgeInputs g) s _ _ rfl fun l hl t ht => ?_
  have hl768 : l < 768 := by
    simp only [headsOf, List.mem_cons, List.mem_map, List.mem_range] at hl
    omega
  have hne {off lo w r v : Nat} (hoff : 0x100000 ≤ off) (hlo : lo < 32) :
      (t.set (R.DAMP_CFG0_ACTIVE_SET l) v).get ⟨off + g / 20 * 0x1000 + g % 20 * 0x40, lo, w, r⟩ =
        t.get ⟨off + g / 20 * 0x1000 + g % 20 * 0x40, lo, w, r⟩ := by
    refine State.get_set_ne t (fun e => ?_) v
    obtain ⟨haddr, -⟩ := (key_eq_iff hlo (by decide)).1 e
    simp only [A.DAMP_CFG0] at haddr
    omega
  rw [← ht]
  simp only [State.wedgeInputs]
  rw [hne (by decide) (by decide), hne (by decide) (by decide)]
  exact rfl

theorem wedgeInputs_setActu {x : Actu} (h : x.target = (s.actu m).target) (g : Nat) : (s.setActu m x).wedgeInputs g = s.wedgeInputs g := by
  have htarget : ((s.setActu m x).actu (g / 10)).target = (s.actu (g / 10)).target := by
    rw [State.actu_setActu]
    split <;> simp [*]
  simp only [State.wedgeInputs, htarget]
  exact rfl

/-- What a wedge begins with is no matter of the heads' wedges, but for the head that leaves. -/
theorem wedgeBegun_inputs (hm : m < 64) {g : Nat} (hleaver : (s.actu m).leaver ≠ some g) :
    (s.wedgeBegun m).wedgeInputs g = s.wedgeInputs g := by
  rw [State.wedgeBegun, chooseSets_inputs hm]
  generalize hu : s.setActu m { s.actu m with prevI := s.getI (R.ACT_CURRENT_APPLIED m) } = u
  have hinputs : u.wedgeInputs g = s.wedgeInputs g := by
    rw [← hu]
    exact wedgeInputs_setActu (by rfl) g
  have hleaver' : (u.actu m).leaver ≠ some g := by rw [← hu, State.actu_setActu_same]; exact hleaver
  rw [← hinputs, State.spreadDeparture]
  split
  case h_1 b hb =>
    have hbg : b ≠ g := fun e => hleaver' (by rw [hb, e])
    split
    · exact (headAside_wedgeInputs hbg).leaveTorn u
    · rfl
  case h_2 => rfl

/-- Other heads' wedges are no matter of a head's. -/
theorem wedgeOf_aside {β : Type} {q : State → β} {h b : Nat} (hq : ∀ b, b ≠ 10 * m + h → HeadAside b q) (hb : b ≠ h) (t : State) :
    q (t.wedgeOf m obs b) = q t := by
  simp only [State.wedgeOf]
  split
  · exact (hq _ (by omega)).headWedge t _
  · rfl

theorem wedgesRead_once {P Q : State → Prop} {h : Nat} {o : WedgeObs} (hh : h < 10) (ho : obs[h]? = some o)
    (hs : P (s.wedgeBegun m)) (hbefore : ∀ b t, b ≠ h → P t → P (t.wedgeOf m obs b))
    (hround : ∀ t, P t → Q (t.headWedge (10 * m + h) o)) (hafter : ∀ b t, b ≠ h → Q t → Q (t.wedgeOf m obs b)) :
    Q (s.wedgesRead m obs) := by
  have hmem : h ∈ List.range (min 10 obs.length) := by
    have := (List.getElem?_eq_some_iff.1 ho).1
    simp only [List.mem_range]; omega
  refine State.forAll_once hmem List.nodup_range _ hs hbefore (fun t ht => ?_) hafter
  simp only [State.wedgeOf, ho]
  exact hround t ht

/-- RRO_BAD of every head whose wedge was read. -/
theorem wedgesRead_RRO_BAD {h : Nat} {o : WedgeObs} (hh : h < 10) (ho : obs[h]? = some o) :
    ((s.wedgesRead m obs).measured (10 * m + h)).2.2.1 = (readWedge o.bits o.a o.b).rro.isNone.toNat := by
  refine wedgesRead_once (P := fun _ => True) (Q := fun t => (t.measured (10 * m + h)).2.2.1 = _) hh ho trivial (fun _ _ _ _ => trivial)
    (fun t _ => ?_) (fun b t hb ht => ?_)
  · obtain ⟨u, x, pes, hm, -⟩ := headWedge_measured (s := t) (g := 10 * m + h) o _ _ _ rfl rfl rfl
    rw [hm, wedgeShown_measured]
  · rw [wedgeOf_aside (q := fun t => t.measured (10 * m + h)) (fun b hb => headAside_measured hb) hb, ht]

theorem toBits_24_lt (v : Int) : toBits 24 v < 2 ^ 24 := by
  simp only [toBits]
  omega

/-- VALID, PES and the position of a head whose wedge spells a track and a fine position. -/
theorem wedgesRead_shows (hm : m < 64) {h : Nat} {o : WedgeObs} {track : Nat} {fine : Int} (hh : h < 10) (ho : obs[h]? = some o)
    (htrack : (readWedge o.bits o.a o.b).track = some track) (hfine : (readWedge o.bits o.a o.b).fine = some fine)
    (hleaver : (s.actu m).leaver ≠ some (10 * m + h)) :
    ((s.wedgesRead m obs).measured (10 * m + h)).1 = (s.wedgeValid (10 * m + h) o (readWedge o.bits o.a o.b) track).toNat ∧
      (s.wedgeValid (10 * m + h) o (readWedge o.bits o.a o.b) track = true →
        ((s.wedgesRead m obs).measured (10 * m + h)).2.1 = toBits 24 (s.pesAt (10 * m + h) (readWedge o.bits o.a o.b) track fine) ∧
        ((s.wedgesRead m obs).measured (10 * m + h)).2.2.2 = wedgePos track fine) := by
  refine wedgesRead_once (P := fun t => t.wedgeInputs (10 * m + h) = s.wedgeInputs (10 * m + h))
    (Q := fun t => (t.measured (10 * m + h)).1 = _ ∧ (_ → (t.measured (10 * m + h)).2.1 = _ ∧ (t.measured (10 * m + h)).2.2.2 = _))
    hh ho (wedgeBegun_inputs hm hleaver) (fun b t hb ht => ?_) (fun t ht => ?_) (fun b t hb ht => ?_)
  · rw [wedgeOf_aside (q := fun t => t.wedgeInputs (10 * m + h)) (fun b hb => headAside_wedgeInputs hb) hb, ht]
  · obtain ⟨u, x, pes, hread, hvalid⟩ := headWedge_measured (s := t) (g := 10 * m + h) o _ track fine rfl
      (by rw [htrack]; rfl) (by rw [hfine]; rfl)
    rw [wedgeValid_congr ht, pesAt_congr ht] at hvalid
    rw [hread, wedgeShown_measured, wedgeValid_congr ht]
    refine ⟨rfl, fun hv => ?_⟩
    obtain ⟨hpes, hpos⟩ := hvalid hv
    exact ⟨by rw [hpes, Nat.mod_eq_of_lt (toBits_24_lt _)], hpos⟩
  · rw [wedgeOf_aside (q := fun t => t.measured (10 * m + h)) (fun b hb => headAside_measured hb) hb]
    exact ht

/-! ### Hosts and their data -/

theorem host_saveHead (b : Nat) : hostView (s.saveHead b) = hostView s := by simp [State.saveHead, view_ite hostView]

theorem host_restoreHead (b : Nat) : hostView (s.restoreHead b) = hostView s := by
  simp only [State.restoreHead]
  split <;> simp

theorem host_applyKey (b : Nat) (key : Nat × Nat) : hostView (s.applyKey b key) = hostView s := by
  simp only [State.applyKey]
  split <;> simp [host_saveHead]

theorem host_ladderWedge (b : Nat) : hostView (s.ladderWedge b) = hostView s := by
  simp only [State.ladderWedge]
  split <;> simp [view_ite hostView, host_restoreHead, host_applyKey]

theorem host_servoWedgeLadders : hostView (servoWedgeLadders m obs s) = hostView s := by
  simp only [servoWedgeLadders]
  rw [view_ite hostView, host_forAll _ _ _ fun b t => host_ladderWedge b]
  simp

end

/-- Settles O14: what the heads' wedges measure is left by all that follows in the wedge. -/
theorem servoWedgeMeasuresHeads : Obligations.ServoWedgeMeasuresHeads := by
  intro s m obs hrun hloaded
  have hread (h : Nat) : ((servoWedgeLadders m obs s).after s).measured (10 * m + h) = (s.wedgesRead m obs).measured (10 * m + h) := by
    rw [after_measured, servoWedgeLadders_measured hloaded]
  refine ⟨_, act_up hrun _, fun h o hh ho => ?_, kept_of_host ?_⟩
  · obtain ⟨hvalid, hpes, hbad, hpos⟩ := get_measured ((servoWedgeLadders m obs s).after s) (10 * m + h)
    refine ⟨?_, fun track fine htrack hfine hleaver => ?_⟩
    · rw [hbad, hread, wedgesRead_RRO_BAD hh ho]
    · obtain ⟨hshown, hmeasures⟩ := wedgesRead_shows m.isLt hh ho htrack hfine hleaver
      have hm : (10 * m.val + h) / 10 = m := by omega
      rw [hvalid, hpes, hpos, hread, hshown]
      simpa [State.pesAt, hm] using hmeasures
  · rw [State.host_after, host_servoWedgeLadders]

end Sys2Proof.Machine

namespace Sys2Proof.Machine

variable {s : State}

/-! ## What a sector's end shows, and what passes by it (R164, R167, R170, R175) -/

/-- What a sector's end shows outside its entry: the posts, the register fields, and what hosts see. -/
def endView (s : State) := (s.pool.posts, s.flds, hostView s)

theorem endView_fields {t : State} (h : endView t = endView s) :
    t.pool.posts = s.pool.posts ∧ (∀ f, t.get f = s.get f) ∧ hostView t = hostView s := by
  obtain ⟨hposts, hrest⟩ := Prod.mk.inj h
  obtain ⟨hflds, hhost⟩ := Prod.mk.inj hrest
  exact ⟨hposts, fun f => State.get_congr hflds f, hhost⟩

theorem endView_beginIter (c : Nat) (s : State) : endView (s.beginIter c) = endView s := by
  rw [State.beginIter]
  split
  · rfl
  · split <;> rfl

/-- A deferred sector that returns takes a context and a spill transfer, and no more. -/
theorem endView_resumeDeferred (s : State) : endView s.resumeDeferred = endView s := by
  have hreturns (id : Nat) (x : PoolSector) (c : Nat) : endView (s.spillBegin.toContext id x c) = endView s :=
    endView_beginIter c _
  simp only [State.resumeDeferred]
  split
  · split
    · split
      · exact hreturns ..
      · rfl
    · rfl
  · rfl

/-- A sector-iteration is counted in its register and the pool alone. -/
theorem countIter_shows (s : State) : s.countIter.pool.posts = s.pool.posts ∧
    (∀ f : Fld, f.key ≠ R.DEC_ITERATIONS_TOTAL.key → s.countIter.get f = s.get f) ∧ hostView s.countIter = hostView s := by
  rw [State.countIter]
  split
  · exact ⟨rfl, fun f hf => get_count_ne hf 1, rfl⟩
  · exact ⟨rfl, fun f _ => rfl, rfl⟩

/-! ## Retention (R177) -/

/-- The sector's LLRs are stored under the next handle, beside the entries that stay. -/
def State.storeLlrs (x : PoolSector) (kept : Tbl Retained) (s : State) : State :=
  s.modPool fun p => { p with
    retained := tset p.nextHandle ⟨x.req, s.now, x.target, x.n, x.llrs⟩ kept
    nextHandle := p.nextHandle + 1 }

theorem retain_eq (x : PoolSector) (s : State) : ∃ kept, s.retain x =
    if 1024 ≤ s.pool.retained.length then
      ((s.storeLlrs x kept).count R.DEC_SPILL_RETAIN_EVICT 1).event Ev.DEC_RETAIN_EVICT (origin 0 0) 0 0 0 0
    else s.storeLlrs x kept := by
  by_cases hfull : 1024 ≤ s.pool.retained.length
  · simp only [State.retain, hfull, decide_true, if_true]
    exact ⟨_, rfl⟩
  · simp only [State.retain, hfull, decide_false, Bool.false_eq_true, if_false]
    exact ⟨_, rfl⟩

/-- What is retained is found under the next handle; nothing is posted, and no register but the count of evictions changes. -/
theorem retain_shows (x : PoolSector) (s : State) :
    (s.retain x).pool.posts = s.pool.posts ∧
      (tget s.pool.nextHandle (s.retain x).pool.retained).isSome = true ∧
      (∀ f : Fld, f.key ≠ R.DEC_SPILL_RETAIN_EVICT.key → (s.retain x).get f = s.get f) ∧ hostView (s.retain x) = hostView s := by
  obtain ⟨kept, hretain⟩ := retain_eq x s
  have hfound : (tget s.pool.nextHandle (s.storeLlrs x kept).pool.retained).isSome = true :=
    congrArg Option.isSome (tget_tset_same ..)
  rw [hretain]
  split
  · exact ⟨rfl, hfound, fun f hf => get_count_ne hf 1, rfl⟩
  · exact ⟨rfl, hfound, fun f _ => rfl, rfl⟩

/-! ## The ends (R164, R175, R176) -/

/-- A sector ends with nothing retained: its status is posted and its entry is free, and that is all. -/
theorem endSector_frees (id : Nat) (x : PoolSector) (st : PoolStatus) (b : Option Sealed) (s : State) :
    (s.endSector id x st false b).pool.posts = s.pool.posts ++ [⟨id, x.req, st, x.iters, none, b⟩] ∧
      tget id (s.endSector id x st false b).pool.sectors = none ∧
      (∀ f, (s.endSector id x st false b).get f = s.get f) ∧ hostView (s.endSector id x st false b) = hostView s :=
  ⟨rfl, tget_tdel_same .., fun _ => rfl, rfl⟩

/-- A sector ends with its LLRs retained under the next handle, which is posted with its status. -/
theorem endSector_retains (id : Nat) (x : PoolSector) (st : PoolStatus) (b : Option Sealed) (s : State) :
    (s.endSector id x st true b).pool.posts = s.pool.posts ++ [⟨id, x.req, st, x.iters, some s.pool.nextHandle, b⟩] ∧
      tget id (s.endSector id x st true b).pool.sectors = none ∧
      (tget s.pool.nextHandle (s.endSector id x st true b).pool.retained).isSome = true ∧
      (∀ f : Fld, f.key ≠ R.DEC_SPILL_RETAIN_EVICT.key → (s.endSector id x st true b).get f = s.get f) ∧
      hostView (s.endSector id x st true b) = hostView s := by
  obtain ⟨hposts, hfound, hget, hhost⟩ := retain_shows x s
  have hend : s.endSector id x st true b = (s.retain x).modPool fun p => { p with
      sectors := tdel id p.sectors, posts := p.posts ++ [⟨id, x.req, st, x.iters, some s.pool.nextHandle, b⟩] } := rfl
  rw [hend]
  exact ⟨congrArg (· ++ _) hposts, tget_tdel_same .., hfound, hget, hhost⟩

/-- An iteration that satisfies every check, with its seal, of a sector neither decoded again nor cancelled: it is counted and the sector
ends CONVERGED, and the core and the spill area go on. -/
theorem globalIterationEnd_converges {c id : Nat} {r : IterEnd} {x : PoolSector} {b : Sealed} (hecc : r.eccBad = false)
    (hbusy : s.coreBusy c = some (id, x)) (hblock : decoded r.hard x.target x.n = some b) (hseal : sealPasses x.req b = true)
    (hfirst : x.cross = none) (hcancel : x.cancel = false) :
    ∃ u, globalIterationEnd c r s = (((u.count R.DEC_CONVERGED_SECTORS 1).endSector id { x with iters := x.iters + 1 } .converged false
      (some b)).beginIter c).resumeDeferred ∧ endView u = endView s.countIter := by
  simp only [globalIterationEnd, hecc, hbusy, hblock, hseal, hfirst, hcancel, Bool.false_eq_true, if_false, if_true, State.when_false]
  refine ⟨_, rfl, ?_⟩
  split <;> rfl

theorem abortSector_ends (id : Nat) (x : PoolSector) (s : State) :
    (s.abortSector id x).pool.posts = s.pool.posts ++ [⟨id, x.req, .aborted, x.iters, none, none⟩] ∧
      tget id (s.abortSector id x).pool.sectors = none ∧ s.abortSector id x = { s with pool := (s.abortSector id x).pool } :=
  ⟨rfl, tget_tdel_same .., rfl⟩

theorem deferredHoldExpiry_holds {id e : Nat} {x : PoolSector} (hx : tget id s.pool.sectors = some x) (hst : x.st = .deferred e) :
    deferredHoldExpiry id s = ((s.skip x).count R.DEC_ENDS_HOLD 1).endSector id x .hold true none := by
  simp [deferredHoldExpiry, hx, hst, PoolSt.spilled, State.endAt]

theorem decCancel_aborts {id : Nat} {x : PoolSector} (hx : tget id s.pool.sectors = some x) (hst : ∀ c, x.st ≠ .running c) :
    decCancel id s = s.abortSector id x := by
  cases h : x.st with
  | running c => exact absurd h (hst c)
  | granted | waiting | deferred => simp only [decCancel, hx, h]

/-- A sector whose first iteration has begun is marked. -/
theorem decCancel_marks {id c : Nat} {x : PoolSector} (hx : tget id s.pool.sectors = some x) (hst : x.st = .running c)
    (hbegun : x.iters ≠ 0 ∨ s.coreBusy c = some (id, x)) :
    decCancel id s = s.modPool fun p => { p with sectors := tset id { x with cancel := true } p.sectors } := by
  have hnow : (decide (x.iters = 0) && !(s.coreBusy c).any (·.1 = id)) = false := by
    obtain hiters | hbusy := hbegun
    · simp [hiters]
    · simp [hbusy]
  simp only [decCancel, hx, hst, hnow, Bool.false_eq_true, if_false]

section Ends
variable (hrun : s.run = .up)
include hrun

/-- GLOBAL_ITERATION_END. -/
theorem exec_globalIterationEnd_converges (c : Core) (r : IterEnd) (id : Nat) (x : PoolSector) (b : Sealed) (hecc : r.eccBad = false)
    (hbusy : s.coreBusy c = some (id, x)) (hblock : decoded r.hard x.target x.n = some b) (hseal : sealPasses x.req b = true)
    (hfirst : x.cross = none) (hcancel : x.cancel = false) :
    ∃ t : State, exec (.globalIterationEnd c r) s = .next t ∧ (
      t.pool.posts = s.pool.posts ++ [⟨id, x.req, .converged, x.iters + 1, none, some b⟩] ∧
      t.get R.DEC_CONVERGED_SECTORS = counted R.DEC_CONVERGED_SECTORS s ∧ dataKept s t ∧ hostKept s t) := by
  obtain ⟨u, hend, hu⟩ := globalIterationEnd_converges hecc hbusy hblock hseal hfirst hcancel
  obtain ⟨huPosts, huGet, huHost⟩ := endView_fields hu
  obtain ⟨hposts, hget, hhost⟩ := countIter_shows s
  obtain ⟨hePosts, -, heGet, heHost⟩ :=
    endSector_frees id { x with iters := x.iters + 1 } .converged (some b) (u.count R.DEC_CONVERGED_SECTORS 1)
  generalize (u.count R.DEC_CONVERGED_SECTORS 1).endSector id { x with iters := x.iters + 1 } .converged false (some b) = v at *
  obtain ⟨htPosts, htGet, htHost⟩ := endView_fields ((endView_resumeDeferred _).trans (endView_beginIter c.val v))
  refine ⟨_, act_up hrun _, ?_⟩
  rw [hend]
  refine ⟨?_, ?_, kept_of_host ?_⟩
  · rw [State.after_pool, htPosts, hePosts, State.count_eq, State.set_pool, huPosts, hposts]
  · rw [State.get_after, htGet, heGet, get_count_same, counted, huGet, hget _ (by decide), counted]
  · rw [State.host_after, htHost, heHost, host_count, huHost, hhost]

/-- DEFERRED_HOLD_EXPIRY. -/
theorem exec_deferredHoldExpiry {id e : Nat} {x : PoolSector} (hx : tget id s.pool.sectors = some x) (hst : x.st = .deferred e) :
    ∃ t : State, exec (.deferredHoldExpiry id) s = .next t ∧ (
      t.pool.posts = s.pool.posts ++ [⟨id, x.req, .hold, x.iters, some s.pool.nextHandle, none⟩] ∧
      tget id t.pool.sectors = none ∧ (tget s.pool.nextHandle t.pool.retained).isSome = true ∧
      t.get R.DEC_ENDS_HOLD = counted R.DEC_ENDS_HOLD s ∧ dataKept s t ∧ hostKept s t) := by
  obtain ⟨hposts, hfree, hfound, hget, hhost⟩ := endSector_retains id x .hold none ((s.skip x).count R.DEC_ENDS_HOLD 1)
  rw [← deferredHoldExpiry_holds hx hst] at hposts hfree hfound hget hhost
  refine ⟨_, act_up hrun _, hposts, hfree, hfound, ?_, kept_of_host hhost⟩
  exact (hget R.DEC_ENDS_HOLD (by decide)).trans (get_count_same _ (s.skip x))

/-- DEC_CANCEL of a sector that is not being decoded. -/
theorem exec_decCancel_aborts {id : Nat} {x : PoolSector} (hx : tget id s.pool.sectors = some x) (hst : ∀ c, x.st ≠ .running c) :
    ∃ t : State, exec (.decCancel id) s = .next t ∧ (
      t.pool.posts = s.pool.posts ++ [⟨id, x.req, .aborted, x.iters, none, none⟩] ∧ tget id t.pool.sectors = none ∧
      t = { s with pool := t.pool, gates := t.gates }) := by
  refine ⟨_, act_up hrun _, ?_⟩
  obtain ⟨hposts, hfree, hpool⟩ := abortSector_ends id x s
  rw [decCancel_aborts hx hst]
  generalize s.abortSector id x = t at *
  exact ⟨hposts, hfree, by rw [hpool]; rfl⟩

/-- DEC_CANCEL of a sector whose first iteration has begun. -/
theorem exec_decCancel_marks {id c : Nat} {x : PoolSector} (hx : tget id s.pool.sectors = some x) (hst : x.st = .running c)
    (hbegun : x.iters ≠ 0 ∨ s.coreBusy c = some (id, x)) :
    ∃ t : State, exec (.decCancel id) s = .next t ∧ (
      tget id t.pool.sectors = some { x with cancel := true } ∧ t.pool.posts = s.pool.posts ∧
      t = { s with pool := t.pool, gates := t.gates }) := by
  refine ⟨_, act_up hrun _, ?_⟩
  rw [decCancel_marks hx hst hbegun]
  exact ⟨tget_tset_same .., rfl, rfl⟩

/-- RETENTION_TIMEOUT and RETAIN_RELEASE. -/
theorem exec_releaseHandle (h : Nat) {c : Instr} (hc : c = .retentionTimeout h ∨ c = .retainRelease h) :
    ∃ t : State, exec c s = .next t ∧ (
      tget h t.pool.retained = none ∧ t.pool.sectors = s.pool.sectors ∧ t = { s with pool := t.pool, gates := t.gates }) := by
  have hexec : exec c s = .next ((s.releaseHandle h).after s) := by
    obtain rfl | rfl := hc <;> exact act_up hrun _
  exact ⟨_, hexec, tget_tdel_same .., rfl, rfl⟩

end Ends

/-! ## DEC_STAT_SEL (R180, R188) -/

/-- The fields of the select (R188). -/
def statSelFields : List FSpec :=
  [⟨R.DEC_STAT_SEL_G, .rw, .v, [(0, 639)]⟩, ⟨R.DEC_STAT_SEL_RZONE, .rw, .v, []⟩, ⟨R.DEC_STAT_SEL_BANK, .rw, .v, []⟩,
    ⟨R.DEC_STAT_SEL_CLEAR, .wo, .v, []⟩]

theorem blockReg_DEC_STAT_SEL : BlockReg A.DEC_STAT_SEL statSelFields := by
  constructor <;> decide +kernel

theorem blockEffect_DEC_STAT_SEL (p : Path) (w : Nat) (s : State) :
    State.blockEffect p A.DEC_STAT_SEL w true s = s.statSelected p (R.DEC_STAT_SEL_CLEAR.of w = 1) := by
  simp [State.blockEffect]

@[simp] theorem recordWrite_pool (p : Path) (a w : Nat) (s : State) : (s.recordWrite p a w).pool = s.pool := by cases p <;> rfl

/-- A snapshot of one word leaves what a path reads at any other register. -/
theorem snapWord_capture_one_ne {a b : Nat} (h : a ≠ b) (s : State) (p : Path) (v : Nat) :
    snapWord p a (s.capture p b [v]) = snapWord p a s := by
  have hkey : pathKey p a ≠ pathKey p (b + 4 * 0) := by simp only [pathKey]; omega
  exact (tgetD_tset ..).trans (if_neg hkey)

/-- The first word of a snapshot of statistics is the count of sectors, which saturates. -/
theorem snapWord_decStat (p : Path) (d : DecStat) (s : State) :
    snapWord p (A.DEC_STAT_DATA 0) (s.capture p (A.DEC_STAT_DATA 0) d.words) = min d.counted (2 ^ 32 - 1) := by
  have hread := snapWord_capture s p (A.DEC_STAT_DATA 0) d.words (k := 0) (by simp [DecStat.words])
  have hword : d.words.getD 0 0 = min d.counted (2 ^ 32 - 1) := by simp [DecStat.words]
  rw [hword, Nat.mod_eq_of_lt (by omega)] at hread
  exact hread

/-- The statistics selected are shown, and emptied with CLEAR; snapshots and the pool apart, the module is as before. -/
theorem statSelected_shows (p : Path) (clear : Bool) {k : Nat}
    (hk : statKey (s.get R.DEC_STAT_SEL_BANK) (s.get R.DEC_STAT_SEL_G) (s.get R.DEC_STAT_SEL_RZONE) = k) :
    snapWord p (A.DEC_STAT_DATA 0) (s.statSelected p clear) = min (tgetD k {} s.pool.stats).counted (2 ^ 32 - 1) ∧
      (clear = true → tget k (s.statSelected p clear).pool.stats = none) ∧
      s.statSelected p clear = { s with snaps := (s.statSelected p clear).snaps, pool := (s.statSelected p clear).pool } := by
  obtain ⟨v, hsel⟩ : ∃ v, s.statSelected p clear =
      ((s.capture p (A.DEC_STAT_DATA 0) (tgetD k {} s.pool.stats).words).capture p A.DEC_STAT_BUDGET [v]).when clear fun u =>
        u.modPool fun q => { q with stats := tdel k q.stats } := ⟨_, by rw [← hk]; rfl⟩
  have hshown := (snapWord_capture_one_ne (a := A.DEC_STAT_DATA 0) (b := A.DEC_STAT_BUDGET) (by decide) _ p v).trans
    (snapWord_decStat p (tgetD k {} s.pool.stats) s)
  rw [hsel]
  generalize hw : (s.capture p (A.DEC_STAT_DATA 0) (tgetD k {} s.pool.stats).words).capture p A.DEC_STAT_BUDGET [v] = u at *
  have hrest : u = { s with snaps := u.snaps } := by rw [← hw]; rfl
  cases clear with
  | true => exact ⟨hshown, fun _ => tget_tdel_same .., by rw [hrest]; rfl⟩
  | false => exact ⟨hshown, fun h => absurd h (by decide), by rw [hrest]; rfl⟩

/-- The select as a written word leaves it. -/
def State.statSelect (w : Word) (s : State) : State :=
  ((s.set R.DEC_STAT_SEL_G (field R.DEC_STAT_SEL_G w)).set R.DEC_STAT_SEL_RZONE (field R.DEC_STAT_SEL_RZONE w)).set R.DEC_STAT_SEL_BANK
    (field R.DEC_STAT_SEL_BANK w)

/-- A select with a head that exists refuses no field. -/
theorem takes_DEC_STAT_SEL (w : Word) (hg : field R.DEC_STAT_SEL_G w < 640) (s : State) :
    (statSelFields.any fun f => s.refuses f (f.fld.of w.toNat)) = false ∧
      s.forAll statSelFields (State.takeField w.toNat) = s.statSelect w := by
  have hlegal : R.DEC_STAT_SEL_G.of w.toNat ≤ 639 := Nat.le_of_lt_succ hg
  have hhead (u : State) : u.refuses ⟨R.DEC_STAT_SEL_G, .rw, .v, [(0, 639)]⟩ (R.DEC_STAT_SEL_G.of w.toNat) = false := by
    rw [refuses_eq (by simp) (by simp) (fun c hc => by simp; omega)]
    simp [FSpec.ok, hlegal]
  have hfree (u : State) (lo wd : Nat) (acc : Acc) (v : Nat) : u.refuses ⟨⟨A.DEC_STAT_SEL, lo, wd, 0⟩, acc, .v, []⟩ v = false :=
    refuses_unranged rfl (by simp) (by simp) (fun c hc => by simp; omega) u v
  constructor
  · simp [statSelFields, hhead, hfree]
  · simp [statSelFields, State.takeField, hhead, hfree, State.statSelect, field]

theorem statSelect_keeps (w : Word) (s : State) : (s.statSelect w).pool = s.pool ∧ (s.statSelect w).engs = s.engs ∧
    (s.statSelect w).knd = s.knd ∧ hostView (s.statSelect w) = hostView s := by
  simp [State.statSelect]

theorem statSelect_get (w : Word) (s : State) :
    (s.statSelect w).get R.DEC_STAT_SEL_G = field R.DEC_STAT_SEL_G w ∧
      (s.statSelect w).get R.DEC_STAT_SEL_RZONE = field R.DEC_STAT_SEL_RZONE w ∧
      (s.statSelect w).get R.DEC_STAT_SEL_BANK = field R.DEC_STAT_SEL_BANK w := by
  simp [State.statSelect, field, Fld.of]

/-- DEC_STAT_SEL. -/
theorem exec_decStatSel {p : Path} (hw : writable p s) (w : Word) (hg : field R.DEC_STAT_SEL_G w < 640) :
    ∃ t : State, exec (.decStatSel p w) s = .next t ∧ (
      snapWord p (A.DEC_STAT_DATA 0) t =
        min (tgetD (statKey (field R.DEC_STAT_SEL_BANK w) (field R.DEC_STAT_SEL_G w) (field R.DEC_STAT_SEL_RZONE w)) {}
          s.pool.stats).counted (2 ^ 32 - 1) ∧
      (field R.DEC_STAT_SEL_CLEAR w = 1 →
        tget (statKey (field R.DEC_STAT_SEL_BANK w) (field R.DEC_STAT_SEL_G w) (field R.DEC_STAT_SEL_RZONE w))
          t.pool.stats = none) ∧ dataKept s t ∧ hostKept s t) := by
  obtain ⟨htakes, htaken⟩ := takes_DEC_STAT_SEL w hg (s.count (R.GLB_ACCESS_WRITES (pathKind p)) 1)
  obtain ⟨hhead, hzone, hbank⟩ := statSelect_get w (s.count (R.GLB_ACCESS_WRITES (pathKind p)) 1)
  obtain ⟨hpool, hengs, hknd, hhost⟩ := statSelect_keeps w (s.count (R.GLB_ACCESS_WRITES (pathKind p)) 1)
  generalize (s.count (R.GLB_ACCESS_WRITES (pathKind p)) 1).statSelect w = u at *
  obtain ⟨hshown, hclear, hrest⟩ := statSelected_shows (s := u) p (R.DEC_STAT_SEL_CLEAR.of w.toNat = 1) (by rw [hhead, hzone, hbank])
  have heffect := blockEffect_DEC_STAT_SEL p w.toNat u
  generalize u.statSelected p (R.DEC_STAT_SEL_CLEAR.of w.toNat = 1) = v at *
  refine ⟨_, act_blockRow hw blockReg_DEC_STAT_SEL w htakes htaken heffect (by rw [hrest]; exact hengs) (by rw [hrest]; exact hknd),
    ?_, fun h => ?_, kept_of_host ?_⟩
  · have hword : snapWord p (A.DEC_STAT_DATA 0) ((v.recordWrite p A.DEC_STAT_SEL w.toNat).after s) = snapWord p (A.DEC_STAT_DATA 0) v := by
      simp [snapWord]
    rw [hword, hshown, hpool]
    rfl
  · rw [State.after_pool, recordWrite_pool]
    exact hclear (decide_eq_true h)
  · rw [State.host_after, host_recordWrite, hrest]
    exact hhost

/-- Settles O21: each clause is a command's lemma; what follows a convergence in its core and the spill area is outside `endView`. -/
theorem poolSectorsEnd : Obligations.PoolSectorsEnd := by
  intro s
  refine ⟨fun c r id x b hrun hecc hbusy hblock hseal hfirst hcancel =>
      exec_globalIterationEnd_converges hrun c r id x b hecc hbusy hblock hseal hfirst hcancel,
    fun id x hrun hx => ⟨fun e hst => exec_deferredHoldExpiry hrun hx hst, exec_decCancel_aborts hrun hx,
      fun c hst hbegun => exec_decCancel_marks hrun hx hst hbegun⟩,
    fun h c hrun hc => exec_releaseHandle hrun h hc, fun p w hw hg => exec_decStatSel hw w hg⟩

end Sys2Proof.Machine

namespace Sys2Proof.Machine

variable {s : State}

/-! ## What serving reads and counting effort leave of recovery (R197, R198, R202, R206) -/

/-- What recovery decides and no read served afterwards changes: volumes, medium, which blocks are in recovery and whether in the
background, and the counts of REC_OUTCOME but for READ_UNRECOVERED. -/
def outcomeView (s : State) :=
  (s.vols, s.media, fun k => (tget k s.recs).map Recovery.bg, fun k : Fin 9 => s.get (R.REC_OUTCOME_COUNT k))

/-- The same with the lost-block ledger. -/
def recoveryView (s : State) := (outcomeView s, s.lost)

theorem outcomeView_eq {t : State} (h : outcomeView t = outcomeView s) :
    t.vols = s.vols ∧ t.media = s.media ∧ (∀ k, (tget k t.recs).map Recovery.bg = (tget k s.recs).map Recovery.bg) ∧
      ∀ k ≤ 8, t.get (R.REC_OUTCOME_COUNT k) = s.get (R.REC_OUTCOME_COUNT k) := by
  simp only [outcomeView, Prod.mk.injEq] at h
  obtain ⟨hvols, hmedia, hrecs, hcounts⟩ := h
  exact ⟨hvols, hmedia, fun k => congrFun hrecs k, fun k hk => congrFun hcounts ⟨k, by omega⟩⟩

@[simp] theorem recovery_set {a lo w rst : Nat} (ha : a < 0xAF010 ∨ 0xAF034 ≤ a) (hlo : lo < 32) (v : Nat) :
    recoveryView (s.set ⟨a, lo, w, rst⟩ v) = recoveryView s := by
  have hcounts (k : Fin 9) : (s.set ⟨a, lo, w, rst⟩ v).get (R.REC_OUTCOME_COUNT k) = s.get (R.REC_OUTCOME_COUNT k) :=
    State.get_set_ne s (by simp only [Fld.key, A.REC_OUTCOME]; omega) v
  simp only [recoveryView, outcomeView, hcounts]
  rfl

@[simp] theorem recovery_count {a lo w rst : Nat} (ha : a < 0xAF010 ∨ 0xAF034 ≤ a) (hlo : lo < 32) (n : Nat) :
    recoveryView (s.count ⟨a, lo, w, rst⟩ n) = recoveryView s := recovery_set ha hlo _

@[simp] theorem recovery_forAll {α : Type} (l : List α) (f : α → State → State)
    (h : ∀ a t, recoveryView (f a t) = recoveryView t) : recoveryView (s.forAll l f) = recoveryView s :=
  State.forAll_keeps s recoveryView l f h
@[simp] theorem recovery_when (c : Bool) (f : State → State) (h : ∀ t, recoveryView (f t) = recoveryView t) :
    recoveryView (s.when c f) = recoveryView s := State.when_keeps s recoveryView c f h

@[simp] theorem recovery_event (c o p q r u : Nat) : recoveryView (s.event c o p q r u) = recoveryView s := id rfl
@[simp] theorem recovery_send (o : Out) : recoveryView (s.send o) = recoveryView s := id rfl
@[simp] theorem recovery_modPool (f : Pool → Pool) : recoveryView (s.modPool f) = recoveryView s := id rfl
@[simp] theorem recovery_modCache (f : Cache → Cache) : recoveryView (s.modCache f) = recoveryView s := id rfl
@[simp] theorem recovery_cmds (l : List Cmd) : recoveryView { s with cmds := l } = recoveryView s := id rfl
@[simp] theorem recovery_sessions (l : Tbl Session) : recoveryView { s with sessions := l } = recoveryView s := id rfl
@[simp] theorem recovery_que (q : Queues) : recoveryView { s with que := q } = recoveryView s := id rfl
@[simp] theorem recovery_zsets (l : Tbl ZoneSet) : recoveryView { s with zsets := l } = recoveryView s := id rfl
@[simp] theorem recovery_exts (l : Tbl Extent) : recoveryView { s with exts := l } = recoveryView s := id rfl
@[simp] theorem recovery_weak (l : List Weak) : recoveryView { s with weak := l } = recoveryView s := id rfl
@[simp] theorem recovery_headRecs (l : Tbl HeadRec) : recoveryView { s with headRecs := l } = recoveryView s := id rfl
@[simp] theorem recovery_setSession (n : Nat) (x : Session) : recoveryView (s.setSession n x) = recoveryView s := id rfl
@[simp] theorem recovery_setStore (g q : Nat) (x : Store) : recoveryView (s.setStore g q x) = recoveryView s := id rfl
@[simp] theorem recovery_setMargin (g rz : Nat) (x : Margin) : recoveryView (s.setMargin g rz x) = recoveryView s := id rfl
@[simp] theorem recovery_setAge (g : Nat) (x : Age) : recoveryView (s.setAge g x) = recoveryView s := id rfl
@[simp] theorem recovery_mapRecord (sub vol obj : Nat) (c : MapContent) :
    recoveryView (s.mapRecord sub vol obj c) = recoveryView s := id rfl

/-! ### Margin measurements and effort -/

@[simp] theorem recovery_zsetRecord (z : Nat) : recoveryView (s.zsetRecord z) = recoveryView s := id rfl
@[simp] theorem recovery_putHeader (g q : Nat) : recoveryView (s.putHeader g q) = recoveryView s := by
  simp only [State.putHeader]; split <;> simp
@[simp] theorem recovery_lowerZone (g q z : Nat) : recoveryView (s.lowerZone g q z) = recoveryView s := by
  simp [State.lowerZone, view_ite recoveryView]
@[simp] theorem recovery_countLowered (m rz : Nat) : recoveryView (s.countLowered m rz) = recoveryView s := by
  simp [State.countLowered, view_ite recoveryView]
@[simp] theorem recovery_declareZone (m g q rz z : Nat) : recoveryView (s.declareZone m g q rz z) = recoveryView s := by
  simp only [State.declareZone]; split <;> simp
@[simp] theorem recovery_declareBatch (h rz : Nat) : recoveryView (s.declareBatch h rz) = recoveryView s := by
  simp only [State.declareBatch]; split <;> simp [view_ite recoveryView]
@[simp] theorem recovery_endReplans (m : Nat) : recoveryView (s.endReplans m) = recoveryView s := by
  simp only [State.endReplans]; split <;> simp [view_ite recoveryView]
@[simp] theorem recovery_measureMargin (g rz : Nat) : recoveryView (s.measureMargin g rz) = recoveryView s := by
  simp [State.measureMargin, view_ite recoveryView]
@[simp] theorem recovery_effort (g rz : Nat) (f : HeadRec → HeadRec) : recoveryView (s.effort g rz f) = recoveryView s := by
  simp [State.effort, view_ite recoveryView]
@[simp] theorem recovery_addWeak (pl : Place) (v lba : Nat) (x : Sealed) : recoveryView (s.addWeak pl v lba x) = recoveryView s := by
  simp [State.addWeak, view_ite recoveryView]
@[simp] theorem recovery_listWeak (r : Recovery) (x : Sealed) : recoveryView (s.listWeak r x) = recoveryView s := by
  simp [State.listWeak]
@[simp] theorem recovery_scrubRepaired (r : Recovery) : recoveryView (s.scrubRepaired r) = recoveryView s := by
  simp [State.scrubRepaired]

/-! ### Frames, locks and completions -/

@[simp] theorem recovery_modPath (n p : Nat) (f : PathSt → PathSt) : recoveryView (s.modPath n p f) = recoveryView s := by
  simp only [State.modPath]; split <;> simp
@[simp] theorem recovery_xmit (port : Nat) (o : Out) : recoveryView (s.xmit port o) = recoveryView s := by
  simp [State.xmit, view_ite recoveryView]
@[simp] theorem recovery_transmit (port : Nat) (o : Out) : recoveryView (s.transmit port o) = recoveryView s := by
  simp only [State.transmit, State.portCount]
  by_cases hport : port < 2
  · simp only [hport, decide_true, State.when_true]
    exact (recovery_count (by simp only [A.PORT_COUNT]; omega) (by decide) 1).trans (recovery_xmit port o)
  · simp [hport]
@[simp] theorem recovery_sendOn (n p : Nat) (f : TxFrame) : recoveryView (s.sendOn n p f) = recoveryView s := by
  simp only [State.sendOn]; split <;> simp [view_ite recoveryView]
@[simp] theorem recovery_uartLine (l : List Nat) : recoveryView (s.uartLine l) = recoveryView s := by
  simp [State.uartLine, view_ite recoveryView]
@[simp] theorem recovery_uartBytes (n : Nat) (l : List Nat) : recoveryView (State.uartBytes n l s) = recoveryView s := by
  induction n generalizing l s with
  | zero => rfl
  | succ n ih => simp [State.uartBytes, view_ite recoveryView, ih]
@[simp] theorem recovery_uartFrame (f : TxFrame) : recoveryView (s.uartFrame f) = recoveryView s := by
  cases f <;> simp [State.uartFrame]
@[simp] theorem recovery_sendFor (n p : Nat) (f : TxFrame) : recoveryView (s.sendFor n p f) = recoveryView s := by
  simp only [State.sendFor]
  split
  · simp
  · split <;> simp [view_ite recoveryView]
@[simp] theorem recovery_setQueueSt (n q : Nat) (y : QueueSt) : recoveryView (s.setQueueSt n q y) = recoveryView s := by
  simp only [State.setQueueSt]; split <;> simp
@[simp] theorem recovery_holdQueue (n q : Nat) : recoveryView (s.holdQueue n q) = recoveryView s := id rfl
@[simp] theorem recovery_uncover (c : Cmd) (ok : Bool) : recoveryView (s.uncover c ok) = recoveryView s := id rfl
@[simp] theorem recovery_adminAction (n path op st tag : Nat) (cap ws : List Nat) :
    recoveryView (s.adminAction n path op st tag cap ws) = recoveryView s := id rfl
@[simp] theorem recovery_grantLocks : recoveryView s.grantLocks = recoveryView s := by
  unfold State.grantLocks
  extract_lets l s1 waiting s2
  have hs2 : recoveryView s2 = recoveryView s := recovery_set (s := s1) (by decide) (by decide) _
  clear_value s2
  split <;> simp [hs2]
@[simp] theorem recovery_finishClose (n : Nat) : recoveryView (s.finishClose n) = recoveryView s := by
  simp only [State.finishClose]; split <;> simp [view_ite recoveryView]
@[simp] theorem recovery_post (c : Cmd) (q st r0 r1 n : Nat) (dup froze : Bool) :
    recoveryView (s.post c q st r0 r1 n dup froze) = recoveryView s := by
  simp [State.post, view_ite recoveryView]
@[simp] theorem recovery_complete (c : Cmd) (st r0 r1 n : Nat) : recoveryView (s.complete c st r0 r1 n) = recoveryView s :=
  recovery_post ..

/-! ### Reads -/

@[simp] theorem recovery_warm (v e : Nat) : recoveryView (s.warm v e) = recoveryView s := by simp [State.warm, view_ite recoveryView]
@[simp] theorem recovery_touch (set w : Nat) : recoveryView (s.touch set w) = recoveryView s := id rfl
@[simp] theorem recovery_setTag (set w : Nat) (t : Tag) : recoveryView (s.setTag set w t) = recoveryView s := id rfl
@[simp] theorem recovery_dropFrame (set w : Nat) : recoveryView (s.dropFrame set w) = recoveryView s := id rfl
@[simp] theorem recovery_takeWay (set w : Nat) (t : Tag) : recoveryView (s.takeWay set w t) = recoveryView s := by
  simp [State.takeWay, view_ite recoveryView]
@[simp] theorem recovery_startFill (v line : Nat) (bs : Tbl (Block × Pi)) : recoveryView (s.startFill v line bs) = recoveryView s := by
  simp only [State.startFill]; (repeat' split) <;> simp
@[simp] theorem recovery_touchHits (c : Cmd) : recoveryView (s.touchHits c) = recoveryView s := by
  refine recovery_forAll _ _ fun l t => ?_
  split <;> simp
@[simp] theorem recovery_countReads (c : Cmd) : recoveryView (s.countReads c) = recoveryView s := by
  simp [State.countReads, view_ite recoveryView]
@[simp] theorem recovery_sendData (c : Cmd) (l : List (Block × Pi)) (n : Nat) :
    recoveryView (State.sendData c l n s) = recoveryView s := by
  induction n with
  | zero => rfl
  | succ n ih => simp [State.sendData, view_ite recoveryView, ih]
@[simp] theorem recovery_hostSeal (v lba : Nat) : recoveryView (s.hostSeal v lba) = recoveryView s := by
  simp only [State.hostSeal]; split <;> simp
@[simp] theorem recovery_setExt (v e : Nat) (x : Extent) : recoveryView (s.setExt v e x) = recoveryView s := by
  simp [State.setExt]

/-! ### What recovery keeps: its outcomes, and every block of the lost-block ledger (R198, R279) -/

/-- Recovery's outcomes are as before, and every block listed lost still is. -/
def recoveryKept (s t : State) : Prop := outcomeView t = outcomeView s ∧ ∀ v lba, s.lostBlock v lba = true → t.lostBlock v lba = true

theorem lostBlock_congr {t : State} (h : t.lost = s.lost) (v lba : Nat) : t.lostBlock v lba = s.lostBlock v lba := by
  simp [State.lostBlock, h]

theorem recoveryKept.of_view {t : State} (h : recoveryView t = recoveryView s) : recoveryKept s t := by
  obtain ⟨houtcome, hlost⟩ := Prod.mk.inj h
  exact ⟨houtcome, fun v lba hin => (lostBlock_congr hlost v lba).trans hin⟩

theorem recoveryKept.trans {t u : State} (h : recoveryKept s t) (g : recoveryKept t u) : recoveryKept s u :=
  ⟨g.1.trans h.1, fun v lba hin => g.2 v lba (h.2 v lba hin)⟩

/-- A step that leaves the view leaves recovery kept. -/
theorem recoveryKept.trans_view {t u : State} (h : recoveryKept s t) (g : recoveryView u = recoveryView t) : recoveryKept s u :=
  h.trans (.of_view g)

theorem recoveryKept.forAll {α : Type} (l : List α) (f : α → State → State) (h : ∀ a t, recoveryKept t (f a t)) :
    recoveryKept s (s.forAll l f) := by
  induction l generalizing s with
  | nil => exact .of_view rfl
  | cons a l ih => exact (h a s).trans ih

/-- The state with another lost-block ledger. -/
def State.withLost (l : List LostEntry) (s : State) : State := { s with lost := l }

/-- An entry of the ledger that grows at its end lists what it listed, and the block it grew by. -/
theorem lostBlock_grown (x : LostEntry) (n : Nat) :
    let t := s.withLost (s.lost.map fun y => if y = x then { y with count := y.count + n } else y)
    (∀ v lba, s.lostBlock v lba = true → t.lostBlock v lba = true) ∧
      (x ∈ s.lost → 0 < n → t.lostBlock x.vol (x.first + x.count) = true) := by
  simp only [State.lostBlock, State.withLost, List.any_eq_true, Bool.and_eq_true, decide_eq_true_eq, List.mem_map]
  refine ⟨fun v lba hin => ?_, fun hx hn => ⟨_, ⟨x, hx, if_pos rfl⟩, ⟨rfl, Nat.le_add_right ..⟩, by dsimp only; omega⟩⟩
  obtain ⟨y, hy, ⟨hvol, hfirst⟩, hlast⟩ := hin
  refine ⟨_, ⟨y, hy, rfl⟩, ?_⟩
  split
  · exact ⟨⟨hvol, hfirst⟩, by dsimp only; omega⟩
  · exact ⟨⟨hvol, hfirst⟩, hlast⟩

/-- A ledger with a new entry lists what it listed, and the entry's first block. -/
theorem lostBlock_appended (x : LostEntry) :
    (∀ v lba, s.lostBlock v lba = true → (s.withLost (s.lost ++ [x])).lostBlock v lba = true) ∧
      (0 < x.count → (s.withLost (s.lost ++ [x])).lostBlock x.vol x.first = true) := by
  simp only [State.lostBlock, State.withLost, List.any_append, Bool.or_eq_true]
  exact ⟨fun v lba hin => .inl hin, fun hn => .inr (by simp [hn])⟩

/-- Blocks entered in the ledger keep those it lists, and a ledger with room lists their first (R279). -/
theorem loseBlocks_shows (v lba n cause row col : Nat) :
    recoveryKept s (s.loseBlocks v lba n cause row col) ∧
      (s.lost.length < 2097152 → 0 < n → (s.loseBlocks v lba n cause row col).lostBlock v lba = true) := by
  unfold State.loseBlocks
  extract_lets e s1 s2
  have hs1 : recoveryView s1 = recoveryView s := by simp only [s1, view_ite recoveryView, recovery_setExt, ite_self]
  have hlost : s1.lost = s.lost := congrArg Prod.snd hs1
  have hevent (u : State) : recoveryView (u.event Ev.BLOCKS_LOST (origin 10 v) cause 0 n lba) = recoveryView u := rfl
  have hs2 : recoveryKept s1 s2 ∧ (s.lost.length < 2097152 → 0 < n → s2.lostBlock v lba = true) := by
    simp only [s2]
    clear_value s1
    split
    next x hx =>
      obtain ⟨hlisted, hfirst⟩ := lostBlock_grown (s := s1) x n
      have hends := List.find?_some hx
      simp only [Bool.and_eq_true, decide_eq_true_eq] at hends
      obtain ⟨⟨hvol, -⟩, hlba⟩ := hends
      refine ⟨⟨rfl, hlisted⟩, fun _ hn => ?_⟩
      rw [← hvol, ← hlba]
      exact hfirst (List.mem_of_find?_eq_some hx) hn
    next hx =>
      split
      · obtain ⟨hlisted, hfirst⟩ := lostBlock_appended (s := s1) ⟨v, cause, lba, n, row, col, s.opSec⟩
        exact ⟨⟨rfl, hlisted⟩, fun _ => hfirst⟩
      next hfull => exact ⟨.of_view (by simp), fun hroom => absurd (hlost ▸ hroom) hfull⟩
  clear_value s2
  exact ⟨((recoveryKept.of_view hs1).trans hs2.1).trans_view (hevent s2), hs2.2⟩

/-- A read that ends unrecovered is counted in an outcome of its own. -/
theorem recovery_count_unrecovered : recoveryView (s.count (R.REC_OUTCOME_COUNT 9) 1) = recoveryView s :=
  recovery_count (by decide) (by decide) 1

/-- READ_UNRECOVERED keeps recovery, and lists its block while the ledger has room (R198). -/
theorem unrecovered_shows (v lba step : Nat) (pl : Place) :
    recoveryKept s (s.unrecovered v lba step pl) ∧
      (s.lost.length < 2097152 → (s.unrecovered v lba step pl).lostBlock v lba = true) := by
  obtain ⟨hkept, hlists⟩ := loseBlocks_shows (s := (s.count (R.REC_OUTCOME_COUNT 9) 1).event Ev.READ_UNRECOVERED
    (origin 3 (match s.position pl with | some x => x.1 | none => 0)) v step (lba % 2 ^ 32) (lba / 2 ^ 32)) v lba 1 1 pl.row pl.col
  exact ⟨(recoveryKept.of_view recovery_count_unrecovered).trans hkept, fun hroom => hlists hroom Nat.one_pos⟩

/-- A command that joins a block in recovery waits there, and no more. -/
theorem joinWait_kept (c : Cmd) (pl : Place) : recoveryKept s (s.joinWait c pl) := by
  refine .of_view ?_
  simp only [State.joinWait]
  split
  next r hr =>
    split
    · rfl
    · have hbg (k : Nat) (l : List (CmdRef × Nat)) :
          (tget k (tset (placeKey pl) { r with waiting := l } s.recs)).map Recovery.bg = (tget k s.recs).map Recovery.bg := by
        by_cases hk : k = placeKey pl
        · simp [hk, hr]
        · rw [tget_tset_ne hk]
      simp only [recoveryView, outcomeView, hbg]
      rfl
  · rfl

/-- Where a READ or VERIFY stops at a block that fails, before anything is sent: its extents are warmed, a block past recovery is
reported, and so is a seal the host island finds bad (R198, R229, R263). -/
def State.readStops (bad : Option Nat) (c : Cmd) (i : Nat) (gone : Option Place) (s : State) : State :=
  let s1 := s.forAll (extentsOf c.lba c.blocks) fun e t => t.warm c.vol e
  let s2 := match gone with | some pl => s1.unrecovered c.vol (c.lba + i) 0 pl | none => s1
  if bad = some i then s2.hostSeal c.vol (c.lba + i) else s2

theorem recovery_warmAll (c : Cmd) : recoveryView (s.forAll (extentsOf c.lba c.blocks) fun e t => t.warm c.vol e) = recoveryView s :=
  recovery_forAll _ _ fun _ _ => recovery_warm ..

theorem readStops_kept (bad : Option Nat) (c : Cmd) (i : Nat) (gone : Option Place) : recoveryKept s (s.readStops bad c i gone) := by
  unfold State.readStops
  extract_lets s1 s2
  have hs1 : recoveryView s1 = recoveryView s := recovery_warmAll c
  have hs2 : recoveryKept s1 s2 := by
    cases gone with
    | some pl => exact (unrecovered_shows ..).1
    | none => exact .of_view rfl
  refine ((recoveryKept.of_view hs1).trans hs2).trans_view ?_
  simp [view_ite recoveryView]

/-- A READ keeps recovery, however its blocks come out (R308, R311). -/
theorem readCmd_kept (r : CmdRef) (bad : Option Nat) : recoveryKept s (readCmd r bad s) := by
  unfold readCmd
  split
  · exact .of_view rfl
  next c _ =>
  split
  · exact .of_view rfl
  split
  · exact .of_view (recovery_complete ..)
  split
  · exact joinWait_kept ..
  · exact .of_view (by simp)
  next i _ gone _ => exact (readStops_kept bad c i gone).trans_view ((recovery_complete ..).trans (recovery_sendData ..))

/-- A VERIFY keeps recovery, however its blocks come out (R308). -/
theorem verifyCmd_kept (r : CmdRef) (bad : Option Nat) : recoveryKept s (verifyCmd r bad s) := by
  unfold verifyCmd
  split
  · exact .of_view rfl
  next c _ =>
  split
  · exact .of_view rfl
  split
  · exact .of_view (recovery_complete ..)
  split
  · exact joinWait_kept ..
  · exact .of_view ((recovery_complete ..).trans (recovery_warmAll c))
  next i _ gone _ => exact (readStops_kept bad c i gone).trans_view (recovery_complete ..)

/-- The reads that waited for a block are served, and keep recovery (R197, R202). -/
theorem serveWaiting_kept (l : List (CmdRef × Nat)) : recoveryKept s (s.serveWaiting l) :=
  recoveryKept.forAll l _ fun w _ => (readCmd_kept w.1 none).trans (verifyCmd_kept w.1 none)

/-! ### What is read off a state that kept recovery -/

theorem recoveryKept.frame {t : State} (h : recoveryKept s t) : t.media = s.media ∧ t.vols = s.vols := by
  obtain ⟨hvols, hmedia, -⟩ := outcomeView_eq h.1
  exact ⟨hmedia, hvols⟩

theorem recoveryKept.get {t : State} (h : recoveryKept s t) {k : Nat} (hk : k ≤ 8) :
    t.get (R.REC_OUTCOME_COUNT k) = s.get (R.REC_OUTCOME_COUNT k) := by
  obtain ⟨-, -, -, hcounts⟩ := outcomeView_eq h.1
  exact hcounts k hk

/-- The same blocks are in recovery, and the same of them in the background. -/
theorem recoveryKept.bg {t : State} (h : recoveryKept s t) (k : Nat) :
    (tget k t.recs).map Recovery.bg = (tget k s.recs).map Recovery.bg := by
  obtain ⟨-, -, hrecs, -⟩ := outcomeView_eq h.1
  exact hrecs k

/-- A block in no recovery is in none afterwards. -/
theorem recoveryKept.none {t : State} (h : recoveryKept s t) {k : Nat} (hk : tget k s.recs = none) : tget k t.recs = none := by
  have hbg := h.bg k
  rwa [hk, Option.map_none, Option.map_eq_none_iff] at hbg

/-- The recovery of the block at a key, if it has one, runs in the background. -/
def onlyBackground (k : Nat) (s : State) : Prop := ∀ z, tget k s.recs = some z → z.bg = true

theorem recoveryKept.onlyBackground {t : State} (h : recoveryKept s t) {k : Nat} (hk : onlyBackground k s) : onlyBackground k t := by
  intro z hz
  have hbg := h.bg k
  rw [hz, Option.map_some] at hbg
  obtain ⟨y, hy, hyz⟩ := Option.map_eq_some_iff.mp hbg.symm
  exact hyz ▸ hk y hy

/-- An outcome counted between two passages that keep recovery is counted once over both. -/
theorem recoveryKept.counts {u t : State} {k : Nat} (hk : k ≤ 8) (hbefore : recoveryKept s u)
    (hafter : recoveryKept (u.count (R.REC_OUTCOME_COUNT k) 1) t) :
    t.get (R.REC_OUTCOME_COUNT k) = counted (R.REC_OUTCOME_COUNT k) s ∧ t.media = s.media ∧ t.vols = s.vols := by
  refine ⟨?_, hafter.frame.1.trans hbefore.frame.1, hafter.frame.2.trans hbefore.frame.2⟩
  rw [hafter.get hk, get_count_same, counted, hbefore.get hk, counted]

/-! ## Ladders on retired hardware (R201, R203) -/

theorem endLadders_none {f : Recovery → Bool} (h : ∀ e ∈ s.recs, f e.2 = false) : s.endLadders f = s := by
  have hback : s.abandonBg f = s := by
    rw [State.abandonBg, List.filter_eq_nil_iff.mpr fun e he => by simp [h e he], State.forAll_nil]
  rw [State.endLadders, hback]
  exact congrArg (s.forAll · _) (List.filter_eq_nil_iff.mpr fun e he => by simp [h e he])

/-- With no ladder on retired hardware, nothing is swept before a recovery event. -/
theorem sweepRetired_none (h : ∀ e ∈ s.recs, s.recEnds e.2 = false) : s.sweepRetired = s := endLadders_none h

/-! ## Entry and decision (R189, R190, R196, R198) -/

/-- A post is taken from the pool. -/
def State.unposted (id : Nat) (s : State) : State := s.modPool fun q => { q with posts := q.posts.filter (·.id != id) }

@[simp] theorem unposted_get (id : Nat) (f : Fld) : (s.unposted id).get f = s.get f := rfl
@[simp] theorem unposted_deadlineOf (id : Nat) (c : Cmd) : (s.unposted id).deadlineOf c = s.deadlineOf c := rfl

/-- The first ladder read of a failure is at step 1 when that step is enabled. -/
theorem stepFrom_one {en : Nat} (h : en.testBit 0 = true) : stepFrom en 1 = 1 := by simp [stepFrom, List.range', h]

/-- A failure on budget enters at step 1, in the foreground, with nothing read around. -/
theorem enter_budget {en v lba : Nat} {p : Post} {l : List (CmdRef × Nat)} (hst : p.status = .budget) (hen : en.testBit 0 = true) :
    (Recovery.enter en p v lba l).step = 1 ∧ (Recovery.enter en p v lba l).ra = .none := by
  simp [Recovery.enter, hst, Recovery.goto, stepFrom_one hen]

/-- A failed seal enters past the ladder. -/
theorem enter_sealBad {en v lba : Nat} {p : Post} {l : List (CmdRef × Nat)} (hst : p.status = .sealBad) :
    (Recovery.enter en p v lba l).step = 9 ∧ (Recovery.enter en p v lba l).ra = .none := by
  simp [Recovery.enter, hst]

/-- Whatever the cause, a recovery is of the block that failed and of the commands that wait for it. -/
theorem enter_shows (en : Nat) (p : Post) (v lba : Nat) (l : List (CmdRef × Nat)) :
    (Recovery.enter en p v lba l).place = p.req.place ∧ (Recovery.enter en p v lba l).vol = v ∧
      (Recovery.enter en p v lba l).lba = lba ∧ (Recovery.enter en p v lba l).waiting = l ∧
      (Recovery.enter en p v lba l).bg = false := by
  have hgoto (r : Recovery) (k : Nat) : (r.goto en k).place = r.place ∧ (r.goto en k).vol = r.vol ∧ (r.goto en k).lba = r.lba ∧
      (r.goto en k).waiting = r.waiting ∧ (r.goto en k).bg = r.bg := by
    simp only [Recovery.goto]; split <;> exact ⟨rfl, rfl, rfl, rfl, rfl⟩
  simp only [Recovery.enter]
  split
  · exact hgoto _ 1
  · exact hgoto _ 1
  · exact ⟨rfl, rfl, rfl, rfl, rfl⟩
  · exact hgoto _ 2

/-- With RA held off a foreground recovery that has a ladder read left climbs. -/
theorem decideNext_climbs {r : Recovery} {pass : Nat} {ready : List Ready} (hbg : r.bg = false) (hra : r.ra = .none) (hstep : r.step ≠ 9)
    (hmax : s.get R.REC_CTRL_RA_MAX ≤ s.raInFlight) : s.decideNext r pass ready = s.setRec { r with passed := false } := by
  simp [State.decideNext, hbg, hra, hstep, hmax]

/-- Past the ladder a block without redundancy is unrecovered. -/
theorem decideNext_unrecovered {r : Recovery} {pass : Nat} {ready : List Ready} (hbg : r.bg = false) (hra : r.ra = .none)
    (hstep : r.step = 9) (hred : s.redundant r.place.row r.place.col = false) :
    s.decideNext r pass ready = s.endUnrecovered { r with passed := false } := by
  simp [State.decideNext, hbg, hra, hstep, hred]

/-- A recovery that ends unrecovered is gone, and its block is listed lost while the ledger has room (R198, R279). -/
theorem endUnrecovered_shows {r : Recovery} (hvol : r.vol ≠ noVolume) :
    recoveryKept (s.delRec r) (s.endUnrecovered r) ∧
      (s.lost.length < 2097152 → (s.endUnrecovered r).lostBlock r.vol r.lba = true) := by
  obtain ⟨hkept, hlists⟩ := unrecovered_shows (s := s.delRec r) r.vol r.lba (min r.step 8) r.place
  have hrest := (recoveryKept.of_view (recovery_effort (s := (s.delRec r).unrecovered r.vol r.lba (min r.step 8) r.place) r.head r.rz
    fun h => { h with unrecovered := h.unrecovered + 1 })).trans (serveWaiting_kept r.waiting)
  simp only [State.endUnrecovered, if_neg hvol]
  exact ⟨hkept.trans hrest, fun hroom => hrest.2 _ _ (hlists hroom)⟩

/-! ## What a converged read and a good reconstruction leave (R197, R200) -/

/-- A ladder read of a foreground recovery that converges ends it, its step counted. -/
theorem ladderGood_shows {r : Recovery} (b : Sealed) (hbg : r.bg = false) (hstep : r.step ≤ 8) :
    tget (placeKey r.place) (s.ladderGood r b).recs = none ∧
      (s.ladderGood r b).get (R.REC_OUTCOME_COUNT r.step) = counted (R.REC_OUTCOME_COUNT r.step) s ∧
      (s.ladderGood r b).media = s.media ∧ (s.ladderGood r b).vols = s.vols := by
  have hdel : tget (placeKey r.place) (s.delRec r).recs = none := tget_tdel_same ..
  have hscrub : recoveryKept (s.delRec r) ((s.delRec r).scrubRepaired r) := .of_view (recovery_scrubRepaired r)
  have hgood : recoveryKept (((s.delRec r).scrubRepaired r).count (R.REC_OUTCOME_COUNT r.step) 1) (s.ladderGood r b) := by
    simp only [State.ladderGood, hbg]
    exact (recoveryKept.of_view (by simp [view_ite recoveryView])).trans (serveWaiting_kept r.waiting)
  have hcount := hscrub.none hdel
  exact ⟨hgood.none hcount, (hscrub.counts hstep hgood :)⟩

/-- A good reconstruction of a block whose ladder was not stopped counts, and leaves at most a background ladder. -/
theorem reconGood_shows {r : Recovery} (hladder : r.noLadder = false) :
    (s.reconGood r).get (R.REC_OUTCOME_COUNT 0) = counted (R.REC_OUTCOME_COUNT 0) s ∧
      onlyBackground (placeKey r.place) (s.reconGood r) ∧ (s.reconGood r).media = s.media ∧ (s.reconGood r).vols = s.vols := by
  unfold State.reconGood
  extract_lets x s1 s2 s3
  have hs2 : recoveryKept (s.count (R.REC_OUTCOME_COUNT 0) 1) s2 := .of_view (by simp [s2, s1, hladder])
  obtain ⟨hcounted, hmedia, hvols⟩ := recoveryKept.counts (Nat.zero_le 8) (.of_view rfl) hs2
  have hdel : onlyBackground (placeKey r.place) (s2.delRec r) := fun z hz => by
    rw [State.delRec, tget_tdel_same] at hz; cases hz
  have hs3 : s3.get (R.REC_OUTCOME_COUNT 0) = s2.get (R.REC_OUTCOME_COUNT 0) ∧ onlyBackground (placeKey r.place) s3 ∧
      s3.media = s2.media ∧ s3.vols = s2.vols := by
    simp only [s3]
    clear_value s2
    split
    · exact ⟨rfl, hdel, rfl, rfl⟩
    split
    · exact ⟨get_count_ne (by decide) 1, hdel, rfl, rfl⟩
    · refine ⟨rfl, fun z hz => ?_, rfl, rfl⟩
      rw [State.setRec, tget_tset_same] at hz
      cases hz; rfl
  clear_value s3 s2
  obtain ⟨hget3, hback3, hmedia3, hvols3⟩ := hs3
  have hserved := serveWaiting_kept (s := s3) r.waiting
  exact ⟨(hserved.get (Nat.zero_le 8)).trans (hget3.trans hcounted), hserved.onlyBackground hback3,
    hserved.frame.1.trans (hmedia3.trans hmedia), hserved.frame.2.trans (hvols3.trans hvols)⟩

section Commands
variable (hrun : s.run = .up) (hcut : s.isCut = false) (hgone : ∀ e ∈ s.recs, s.recEnds e.2 = false)
include hrun hcut hgone

/-- A recovery event on a running module with no cut and no ladder on retired hardware takes its effect at once. -/
theorem actHost_recovery (f : State → State) : (actHost s fun t => f t.sweepRetired) = .next ((f s).after s) := by
  rw [actHost_up hrun hcut, sweepRetired_none hgone]

/-! ## READ_FAILURE -/

section Failure
variable {id lba : Nat} (pass : Nat) (ready : List Ready) {r : CmdRef} {c : Cmd} {p : Post}
  (hpost : s.pool.posts.find? (fun q => q.id = id) = some p) (hcmd : s.cmdOf r = some c) (hlow : c.lba ≤ lba)
  (hhigh : lba < c.lba + c.blocks) (hfind : s.find c.vol lba = some p.req.place)
  (hnone : tget (placeKey p.req.place) s.recs = none) (hvol : p.req.vol.isSome = true)
include hpost hcmd hlow hhigh hfind hnone hvol

omit hrun hcut hgone in
/-- A failed read of a command enters recovery by its cause and the decision of R196 is made. -/
theorem readFailure_enters (hfailed : p.status.failed = true) : readFailure id r lba pass ready s =
    (s.unposted id).decideNext (Recovery.enter (s.get R.REC_CTRL_STEP_EN) p c.vol lba [(r, s.deadlineOf c)]) pass ready := by
  have hrange : ¬(c.lba + c.blocks ≤ lba) ∧ ¬(lba < c.lba) := ⟨by omega, by omega⟩
  have hno : p.req.vol.isNone = false := by rw [← Option.not_isSome, hvol]; rfl
  have hagain : (tget (placeKey p.req.place) (s.unposted id).recs).isSome = false := congrArg Option.isSome hnone
  simp only [readFailure, hpost, hcmd, hfailed, hno, hrange, hfind]
  rw [← State.unposted, hagain]
  simp

/-- READ_FAILURE on budget. -/
theorem exec_readFailure_budget (hst : p.status = .budget) (hen : (s.get R.REC_CTRL_STEP_EN).testBit 0 = true)
    (hmax : s.get R.REC_CTRL_RA_MAX ≤ s.raInFlight) :
    ∃ t : State, exec (.readFailure id r lba pass ready) s = .next t ∧ (
      (∃ y, tget (placeKey p.req.place) t.recs = some y ∧ y.step = 1 ∧ y.bg = false ∧
        y.waiting = [(r, s.deadlineOf c)] ∧ y.vol = c.vol ∧ y.lba = lba) ∧
      (∀ q ∈ t.pool.posts, q.id ≠ id) ∧ regsKept [] s t ∧ dataKept s t ∧ hostKept s t) := by
  have henters := readFailure_enters pass ready hpost hcmd hlow hhigh hfind hnone hvol (by rw [hst]; rfl)
  obtain ⟨hstep, hra⟩ := enter_budget (v := c.vol) (lba := lba) (l := [(r, s.deadlineOf c)]) hst hen
  obtain ⟨hplace, hv, hl, hwaiting, hbg⟩ := enter_shows (s.get R.REC_CTRL_STEP_EN) p c.vol lba [(r, s.deadlineOf c)]
  generalize Recovery.enter (s.get R.REC_CTRL_STEP_EN) p c.vol lba [(r, s.deadlineOf c)] = y at *
  rw [decideNext_climbs (s := s.unposted id) hbg hra (by omega) hmax] at henters
  refine ⟨_, actHost_recovery hrun hcut hgone (readFailure id r lba pass ready), ?_⟩
  rw [henters]
  refine ⟨⟨{ y with passed := false }, ?_, hstep, hbg, hwaiting, hv, hl⟩, fun q hq => ?_, fun f _ => ?_, kept_of_host ?_⟩
  · rw [State.after_recs, State.setRec, hplace]
    exact tget_tset_same ..
  · exact bne_iff_ne.mp (List.mem_filter.mp hq).2
  · rw [State.get_after]
    exact State.get_congr rfl f
  · rw [State.host_after]
    rfl

/-- READ_FAILURE of a seal, where nothing can be read around (R193, R198). -/
theorem exec_readFailure_sealBad (hvolume : c.vol ≠ noVolume) (hst : p.status = .sealBad)
    (hred : s.redundant p.req.place.row p.req.place.col = false) (hroom : s.lost.length < 2097152) :
    ∃ t : State, exec (.readFailure id r lba pass ready) s = .next t ∧ (
      t.lostBlock c.vol lba = true ∧ tget (placeKey p.req.place) t.recs = none ∧ t.media = s.media ∧ t.vols = s.vols) := by
  have henters := readFailure_enters pass ready hpost hcmd hlow hhigh hfind hnone hvol (by rw [hst]; rfl)
  obtain ⟨hstep, hra⟩ := enter_sealBad (en := s.get R.REC_CTRL_STEP_EN) (v := c.vol) (lba := lba) (l := [(r, s.deadlineOf c)]) hst
  obtain ⟨hplace, hv, hl, -, hbg⟩ := enter_shows (s.get R.REC_CTRL_STEP_EN) p c.vol lba [(r, s.deadlineOf c)]
  generalize Recovery.enter (s.get R.REC_CTRL_STEP_EN) p c.vol lba [(r, s.deadlineOf c)] = y at *
  rw [decideNext_unrecovered (s := s.unposted id) hbg hra hstep (hplace ▸ hred)] at henters
  obtain ⟨hkept, hlists⟩ := endUnrecovered_shows (s := s.unposted id) (r := { y with passed := false }) (hv ▸ hvolume)
  refine ⟨_, actHost_recovery hrun hcut hgone (readFailure id r lba pass ready), ?_⟩
  rw [henters]
  refine ⟨?_, hkept.none ?_, hkept.frame⟩
  · rw [← hv, ← hl]
    exact hlists hroom
  · rw [← hplace]
    exact tget_tdel_same ..

end Failure

/-! ## LADDER_READ_END (R190, R197) -/

/-- LADDER_READ_END of a foreground ladder read that converged. -/
theorem exec_ladderReadEnd_converges {id : Nat} (pass : Nat) (ready : List Ready) {p : Post} {y : Recovery} {b : Sealed}
    (hpost : s.pool.posts.find? (fun q => q.id = id) = some p) (hst : p.status = .converged) (hblock : p.block = some b)
    (hbudget : p.req.budget = some 40) (hhead : p.req.head.val = y.head) (hrec : tget (placeKey p.req.place) s.recs = some y)
    (hplace : y.place = p.req.place) (hbg : y.bg = false) (hladder : y.noLadder = false) (hhigh : y.step ≤ 8) :
    ∃ t : State, exec (.ladderReadEnd id pass ready) s = .next t ∧ (
      tget (placeKey p.req.place) t.recs = none ∧
      t.get (R.REC_OUTCOME_COUNT y.step) = counted (R.REC_OUTCOME_COUNT y.step) s ∧ t.media = s.media ∧ t.vols = s.vols) := by
  have hstep : y.step ≠ 9 := by omega
  have hends : ladderReadEnd id pass ready s = (s.unposted id).ladderGood (if y.step = 1 then y else { y with revs := y.revs + 1 }) b := by
    simp [ladderReadEnd, hpost, hrec, hladder, hstep, hbudget, hhead, hst, hblock, State.unposted]
  obtain ⟨n, hn⟩ : ∃ n, (if y.step = 1 then y else { y with revs := y.revs + 1 }) = { y with revs := n } := by
    split <;> exact ⟨_, rfl⟩
  rw [hn] at hends
  refine ⟨_, actHost_recovery hrun hcut hgone (ladderReadEnd id pass ready), ?_⟩
  rw [hends, ← hplace]
  exact ladderGood_shows (s := s.unposted id) (r := { y with revs := n }) b hbg hhigh

/-! ## RECONSTRUCTION_RESULT (R197, R200) -/

section Result
variable {pl : Place} {y : Recovery} (hrec : tget (placeKey pl) s.recs = some y) (hplace : y.place = pl) (hra : y.ra = .running)
  (hladder : y.noLadder = false) (hsync : pl.row ∉ s.stripe.unsynced)
include hrec hplace hra hladder hsync

/-- RECONSTRUCTION_RESULT, good, of a block whose seal passes. -/
theorem exec_reconstructionResult_good (hpasses : s.placePasses pl = true) :
    ∃ t : State, exec (.reconstructionResult pl true) s = .next t ∧ (
      t.get (R.REC_OUTCOME_COUNT 0) = counted (R.REC_OUTCOME_COUNT 0) s ∧
      (∀ z, tget (placeKey pl) t.recs = some z → z.bg = true) ∧ t.media = s.media ∧ t.vols = s.vols) := by
  have hgood : reconstructionResult pl true s = s.reconGood y := by simp [reconstructionResult, hrec, hra, hsync, hpasses]
  refine ⟨_, actHost_recovery hrun hcut hgone (reconstructionResult pl true), ?_⟩
  rw [hgood, ← hplace]
  exact reconGood_shows hladder

/-- RECONSTRUCTION_RESULT, failed, of a block whose ladder still climbs. -/
theorem exec_reconstructionResult_failed {ok : Bool} (hstep : y.step ≠ 9) (hfails : (ok && s.placePasses pl) = false) :
    ∃ t : State, exec (.reconstructionResult pl ok) s = .next t ∧ (
      tget (placeKey pl) t.recs = some { y with ra := .failed } ∧
      t.get R.RED_COUNT_RECON_FAILED = counted R.RED_COUNT_RECON_FAILED s ∧
      t = { s with flds := t.flds, recs := t.recs, gates := t.gates }) := by
  have hfailed : reconstructionResult pl ok s = (s.count R.RED_COUNT_RECON_FAILED 1).setRec { y with ra := .failed } := by
    simp [reconstructionResult, hrec, hra, hsync, hfails, hladder, hstep]
  refine ⟨_, actHost_recovery hrun hcut hgone (reconstructionResult pl ok), ?_⟩
  rw [hfailed]
  refine ⟨?_, get_count_same .., rfl⟩
  rw [State.after_recs, State.setRec, hplace]
  exact tget_tset_same ..

end Result

end Commands

/-! ## DEPARTED_HEAD_READ_AROUND (R199; log entry 47) -/

/-- The gates' settling leaves what wrote registers, heads and the recorder to those. -/
theorem after_of_flds_heads_rcd {u : State} (h : ∃ l x q, u = { s with flds := l, heads := x, rcd := q }) :
    u.after s = { s with flds := (u.after s).flds, heads := (u.after s).heads, rcd := (u.after s).rcd, gates := (u.after s).gates } := by
  obtain ⟨l, x, q, rfl⟩ := h
  rfl

/-- DEPARTED_HEAD_READ_AROUND of a redundant row whose time has come. -/
theorem exec_departedHeadReadAround (hrun : s.run = .up) {g : GHead} {r : CmdRef} {c : Cmd} {i : Nat} {pl : Place}
    (hcmd : s.cmdOf r = some c) (hop : c.op = 1) (hi : i < c.blocks) (hfind : s.find c.vol (c.lba + i) = some pl)
    (hpos : ∃ x, s.position pl = some x ∧ x.1 = g.val)
    (hout : s.get (R.HEAD_PES_IN_SET g) = 0) (hred : s.redundant pl.row pl.col = true) (hdue : s.departedDue g c = true) :
    ∃ t : State, exec (.departedHeadReadAround g r i) s = .next t ∧ (
      t.get (R.REC_OUTCOME_COUNT 0) = counted (R.REC_OUTCOME_COUNT 0) s ∧ regsKept [R.REC_OUTCOME_COUNT 0] s t ∧
      (t.head g).unread = (s.head g).unread.filter (· != pl) ∧
      t = { s with flds := t.flds, heads := t.heads, rcd := t.rcd, gates := t.gates }) := by
  obtain ⟨x, hx, hxg⟩ := hpos
  have haround : departedHeadReadAround g r i s =
      ((s.setHead g { s.head g with unread := (s.head g).unread.filter (· != pl) }).count (R.REC_OUTCOME_COUNT 0) 1).event
        Ev.READ_AROUND (origin 3 g) c.vol 0 ((c.lba + i) % 2 ^ 32) ((c.lba + i) / 2 ^ 32) := by
    simp [departedHeadReadAround, hcmd, hfind, hop, hi, hx, hxg, hout, hred, hdue]
  refine ⟨_, act_up hrun (departedHeadReadAround g r i), ?_⟩
  rw [haround]
  refine ⟨?_, fun f hf => ?_, ?_, after_of_flds_heads_rcd ⟨_, _, _, rfl⟩⟩
  · rw [State.get_after, State.get_event, get_count_same, counted, State.get_setHead, counted]
  · rw [State.get_after, State.get_event, get_count_ne (hf _ (by simp)), State.get_setHead]
  · exact congrArg HeadSt.unread (State.head_setHead_same ..)

/-- Settles O37: each clause is a command's lemma; what serving the waiting reads leaves is `recoveryKept`. -/
theorem failedReadsRecover : Obligations.FailedReadsRecover := by
  intro s hrun hcut hgone
  refine ⟨fun id lba pass ready r c p hpost hcmd hlow hhigh hfind hnone hvol hvolume =>
      ⟨exec_readFailure_budget hrun hcut hgone pass ready hpost hcmd hlow hhigh hfind hnone hvol,
        exec_readFailure_sealBad hrun hcut hgone pass ready hpost hcmd hlow hhigh hfind hnone hvol hvolume⟩,
    fun id pass ready p y b hpost hst hblock hbudget hhead hrec hplace hbg hladder _ hhigh =>
      exec_ladderReadEnd_converges hrun hcut hgone pass ready hpost hst hblock hbudget hhead hrec hplace hbg hladder hhigh,
    fun pl y hrec hplace hra hladder hsync => exec_reconstructionResult_good hrun hcut hgone hrec hplace hra hladder hsync,
    fun pl ok y hrec hplace hra hladder hstep hsync =>
      exec_reconstructionResult_failed hrun hcut hgone hrec hplace hra hladder hsync hstep,
    fun g r c i pl hcmd hop hi hfind hpos hout hred => exec_departedHeadReadAround hrun hcmd hop hi hfind hpos hout hred⟩

end Sys2Proof.Machine
